-- ==== Sys2Proof/Word.lean ====
section
/-! DEFINITION. The word and byte types of the block: registers are 32 bits wide and little-endian (R7). -/

namespace Sys2Proof

/-- A register word (R7). -/
abbrev Word := BitVec 32

/-- One byte of DDR5 or flash memory. -/
abbrev Byte := BitVec 8

end Sys2Proof
end

