-- ==== Sys2Proof/Config.lean ====
section
/-!
DEFINITION. The values that the spec leaves open and that the model leaves free (opaque constants without a body): bytes of
random generators, the functions of the crypto engine, wrapped keys, blank frames. Nothing can be proved of their values.
-/

namespace Sys2Proof.Config

/-- The n-th free byte: nonces, challenges, contents that the spec leaves open (log entry 2). -/
opaque freeByte : Nat → Byte

/-- The n-th free word: a value that the spec leaves undefined or does not state (log entry 2). -/
opaque freeWord : Nat → Word

/-- Segments, by physical bus and course, that still conduct after a per-bus open whose row does not say (R116, log entry 2). -/
opaque freeStuck : Nat → List (Fin 34 × Nat)

/-- A digest or signature over bytes: the crypto engine's answer, as bytes (R434, R451). -/
opaque signature : List Byte → List Byte

/-- SHA-512 (R434). -/
opaque sha512 : List Byte → List Byte

/-- The KDF of R434 and R439: a root key, a label and a context give a 256-bit key. -/
opaque kdf : (root label context : List Byte) → List Byte

/-- AES-256-GCM encryption (R434): a key, an IV, additional authenticated data and a plain text give the ciphertext with its tag. -/
opaque gcmSeal : (key iv aad plain : List Byte) → List Byte

/-- Byte `i` of frame `a` in the blank state, of which the spec states what it does and not what it holds (R278, log entry 86). -/
opaque blankFrame : (a i : Nat) → Byte

/-- The bytes of a record of the user calibration store that holds the given values, of which the spec gives no layout (R326, log entry 88). -/
opaque calRecord : List Int → List Byte

/-- Level `i` that crosses from the fabric clock with the limits of R366 broken, at the n-th use (log entry 89). -/
opaque crossing : (n i : Nat) → Bool

/-- An event word that crosses to the fabric clock with the limits of R366 broken (log entry 89). -/
opaque crossedWord : (n i : Nat) → Nat

/-- The plain key inside a wrapped key block (R435, R450). -/
opaque unwrap : List Byte → List Byte

end Sys2Proof.Config
end

