-- ==== Sys2Proof/Machine/Bits.lean ====
section
/-!
DEFINITION. Bit fields, two's complement, rounding and the checksum the block uses: fields of register words (R6, R7),
rounding to nearest (R125), CRC-32C (R352, R429).
-/

namespace Sys2Proof.Machine

/-- Bits [lo + n - 1 : lo] of a word as a number. -/
def bitsOf (v : Word) (lo n : Nat) : Nat := (v.toNat >>> lo) % 2 ^ n

/-- The word with bits [lo + n - 1 : lo] replaced. -/
def setBits (v : Word) (lo n x : Nat) : Word :=
  BitVec.ofNat 32 (v.toNat % 2 ^ lo + (x % 2 ^ n) * 2 ^ lo + (v.toNat / 2 ^ (lo + n)) * 2 ^ (lo + n))

/-- One bit of a word. -/
def bitOf (v : Word) (i : Nat) : Bool := bitsOf v i 1 = 1

/-- Two's complement reading of an `n`-bit number. -/
def toSigned (n x : Nat) : Int := if x % 2 ^ n < 2 ^ (n - 1) then (x % 2 ^ n : Nat) else (x % 2 ^ n : Nat) - (2 ^ n : Nat)

/-- Two's complement writing in `n` bits. -/
def ofSigned (n : Nat) (i : Int) : Nat := (i % (2 ^ n : Nat)).toNat

/-- The nearest value of a range of integers. -/
def clampInt (lo hi x : Int) : Int := if x < lo then lo else if hi < x then hi else x

/-- The nearest value of a range of naturals. -/
def clampNat (lo hi x : Nat) : Nat := if x < lo then lo else if hi < x then hi else x

/-- Ceiling of a quotient. -/
def ceilDiv (a b : Nat) : Nat := (a + b - 1) / b

/-- The quotient rounded to nearest, ties toward plus infinity (R125). -/
def roundDiv (a : Int) (b : Nat) : Int := (2 * a + b) / (2 * b)

/-- A right shift with the rounding of R125. -/
def shiftRound (v : Int) (s : Nat) : Int := if s = 0 then v else (v + 2 ^ (s - 1)) / 2 ^ s

/-- Saturation to a signed 64-bit word (R125). -/
def sat64 (v : Int) : Int := clampInt (-(2 ^ 63)) (2 ^ 63 - 1) v

/-- The count of ones among the first `n` bits of a number. -/
def popCount : Nat → Nat → Nat
  | 0, _ => 0
  | n + 1, x => x % 2 + popCount n (x / 2)

/-- The positions of ones among the first `n` bits of a number, rising. -/
def onesOf (n x : Nat) : List Nat := (List.range n).filter fun i => (x / 2 ^ i) % 2 = 1

/-- The `n` little-endian bytes of a number. -/
def leBytes : Nat → Nat → List Byte
  | 0, _ => []
  | n + 1, x => BitVec.ofNat 8 (x % 256) :: leBytes n (x / 256)

/-- The number that little-endian bytes spell. -/
def leNat : List Byte → Nat
  | [] => 0
  | b :: r => b.toNat + 256 * leNat r

/-- One bit step of the reflected CRC-32C. -/
def crcBit (c : Nat) : Nat := if c % 2 = 1 then (c / 2) ^^^ 0x82F63B78 else c / 2

/-- Eight bit steps. -/
def crcByte (c : Nat) (b : Byte) : Nat :=
  crcBit (crcBit (crcBit (crcBit (crcBit (crcBit (crcBit (crcBit (c ^^^ b.toNat))))))))

/-- CRC-32C of bytes. -/
def crc32c (bs : List Byte) : Nat := (bs.foldl crcByte 0xFFFFFFFF) ^^^ 0xFFFFFFFF

end Sys2Proof.Machine
end

