-- ==== Sys2Proof/Machine/Crypto.lean ====
section
/-!
DEFINITION. Encrypted streams (R434 to R441): their parameters, segments, initialisation vectors and keys. The crypto engine decrypts; a segment
stands when what it gives encrypts to the bytes that are stored, which is what a correct tag says (assumption 86).
-/

namespace Sys2Proof.Machine

/-- `n` zero bytes. -/
def zeros (n : Nat) : List Byte := List.replicate n 0

/-- Bytes [o, o + n). -/
def cut (bs : List Byte) (o n : Nat) : List Byte := (bs.drop o).take n

/-- A little-endian number at offset `o` of bytes. -/
def numAt (bs : List Byte) (o n : Nat) : Nat := leNat (cut bs o n)

/-- Bytes [o, o + n) are zero. -/
def zeroAt (bs : List Byte) (o n : Nat) : Bool := (cut bs o n).all fun b => b == 0

/-- SHA-512 of bytes: 64 bytes (R434). -/
def sha512 (bs : List Byte) : List Byte := (List.range 64).map fun i => (Config.sha512 bs).getD i 0

/-- Parameters of an encrypted stream (R438): MODE, NSEG, KEYSRC, SALT, BIV. -/
structure StreamP where
  mode : Nat
  nseg : Nat
  keysrc : Nat
  salt : List Byte
  biv : List Byte
deriving DecidableEq, Repr

/-- The parameters that 40 bytes spell (R438). -/
def streamP (bs : List Byte) : StreamP := ⟨numAt bs 0 4, numAt bs 4 4, numAt bs 8 4, cut bs 12 16, cut bs 28 12⟩

/-- Plain bytes of a full segment (R439). -/
def segFull : Nat := 4194304

/-- The parameters are valid for a stream of `plain` bytes (R438, R440). -/
def StreamP.ok (p : StreamP) (plain : Nat) : Bool :=
  decide (p.mode ≤ 1) && decide (p.nseg = ceilDiv plain segFull) && decide (p.keysrc ≤ 1) && (decide (plain ≤ 16777216) || decide (p.mode = 1))

/-- Plain bytes of segment `i` (R439). -/
def segPlain (plain i : Nat) : Nat := min segFull (plain - i * segFull)

/-- Bytes of segment `i` inside its encryption: in ROLL every segment but the last carries the next key (R439). -/
def StreamP.inside (p : StreamP) (plain i : Nat) : Nat := segPlain plain i + (if p.mode = 1 ∧ i + 1 < p.nseg then 32 else 0)

/-- Offset of segment `i` in the stored stream: with its tag each segment before it is full (R439). -/
def StreamP.ofs (p : StreamP) (i : Nat) : Nat := i * (segFull + 16 + (if p.mode = 1 then 32 else 0))

/-- Stored bytes of the stream (R416, R439). -/
def StreamP.total (p : StreamP) (plain : Nat) : Nat := ((List.range p.nseg).map fun i => p.inside plain i + 16).sum

/-- The IV of segment `i` (R439): the last four bytes of BIV count big-endian. -/
def StreamP.iv (p : StreamP) (i : Nat) : List Byte :=
  p.biv.take 8 ++ (leBytes 4 ((leNat (p.biv.drop 8).reverse + i) % 2 ^ 32)).reverse

/-- K0 (R439): the label is ASCII "MSIL", the context SALT. -/
def StreamP.firstKey (p : StreamP) (root : List Byte) : List Byte := Config.kdf root [0x4D, 0x53, 0x49, 0x4C] p.salt

/-- The stored form of an encrypted text: its ciphertext and the 16-byte tag (R439). -/
def gcmStored (key iv aad text : List Byte) : List Byte :=
  (List.range (text.length + 16)).map fun j => (Config.gcmSeal key iv aad text).getD j 0

/-- Decrypt the segments from `i` on in order under key `k` (R439, R441): the plain text up to the first segment whose tag does not check, and
whether every segment stands. `get` reads stored bytes, `text` is what the crypto engine gives, `aad` what follows the index in the
authenticated data. -/
def StreamP.openFrom (p : StreamP) (plain : Nat) (aad : List Byte) (get : Nat → Nat → List Byte) : List (List Byte) → Nat → List Byte → List Byte × Bool
  | [], i, _ => ([], decide (i = p.nseg))
  | text :: rest, i, k =>
    if i = p.nseg then ([], true)
    else
      let n := p.inside plain i
      if text.length = n ∧ gcmStored k (p.iv i) (leBytes 4 i ++ aad) text = get (p.ofs i) (n + 16) then
        let k := if p.mode = 1 then text.drop (segPlain plain i) else k
        let r := openFrom p plain aad get rest (i + 1) k
        (text.take (segPlain plain i) ++ r.1, r.2)
      else ([], false)

/-- Decrypt a whole stream; without its root key nothing stands (R437). -/
def StreamP.openAll (p : StreamP) (root : Option (List Byte)) (plain : Nat) (aad : List Byte) (get : Nat → Nat → List Byte) (segs : List (List Byte)) :
    List Byte × Bool :=
  match root with
  | none => ([], false)
  | some k => p.openFrom plain aad get segs 0 (p.firstKey k)

end Sys2Proof.Machine
end

