-- ==== Sys2Proof/Machine/ImgForm.lean ====
section
/-!
DEFINITION. The forms of what lies in flash (R411 to R424, R447): boot header, manifest and section table, region images, patch copies. Each form
is read from bytes, with the checks of its fields.
-/

namespace Sys2Proof.Machine

/-! The boot header (R414, R415). -/

/-- SLOTALEN or SLOTBLEN in its range. -/
def slotLenOk (n : Nat) : Bool := decide (n = 0) || (decide (20480 ≤ n) && decide (n ≤ 100663296))

/-- Every field of a boot header is in its range, and every byte that the table does not give is zero. -/
def headerOk (h : List Byte) : Bool :=
  decide (numAt h 0 4 = 0x4E414D31) && decide (numAt h 4 4 = 1) && decide (8 ≤ numAt h 0xA 1) && decide (numAt h 0xA 1 ≤ 30) &&
  decide (numAt h 0xB 1 ≤ 4) && slotLenOk (numAt h 0x40 4) && slotLenOk (numAt h 0x44 4) && decide (numAt h 0x48 4 ≤ 2) &&
  zeroAt h 0x14 12 && zeroAt h 0x4C 0x34 && zeroAt h 0x105 0xDFB && zeroAt h 0xF84 0x7C &&
  ((List.range 4).all fun k => zeroAt h (0x20 + 8 * k + 7) 1)

/-- KEYSLOT of a boot header. -/
def headerSlot (h : List Byte) : Nat := numAt h 0x48 4

/-- PUBKEY of a boot header or manifest. -/
def pubKey (h : List Byte) : List Byte := cut h 0x80 133

/-- What the device sends at step 5 (R415): the mode-entry records in order, each after a write enable, as bytes on one line. -/
def modeEntry (h : List Byte) : List (List Byte) :=
  (List.range (numAt h 0xB 1)).flatMap fun k =>
    let r := cut h (0x20 + 8 * k) 8
    let f := numAt r 1 1
    [[0x06], cut r 0 1 ++ (if f % 2 = 1 then (cut r 2 4).reverse else []) ++ (if f / 2 % 2 = 1 then cut r 6 1 else [])]

/-- Commands of 8D-8D-8D mode that the header gives (R410, R414): read with its dummy cycles, page program, sector erase, write enable, status. -/
structure FlashCmds where
  read : Nat
  dummy : Nat
  program : Nat
  erase : Nat
  writeEnable : Nat
  status : Nat
deriving DecidableEq, Repr

/-- The commands in use after step 5. -/
def flashCmds (h : List Byte) : FlashCmds := ⟨numAt h 8 2, numAt h 0xA 1, numAt h 0xC 2, numAt h 0xE 2, numAt h 0x10 2, numAt h 0x12 2⟩

/-! The manifest (R416 to R418). -/

/-- Parts of a section's fixed part: records and their bytes (R419). -/
def sectParts (code : Nat) : List (Nat × Nat) :=
  match code with
  | 0x02 => [(48, 512)]
  | 0x03 => [(4096, 4), (8192, 4), (64, 32), (4, 64), (4, 4)]
  | 0x04 => [(1024, 64)]
  | 0x05 => [(1024, 8), (32, 8)]
  | 0x06 => [(256, 512)]
  | 0x07 => [(16384, 128)]
  | 0x08 => [(256, 16), (4, 128), (256, 16)]
  | 0x09 => [(16, 128)]
  | 0x0A => [(120, 64), (1025, 4), (4096, 64)]
  | 0x0C => [(255, 12)]
  | 0x0D => [(1024, 16), (32, 4)]
  | 0x0E => [(1, 2048)]
  | _ => []

/-- Bytes of a record of a section's variable part, 0 for none (R419). -/
def sectVar (code : Nat) : Nat :=
  match code with
  | 0x02 => 3076
  | 0x07 => 16
  | 0x0A => 8
  | 0x0B => 786496
  | _ => 0

/-- Bytes of a section's fixed part. -/
def sectFixed (code : Nat) : Nat := ((sectParts code).map fun p => p.1 * p.2).sum

/-- Byte offset of record `r` of a section, the parts numbered on. -/
def recordOfs (var : Nat) : List (Nat × Nat) → Nat → Nat
  | [], r => r * var
  | (n, size) :: ps, r => if r < n then r * size else n * size + recordOfs var ps (r - n)

/-- One entry of the section table (R418). -/
structure SectEnt where
  code : Nat
  count : Nat
  ofs : Nat
  len : Nat
  digest : List Byte
deriving DecidableEq, Repr

/-- Entry `k` of a manifest's section table. -/
def sectEnt (h : List Byte) (k : Nat) : SectEnt :=
  let e := cut h (0x200 + 96 * k) 96
  ⟨numAt e 0 1, numAt e 4 4, numAt e 8 4, numAt e 12 4, cut e 32 64⟩

/-- The entries in use. -/
def sectEnts (h : List Byte) : List SectEnt := (List.range (numAt h 0x18 4)).map (sectEnt h)

/-- The entries after the first rise in TYPE, lie in order without overlap within `plain` bytes, and have the length of their records; `at`
is the end of the entry before, `last` its TYPE. -/
def sectsOk (plain : Nat) : List SectEnt → (at_ last : Nat) → Bool
  | [], _, _ => true
  | e :: r, a, last =>
    decide (last < e.code) && decide (2 ≤ e.code) && decide (e.code ≤ 0x0D) && decide (e.ofs % 64 = 0) && decide (a ≤ e.ofs) &&
    decide (e.ofs + e.len ≤ plain) && decide (e.len = sectFixed e.code + e.count * sectVar e.code) && sectsOk plain r (e.ofs + e.len) e.code

/-- Stream parameters of a manifest (R438). -/
def manStream (h : List Byte) : StreamP := streamP (cut h 0x110 40)

/-- Stored and plain bytes of the body (R416). -/
def bodyLen (h : List Byte) : Nat := numAt h 0x10 4

/-- Plain bytes of the body. -/
def bodyPlain (h : List Byte) : Nat := numAt h 0x14 4

/-- The section table obeys R418. -/
def tableOk (h : List Byte) : Bool :=
  let n := numAt h 0x18 4
  let unused (k : Nat) : Bool := zeroAt h (0x200 + 96 * k) 96
  let spare (k : Nat) : Bool := zeroAt h (0x200 + 96 * k + 1) 3 && zeroAt h (0x200 + 96 * k + 16) 16
  ((List.range 16).all fun k => if k < n then spare k else unused k) &&
  (match sectEnts h with
   | [] => false
   | e :: r =>
     decide (e.code = 0x0E) && decide (e.ofs % 64 = 0) && decide (e.len = 2048) && decide (e.ofs + e.len ≤ bodyPlain h) &&
     sectsOk (bodyPlain h) r (e.ofs + e.len) 0)

/-- Every rule of R416 to R418, R438 and R440 on a manifest, with the header's length of its slot. Without a catalogue no entry is VALID, so every
region digest is zero. BODYLEN is the stored length that BODYPLAIN gives
(DEDUCED, assumption 86). -/
def manifestOk (h : List Byte) (slotLen : Nat) : Bool :=
  decide (numAt h 0 4 = 0x4E414D32) && decide (numAt h 4 4 = 1) && decide (bodyLen h ≤ 100642816) && decide (bodyPlain h ≤ bodyLen h) &&
  decide (0x5000 + bodyLen h ≤ slotLen) && decide (1 ≤ numAt h 0x18 4) && decide (numAt h 0x18 4 ≤ 13) && decide (numAt h 0x1C 4 ≤ 1) &&
  decide (numAt h 0x20 4 ≤ 2) && zeroAt h 0x28 0x58 && zeroAt h 0x105 11 && zeroAt h 0x138 200 && zeroAt h 0x47C0 0x40 && zeroAt h 0x4884 0x7C &&
  (manStream h).ok (bodyPlain h) && decide ((manStream h).keysrc = numAt h 0x1C 4) &&
  decide (bodyLen h = (manStream h).total (bodyPlain h)) && tableOk h &&
  (((sectEnts h).any fun e => e.code == 0x0C) || zeroAt h 0x800 (255 * 64))

/-- Digest of region `r` in a manifest (R417). -/
def regionDigest (h : List Byte) (r : Nat) : List Byte := cut h (0x800 + 64 * r) 64

/-! Region images (R278, R424). -/

/-- A region image in plain text (R278): its target Fret, WCRC, frame records in order, and its essential map (none: every bit essential). -/
structure RegionImg where
  fret : Nat
  wcrc : Nat
  frames : List (Nat × List Byte)
  map : Option (List Byte)
deriving DecidableEq, Repr

/-- Bytes of a frame (R270). -/
def frameLen : Nat := 3072

/-- Bytes of an essential map (R278). -/
def mapLen : Nat := 786464

/-- Bytes of an image's plain text. -/
def RegionImg.bytes (x : RegionImg) : Nat := 16 + 3076 * x.frames.length + (x.map.map List.length).getD 0

/-- A frame record at byte `o` (R278): its address and data. -/
def frameRec (bs : List Byte) (o : Nat) : Nat × List Byte := (numAt bs o 4 % 2 ^ 14, cut bs (o + 4) frameLen)

/-- The image that the plain text spells for Fret `f`; none when its header fails (R278, R288). -/
def regionOf (bs : List Byte) (f : Nat) : Option RegionImg :=
  let w0 := numAt bs 0 4
  let nfr := w0 / 2 ^ 8 % 2 ^ 9
  let ml := numAt bs 8 4
  if w0 % 64 = f ∧ 1 ≤ nfr ∧ nfr ≤ 256 ∧ (ml = 0 ∨ ml = mapLen) ∧ numAt bs 12 4 = 0 ∧ bs.length = 16 + 3076 * nfr + ml then
    some ⟨f, numAt bs 4 4, (List.range nfr).map fun i => frameRec bs (16 + 3076 * i), if ml = 0 then none else some (bs.drop (16 + 3076 * nfr))⟩
  else none

/-- The image says that bit `bit` of local frame `j` is essential (R278, R291). -/
def RegionImg.bitEssential (x : RegionImg) (j bit : Nat) : Bool :=
  match x.map with
  | none => true
  | some m => let i := 24576 * j + bit; (m.getD (32 + i / 8) 0).toNat / 2 ^ (i % 8) % 2 = 1

/-- The image says that local frame `j` holds an essential bit (R278, R291). -/
def RegionImg.frameEssential (x : RegionImg) (j : Nat) : Bool :=
  match x.map with
  | none => true
  | some m => (m.getD (j / 8) 0).toNat / 2 ^ (j % 8) % 2 = 1

/-- The first record that a load rejects (R288): its number, and LASTERR 5 for an address outside the window of Fret `f`, 6 for one that an
earlier record has. -/
def badRecord (f : Nat) : List Nat → (seen : List Nat) → (k : Nat) → Option (Nat × Nat)
  | [], _, _ => none
  | a :: r, seen, k => if a / 256 ≠ f then some (k, 5) else if seen.contains a then some (k, 6) else badRecord f r (a :: seen) (k + 1)

/-- The frames of a load of Fret `f` in the order in which they are written (R283): the records, then the addresses that stay blank. -/
def loadOrder (f : Nat) (recs : List (Nat × List Byte)) : List (Nat × Option (List Byte)) :=
  (recs.map fun x => (x.1, some x.2)) ++
  ((List.range 256).map fun j => 256 * f + j).filterMap fun a => if recs.any fun x => x.1 == a then none else some (a, none)

/-- The plain header of a region image in the library (R424): MAGIC, FORMAT, REGION, FRET, PLAINLEN, a zero word 15, valid stream parameters,
and a length LEN that covers header and body (DEDUCED, assumption 86). -/
def regionHdrOk (h : List Byte) (r f len : Nat) : Bool :=
  let p := streamP (cut h 20 40)
  let plain := numAt h 16 4
  decide (numAt h 0 4 = 0x4E414D33) && decide (numAt h 4 4 = 1) && decide (numAt h 8 4 = r) && decide (numAt h 12 4 = f) && zeroAt h 60 4 &&
  p.ok plain && decide (len = 64 + p.total plain)

/-! Patch copies (R447). -/

/-- Flash offset of patch copy `k`. -/
def patchBase (k : Nat) : Nat := 0x0F900000 + 0x100000 * k

/-- MAGIC and FORMAT of a patch read correctly (R449). -/
def patchMarked (h : List Byte) : Bool := decide (numAt h 0 4 = 0x4E414D34) && decide (numAt h 4 4 = 1)

/-- Stream parameters of a patch. -/
def patchStream (h : List Byte) : StreamP := streamP (cut h 0x40 40)

/-- PLAINLEN of a patch. -/
def patchLen (h : List Byte) : Nat := numAt h 0x10 4

/-- The layout of a patch for the ROM of revision `rom` (R440, R447); `h` holds its first 0x105 bytes. PUBKEY, 133 bytes from 0x80, and the body
from 0x100 share five bytes in the table, and each is read where it says (assumption 86). -/
def patchOk (h : List Byte) (rom : Nat) : Bool :=
  patchMarked h && decide (1 ≤ numAt h 8 4) && decide (numAt h 12 4 = rom) && decide (1 ≤ patchLen h) && decide (patchLen h ≤ 65536) &&
  decide (numAt h 0x14 4 ≤ 2) && zeroAt h 0x18 0x28 && zeroAt h 0x68 0x18 &&
  (patchStream h).ok (patchLen h) && decide ((patchStream h).mode = 0) && decide ((patchStream h).nseg = 1)

end Sys2Proof.Machine
end

