-- ==== Sys2Proof/Machine/Inputs.lean ====
section
/-!
DEFINITION. The operand types of the commands: who writes a register and with which byte enables (R8,
R275), what the converters and pads see at a sample edge (R43, R47), what an engine saw on its wire, what a load
or a check found. Everything here is input to the block from outside it.
-/

namespace Sys2Proof

/-- The party that makes a register access: the host, firmware, or the design of one Fret through its shell port (R3, R275). -/
inductive Party where
  | host
  | firmware
  | shell (f : Fin 48)
deriving DecidableEq, Repr

/-- One register write: its party, its four byte enables and its data word (R8). -/
structure Wr where
  by_ : Party
  be : BitVec 4
  data : Word
deriving DecidableEq, Repr

/-- A write of STEP_START that arms a list (R194), and whether the context that becomes pending cannot be read (R187). -/
structure ArmWr where
  wr : Wr
  ecc : Bool
deriving DecidableEq, Repr

/-- Whether the signatures of the header and of its copy hold (R442), which the crypto engine tells. -/
structure HeaderSigs where
  sigOk : Bool
  copyOk : Bool
deriving DecidableEq, Repr

/-- What one channel's pin and converter see at one sample edge: the raw sense value x of R306 on the measured range, before its
correction (in OFF the noise of the zero node), and the pin voltage in microvolts. -/
structure PinSample where
  chan : Fin 1024
  raw : Int
  microvolt : Int
deriving DecidableEq, Repr

/-- What a comparator of a wake pin sees in QUIET (R265): the pin, its voltage in microvolts, and for how long it has stood, in ns. -/
structure PinVolt where
  chan : Fin 1024
  microvolt : Int
  held : Nat
deriving DecidableEq, Repr

/-- One CAN frame (R217): extended identifier, CAN FD format, remote frame, bit-rate switch, error-state indicator, identifier, payload. -/
structure CanFrame where
  ext : Bool
  fd : Bool
  rtr : Bool
  brs : Bool
  esi : Bool
  ident : BitVec 29
  bytes : List Byte
deriving DecidableEq, Repr

/-- An edge that a receiver synchronised on (R246): the index of the bit that it begins, and how long before the command it came, in 1/256 Ts. -/
structure Sync where
  bit : Nat
  back : Nat
deriving DecidableEq, Repr

/-- A CAN frame as it was received (R219, R246): the frame, and the edges synchronised on. -/
structure CanRx where
  frame : CanFrame
  syncs : List Sync
deriving DecidableEq, Repr

/-- What a CAN engine detects on its wire (R217, R218): a protocol error, lost arbitration, or the loop delay that it measured in an FD frame,
in 1/16 of a 655.36 MHz period. -/
inductive CanError where
  | stuffOrForm
  | crc
  | ack
  | bit
  | arbitration
  | loopDelay (v : BitVec 24)
deriving DecidableEq, Repr

/-- One byte that a LIN engine reads from its wire (R222): when its start bit begins, in 1/256 Ts after the command, its value, and whether its
stop bit is recessive. -/
structure LinByte where
  start : Nat
  value : Byte
  stop : Bool
deriving DecidableEq, Repr

/-- What a LIN engine reads back in a frame that begins with the command (R222, R223): the bytes of another node's response with the
checksum, and the index of the first bit of its own at which the level read back differed. -/
structure LinData where
  bytes : List LinByte
  echoBad : Option Nat
deriving DecidableEq, Repr

/-- The break and sync field that a LIN responder has measured (R222): the length of the dominant level and the time since that began, both in 1/256 Ts, and
the bit time measured on the sync byte in 1/16 of a 655.36 MHz period. -/
structure LinBreak where
  brk : Nat
  back : Nat
  meas : BitVec 24
deriving DecidableEq, Repr

/-- A header whose end a LIN responder has just seen (R222, R223): its break and sync field, the protected identifier, and what it reads back of the response. -/
structure LinHeader where
  pulse : LinBreak
  pid : Byte
  data : LinData
deriving DecidableEq, Repr

/-- One pulse of a SENT message: its length and its low time in 1/16 of a 655.36 MHz period (R225, R226). -/
structure SentPulse where
  len : Nat
  low : Nat
deriving DecidableEq, Repr

/-- A SENT message as a receiver measured it (R226): its calibration pulse, the pulses of its status, data and CRC nibbles, a pause pulse,
and how long before the command the last of them ended, in 1/256 Ts. -/
structure SentMsg where
  cal : SentPulse
  nibbles : List SentPulse
  pause : Option SentPulse
  back : Nat
deriving DecidableEq, Repr

/-- What a read of a region image gives (R283, R288): a flash read error, or what the crypto engine makes of its segments, each with its key
block (R439, log entry 86). -/
inductive RegionFetch where
  | flashError
  | read (segs : List (List Byte))
deriving DecidableEq, Repr

/-- What the frame writes of a request met (R283, R288, R294): nothing unusual; a cached copy whose CRC does not match; a frame that still
reads back wrong after three writes. -/
inductive RegionWrite where
  | ok
  | cacheCrc
  | frameWriteFailed
deriving DecidableEq, Repr

/-- What the scrubber finds in one frame (R291): no error; one bit of the frame, that SECDED corrects; a double-bit error or a CRC mismatch; a
frame that still differs after three rewrites. -/
inductive FrameCheck where
  | clean
  | single (bit : Fin 24576)
  | multi
  | stubborn
deriving DecidableEq, Repr

/-- One pair of measurements of a point (R309, R310): the two reads of the sense path, and of the force path read back through it, in 1/256 raw LSB of the
sense path. -/
structure CalPair where
  sense : Int × Int
  force : Int × Int
deriving DecidableEq, Repr

/-- What the phases of one calibration range measured (R309, R313, R314): whether the isolation monitor saw the pin beyond ±30 V, the two pre-check
reads in 1/256 raw LSB, the pairs of each point and of each check point, the last one in force. A quick calibration has the pairs of its zero on the
sense path as point 0 and on the force path as point 1. -/
structure CalMeas where
  pinHigh : Bool
  pre : Int × Int
  points : List (List CalPair)
  checks : List (List CalPair)
deriving DecidableEq, Repr

/-- The kinds of resource on which a device detector fires (R337, R353). -/
inductive Resource where
  | slice (i : Fin 1056)
  | cell (n : Fin 1024)
  | lane (m : Fin 66)
  | bus (p : Fin 34)
  | rmu (r : Fin 4)
  | engine (e : Fin 120)
  | fret (f : Fin 48)
deriving DecidableEq, Repr

/-- A detector event: the resource, its code (R337) and the detector's raw value (R352). -/
structure Detect where
  res : Resource
  code : BitVec 8
  detail : Word
deriving DecidableEq, Repr

/-- What the crypto engine makes of a patch copy (R447): whether its signature verifies under its PUBKEY, and the plain text of its body. -/
structure PatchIn where
  sigOk : Bool
  plain : List Byte
deriving DecidableEq, Repr

/-- What the load of a slot meets (R383 steps 6 to 8, R394): an uncorrectable error of the factory store; a flash read error, with the type
code of the section being read (1 the manifest); whether the manifest's signature verifies under its PUBKEY; what the crypto engine makes of
the segments, each with its key block (R439, log entry 86); the resources that the self-test finds bad (R342); the Frets with a frame that
will not hold (R294); the patch of R449 (R388). -/
structure SlotLoad where
  factoryBad : Bool
  readError : Option (BitVec 8)
  sigOk : Bool
  segs : List (List Byte)
  selfTest : List Detect
  badFrets : List (Fin 48)
  patch : PatchIn
deriving DecidableEq, Repr

/-- The supply rails of R506 by CAPO_SUPPLY bit: VHP, VHN, VDD, VDDA, VDDIO, VDDQ, VPHY, VPHYH. -/
abbrev Rail := Fin 8

/-- One axis of a POS message (R486): counter, state, source, rate in 2^-32 ticks per Ts, jump count. -/
structure PosAxis where
  count : BitVec 48
  state : BitVec 2
  src : BitVec 3
  rate : Int
  jumps : Nat
  z : Nat
deriving DecidableEq, Repr

/-- A POS message as it reaches a device (R486, R488): the root's sample-edge count at its edge N, the axes at N, the
phase error of the device's own edge in 10 ps, and the local edge that corresponds to N. -/
structure PosMsg where
  sedge : BitVec 48
  axes : List PosAxis
  phaseErr : Int
  localEdge : Nat
  sentAt : Nat
deriving DecidableEq, Repr

/-- A Capo message on the link (R486, R492). -/
structure CapoMsg where
  origin : BitVec 11
  assert_ : Bool
  port : Fin 4
  seq : Nat
deriving DecidableEq, Repr

/-- A trigger message on the link (R486, R490). -/
structure TrigMsg where
  sender : BitVec 11
  dest : BitVec 11
  list : Fin 256
  edgeN : BitVec 48
  port : Fin 4
  seq : Nat
deriving DecidableEq, Repr

/-- A status token (R494). -/
structure Token where
  id : BitVec 11
  capo : BitVec 2
  aligned : Bool
  running : Nat
  cntp : BitVec 16
deriving DecidableEq, Repr

/-- The timestamps of one latency exchange in 10 ps, and the parent's latency from the root (R487). -/
structure TimeStamps where
  t1 : Int
  t2 : Int
  t3 : Int
  t4 : Int
  parentLat : Nat
deriving DecidableEq, Repr

/-- One host access through BAR2 (R472): offset in the window, write data with byte enables, or a read of a length, and whether it meets an
uncorrectable error (R457). -/
inductive Bar2Op where
  | write (off : BitVec 28) (bytes : List (Option Byte))
  | read (off : BitVec 28) (len : Nat) (bad : Bool)
deriving DecidableEq, Repr

/-- One host access to a Fret window (R276): a write, or a read with the design's answer. -/
inductive WindowOp where
  | write (off : BitVec 18) (be : BitVec 4) (data : Word)
  | read (off : BitVec 18) (answer : Word)
deriving DecidableEq, Repr

/-- What cannot be read when the setup records of a context are fetched (R187, R457): the context, or its record of a number. -/
inductive FetchErr where
  | context
  | setup (i : Nat)
deriving DecidableEq, Repr

/-- The end causes of a DMA transfer (R475). -/
inductive DmaEnd where
  | ok
  | poisoned
deriving DecidableEq, Repr

/-- What an RMU's conversion measured (R104 to R110): the calibrated reading of its window before saturation, in reading LSB, that of
the zero window of AZERO, and whether the test-current source reached its compliance. -/
structure RmuMeas where
  raw : Int
  zero : Int
  compliance : Bool
deriving DecidableEq, Repr

/-- What the comparators of a tile see at a sample edge (R113): the voltages of T0, of the amplifier output and of T1 in microvolts. -/
structure TileVolts where
  t0 : Int
  amp : Int
  t1 : Int
deriving DecidableEq, Repr

/-- What the calibration of one RMU range measured (R322): whether it was disturbed (R313), the pairs at zero and at 0.9 FS in 0.1 ppm of FS, and what
the Tuning engine makes of them, for which the spec gives no formula (log entry 87): the gain and offset of the range, the quality figure in 0.1 ppm, the
worst residual under the factory values alone in ppm. -/
structure RmuCal where
  disturbed : Bool
  zeros : List (Int × Int)
  fulls : List (Int × Int)
  gain : Int
  offset : Int
  quality : Nat
  residual : Nat
deriving DecidableEq, Repr

/-- What is sampled at supply-good: the DDR organisation (R455), the root strap (R357), whether TAMPER_N is low and VBAT lies within
1.2 V to 3.6 V (R436, R454). -/
structure Straps where
  ddrOrg : Fin 16
  root : Bool
  tamperN : Bool
  vbatOk : Bool
deriving DecidableEq, Repr

/-- What JTAG FUSEPROG programs (R443). -/
inductive FuseOp where
  | keyHash (digest : List Byte)
  | fkey (key : List Byte)
deriving DecidableEq, Repr

/-- Why the endpoint resets (R469). -/
inductive LinkLoss where
  | hotReset
  | linkDown
  | flr
deriving DecidableEq, Repr

/-- A JOIN request (R481). -/
structure JoinMsg where
  unit_ : Nat
  path : List (Fin 3)
deriving DecidableEq, Repr

/-- An ASSIGN message (R481). -/
structure AssignMsg where
  unit_ : Nat
  path : List (Fin 3)
  ident : Option (BitVec 11)
deriving DecidableEq, Repr

end Sys2Proof
end

