-- ==== Sys2Proof/Machine/Fields.lean ====
section
/-!
DEFINITION. What a register table says of a field (R9, R10, R13): its bits, access type, reset and valid range; and how a
value outside the range is clamped to the nearest valid one.
-/

namespace Sys2Proof.Machine

/-- Access types of R10. -/
inductive Acc where
  | rw
  | ro
  | rw1c
  | w1s
  | wo
  | rws
deriving DecidableEq, Repr

/-- The valid range of a field: every value; every value of a signed field; a range of numbers; a range of two's
complement numbers; or a range that depends on other fields. -/
inductive Lim where
  | any
  | sgn
  | rng (lo hi : Nat)
  | srng (lo hi : Int)
  | dyn
deriving DecidableEq, Repr

/-- One field of a register. A `reset` of none stands for "Image" (R9). -/
structure Fld where
  name : String
  lo : Nat
  width : Nat
  acc : Acc
  reset : Option Nat
  lim : Lim
deriving DecidableEq, Repr

/-- One register of a set: its offset in the set, its name and its fields other than reserved ones. -/
structure RegRow where
  off : Nat
  name : String
  flds : List Fld
deriving DecidableEq, Repr

/-- The valid value nearest to `x` (R13). -/
def Lim.clamp (l : Lim) (width x : Nat) : Nat :=
  match l with
  | .any => x
  | .sgn => x
  | .rng lo hi => clampNat lo hi x
  | .srng lo hi => ofSigned width (clampInt lo hi (toSigned width x))
  | .dyn => x

/-- Whether the field is signed. -/
def Lim.signed : Lim → Bool
  | .sgn => true
  | .srng _ _ => true
  | _ => false

/-- The reset value of a field. DESIGN CHOICE (assumption 3): a field loaded from the image holds the valid value
nearest to zero until the load. -/
def Fld.resetVal (f : Fld) : Nat :=
  match f.reset with
  | some v => v
  | none => f.lim.clamp f.width 0

/-- The reset word of a list of fields. -/
def resetOfFlds (fs : List Fld) : Word := fs.foldl (fun v f => setBits v f.lo f.width f.resetVal) 0

/-- The row of a set at an offset. -/
def findRow (rows : List RegRow) (o : Nat) : List Fld :=
  match rows.find? (fun r => r.off == o) with
  | some r => r.flds
  | none => []

end Sys2Proof.Machine
end

