-- ==== Sys2Proof/Machine/RegTabA.lean ====
section
/-!
DEFINITION. The register tables of DEV, CLK, BOOT, SEC, CAPO, FAULT, CAL, POS, STEP and RESQ (R9), field by field.
-/

namespace Sys2Proof.Machine

/-- Registers of the set "dev", R157 of 04_filter_chain.md, R83 of 02_channel_cell.md. -/
def devRows : List RegRow :=
  [
    ⟨0x100, "DEV_GOVBUDGET", [
      ⟨"BUDGET", 0, 16, .rw, none, .rng 5000 55000⟩]⟩,
    ⟨0x104, "DEV_GOVCEIL", [
      ⟨"CEIL", 0, 16, .ro, some 0, .any⟩]⟩,
    ⟨0x108, "DEV_GOVUSED", [
      ⟨"USED", 0, 22, .ro, some 0, .any⟩]⟩,
    ⟨0x10c, "DEV_GOVDEFER", [
      ⟨"COUNT", 0, 32, .ro, some 0, .any⟩]⟩,
    ⟨0x200, "DEV_FILTPEVT", [
      ⟨"LASTPROF", 0, 8, .ro, some 0, .any⟩,
      ⟨"PREFUSED", 8, 1, .rw1c, some 0, .any⟩,
      ⟨"PCLAMPED", 9, 1, .rw1c, some 0, .any⟩]⟩]

/-- Registers of the set "rmuf", R157 of 04_filter_chain.md. -/
def rmufRows : List RegRow :=
  [
    ⟨0x0, "DEV_RMUFCTL", [
      ⟨"PROF", 0, 8, .rws, none, .any⟩,
      ⟨"RUN", 31, 1, .rw, none, .any⟩]⟩,
    ⟨0x4, "DEV_RMUFGDLY", [
      ⟨"DELAY", 0, 30, .ro, some 0, .any⟩]⟩,
    ⟨0x8, "DEV_RMUFSTAT", [
      ⟨"SAT", 0, 2, .ro, some 0, .any⟩,
      ⟨"RUNNING", 8, 1, .ro, some 0, .any⟩,
      ⟨"SETTLING", 9, 1, .ro, some 0, .any⟩]⟩]

/-- Registers of the set "clk", R382 of 12_clocks_and_references.md. -/
def clkRows : List RegRow :=
  [
    ⟨0x0, "CLK_STATUS", [
      ⟨"REFA_READY", 0, 1, .ro, some 0, .any⟩,
      ⟨"REFB_READY", 1, 1, .ro, some 0, .any⟩,
      ⟨"ROOT_READY", 2, 1, .ro, some 0, .any⟩,
      ⟨"FAB_READY", 3, 1, .ro, some 0, .any⟩,
      ⟨"DDR_READY", 4, 1, .ro, some 0, .any⟩,
      ⟨"PCIE_READY", 5, 1, .ro, some 0, .any⟩,
      ⟨"OUT_READY", 6, 4, .ro, some 0, .any⟩,
      ⟨"ACTIVE", 12, 1, .ro, some 0, .any⟩,
      ⟨"HOLDOVER", 13, 1, .ro, some 0, .any⟩,
      ⟨"GATED", 14, 1, .ro, some 1, .any⟩,
      ⟨"SLEWING", 15, 1, .ro, some 0, .any⟩,
      ⟨"ONROOT", 16, 1, .ro, some 0, .any⟩,
      ⟨"ROOTSTRAP", 17, 1, .ro, some 0, .any⟩]⟩,
    ⟨0x4, "CLK_EVENT", [
      ⟨"REFALOSS", 0, 1, .rw1c, some 0, .any⟩,
      ⟨"REFBLOSS", 1, 1, .rw1c, some 0, .any⟩,
      ⟨"REFAFREQ", 2, 1, .rw1c, some 0, .any⟩,
      ⟨"REFBFREQ", 3, 1, .rw1c, some 0, .any⟩,
      ⟨"SWITCHED", 4, 1, .rw1c, some 0, .any⟩,
      ⟨"FORCED", 5, 1, .rw1c, some 0, .any⟩,
      ⟨"REFUSED", 6, 1, .rw1c, some 0, .any⟩,
      ⟨"CLAMPED", 7, 1, .rw1c, some 0, .any⟩,
      ⟨"GATESTOP", 8, 1, .rw1c, some 0, .any⟩,
      ⟨"ROOTUNLOCK", 9, 1, .rw1c, some 0, .any⟩]⟩,
    ⟨0x8, "CLK_CFG", [
      ⟨"FAILOVER", 0, 1, .rw, none, .any⟩,
      ⟨"MODE", 1, 1, .rws, none, .any⟩,
      ⟨"FABDIV", 2, 1, .rws, none, .any⟩]⟩,
    ⟨0xc, "CLK_FABFREQ", [
      ⟨"FREQ", 0, 19, .rws, none, .rng 20000 350000⟩]⟩,
    ⟨0x10, "CLK_CMD", [
      ⟨"SRC", 0, 1, .wo, some 0, .any⟩,
      ⟨"GO", 31, 1, .wo, some 0, .any⟩]⟩,
    ⟨0x14, "CLK_REFACNT", [
      ⟨"COUNT", 0, 14, .ro, some 0, .any⟩]⟩,
    ⟨0x18, "CLK_REFBCNT", [
      ⟨"COUNT", 0, 14, .ro, some 0, .any⟩]⟩,
    ⟨0x1c, "CLK_PPM", [
      ⟨"PPM", 0, 16, .ro, some 0, .any⟩,
      ⟨"VALID", 16, 1, .ro, some 0, .any⟩]⟩,
    ⟨0x20, "CLK_SWCNT", [
      ⟨"SWITCHES", 0, 16, .ro, some 0, .any⟩,
      ⟨"FORCED", 16, 16, .ro, some 0, .any⟩]⟩]

/-- Registers of the set "clkout", R382 of 12_clocks_and_references.md. -/
def clkoutRows : List RegRow :=
  [
    ⟨0x0, "CLK_OUTFREQ", [
      ⟨"FREQ", 0, 28, .rw, none, .rng 1000 200000000⟩]⟩,
    ⟨0x4, "CLK_OUTSS", [
      ⟨"SSMODE", 0, 2, .rw, none, .rng 0 2⟩,
      ⟨"SSDEPTH", 8, 6, .rw, none, .rng 0 32⟩,
      ⟨"SSRATE", 16, 7, .rw, none, .rng 10 100⟩]⟩,
    ⟨0x8, "CLK_OUTCTL", [
      ⟨"EN", 0, 1, .rw, none, .any⟩,
      ⟨"CAPOSTOP", 1, 1, .rw, none, .any⟩]⟩]

/-- Registers of the set "boot", R409 of 13_start_up.md. -/
def bootRows : List RegRow :=
  [
    ⟨0x0, "BOOT_STATUS", [
      ⟨"PHASE", 0, 5, .ro, some 0, .any⟩,
      ⟨"KIND", 5, 2, .ro, some 0, .any⟩,
      ⟨"SLOT", 7, 2, .ro, some 2, .any⟩,
      ⟨"HDRCOPY", 9, 1, .ro, some 0, .any⟩,
      ⟨"DONE", 10, 1, .ro, some 0, .any⟩,
      ⟨"CONFERR", 11, 1, .ro, some 0, .any⟩,
      ⟨"QUIET", 12, 1, .ro, some 0, .any⟩,
      ⟨"WAITON", 13, 3, .ro, some 0, .any⟩,
      ⟨"RELDONE", 16, 4, .ro, some 0, .any⟩]⟩,
    ⟨0x4, "BOOT_EVENT", [
      ⟨"SLOTAFAIL", 0, 1, .rw1c, some 0, .any⟩,
      ⟨"SLOTBFAIL", 1, 1, .rw1c, some 0, .any⟩,
      ⟨"HDRFAIL", 2, 1, .rw1c, some 0, .any⟩,
      ⟨"LOCKWAIT", 3, 1, .rw1c, some 0, .any⟩,
      ⟨"PATCHFAIL", 4, 1, .rw1c, some 0, .any⟩,
      ⟨"CLAMPED", 5, 1, .rw1c, some 0, .any⟩,
      ⟨"REFUSED", 6, 1, .rw1c, some 0, .any⟩]⟩,
    ⟨0x8, "BOOT_FAIL", [
      ⟨"FAILA", 0, 4, .ro, some 0, .any⟩,
      ⟨"FAILB", 4, 4, .ro, some 0, .any⟩,
      ⟨"SECTA", 8, 8, .ro, some 0, .any⟩,
      ⟨"SECTB", 16, 8, .ro, some 0, .any⟩,
      ⟨"FINAL", 24, 4, .ro, some 0, .any⟩]⟩,
    ⟨0xc, "BOOT_ORDER", [
      ⟨"P0", 0, 2, .ro, none, .dyn⟩,
      ⟨"P1", 2, 2, .ro, none, .dyn⟩,
      ⟨"P2", 4, 2, .ro, none, .dyn⟩,
      ⟨"P3", 6, 2, .ro, none, .dyn⟩]⟩,
    ⟨0x20, "BOOT_CTL", [
      ⟨"WARM", 0, 1, .wo, some 0, .any⟩,
      ⟨"QUIET", 1, 1, .wo, some 0, .any⟩,
      ⟨"WAKE", 2, 1, .wo, some 0, .any⟩,
      ⟨"CLRCLAMP", 3, 1, .wo, some 0, .any⟩,
      ⟨"KEY", 8, 8, .wo, some 0, .any⟩,
      ⟨"REPROG", 31, 1, .wo, some 0, .any⟩]⟩,
    ⟨0x24, "BOOT_QCFG", [
      ⟨"REARM", 0, 1, .rw, none, .any⟩]⟩,
    ⟨0x28, "BOOT_QSTAT", [
      ⟨"CAUSE", 0, 2, .ro, some 0, .any⟩,
      ⟨"VALID", 2, 1, .ro, some 0, .any⟩,
      ⟨"COUNT", 16, 16, .ro, some 0, .any⟩]⟩,
    ⟨0x2c, "BOOT_TIME", [
      ⟨"MS", 0, 20, .ro, some 0, .any⟩]⟩,
    ⟨0x30, "BOOT_WARMCNT", [
      ⟨"WARM", 0, 16, .ro, some 0, .any⟩,
      ⟨"RELOADS", 16, 16, .ro, some 0, .any⟩]⟩,
    ⟨0x40, "BOOT_CLAMPCNT", [
      ⟨"COUNT", 0, 11, .ro, some 0, .any⟩,
      ⟨"LOST", 16, 16, .ro, some 0, .any⟩]⟩]

/-- Registers of the set "bootdly", R409 of 13_start_up.md. -/
def bootdlyRows : List RegRow :=
  [
    ⟨0x0, "BOOT_DLYk", [
      ⟨"DLY", 0, 10, .ro, none, .rng 0 1000⟩]⟩]

/-- Registers of the set "sec", R454 of 15_security.md. -/
def secRows : List RegRow :=
  [
    ⟨0x0, "SEC_STATUS", [
      ⟨"BUSY", 0, 1, .ro, some 0, .any⟩,
      ⟨"DONE", 1, 1, .ro, some 0, .any⟩,
      ⟨"RESULT", 2, 4, .ro, some 0, .any⟩,
      ⟨"BBRAM", 6, 2, .ro, some 0, .any⟩,
      ⟨"DBGOPEN", 8, 1, .ro, some 0, .any⟩,
      ⟨"TAMPERN", 9, 1, .ro, some 0, .any⟩,
      ⟨"VBATOK", 10, 1, .ro, some 0, .any⟩]⟩,
    ⟨0x4, "SEC_EVENT", [
      ⟨"REFUSED", 0, 1, .rw1c, some 0, .any⟩,
      ⟨"CLAMPED", 1, 1, .rw1c, some 0, .any⟩,
      ⟨"TAMPER", 2, 1, .rw1c, some 0, .any⟩,
      ⟨"VBATLOSS", 3, 1, .rw1c, some 0, .any⟩,
      ⟨"PATCHOK", 4, 1, .rw1c, some 0, .any⟩,
      ⟨"PATCHFAIL", 5, 1, .rw1c, some 0, .any⟩,
      ⟨"ATTESTOK", 6, 1, .rw1c, some 0, .any⟩,
      ⟨"FUSED", 7, 1, .rw1c, some 0, .any⟩]⟩,
    ⟨0x8, "SEC_CMD", [
      ⟨"OP", 0, 4, .wo, some 0, .rng 0 7⟩,
      ⟨"GO", 31, 1, .wo, some 0, .any⟩]⟩,
    ⟨0xc, "SEC_FUSE", [
      ⟨"PROG", 0, 3, .ro, some 0, .any⟩,
      ⟨"REVOKED", 4, 3, .ro, some 0, .any⟩,
      ⟨"FKEY", 8, 1, .ro, some 0, .any⟩,
      ⟨"DBGLOCK", 9, 1, .ro, some 0, .any⟩]⟩,
    ⟨0x10, "SEC_PATCH", [
      ⟨"COPY", 0, 1, .ro, some 0, .any⟩,
      ⟨"INUSE", 1, 1, .ro, some 0, .any⟩,
      ⟨"RETRY", 2, 1, .ro, some 0, .any⟩,
      ⟨"ROMID", 16, 16, .ro, some 0, .any⟩]⟩,
    ⟨0x14, "SEC_PSEQ", [
      ⟨"PSEQ", 0, 32, .ro, some 0, .any⟩]⟩]

/-- Registers of the set "devid", R454 of 15_security.md. -/
def devidRows : List RegRow :=
  [
    ⟨0x0, "SEC_DEVID", [
      ⟨"ID", 0, 32, .ro, some 0, .any⟩]⟩]

/-- Registers of the set "capo", R355 of 11_faults_and_recovery.md. -/
def capoRows : List RegRow :=
  [
    ⟨0x0, "CAPO_STATE", [
      ⟨"STATE", 0, 2, .ro, some 2, .any⟩,
      ⟨"RELPEND", 2, 1, .ro, some 0, .any⟩]⟩,
    ⟨0x4, "CAPO_CAUSE", [
      ⟨"CAUSE", 0, 10, .rw1c, some 1, .any⟩]⟩,
    ⟨0x8, "CAPO_ACTIVE", [
      ⟨"ACTIVE", 0, 10, .ro, some 1, .any⟩]⟩,
    ⟨0xc, "CAPO_CFG", [
      ⟨"RELEASE", 0, 1, .rw, none, .any⟩,
      ⟨"REARM", 1, 1, .rw, none, .any⟩,
      ⟨"PROPOUT", 2, 1, .rw, none, .any⟩,
      ⟨"PROPIN", 3, 1, .rw, none, .any⟩,
      ⟨"CAPONMASK", 4, 1, .rw, none, .any⟩,
      ⟨"CAPONDRV", 5, 1, .rw, none, .any⟩,
      ⟨"RDELAY", 8, 8, .rw, none, .any⟩]⟩,
    ⟨0x10, "CAPO_CMD", [
      ⟨"SAFE", 0, 1, .wo, some 0, .any⟩,
      ⟨"CLRHOST", 1, 1, .wo, some 0, .any⟩,
      ⟨"RELEASE", 31, 1, .wo, some 0, .any⟩]⟩,
    ⟨0x14, "CAPO_SUPPLY", [
      ⟨"VHP", 0, 1, .rw1c, some 0, .any⟩,
      ⟨"VHN", 1, 1, .rw1c, some 0, .any⟩,
      ⟨"RAIL", 2, 6, .rw1c, some 0, .any⟩]⟩,
    ⟨0x18, "CAPO_TRIPS", [
      ⟨"SAFE", 0, 16, .ro, some 0, .any⟩,
      ⟨"HOLD", 16, 16, .ro, some 0, .any⟩]⟩,
    ⟨0x1c, "CAPO_LASTSEQ", [
      ⟨"FSEQ", 0, 32, .ro, some 0, .any⟩]⟩]

/-- Registers of the set "fault", R356 of 11_faults_and_recovery.md. -/
def faultRows : List RegRow :=
  [
    ⟨0x0, "FAULT_CFG", [
      ⟨"TLIMIT", 0, 8, .rw, none, .rng 2 255⟩,
      ⟨"QD", 8, 1, .rw, none, .any⟩,
      ⟨"LOGD", 9, 1, .rw, none, .any⟩]⟩,
    ⟨0x4, "FAULT_EVENT", [
      ⟨"TFAULT", 0, 1, .rw1c, some 0, .any⟩,
      ⟨"PFAULT", 1, 1, .rw1c, some 0, .any⟩,
      ⟨"DCOND", 2, 1, .rw1c, some 0, .any⟩,
      ⟨"FQLOSS", 3, 1, .rw1c, some 0, .any⟩,
      ⟨"LOGLOSS", 4, 1, .rw1c, some 0, .any⟩,
      ⟨"WDEXP", 5, 1, .rw1c, some 0, .any⟩,
      ⟨"CLAMPED", 6, 1, .rw1c, some 0, .any⟩,
      ⟨"REFUSED", 7, 1, .rw1c, some 0, .any⟩]⟩,
    ⟨0x8, "FAULT_WDCFG", [
      ⟨"PERIOD", 0, 10, .rw, none, .rng 1 1000⟩,
      ⟨"EN", 31, 1, .ro, none, .any⟩]⟩,
    ⟨0xc, "FAULT_WDKICK", [
      ⟨"KEY", 0, 32, .wo, some 0, .any⟩]⟩,
    ⟨0x10, "FAULT_WDSTAT", [
      ⟨"STAGE", 0, 2, .ro, some 0, .any⟩,
      ⟨"NOPATCH", 2, 1, .ro, some 0, .any⟩,
      ⟨"EXPIRIES", 16, 16, .ro, some 0, .any⟩]⟩,
    ⟨0x20, "FAULT_FQWR", [
      ⟨"FSEQ", 0, 32, .ro, some 0, .any⟩]⟩,
    ⟨0x24, "FAULT_FQRD", [
      ⟨"FSEQ", 0, 32, .rw, some 0, .dyn⟩]⟩,
    ⟨0x28, "FAULT_FQLOST", [
      ⟨"COUNT", 0, 32, .ro, some 0, .any⟩]⟩,
    ⟨0x2c, "FAULT_FQIRQ", [
      ⟨"THRESH", 0, 11, .rw, none, .rng 1 1024⟩,
      ⟨"IEN", 31, 1, .rw, none, .any⟩]⟩,
    ⟨0x30, "FAULT_LOG", [
      ⟨"SECTOR", 0, 11, .ro, some 0, .any⟩,
      ⟨"DROPS", 16, 16, .ro, some 0, .any⟩]⟩,
    ⟨0x40, "FAULT_CNTT", [
      ⟨"COUNT", 0, 32, .ro, some 0, .any⟩]⟩,
    ⟨0x44, "FAULT_CNTP", [
      ⟨"COUNT", 0, 32, .ro, some 0, .any⟩]⟩] ++
  [
    ⟨0x48, "FAULT_CNTD", [
      ⟨"COUNT", 0, 32, .ro, some 0, .any⟩]⟩,
    ⟨0x4c, "FAULT_CNTN", [
      ⟨"COUNT", 0, 32, .ro, some 0, .any⟩]⟩,
    ⟨0x50, "FAULT_SPARE", [
      ⟨"SLICEFREE", 0, 32, .ro, some 4294967295, .any⟩]⟩,
    ⟨0x54, "FAULT_SPAREX", [
      ⟨"LANEFREE", 0, 2, .ro, some 3, .any⟩]⟩,
    ⟨0x300, "FAULT_RMURET", [
      ⟨"RET", 0, 4, .ro, some 0, .any⟩]⟩,
    ⟨0x314, "FAULT_FRETFLT", [
      ⟨"FLT", 0, 32, .ro, some 0, .any⟩]⟩,
    ⟨0x318, "FAULT_FRETFLT", [
      ⟨"FLT", 0, 16, .ro, some 0, .any⟩]⟩]

/-- Registers of the set "retch", R356 of 11_faults_and_recovery.md. -/
def retchRows : List RegRow :=
  [
    ⟨0x0, "FAULT_RETCH", [
      ⟨"RET", 0, 32, .ro, some 0, .any⟩]⟩]

/-- Registers of the set "remapch", R356 of 11_faults_and_recovery.md. -/
def remapchRows : List RegRow :=
  [
    ⟨0x0, "FAULT_REMAPCH", [
      ⟨"REMAP", 0, 32, .ro, some 0, .any⟩]⟩]

/-- Registers of the set "lane", R356 of 11_faults_and_recovery.md. -/
def laneRows : List RegRow :=
  [
    ⟨0x0, "FAULT_LANE", [
      ⟨"PHYS", 0, 7, .ro, some 0, .any⟩,
      ⟨"THRONLY", 8, 1, .ro, some 0, .any⟩,
      ⟨"REMAPPED", 9, 1, .ro, some 0, .any⟩]⟩]

/-- Registers of the set "engret", R356 of 11_faults_and_recovery.md. -/
def engretRows : List RegRow :=
  [
    ⟨0x0, "FAULT_ENGRET", [
      ⟨"RET", 0, 32, .ro, some 0, .any⟩]⟩]

/-- Registers of the set "cal", R331 of 10_calibration.md, R332 of 10_calibration.md. -/
def calRows : List RegRow :=
  [
    ⟨0x0, "CAL_CTL", [
      ⟨"EN", 0, 1, .rw, none, .any⟩,
      ⟨"AUTO", 1, 1, .rw, none, .any⟩]⟩,
    ⟨0x4, "CAL_STATUS", [
      ⟨"STORE", 0, 2, .ro, some 2, .any⟩,
      ⟨"ACTIVE", 2, 1, .ro, some 0, .any⟩,
      ⟨"DIRTY", 3, 1, .ro, some 0, .any⟩,
      ⟨"BUSY", 4, 1, .ro, some 0, .any⟩,
      ⟨"NOREF", 5, 1, .ro, some 0, .any⟩,
      ⟨"SAVING", 6, 1, .ro, some 0, .any⟩,
      ⟨"QFILL", 8, 7, .ro, some 0, .any⟩]⟩,
    ⟨0x8, "CAL_EVENT", [
      ⟨"CLAMPED", 0, 1, .rw1c, some 0, .any⟩,
      ⟨"REFUSED", 1, 1, .rw1c, some 0, .any⟩,
      ⟨"COMMIT", 2, 1, .rw1c, some 0, .any⟩,
      ⟨"UNCAL", 3, 1, .rw1c, some 0, .any⟩,
      ⟨"DISTURBED", 4, 1, .rw1c, some 0, .any⟩,
      ⟨"ENDED", 5, 1, .rw1c, some 0, .any⟩,
      ⟨"SAVED", 6, 1, .rw1c, some 0, .any⟩,
      ⟨"SAVEFAIL", 7, 1, .rw1c, some 0, .any⟩,
      ⟨"NOREF", 8, 1, .rw1c, some 0, .any⟩,
      ⟨"CLASSP", 9, 1, .rw1c, some 0, .any⟩]⟩,
    ⟨0xc, "CAL_CFG", [
      ⟨"TOL", 0, 7, .rw, none, .rng 1 100⟩,
      ⟨"NOSPARE", 8, 2, .rw, none, .rng 0 2⟩,
      ⟨"SAVEINT", 16, 12, .rw, none, .rng 1 3600⟩]⟩,
    ⟨0x10, "CAL_SCHED", [
      ⟨"PERIOD", 0, 14, .rw, none, .rng 0 8760⟩,
      ⟨"DTEMP", 16, 6, .rw, none, .rng 0 50⟩,
      ⟨"QUICKCAL", 24, 2, .rw, none, .rng 0 2⟩]⟩,
    ⟨0x14, "CAL_CMD", [
      ⟨"CHAN", 0, 10, .wo, some 0, .any⟩,
      ⟨"SPARE", 10, 1, .wo, some 0, .any⟩,
      ⟨"RANGE", 12, 3, .wo, some 0, .any⟩,
      ⟨"OP", 16, 3, .wo, some 0, .rng 0 6⟩,
      ⟨"GO", 31, 1, .wo, some 0, .any⟩]⟩,
    ⟨0x18, "CAL_EPOCH", [
      ⟨"SECONDS", 0, 32, .rw, some 0, .any⟩]⟩,
    ⟨0x1c, "CAL_STORESEQ", [
      ⟨"SEQ", 0, 32, .ro, some 0, .any⟩]⟩,
    ⟨0x20, "CAL_CUR", [
      ⟨"SLICE", 0, 11, .ro, some 0, .any⟩,
      ⟨"RANGE", 12, 3, .ro, some 0, .any⟩,
      ⟨"PHASE", 16, 3, .ro, some 0, .any⟩]⟩,
    ⟨0x24, "CAL_VSEL", [
      ⟨"SLICE", 0, 11, .rw, some 0, .rng 0 1055⟩,
      ⟨"RANGE", 12, 3, .rw, some 0, .any⟩,
      ⟨"PATH", 15, 1, .rw, some 0, .any⟩,
      ⟨"ITEM", 16, 4, .rw, some 0, .rng 0 12⟩]⟩,
    ⟨0x28, "CAL_VF", [
      ⟨"VALUE", 0, 32, .ro, some 0, .any⟩]⟩,
    ⟨0x2c, "CAL_VU", [
      ⟨"VALUE", 0, 32, .rw, some 0, .dyn⟩]⟩] ++
  [
    ⟨0x30, "CAL_TAPSEL", [
      ⟨"PIN", 0, 10, .rw, some 0, .any⟩,
      ⟨"BUS", 16, 6, .rw, some 0, .rng 0 33⟩]⟩,
    ⟨0x34, "CAL_TAPR", [
      ⟨"R", 0, 16, .ro, some 65535, .any⟩]⟩]

/-- Registers of the set "calrmuq", R331 of 10_calibration.md. -/
def calrmuqRows : List RegRow :=
  [
    ⟨0x0, "CAL_RMUQ", [
      ⟨"QUAL", 0, 16, .ro, some 65535, .any⟩,
      ⟨"UNCAL", 16, 1, .ro, some 0, .any⟩]⟩]

/-- Registers of the set "caltemp", R331 of 10_calibration.md. -/
def caltempRows : List RegRow :=
  [
    ⟨0x0, "CAL_TEMP", [
      ⟨"TEMP", 0, 16, .ro, some 0, .any⟩]⟩]

/-- Registers of the set "calset", R333 of 10_calibration.md. -/
def calsetRows : List RegRow :=
  [
    ⟨0x0, "CAL_QUALk", [
      ⟨"QLO", 0, 16, .ro, some 65535, .any⟩,
      ⟨"QHI", 16, 16, .ro, some 65535, .any⟩]⟩,
    ⟨0x4, "CAL_QUALk", [
      ⟨"QLO", 0, 16, .ro, some 65535, .any⟩,
      ⟨"QHI", 16, 16, .ro, some 65535, .any⟩]⟩,
    ⟨0x8, "CAL_QUALk", [
      ⟨"QLO", 0, 16, .ro, some 65535, .any⟩,
      ⟨"QHI", 16, 16, .ro, some 65535, .any⟩]⟩,
    ⟨0xc, "CAL_QUALk", [
      ⟨"QLO", 0, 16, .ro, some 65535, .any⟩,
      ⟨"QHI", 16, 16, .ro, some 65535, .any⟩]⟩,
    ⟨0x10, "CAL_COUNT", [
      ⟨"COUNT", 0, 32, .ro, some 0, .any⟩]⟩,
    ⟨0x14, "CAL_LAST_TIME", [
      ⟨"TIME", 0, 32, .ro, some 0, .any⟩]⟩,
    ⟨0x18, "CAL_CHSTAT", [
      ⟨"UNCAL", 0, 8, .ro, some 0, .any⟩,
      ⟨"DIST", 8, 8, .ro, some 0, .any⟩,
      ⟨"PEND", 16, 1, .ro, some 0, .any⟩]⟩]

/-- Registers of the set "pos", R183 of 05_position_axes.md. -/
def posRows : List RegRow :=
  [
    ⟨0x0, "POS_CTL", [
      ⟨"SRC", 0, 3, .rws, none, .rng 0 5⟩,
      ⟨"AMODE", 3, 1, .rws, none, .any⟩,
      ⟨"CYC2", 4, 1, .rws, none, .any⟩,
      ⟨"WHEEL", 8, 4, .rws, none, .any⟩,
      ⟨"CHAX", 12, 2, .rws, none, .any⟩,
      ⟨"RUN", 31, 1, .rw, none, .any⟩]⟩,
    ⟨0x4, "POS_INSEL", [
      ⟨"PINA", 0, 10, .rws, none, .any⟩,
      ⟨"PINB", 16, 10, .rws, none, .any⟩]⟩,
    ⟨0x8, "POS_INSEL", [
      ⟨"PINZ", 0, 10, .rws, none, .any⟩]⟩,
    ⟨0xc, "POS_CNTLO", [
      ⟨"CNT", 0, 32, .rws, some 0, .any⟩]⟩,
    ⟨0x10, "POS_CNTHI", [
      ⟨"CNT", 0, 16, .rws, some 0, .any⟩]⟩,
    ⟨0x14, "POS_RATE", [
      ⟨"TARGET", 0, 32, .rw, none, .rng 0 2516582400⟩]⟩,
    ⟨0x18, "POS_SLEW", [
      ⟨"SLEW", 0, 32, .rw, none, .any⟩]⟩,
    ⟨0x1c, "POS_RATENOW", [
      ⟨"RATE", 0, 32, .ro, some 0, .any⟩]⟩,
    ⟨0x20, "POS_LINECFG", [
      ⟨"PHOFS", 0, 16, .rws, none, .any⟩,
      ⟨"HOLDC", 16, 4, .rws, none, .any⟩]⟩,
    ⟨0x24, "POS_ANGCFG", [
      ⟨"GAPR", 0, 6, .rws, none, .rng 20 63⟩,
      ⟨"SYNCN", 8, 2, .rws, none, .any⟩,
      ⟨"STALL", 16, 10, .rws, none, .rng 1 1000⟩,
      ⟨"CAMPOL", 26, 1, .rws, none, .any⟩]⟩,
    ⟨0x28, "POS_ENCCFG", [
      ⟨"EFILT", 0, 4, .rws, none, .any⟩,
      ⟨"EDIR", 4, 1, .rws, none, .any⟩,
      ⟨"ZEN", 5, 1, .rws, none, .any⟩,
      ⟨"ENCMOD", 8, 24, .rws, none, .any⟩]⟩,
    ⟨0x2c, "POS_STATUS", [
      ⟨"STATE", 0, 2, .ro, some 0, .any⟩,
      ⟨"RSRC", 4, 3, .ro, some 0, .any⟩]⟩] ++
  [
    ⟨0x30, "POS_EVENT", [
      ⟨"LOCK", 0, 1, .rw1c, some 0, .any⟩,
      ⟨"LOST", 1, 1, .rw1c, some 0, .any⟩,
      ⟨"JUMP", 2, 1, .rw1c, some 0, .any⟩,
      ⟨"QERR", 3, 1, .rw1c, some 0, .any⟩,
      ⟨"WHEELBAD", 4, 1, .rw1c, some 0, .any⟩,
      ⟨"OVERSPEED", 5, 1, .rw1c, some 0, .any⟩,
      ⟨"NOROOT", 6, 1, .rw1c, some 0, .any⟩,
      ⟨"CLAMPED", 7, 1, .rw1c, some 0, .any⟩,
      ⟨"REFUSED", 8, 1, .rw1c, some 0, .any⟩,
      ⟨"CMPREFUSED", 9, 1, .rw1c, some 0, .any⟩]⟩,
    ⟨0x34, "POS_PERIOD", [
      ⟨"PERIOD", 0, 32, .ro, some 0, .any⟩]⟩,
    ⟨0x38, "POS_QERRCNT", [
      ⟨"QERR", 0, 16, .ro, some 0, .any⟩,
      ⟨"JUMPS", 16, 16, .ro, some 0, .any⟩]⟩,
    ⟨0x3c, "POS_CMPCLAIM", [
      ⟨"UNIT", 0, 6, .wo, some 0, .any⟩,
      ⟨"OWNER", 8, 3, .wo, some 0, .rng 1 5⟩,
      ⟨"FRET", 16, 6, .wo, some 0, .rng 0 47⟩,
      ⟨"REL", 31, 1, .wo, some 0, .any⟩]⟩]

/-- Registers of the set "tpo", R183 of 05_position_axes.md. -/
def tpoRows : List RegRow :=
  [
    ⟨0x0, "POS_TPOk", [
      ⟨"WHEEL", 0, 4, .rw, none, .any⟩,
      ⟨"EN", 31, 1, .rw, none, .any⟩]⟩]

/-- Registers of the set "cmp", R184 of 05_position_axes.md. -/
def cmpRows : List RegRow :=
  [
    ⟨0x0, "CMP_VALLO", [
      ⟨"VALUE", 0, 32, .rw, none, .any⟩]⟩,
    ⟨0x4, "CMP_VALHI", [
      ⟨"VALUE", 0, 16, .rw, none, .any⟩]⟩,
    ⟨0x8, "CMP_CFG", [
      ⟨"WIDTH", 0, 16, .rw, none, .rng 1 65535⟩,
      ⟨"MOD", 16, 1, .rw, none, .any⟩,
      ⟨"DIR", 17, 2, .rw, none, .rng 0 2⟩,
      ⟨"ACT", 19, 3, .rw, none, .rng 0 4⟩,
      ⟨"OWNER", 22, 3, .ro, none, .any⟩,
      ⟨"FRET", 25, 6, .ro, none, .any⟩]⟩,
    ⟨0xc, "CMP_STAT", [
      ⟨"OUT", 0, 1, .ro, some 0, .any⟩,
      ⟨"FIRED", 1, 1, .rw1c, some 0, .any⟩,
      ⟨"JUMPED", 2, 1, .rw1c, some 0, .any⟩]⟩]

/-- Registers of the set "wheel", R177 of 05_position_axes.md. -/
def wheelRows : List RegRow :=
  [
    ⟨0x0, "wheel word 0", [
      ⟨"ZPOS", 0, 9, .rws, some 2, .dyn⟩,
      ⟨"CYC2", 9, 1, .rws, none, .any⟩,
      ⟨"DUTY", 10, 8, .rws, none, .rng 1 255⟩,
      ⟨"POL", 18, 1, .rws, none, .any⟩]⟩,
    ⟨0x4, "wheel word 1", [
      ⟨"OFFSET", 0, 17, .rws, none, .dyn⟩]⟩]

/-- Registers of the set "step", R209 of 06_step_engine.md. -/
def stepRows : List RegRow :=
  [
    ⟨0x0, "STEP_CTL", [
      ⟨"ARM", 0, 1, .rw, some 0, .any⟩]⟩,
    ⟨0x4, "STEP_STATUS", [
      ⟨"ACTIVE", 0, 7, .ro, some 0, .any⟩,
      ⟨"ARMED", 16, 1, .ro, some 0, .any⟩]⟩,
    ⟨0x8, "STEP_EVENT", [
      ⟨"CLAMPED", 0, 1, .rw1c, some 0, .any⟩,
      ⟨"REFUSED", 1, 1, .rw1c, some 0, .any⟩,
      ⟨"DEFER", 2, 1, .rw1c, some 0, .any⟩,
      ⟨"RETRY", 3, 1, .rw1c, some 0, .any⟩,
      ⟨"ECC", 4, 1, .rw1c, some 0, .any⟩,
      ⟨"CAPREF", 5, 1, .rw1c, some 0, .any⟩]⟩,
    ⟨0xc, "STEP_DEFCNT", [
      ⟨"COUNT", 0, 32, .ro, some 0, .any⟩]⟩,
    ⟨0x10, "STEP_LASTDEF", [
      ⟨"CTX", 0, 14, .ro, some 0, .any⟩,
      ⟨"CAUSE", 16, 7, .ro, some 0, .any⟩,
      ⟨"VERDICT", 23, 1, .ro, some 0, .any⟩]⟩,
    ⟨0x20, "STEP_START", [
      ⟨"LIST", 0, 8, .wo, some 0, .any⟩,
      ⟨"ARM", 30, 1, .wo, some 0, .any⟩,
      ⟨"GO", 31, 1, .wo, some 0, .any⟩]⟩,
    ⟨0x24, "STEP_STOP", [
      ⟨"LIST", 0, 8, .wo, some 0, .any⟩,
      ⟨"ABORT", 30, 1, .wo, some 0, .any⟩,
      ⟨"GO", 31, 1, .wo, some 0, .any⟩]⟩,
    ⟨0x30, "STEP_POOLBASE", [
      ⟨"BASE", 0, 32, .ro, none, .any⟩]⟩,
    ⟨0x34, "STEP_POOLSIZE", [
      ⟨"SIZE", 0, 21, .ro, none, .any⟩]⟩]

/-- Registers of the set "stepl", R209 of 06_step_engine.md. -/
def steplRows : List RegRow :=
  [
    ⟨0x0, "STEP_LDESC", [
      ⟨"FIRST", 0, 14, .rws, none, .any⟩,
      ⟨"TRIG", 16, 3, .rws, none, .any⟩,
      ⟨"EN", 31, 1, .rw, none, .any⟩]⟩,
    ⟨0x4, "STEP_LTRIG", [
      ⟨"TRIGARG", 0, 16, .rws, none, .dyn⟩,
      ⟨"REPEAT", 16, 16, .rws, none, .any⟩]⟩,
    ⟨0x8, "STEP_LSTAT", [
      ⟨"STATE", 0, 2, .ro, some 0, .any⟩,
      ⟨"ITER", 16, 16, .ro, some 0, .any⟩]⟩,
    ⟨0xc, "STEP_LCUR", [
      ⟨"CTX", 0, 14, .ro, some 0, .any⟩,
      ⟨"MISSED", 16, 16, .ro, some 0, .any⟩]⟩]

/-- Registers of the set "stepact", R209 of 06_step_engine.md. -/
def stepactRows : List RegRow :=
  [
    ⟨0x0, "STEP_ACT", [
      ⟨"CTX", 0, 14, .ro, some 0, .any⟩,
      ⟨"LIST", 14, 8, .ro, some 0, .any⟩,
      ⟨"VALID", 31, 1, .ro, some 0, .any⟩]⟩]

/-- Registers of the set "resq", R210 of 06_step_engine.md. -/
def resqRows : List RegRow :=
  [
    ⟨0x0, "RESQ_BASELO", [
      ⟨"BASE", 12, 20, .rws, none, .any⟩]⟩,
    ⟨0x4, "RESQ_BASEHI", [
      ⟨"BASE", 0, 4, .rws, none, .dyn⟩]⟩,
    ⟨0x8, "RESQ_SIZE", [
      ⟨"SIZE", 0, 5, .rws, none, .rng 12 24⟩]⟩,
    ⟨0xc, "RESQ_CTL", [
      ⟨"EN", 0, 1, .rw, none, .any⟩,
      ⟨"CONS", 1, 1, .rws, none, .any⟩,
      ⟨"FRET", 2, 6, .rws, none, .rng 0 47⟩]⟩,
    ⟨0x10, "RESQ_WRSEQ", [
      ⟨"SEQ", 0, 32, .ro, some 0, .any⟩]⟩,
    ⟨0x14, "RESQ_RDSEQ", [
      ⟨"SEQ", 0, 32, .rw, some 0, .dyn⟩]⟩,
    ⟨0x18, "RESQ_RESV", [
      ⟨"RESV", 0, 25, .ro, some 0, .any⟩]⟩,
    ⟨0x1c, "RESQ_FREE", [
      ⟨"FREE", 0, 25, .ro, some 0, .any⟩]⟩,
    ⟨0x20, "RESQ_STAT", [
      ⟨"WAITING", 0, 1, .ro, some 0, .any⟩,
      ⟨"HDRM", 1, 1, .ro, some 0, .any⟩,
      ⟨"RLOSTSEEN", 8, 1, .rw1c, some 0, .any⟩,
      ⟨"CLAMPED", 9, 1, .rw1c, some 0, .any⟩,
      ⟨"REFUSED", 10, 1, .rw1c, some 0, .any⟩]⟩,
    ⟨0x24, "RESQ_IRQ", [
      ⟨"THRESH", 0, 25, .rw, none, .rng 1 16777216⟩,
      ⟨"IEN", 31, 1, .rw, none, .any⟩]⟩,
    ⟨0x28, "RESQ_RLOST", [
      ⟨"COUNT", 0, 32, .ro, some 0, .any⟩]⟩]

end Sys2Proof.Machine
end

