-- ==== Sys2Proof/Machine/RegTabB.lean ====
section
/-!
DEFINITION. The register tables of MATRIX, CHORD, DDR, HOSTIF, FABCFG, CH, FILT, PIN, BUS and of the context, profile, wheel and template stores (R9), field by field.
-/

namespace Sys2Proof.Machine

/-- Registers of the set "matrix", R120 of 03_bridge_matrix_and_tiles.md. -/
def matrixRows : List RegRow :=
  [
    ⟨0x0, "MATRIX_STATUS", [
      ⟨"SPARE_FREE", 0, 2, .ro, some 3, .any⟩]⟩,
    ⟨0x4, "MATRIX_EVENT", [
      ⟨"CLAMPED", 0, 1, .rw1c, some 0, .any⟩,
      ⟨"REFUSED", 1, 1, .rw1c, some 0, .any⟩,
      ⟨"OVERCURRENT", 2, 1, .rw1c, some 0, .any⟩,
      ⟨"SUBSTITUTED", 3, 1, .rw1c, some 0, .any⟩,
      ⟨"BUSRETIRED", 4, 1, .rw1c, some 0, .any⟩,
      ⟨"RMUDONE", 5, 1, .rw1c, some 0, .any⟩]⟩,
    ⟨0x10, "MATRIX_CMD", [
      ⟨"NODE", 0, 12, .wo, some 0, .rng 0 1320⟩,
      ⟨"BUS", 12, 5, .wo, some 0, .any⟩,
      ⟨"CLOSE", 24, 1, .wo, some 0, .any⟩]⟩,
    ⟨0x14, "MATRIX_HOSTBUS", [
      ⟨"CLAIM", 0, 32, .rw, some 0, .any⟩]⟩,
    ⟨0x18, "MATRIX_BUSOPEN", [
      ⟨"OPEN", 0, 32, .w1s, some 0, .any⟩]⟩,
    ⟨0x1c, "MATRIX_BUSREL", [
      ⟨"REL", 0, 32, .wo, some 0, .any⟩]⟩,
    ⟨0x20, "MATRIX_HOSTCAT0", [
      ⟨"CLAIM", 0, 32, .rw, some 0, .any⟩]⟩,
    ⟨0x24, "MATRIX_HOSTCAT1", [
      ⟨"CLAIM", 0, 32, .rw, some 0, .any⟩]⟩,
    ⟨0x28, "MATRIX_HOSTDEV", [
      ⟨"RMU", 0, 4, .rw, some 0, .any⟩,
      ⟨"XIO", 8, 8, .rw, some 0, .any⟩,
      ⟨"GUARD", 16, 8, .rw, some 0, .any⟩]⟩]

/-- Registers of the set "busstat", R120 of 03_bridge_matrix_and_tiles.md. -/
def busstatRows : List RegRow :=
  [
    ⟨0x0, "MATRIX_BUSSTAT", [
      ⟨"TAPS", 0, 6, .ro, some 0, .any⟩,
      ⟨"PORTS", 8, 4, .ro, some 0, .any⟩,
      ⟨"PHYS", 12, 6, .ro, some 0, .any⟩,
      ⟨"OWNER", 18, 2, .ro, some 0, .any⟩,
      ⟨"HELDOPEN", 20, 1, .ro, some 0, .any⟩,
      ⟨"RETIRED", 21, 1, .ro, some 0, .any⟩]⟩]

/-- Registers of the set "busctx", R120 of 03_bridge_matrix_and_tiles.md. -/
def busctxRows : List RegRow :=
  [
    ⟨0x0, "MATRIX_BUSCTX", [
      ⟨"CTX", 0, 14, .ro, some 0, .any⟩]⟩]

/-- Registers of the set "ldesc", R120 of 03_bridge_matrix_and_tiles.md. -/
def ldescRows : List RegRow :=
  [
    ⟨0x0, "MATRIX_LDESC", [
      ⟨"START", 0, 13, .rws, none, .any⟩,
      ⟨"COUNT", 16, 7, .rws, some 0, .dyn⟩]⟩]

/-- Registers of the set "lent", R120 of 03_bridge_matrix_and_tiles.md. -/
def lentRows : List RegRow :=
  [
    ⟨0x0, "MATRIX_LENT", [
      ⟨"NODE", 0, 12, .rws, none, .rng 0 1320⟩,
      ⟨"BUS", 12, 5, .rws, none, .any⟩,
      ⟨"BBM", 17, 1, .rws, none, .any⟩]⟩]

/-- Registers of the set "cat", R121 of 03_bridge_matrix_and_tiles.md. -/
def catRows : List RegRow :=
  [
    ⟨0x0, "CAT_TOPO", [
      ⟨"TOPO", 0, 3, .rws, none, .rng 0 5⟩,
      ⟨"GAIN", 4, 4, .rws, none, .rng 0 9⟩,
      ⟨"IRST", 31, 1, .rw, some 0, .any⟩]⟩,
    ⟨0x4, "CAT_RES", [
      ⟨"MANT", 0, 10, .rws, none, .rng 1 1000⟩,
      ⟨"DEC", 12, 2, .rws, none, .any⟩]⟩,
    ⟨0x8, "CAT_CAP", [
      ⟨"CA", 0, 9, .rws, none, .rng 1 256⟩,
      ⟨"CB", 16, 9, .rws, none, .rng 1 256⟩]⟩,
    ⟨0xc, "CAT_CMP0", [
      ⟨"THR", 0, 16, .rws, none, .srng (-30000) 30000⟩,
      ⟨"HYST", 16, 10, .rws, none, .rng 0 1000⟩,
      ⟨"SRC", 26, 2, .rws, none, .rng 0 2⟩]⟩,
    ⟨0x10, "CAT_CMP1", [
      ⟨"THR", 0, 16, .rws, none, .srng (-30000) 30000⟩,
      ⟨"HYST", 16, 10, .rws, none, .rng 0 1000⟩,
      ⟨"SRC", 26, 2, .rws, none, .rng 0 2⟩]⟩,
    ⟨0x14, "CAT_STATUS", [
      ⟨"CMP0", 0, 1, .ro, some 0, .any⟩,
      ⟨"CMP1", 1, 1, .ro, some 0, .any⟩,
      ⟨"SAT", 2, 1, .ro, some 0, .any⟩]⟩]

/-- Registers of the set "rmu", R122 of 03_bridge_matrix_and_tiles.md. -/
def rmuRows : List RegRow :=
  [
    ⟨0x0, "RMU_FUNC", [
      ⟨"FUNC", 0, 2, .rws, none, .any⟩,
      ⟨"RANGE", 4, 3, .rws, some 0, .dyn⟩,
      ⟨"AZERO", 8, 1, .rws, none, .any⟩,
      ⟨"LOREF", 9, 1, .rws, none, .any⟩]⟩,
    ⟨0x4, "RMU_ITIME", [
      ⟨"IMODE", 0, 1, .rws, none, .any⟩,
      ⟨"AXIS", 1, 2, .rws, none, .any⟩,
      ⟨"NPLC", 4, 10, .rws, none, .rng 1 1000⟩]⟩,
    ⟨0x8, "RMU_WIN", [
      ⟨"ITS", 0, 26, .rws, none, .rng 205 40960000⟩]⟩,
    ⟨0xc, "RMU_PHASE", [
      ⟨"PHASE", 0, 16, .rws, none, .any⟩,
      ⟨"PHEN", 31, 1, .rws, none, .any⟩]⟩,
    ⟨0x10, "RMU_TRANS", [
      ⟨"RTRANS", 0, 32, .rws, none, .any⟩]⟩,
    ⟨0x14, "RMU_STATUS", [
      ⟨"BUSY", 0, 1, .ro, some 0, .any⟩,
      ⟨"NOLINE", 1, 1, .ro, some 0, .any⟩,
      ⟨"OVR", 2, 1, .ro, some 0, .any⟩,
      ⟨"RETIRED", 3, 1, .ro, some 0, .any⟩]⟩,
    ⟨0x18, "RMU_READING", [
      ⟨"VALUE", 0, 24, .ro, some 0, .any⟩]⟩,
    ⟨0x1c, "RMU_CMD", [
      ⟨"START", 0, 1, .wo, some 0, .any⟩]⟩]

/-- Registers of the set "chord", R497 of 17_chord_link.md. -/
def chordRows : List RegRow :=
  [
    ⟨0x0, "CHORD_STATUS", [
      ⟨"STATE", 0, 3, .ro, some 0, .any⟩,
      ⟨"DEPTH", 4, 4, .ro, some 0, .any⟩,
      ⟨"ID", 8, 11, .ro, some 2047, .any⟩]⟩,
    ⟨0x4, "CHORD_EVENT", [
      ⟨"ALIGNED", 0, 1, .rw1c, some 0, .any⟩,
      ⟨"UNALIGNED", 1, 1, .rw1c, some 0, .any⟩,
      ⟨"PORTDOWN", 2, 1, .rw1c, some 0, .any⟩,
      ⟨"PORTUP", 3, 1, .rw1c, some 0, .any⟩,
      ⟨"JOINREF", 4, 1, .rw1c, some 0, .any⟩,
      ⟨"LATE", 5, 1, .rw1c, some 0, .any⟩,
      ⟨"NOTARMED", 6, 1, .rw1c, some 0, .any⟩,
      ⟨"FAR", 7, 1, .rw1c, some 0, .any⟩,
      ⟨"WAKEIN", 8, 1, .rw1c, some 0, .any⟩,
      ⟨"REFUSED", 9, 1, .rw1c, some 0, .any⟩,
      ⟨"CLAMPED", 10, 1, .rw1c, some 0, .any⟩]⟩,
    ⟨0x8, "CHORD_CFG", [
      ⟨"LEAD", 0, 11, .rw, none, .rng 16 1024⟩,
      ⟨"LOSSSAFE", 16, 1, .rw, none, .any⟩,
      ⟨"WAKEOUT", 17, 1, .rw, none, .any⟩]⟩,
    ⟨0xc, "CHORD_CTL", [
      ⟨"ENUM", 0, 1, .wo, some 0, .any⟩,
      ⟨"CLRORIG", 1, 1, .wo, some 0, .any⟩]⟩,
    ⟨0x10, "CHORD_SEND", [
      ⟨"LIST", 0, 8, .wo, some 0, .any⟩,
      ⟨"DEST", 8, 11, .wo, some 0, .any⟩,
      ⟨"GO", 31, 1, .wo, some 0, .any⟩]⟩,
    ⟨0x14, "CHORD_SEDGELO", [
      ⟨"SEDGE", 0, 32, .ro, some 0, .any⟩]⟩,
    ⟨0x18, "CHORD_SEDGEHI", [
      ⟨"SEDGE", 0, 16, .ro, some 0, .any⟩]⟩,
    ⟨0x1c, "CHORD_ALIGN", [
      ⟨"PHERR", 0, 16, .ro, some 0, .any⟩,
      ⟨"L", 16, 11, .ro, some 0, .any⟩]⟩,
    ⟨0x20, "CHORD_RLAT", [
      ⟨"LAT", 0, 24, .ro, some 0, .any⟩]⟩,
    ⟨0x24, "CHORD_ORIG", [
      ⟨"COUNT", 0, 11, .ro, some 0, .any⟩,
      ⟨"LOWEST", 16, 11, .ro, some 2047, .any⟩]⟩,
    ⟨0x28, "CHORD_DEVCNT", [
      ⟨"COUNT", 0, 11, .ro, some 1, .any⟩]⟩]

/-- Registers of the set "cport", R497 of 17_chord_link.md. -/
def cportRows : List RegRow :=
  [
    ⟨0x0, "CHORD_PSTAT", [
      ⟨"LINK", 0, 2, .ro, some 0, .any⟩,
      ⟨"LOSSES", 16, 16, .ro, some 0, .any⟩]⟩,
    ⟨0x4, "CHORD_PLAT", [
      ⟨"LAT", 0, 20, .ro, some 0, .any⟩]⟩,
    ⟨0x8, "CHORD_PASYM", [
      ⟨"ASYM", 0, 16, .rw, none, .srng (-1000) 1000⟩]⟩,
    ⟨0xc, "CHORD_PCNT", [
      ⟨"BADHDR", 0, 16, .ro, some 0, .any⟩,
      ⟨"BADCRC", 16, 16, .ro, some 0, .any⟩]⟩]

/-- Registers of the set "ctok", R497 of 17_chord_link.md. -/
def ctokRows : List RegRow :=
  [
    ⟨0x0, "CHORD_TOKEN", [
      ⟨"CAPO", 0, 2, .ro, some 0, .any⟩,
      ⟨"ALIGNED", 2, 1, .ro, some 0, .any⟩,
      ⟨"VALID", 3, 1, .ro, some 0, .any⟩,
      ⟨"RUN", 8, 8, .ro, some 0, .any⟩,
      ⟨"CNTP", 16, 16, .ro, some 0, .any⟩]⟩]

/-- Registers of the set "ddr", R477 of 16_memory_and_host.md. -/
def ddrRows : List RegRow :=
  [
    ⟨0x0, "DDR_STATUS", [
      ⟨"TRAINED", 0, 1, .ro, some 0, .any⟩,
      ⟨"SELFREF", 1, 1, .ro, some 0, .any⟩,
      ⟨"ORG", 2, 4, .ro, some 0, .any⟩,
      ⟨"CAPGIB", 8, 7, .ro, some 0, .any⟩]⟩,
    ⟨0x4, "DDR_EVENT", [
      ⟨"CE", 0, 1, .rw1c, some 0, .any⟩,
      ⟨"UE", 1, 1, .rw1c, some 0, .any⟩,
      ⟨"TRAINFAIL", 2, 1, .rw1c, some 0, .any⟩,
      ⟨"CLAMPED", 3, 1, .rw1c, some 0, .any⟩,
      ⟨"REFUSED", 4, 1, .rw1c, some 0, .any⟩,
      ⟨"KINDERR", 5, 1, .rw1c, some 0, .any⟩]⟩,
    ⟨0x8, "DDR_CECNT", [
      ⟨"COUNT", 0, 32, .ro, some 0, .any⟩]⟩,
    ⟨0xc, "DDR_UECNT", [
      ⟨"COUNT", 0, 32, .ro, some 0, .any⟩]⟩,
    ⟨0x10, "DDR_UEADDR", [
      ⟨"ADDR", 0, 32, .ro, some 0, .any⟩]⟩,
    ⟨0x14, "DDR_SCRUB", [
      ⟨"PASSES", 0, 16, .ro, some 0, .any⟩]⟩,
    ⟨0x18, "DDR_RAWCH", [
      ⟨"COUNT", 0, 10, .ro, some 0, .any⟩]⟩]

/-- Registers of the set "cb", R477 of 16_memory_and_host.md. -/
def cbRows : List RegRow :=
  [
    ⟨0x0, "DDR_CBBASE", [
      ⟨"BASE", 0, 24, .rws, none, .dyn⟩]⟩,
    ⟨0x4, "DDR_CBCFG", [
      ⟨"SIZE", 0, 24, .rws, some 1, .dyn⟩,
      ⟨"KIND", 24, 2, .rws, none, .dyn⟩,
      ⟨"MODE", 26, 1, .rws, none, .dyn⟩,
      ⟨"AXIS", 28, 2, .rws, none, .dyn⟩,
      ⟨"EN", 31, 1, .rw, none, .any⟩]⟩,
    ⟨0x8, "DDR_CBPART", [
      ⟨"ISIZE", 0, 16, .rws, some 1, .dyn⟩,
      ⟨"NPART", 16, 10, .rws, some 1, .dyn⟩]⟩,
    ⟨0xc, "DDR_CBWR", [
      ⟨"COUNT", 0, 32, .ro, some 0, .any⟩]⟩,
    ⟨0x10, "DDR_CBWRHI", [
      ⟨"COUNT", 0, 16, .ro, some 0, .any⟩]⟩,
    ⟨0x14, "DDR_CBSTAT", [
      ⟨"FULL", 0, 1, .ro, some 0, .any⟩,
      ⟨"OPEN", 1, 10, .ro, some 0, .any⟩]⟩,
    ⟨0x18, "DDR_CBDROP", [
      ⟨"COUNT", 0, 32, .ro, some 0, .any⟩]⟩,
    ⟨0x1c, "DDR_CBCTL", [
      ⟨"RESET", 0, 1, .wo, some 0, .any⟩]⟩]

/-- Registers of the set "hostif", R478 of 16_memory_and_host.md. -/
def hostifRows : List RegRow :=
  [
    ⟨0x0, "HOSTIF_STATUS", [
      ⟨"LINKUP", 0, 1, .ro, some 0, .any⟩,
      ⟨"SPEED", 1, 2, .ro, some 0, .any⟩,
      ⟨"WIDTH", 3, 3, .ro, some 0, .any⟩,
      ⟨"MSIXEN", 6, 1, .ro, some 0, .any⟩]⟩,
    ⟨0x4, "HOSTIF_EVENT", [
      ⟨"PARTIAL", 0, 1, .rw1c, some 0, .any⟩,
      ⟨"NOACC", 1, 1, .rw1c, some 0, .any⟩,
      ⟨"PROTECT", 2, 1, .rw1c, some 0, .any⟩,
      ⟨"LINKDOWN", 3, 1, .rw1c, some 0, .any⟩,
      ⟨"FLR", 4, 1, .rw1c, some 0, .any⟩,
      ⟨"REFUSED", 5, 1, .rw1c, some 0, .any⟩,
      ⟨"CLAMPED", 6, 1, .rw1c, some 0, .any⟩]⟩,
    ⟨0x8, "HOSTIF_BADWR", [
      ⟨"COUNT", 0, 32, .ro, some 0, .any⟩]⟩,
    ⟨0xc, "HOSTIF_BAR2BASE", [
      ⟨"BASE", 0, 16, .rw, some 0, .dyn⟩]⟩,
    ⟨0x10, "HOSTIF_VEN0", [
      ⟨"EN", 0, 32, .rw, some 0, .any⟩]⟩,
    ⟨0x14, "HOSTIF_VEN1", [
      ⟨"EN", 0, 32, .rw, some 0, .any⟩]⟩,
    ⟨0x40, "HOSTIF_FLOP", [
      ⟨"OP", 0, 2, .wo, some 0, .rng 0 2⟩,
      ⟨"GO", 31, 1, .wo, some 0, .any⟩]⟩,
    ⟨0x44, "HOSTIF_FLOFS", [
      ⟨"OFS", 0, 28, .rw, some 0, .any⟩]⟩,
    ⟨0x48, "HOSTIF_FLLEN", [
      ⟨"LEN", 0, 25, .rw, some 0, .rng 4 16777216⟩]⟩,
    ⟨0x4c, "HOSTIF_FLDDR", [
      ⟨"ADDR", 0, 32, .rw, some 0, .any⟩]⟩,
    ⟨0x50, "HOSTIF_FLSTAT", [
      ⟨"BUSY", 0, 1, .ro, some 0, .any⟩,
      ⟨"RESULT", 1, 2, .ro, some 0, .any⟩]⟩]

/-- Registers of the set "hq", R478 of 16_memory_and_host.md. -/
def hqRows : List RegRow :=
  [
    ⟨0x0, "HOSTIF_QHBLO", [
      ⟨"HBASE", 0, 32, .rw, some 0, .any⟩]⟩,
    ⟨0x4, "HOSTIF_QHBHI", [
      ⟨"HBASE", 0, 32, .rw, some 0, .any⟩]⟩,
    ⟨0x8, "HOSTIF_QWBLO", [
      ⟨"WB", 0, 32, .rw, some 0, .any⟩]⟩,
    ⟨0xc, "HOSTIF_QWBHI", [
      ⟨"WB", 0, 32, .rw, some 0, .any⟩]⟩,
    ⟨0x10, "HOSTIF_QDMA", [
      ⟨"EN", 0, 1, .rw, some 0, .any⟩]⟩]

/-- Registers of the set "hd", R478 of 16_memory_and_host.md. -/
def hdRows : List RegRow :=
  [
    ⟨0x0, "HOSTIF_DDDR", [
      ⟨"ADDR", 0, 32, .rw, some 0, .any⟩]⟩,
    ⟨0x4, "HOSTIF_DHLO", [
      ⟨"HADDR", 0, 32, .rw, some 0, .any⟩]⟩,
    ⟨0x8, "HOSTIF_DHHI", [
      ⟨"HADDR", 0, 32, .rw, some 0, .any⟩]⟩,
    ⟨0xc, "HOSTIF_DLEN", [
      ⟨"LEN", 0, 32, .rw, some 0, .rng 8 4294967288⟩]⟩,
    ⟨0x10, "HOSTIF_DCTL", [
      ⟨"DIR", 0, 1, .rw, some 0, .any⟩,
      ⟨"GO", 31, 1, .wo, some 0, .any⟩]⟩,
    ⟨0x14, "HOSTIF_DSTAT", [
      ⟨"BUSY", 0, 1, .ro, some 0, .any⟩,
      ⟨"STAT", 1, 2, .ro, some 0, .any⟩]⟩]

/-- Registers of the set "fabcfg", R299 of 09_fabric_regions.md. -/
def fabcfgRows : List RegRow :=
  [
    ⟨0x0, "FABCFG_STATUS", [
      ⟨"LOADER", 0, 2, .ro, some 0, .any⟩,
      ⟨"CURFRET", 8, 6, .ro, some 0, .any⟩,
      ⟨"QCOUNT", 16, 6, .ro, some 0, .any⟩,
      ⟨"GSR", 24, 1, .ro, some 0, .any⟩,
      ⟨"ENWR", 25, 1, .ro, some 0, .any⟩]⟩,
    ⟨0x4, "FABCFG_EVENT", [
      ⟨"CLAMPED", 0, 1, .rw1c, some 0, .any⟩,
      ⟨"REFUSED", 1, 1, .rw1c, some 0, .any⟩,
      ⟨"REPLACED", 2, 1, .rw1c, some 0, .any⟩,
      ⟨"LOADOK", 3, 1, .rw1c, some 0, .any⟩,
      ⟨"LOADFAIL", 4, 1, .rw1c, some 0, .any⟩,
      ⟨"SHREF", 5, 1, .rw1c, some 0, .any⟩,
      ⟨"UNREACH", 6, 1, .rw1c, some 0, .any⟩,
      ⟨"FAULT", 7, 1, .rw1c, some 0, .any⟩]⟩,
    ⟨0x8, "FABCFG_LOAD", [
      ⟨"FRET", 0, 6, .wo, some 0, .rng 0 47⟩,
      ⟨"REGION", 8, 8, .wo, some 0, .rng 0 254⟩,
      ⟨"OP", 16, 2, .wo, some 0, .rng 0 2⟩,
      ⟨"GO", 31, 1, .wo, some 0, .any⟩]⟩,
    ⟨0xc, "FABCFG_SCRUB", [
      ⟨"PASSCNT", 0, 16, .ro, some 0, .any⟩,
      ⟨"PASSOK", 16, 1, .ro, some 0, .any⟩]⟩,
    ⟨0x10, "FABCFG_CACHEBASE", [
      ⟨"BASE", 0, 32, .ro, none, .any⟩]⟩,
    ⟨0x14, "FABCFG_CACHESIZE", [
      ⟨"SIZE", 0, 13, .ro, none, .any⟩]⟩,
    ⟨0x18, "FABCFG_CACHEUSE", [
      ⟨"USED", 0, 13, .ro, some 0, .any⟩,
      ⟨"PINNED", 16, 13, .ro, some 0, .any⟩]⟩]

/-- Registers of the set "fret", R300 of 09_fabric_regions.md. -/
def fretRows : List RegRow :=
  [
    ⟨0x0, "FABCFG_FSTAT", [
      ⟨"STATE", 0, 3, .ro, some 0, .any⟩,
      ⟨"REGION", 8, 8, .ro, some 255, .any⟩,
      ⟨"PENDREG", 16, 8, .ro, some 0, .any⟩,
      ⟨"PEND", 24, 1, .ro, some 0, .any⟩,
      ⟨"RETRY", 25, 1, .ro, some 0, .any⟩]⟩,
    ⟨0x4, "FABCFG_FRETRY", [
      ⟨"ATTEMPTS", 0, 16, .ro, some 0, .any⟩,
      ⟨"NEXT", 16, 10, .ro, some 0, .any⟩,
      ⟨"LASTERR", 28, 4, .ro, some 0, .any⟩]⟩,
    ⟨0x8, "FABCFG_FEVT", [
      ⟨"ESSUPSET", 0, 1, .rw1c, some 0, .any⟩,
      ⟨"LOADOK", 1, 1, .rw1c, some 0, .any⟩,
      ⟨"LOADFAIL", 2, 1, .rw1c, some 0, .any⟩,
      ⟨"FAULT", 3, 1, .rw1c, some 0, .any⟩]⟩,
    ⟨0xc, "FABCFG_FUPS", [
      ⟨"NONESS", 0, 16, .ro, some 0, .any⟩,
      ⟨"ESS", 16, 16, .ro, some 0, .any⟩]⟩,
    ⟨0x10, "FABCFG_FCFG", [
      ⟨"UPSETACT", 0, 1, .ro, none, .any⟩,
      ⟨"RELDLY", 16, 10, .ro, none, .any⟩]⟩,
    ⟨0x14, "FABCFG_FEVCFG", [
      ⟨"AXIS", 0, 2, .rw, none, .any⟩,
      ⟨"TYPEEN", 2, 5, .rw, none, .any⟩,
      ⟨"CHLO", 8, 10, .rw, none, .any⟩,
      ⟨"CHHI", 18, 10, .rw, none, .dyn⟩]⟩,
    ⟨0x18, "FABCFG_FEVSTAT", [
      ⟨"FILL", 0, 11, .ro, some 0, .any⟩,
      ⟨"DROPS", 16, 16, .ro, some 0, .any⟩]⟩,
    ⟨0x1c, "FABCFG_FGRANT", [
      ⟨"RATEAX", 0, 4, .rw, none, .any⟩,
      ⟨"STEP", 4, 1, .rw, none, .any⟩,
      ⟨"PIN", 5, 1, .rw, none, .any⟩]⟩]

/-- Registers of the set "xin", R301 of 09_fabric_regions.md. -/
def xinRows : List RegRow :=
  [
    ⟨0x0, "FABCFG_XIN", [
      ⟨"SRCFRET", 0, 6, .rw, none, .rng 0 47⟩,
      ⟨"SIG", 8, 8, .rw, none, .any⟩,
      ⟨"EN", 31, 1, .rw, none, .any⟩]⟩]

/-- Registers of the set "catalog", R279 of 09_fabric_regions.md. -/
def catalogRows : List RegRow :=
  [
    ⟨0x0, "catalogue word 0", [
      ⟨"FRET", 0, 6, .ro, none, .rng 0 47⟩,
      ⟨"VALID", 7, 1, .ro, none, .any⟩,
      ⟨"AUTO", 8, 1, .ro, none, .any⟩,
      ⟨"UPSETACT", 9, 1, .ro, none, .any⟩,
      ⟨"RELDLY", 16, 10, .ro, none, .any⟩]⟩,
    ⟨0x4, "catalogue word 1", [
      ⟨"FLOFS", 0, 14, .ro, none, .rng 0 12287⟩]⟩,
    ⟨0x8, "catalogue word 2", [
      ⟨"LEN", 0, 26, .ro, some 1, .dyn⟩]⟩]

/-- Registers of the set "ch", R82 of 02_channel_cell.md. -/
def chRows : List RegRow :=
  [
    ⟨0x0, "CH_MODE", [
      ⟨"MODE", 0, 3, .rw, some 0, .rng 0 6⟩,
      ⟨"DDRV", 4, 1, .rw, none, .any⟩,
      ⟨"WKIND", 8, 1, .rw, none, .any⟩]⟩,
    ⟨0x4, "CH_RANGE", [
      ⟨"VRANGE", 0, 2, .rw, some 2, .rng 0 2⟩,
      ⟨"IRANGE", 4, 3, .rw, some 4, .rng 0 4⟩]⟩,
    ⟨0x8, "CH_FORCE", [
      ⟨"CODE", 0, 18, .rw, some 0, .srng (-125000) 125000⟩]⟩,
    ⟨0xc, "CH_CLAMP", [
      ⟨"ICLAMP", 0, 16, .rw, some 50000, .rng 500 50000⟩,
      ⟨"VCLAMP", 16, 16, .rw, none, .rng 500 50000⟩]⟩,
    ⟨0x10, "CH_FOLD", [
      ⟨"FOLD_T", 0, 14, .rw, none, .rng 10 10000⟩,
      ⟨"FOLD_EN", 31, 1, .rw, none, .any⟩]⟩,
    ⟨0x14, "CH_DACRATE", [
      ⟨"DIV", 0, 13, .rw, none, .rng 1 4096⟩]⟩,
    ⟨0x18, "CH_QCTL", [
      ⟨"QMODE", 0, 2, .rws, none, .rng 0 2⟩,
      ⟨"QLEN", 16, 13, .rws, none, .rng 1 4096⟩,
      ⟨"RUN", 31, 1, .rw, some 0, .any⟩]⟩,
    ⟨0x1c, "CH_QWR", [
      ⟨"CODE", 0, 18, .wo, some 0, .srng (-125000) 125000⟩]⟩,
    ⟨0x20, "CH_QSTAT", [
      ⟨"FILL", 0, 13, .ro, some 0, .any⟩,
      ⟨"RDPTR", 16, 13, .ro, some 0, .any⟩,
      ⟨"UNDERRUN", 30, 1, .rw1c, some 0, .any⟩,
      ⟨"OVERFLOW", 31, 1, .rw1c, some 0, .any⟩]⟩,
    ⟨0x24, "CH_VOH", [
      ⟨"CODE", 0, 18, .rw, none, .srng (-125000) 125000⟩]⟩,
    ⟨0x28, "CH_VOL", [
      ⟨"CODE", 0, 18, .rw, none, .srng (-125000) 125000⟩]⟩,
    ⟨0x2c, "CH_VTH", [
      ⟨"VTHH", 0, 14, .rw, none, .srng (-7500) 7500⟩,
      ⟨"VTHL", 16, 14, .rw, none, .dyn⟩]⟩] ++
  [
    ⟨0x30, "CH_SAFE", [
      ⟨"SMODE", 0, 1, .rw, none, .any⟩,
      ⟨"SVRANGE", 4, 2, .rw, none, .rng 0 2⟩,
      ⟨"SIRANGE", 8, 3, .rw, none, .rng 0 4⟩,
      ⟨"SILIM", 16, 16, .rw, none, .rng 500 50000⟩]⟩,
    ⟨0x34, "CH_SAFECODE", [
      ⟨"SCODE", 0, 18, .rw, none, .srng (-125000) 125000⟩]⟩,
    ⟨0x38, "CH_STATUS", [
      ⟨"ACTIVE_SLICE", 0, 6, .ro, some 0, .any⟩,
      ⟨"COMPLIANCE", 8, 1, .ro, some 0, .any⟩,
      ⟨"FOLDED", 9, 1, .ro, some 0, .any⟩,
      ⟨"RANGING", 10, 1, .ro, some 0, .any⟩,
      ⟨"OVR", 11, 1, .ro, some 0, .any⟩,
      ⟨"CAPO", 12, 2, .ro, some 2, .any⟩,
      ⟨"REMAPPED", 14, 1, .ro, some 0, .any⟩,
      ⟨"RETIRED", 15, 1, .ro, some 0, .any⟩]⟩,
    ⟨0x3c, "CH_EVENT", [
      ⟨"COMPLIANCE_SEEN", 0, 1, .rw1c, some 0, .any⟩,
      ⟨"FOLD_SEEN", 1, 1, .rw1c, some 0, .any⟩,
      ⟨"OVR_SEEN", 2, 1, .rw1c, some 0, .any⟩,
      ⟨"CLAMPED", 3, 1, .rw1c, some 0, .any⟩,
      ⟨"REFUSED", 4, 1, .rw1c, some 0, .any⟩]⟩,
    ⟨0x40, "CH_PDISS", [
      ⟨"P", 0, 16, .ro, some 0, .any⟩]⟩,
    ⟨0x44, "CH_SAMPLE", [
      ⟨"RAW", 0, 20, .ro, some 0, .any⟩,
      ⟨"SIDEBAND", 24, 4, .ro, some 0, .any⟩]⟩]

/-- Registers of the set "filt", R156 of 04_filter_chain.md. -/
def filtRows : List RegRow :=
  [
    ⟨0x0, "FILT_CTL", [
      ⟨"PROF", 0, 8, .rws, none, .any⟩,
      ⟨"RUN", 31, 1, .rw, none, .any⟩]⟩,
    ⟨0x4, "FILT_STATUS", [
      ⟨"SAT", 0, 4, .ro, some 0, .any⟩,
      ⟨"RUNNING", 8, 1, .ro, some 0, .any⟩,
      ⟨"SETTLING", 9, 1, .ro, some 0, .any⟩,
      ⟨"THRONLY", 10, 1, .ro, some 0, .any⟩,
      ⟨"REMAPPED", 11, 1, .ro, some 0, .any⟩,
      ⟨"GDCLAMP", 12, 1, .ro, some 0, .any⟩]⟩,
    ⟨0x8, "FILT_EVENT", [
      ⟨"SAT_SEEN", 0, 1, .rw1c, some 0, .any⟩,
      ⟨"CLAMPED", 1, 1, .rw1c, some 0, .any⟩,
      ⟨"REFUSED", 2, 1, .rw1c, some 0, .any⟩,
      ⟨"THR0", 3, 1, .rw1c, some 0, .any⟩,
      ⟨"THR1", 4, 1, .rw1c, some 0, .any⟩]⟩,
    ⟨0xc, "FILT_GDLY", [
      ⟨"DELAY", 0, 30, .ro, some 0, .any⟩]⟩,
    ⟨0x10, "FILT_OUTLO", [
      ⟨"OUT", 0, 32, .ro, some 0, .any⟩]⟩,
    ⟨0x14, "FILT_OUTHI", [
      ⟨"OUT", 0, 32, .ro, some 0, .any⟩]⟩,
    ⟨0x18, "FILT_OUTFLG", [
      ⟨"SIDEBAND", 0, 4, .ro, some 0, .any⟩,
      ⟨"SAT", 4, 1, .ro, some 0, .any⟩]⟩,
    ⟨0x1c, "FILT_RATE", [
      ⟨"PERIOD", 0, 20, .ro, some 0, .any⟩]⟩,
    ⟨0x20, "FILT_THR0", [
      ⟨"LEVEL", 0, 32, .rw, none, .sgn⟩]⟩,
    ⟨0x24, "FILT_THR1", [
      ⟨"LEVEL", 0, 32, .rw, none, .sgn⟩]⟩,
    ⟨0x28, "FILT_THRCFG", [
      ⟨"HYST0", 0, 12, .rw, none, .any⟩,
      ⟨"DIR0", 12, 2, .rw, none, .rng 0 2⟩,
      ⟨"EN0", 14, 1, .rw, none, .any⟩,
      ⟨"HYST1", 16, 12, .rw, none, .any⟩,
      ⟨"DIR1", 28, 2, .rw, none, .rng 0 2⟩,
      ⟨"EN1", 30, 1, .rw, none, .any⟩]⟩,
    ⟨0x2c, "FILT_THRCNT", [
      ⟨"CNT0", 0, 16, .ro, some 0, .any⟩,
      ⟨"CNT1", 16, 16, .ro, some 0, .any⟩]⟩] ++
  [
    ⟨0x30, "FILT_THRSTAT", [
      ⟨"STATE0", 0, 1, .ro, some 0, .any⟩,
      ⟨"STATE1", 1, 1, .ro, some 0, .any⟩,
      ⟨"TAORD", 4, 3, .ro, some 0, .any⟩,
      ⟨"TADEC", 8, 13, .ro, some 0, .any⟩,
      ⟨"TSHA", 24, 5, .ro, some 0, .any⟩]⟩]

/-- Registers of the set "prof", R155 of 04_filter_chain.md. -/
def profRows : List RegRow :=
  [
    ⟨0x0, "word 0", [
      ⟨"AORD", 0, 3, .rws, none, .rng 1 5⟩,
      ⟨"BCNT", 4, 2, .rws, none, .any⟩,
      ⟨"DEN", 8, 2, .rws, none, .rng 0 2⟩,
      ⟨"CTAPS", 16, 8, .rws, some 0, .dyn⟩,
      ⟨"CDEC", 24, 5, .rws, some 1, .dyn⟩]⟩,
    ⟨0x4, "word 1", [
      ⟨"ADEC", 0, 13, .rws, none, .rng 2 4096⟩]⟩,
    ⟨0x8, "word 2", [
      ⟨"SHA", 0, 5, .rws, none, .any⟩,
      ⟨"SHB", 8, 5, .rws, none, .any⟩,
      ⟨"SHC", 16, 5, .rws, none, .any⟩,
      ⟨"SHD", 24, 5, .rws, none, .any⟩]⟩,
    ⟨0xc, "word 3", [
      ⟨"RMSWIN", 0, 24, .rws, none, .rng 1 16777215⟩,
      ⟨"RMSUNIT", 31, 1, .rws, none, .any⟩]⟩,
    ⟨0x10, "word 4", [
      ⟨"ATT", 0, 5, .rws, none, .rng 0 20⟩,
      ⟨"DECY", 8, 5, .rws, none, .rng 0 24⟩,
      ⟨"DSPAN", 16, 12, .rws, none, .any⟩]⟩,
    ⟨0x14, "word 5", [
      ⟨"CSCALE", 0, 3, .rws, none, .any⟩]⟩,
    ⟨0x20, "word 8", [
      ⟨"B0, B1, B2, A1, A2 of biquad 0", 0, 32, .rws, none, .sgn⟩]⟩,
    ⟨0x24, "word 9", [
      ⟨"B0, B1, B2, A1, A2 of biquad 0", 0, 32, .rws, none, .sgn⟩]⟩,
    ⟨0x28, "word 10", [
      ⟨"B0, B1, B2, A1, A2 of biquad 0", 0, 32, .rws, none, .sgn⟩]⟩,
    ⟨0x2c, "word 11", [
      ⟨"B0, B1, B2, A1, A2 of biquad 0", 0, 32, .rws, none, .sgn⟩]⟩,
    ⟨0x30, "word 12", [
      ⟨"B0, B1, B2, A1, A2 of biquad 0", 0, 32, .rws, none, .sgn⟩]⟩,
    ⟨0x34, "word 13", [
      ⟨"B0, B1, B2, A1, A2 of biquad 1", 0, 32, .rws, none, .sgn⟩]⟩] ++
  [
    ⟨0x38, "word 14", [
      ⟨"B0, B1, B2, A1, A2 of biquad 1", 0, 32, .rws, none, .sgn⟩]⟩,
    ⟨0x3c, "word 15", [
      ⟨"B0, B1, B2, A1, A2 of biquad 1", 0, 32, .rws, none, .sgn⟩]⟩,
    ⟨0x40, "word 16", [
      ⟨"B0, B1, B2, A1, A2 of biquad 1", 0, 32, .rws, none, .sgn⟩]⟩,
    ⟨0x44, "word 17", [
      ⟨"B0, B1, B2, A1, A2 of biquad 1", 0, 32, .rws, none, .sgn⟩]⟩]

/-- Registers of the set "pin", R268 of 08_pin_functions.md. -/
def pinRows : List RegRow :=
  [
    ⟨0x0, "PIN_SRC", [
      ⟨"GPIOEN", 0, 1, .rw, none, .any⟩,
      ⟨"FABEN", 1, 1, .rw, none, .any⟩,
      ⟨"AXEN", 2, 1, .rw, none, .any⟩,
      ⟨"BUSCNT", 8, 4, .ro, some 0, .any⟩,
      ⟨"OWN", 16, 2, .ro, some 0, .any⟩,
      ⟨"DORMANT", 18, 1, .ro, some 0, .any⟩,
      ⟨"WAKE", 19, 1, .ro, some 0, .any⟩]⟩,
    ⟨0x4, "PIN_FAB", [
      ⟨"FRET", 0, 6, .rw, none, .rng 0 47⟩,
      ⟨"SIG", 8, 8, .rw, none, .any⟩]⟩,
    ⟨0x8, "PIN_AXO", [
      ⟨"AXIS", 0, 2, .rw, none, .any⟩,
      ⟨"KIND", 2, 1, .rw, none, .any⟩,
      ⟨"IDX", 3, 6, .rw, none, .dyn⟩]⟩,
    ⟨0xc, "PIN_BUS", [
      ⟨"ENGINE", 0, 7, .ro, some 127, .any⟩]⟩]

/-- Registers of the set "pinset", R269 of 08_pin_functions.md. -/
def pinsetRows : List RegRow :=
  [
    ⟨0x0, "PIN_SET", [
      ⟨"SET", 0, 32, .w1s, none, .any⟩]⟩]

/-- Registers of the set "pinclr", R269 of 08_pin_functions.md. -/
def pinclrRows : List RegRow :=
  [
    ⟨0x0, "PIN_CLR", [
      ⟨"CLR", 0, 32, .wo, some 0, .any⟩]⟩]

/-- Registers of the set "pintgl", R269 of 08_pin_functions.md. -/
def pintglRows : List RegRow :=
  [
    ⟨0x0, "PIN_TGL", [
      ⟨"TGL", 0, 32, .wo, some 0, .any⟩]⟩]

/-- Registers of the set "pinpad", R269 of 08_pin_functions.md. -/
def pinpadRows : List RegRow :=
  [
    ⟨0x0, "PIN_PAD", [
      ⟨"PAD", 0, 32, .ro, some 0, .any⟩]⟩]

/-- Registers of the set "pinwake", R269 of 08_pin_functions.md. -/
def pinwakeRows : List RegRow :=
  [
    ⟨0x0, "PIN_WAKE", [
      ⟨"PIN", 0, 10, .rw, none, .any⟩,
      ⟨"EDGE", 12, 2, .rw, none, .rng 0 2⟩,
      ⟨"WFILT", 16, 2, .rw, none, .any⟩,
      ⟨"EN", 31, 1, .rw, none, .any⟩]⟩,
    ⟨0x4, "PIN_WAKETH", [
      ⟨"VTHH", 0, 14, .rw, none, .srng (-7500) 7500⟩,
      ⟨"VTHL", 16, 14, .rw, none, .dyn⟩]⟩]

/-- Registers of the set "pinev", R269 of 08_pin_functions.md. -/
def pinevRows : List RegRow :=
  [
    ⟨0x0, "PIN_EVENT", [
      ⟨"CLAMPED", 0, 1, .rw1c, some 0, .any⟩,
      ⟨"REFUSED", 1, 1, .rw1c, some 0, .any⟩,
      ⟨"WOKE", 2, 1, .rw1c, some 0, .any⟩]⟩,
    ⟨0x4, "PIN_WAKESTAT", [
      ⟨"SLOT", 0, 5, .ro, some 0, .any⟩,
      ⟨"VALID", 8, 1, .ro, some 0, .any⟩]⟩]

/-- Registers of the set "bus", R248 of 07_bus_engines.md. -/
def busRows : List RegRow :=
  [
    ⟨0x0, "BUS_EVENT", [
      ⟨"CLAMPED", 0, 1, .rw1c, some 0, .any⟩,
      ⟨"REFUSED", 1, 1, .rw1c, some 0, .any⟩,
      ⟨"MARKRED", 2, 1, .rw1c, some 0, .any⟩]⟩,
    ⟨0x4, "BUS_STATUS", [
      ⟨"BITMARK", 0, 4, .ro, some 0, .any⟩]⟩,
    ⟨0x10, "BUS_DATABASE", [
      ⟨"BASE", 0, 32, .ro, none, .any⟩]⟩,
    ⟨0x14, "BUS_DATASIZE", [
      ⟨"SIZE", 0, 25, .ro, none, .any⟩]⟩]

/-- Registers of the set "eng", R249 of 07_bus_engines.md. -/
def engRows : List RegRow :=
  [
    ⟨0x0, "BUS_ECFG", [
      ⟨"EN", 0, 1, .rw, none, .any⟩,
      ⟨"ROLE", 1, 2, .rws, none, .rng 0 1⟩,
      ⟨"TERM", 4, 2, .rws, none, .any⟩,
      ⟨"SLEW", 8, 6, .rws, some 1, .dyn⟩]⟩,
    ⟨0x4, "BUS_EPIN", [
      ⟨"TXPIN", 0, 10, .rws, none, .any⟩,
      ⟨"RXPIN", 16, 10, .rws, none, .any⟩]⟩,
    ⟨0x8, "BUS_ERATE", [
      ⟨"RATE", 0, 24, .rws, none, .dyn⟩]⟩,
    ⟨0x1c, "BUS_EKEEP", [
      ⟨"ENTRY", 0, 12, .rw, none, .any⟩,
      ⟨"PERIOD", 16, 13, .rw, none, .rng 10 5000⟩,
      ⟨"EN", 31, 1, .rw, none, .any⟩]⟩,
    ⟨0x20, "BUS_ESTAT", [
      ⟨"STATE", 0, 3, .ro, some 0, .any⟩,
      ⟨"TEC", 8, 9, .ro, some 0, .any⟩,
      ⟨"REC", 17, 7, .ro, some 0, .any⟩,
      ⟨"QLEN", 24, 8, .ro, some 0, .any⟩]⟩,
    ⟨0x24, "BUS_EEVT", [
      ⟨"ERRFRAME", 0, 1, .rw1c, some 0, .any⟩,
      ⟨"BUSOFF", 1, 1, .rw1c, some 0, .any⟩,
      ⟨"WAKE", 2, 1, .rw1c, some 0, .any⟩,
      ⟨"SLOWRX", 3, 1, .rw1c, some 0, .any⟩,
      ⟨"TDCERR", 4, 1, .rw1c, some 0, .any⟩,
      ⟨"FAULT", 5, 1, .rw1c, some 0, .any⟩,
      ⟨"CLAMPED", 6, 1, .rw1c, some 0, .any⟩,
      ⟨"REFUSED", 7, 1, .rw1c, some 0, .any⟩]⟩,
    ⟨0x28, "BUS_ECNT", [
      ⟨"TX", 0, 16, .ro, some 0, .any⟩,
      ⟨"RX", 16, 16, .ro, some 0, .any⟩]⟩,
    ⟨0x2c, "BUS_EMEAS", [
      ⟨"MEAS", 0, 24, .ro, some 0, .any⟩]⟩]

/-- Registers of the set "engcan", R249 of 07_bus_engines.md. -/
def engcanRows : List RegRow :=
  [
    ⟨0xc, "BUS_EBT", [
      ⟨"NQ", 0, 7, .rws, some 8, .dyn⟩,
      ⟨"NSP", 8, 7, .rws, some 2, .dyn⟩,
      ⟨"NSJW", 16, 5, .rws, some 1, .dyn⟩]⟩,
    ⟨0x10, "BUS_EDRATE", [
      ⟨"DRATE", 0, 23, .rws, some 10000, .dyn⟩]⟩,
    ⟨0x14, "BUS_EDBT", [
      ⟨"DQ", 0, 5, .rws, some 5, .dyn⟩,
      ⟨"DSP", 8, 5, .rws, some 2, .dyn⟩,
      ⟨"DSJW", 16, 4, .rws, some 1, .dyn⟩,
      ⟨"SSPOFS", 24, 6, .rws, none, .any⟩,
      ⟨"TDCEN", 31, 1, .rws, none, .any⟩]⟩,
    ⟨0x18, "BUS_EOPT", [
      ⟨"RETX", 0, 4, .rws, none, .any⟩,
      ⟨"AUTOREC", 4, 1, .rws, none, .any⟩]⟩]

/-- Registers of the set "englin", R249 of 07_bus_engines.md. -/
def englinRows : List RegRow :=
  [
    ⟨0x18, "BUS_EOPT", [
      ⟨"BRK", 0, 5, .rws, none, .rng 13 26⟩,
      ⟨"DLM", 5, 3, .rws, none, .rng 1 4⟩,
      ⟨"RSPACE", 8, 4, .rws, none, .rng 0 8⟩,
      ⟨"IBS", 12, 4, .rws, none, .rng 0 8⟩]⟩]

/-- Registers of the set "engsent", R249 of 07_bus_engines.md. -/
def engsentRows : List RegRow :=
  [
    ⟨0x18, "BUS_EOPT", [
      ⟨"NIB", 0, 3, .rws, none, .rng 1 6⟩,
      ⟨"PAUSE", 3, 1, .rws, none, .any⟩,
      ⟨"CRCL", 5, 1, .rws, none, .any⟩,
      ⟨"LOWT", 6, 3, .rws, none, .rng 4 6⟩,
      ⟨"SLOW", 9, 2, .rws, none, .any⟩,
      ⟨"PLEN", 16, 10, .rws, none, .rng 12 768⟩]⟩,
    ⟨0x30, "BUS_ESLOW", [
      ⟨"DATA", 0, 16, .ro, some 0, .any⟩,
      ⟨"ID", 16, 8, .ro, some 0, .any⟩,
      ⟨"VALID", 24, 1, .ro, some 0, .any⟩]⟩,
    ⟨0x34, "BUS_ESLOWTX", [
      ⟨"DATA", 0, 16, .rw, none, .dyn⟩,
      ⟨"ID", 16, 8, .rw, none, .dyn⟩]⟩]

/-- Registers of the set "tdesc", R248 of 07_bus_engines.md. -/
def tdescRows : List RegRow :=
  [
    ⟨0x0, "BUS_TDESC", [
      ⟨"FIRST", 0, 12, .rws, none, .any⟩,
      ⟨"COUNT", 16, 4, .rws, some 1, .dyn⟩]⟩]

/-- Registers of the set "tent", R230 of 07_bus_engines.md. -/
def tentRows : List RegRow :=
  [
    ⟨0x0, "word 0", [
      ⟨"ENGINE", 0, 7, .rws, none, .rng 0 119⟩,
      ⟨"NORETRY", 7, 1, .rws, none, .any⟩,
      ⟨"OP", 8, 3, .rws, none, .any⟩,
      ⟨"VSEL", 12, 2, .rws, none, .any⟩,
      ⟨"ADDR", 16, 2, .rws, none, .any⟩,
      ⟨"XID", 18, 1, .rws, none, .any⟩,
      ⟨"FD", 19, 1, .rws, none, .any⟩,
      ⟨"BRS", 20, 1, .rws, none, .any⟩,
      ⟨"PAD", 21, 1, .rws, none, .any⟩,
      ⟨"ECHK", 22, 1, .rws, none, .any⟩,
      ⟨"XSIGN", 23, 1, .rws, none, .any⟩,
      ⟨"MARK", 24, 2, .rws, none, .rng 0 2⟩,
      ⟨"MARKBUF", 26, 6, .rws, none, .any⟩]⟩,
    ⟨0x4, "word 1", [
      ⟨"TXID", 0, 29, .rws, none, .dyn⟩]⟩,
    ⟨0x8, "word 2", [
      ⟨"RXID", 0, 29, .rws, none, .dyn⟩]⟩,
    ⟨0xc, "word 3", [
      ⟨"TA", 0, 8, .rws, none, .any⟩,
      ⟨"RA", 8, 8, .rws, none, .any⟩,
      ⟨"PADB", 16, 8, .rws, none, .any⟩,
      ⟨"TXDL", 24, 3, .rws, none, .any⟩]⟩,
    ⟨0x10, "word 4", [
      ⟨"REQOFS", 0, 24, .rws, none, .dyn⟩]⟩,
    ⟨0x14, "word 5", [
      ⟨"REQLEN", 0, 16, .rws, none, .dyn⟩,
      ⟨"EXPLEN", 16, 16, .rws, none, .any⟩]⟩,
    ⟨0x18, "word 6", [
      ⟨"EXPOFS", 0, 24, .rws, none, .dyn⟩]⟩,
    ⟨0x1c, "word 7", [
      ⟨"RSPOFS", 0, 24, .rws, none, .dyn⟩]⟩,
    ⟨0x20, "word 8", [
      ⟨"RSPMAX", 0, 16, .rws, none, .dyn⟩,
      ⟨"XSTART", 16, 16, .rws, none, .rng 0 65534⟩]⟩,
    ⟨0x24, "word 9", [
      ⟨"XLEN", 0, 4, .rws, none, .rng 1 8⟩,
      ⟨"BS", 8, 8, .rws, none, .any⟩,
      ⟨"STMIN", 16, 8, .rws, none, .dyn⟩,
      ⟨"WFTMAX", 24, 8, .rws, none, .any⟩]⟩,
    ⟨0x28, "word 10", [
      ⟨"TMO", 0, 16, .rws, none, .rng 1 65535⟩,
      ⟨"TMOX", 16, 16, .rws, none, .any⟩]⟩,
    ⟨0x2c, "word 11", [
      ⟨"NBS", 0, 16, .rws, none, .rng 1 5000⟩,
      ⟨"GAP", 16, 16, .rws, none, .any⟩]⟩] ++
  [
    ⟨0x30, "word 12", [
      ⟨"COUNT", 0, 16, .rws, none, .rng 1 65535⟩]⟩]

/-- Registers of the set "ctx", R186 of 06_step_engine.md. -/
def ctxRows : List RegRow :=
  [
    ⟨0x0, "word 0", [
      ⟨"ID", 0, 14, .ro, some 0, .any⟩,
      ⟨"AXIS", 14, 2, .rws, none, .any⟩,
      ⟨"RQ", 16, 4, .rws, none, .any⟩,
      ⟨"DET", 20, 4, .rws, none, .rng 0 10⟩,
      ⟨"PROF", 24, 8, .rws, none, .any⟩]⟩,
    ⟨0x4, "word 1", [
      ⟨"START", 0, 32, .rws, none, .any⟩]⟩,
    ⟨0x8, "word 2", [
      ⟨"START", 0, 16, .rws, none, .any⟩]⟩,
    ⟨0xc, "word 3", [
      ⟨"LEN", 0, 32, .rws, none, .rng 1 4294967295⟩]⟩,
    ⟨0x10, "word 4", [
      ⟨"NEXT", 0, 14, .rws, none, .any⟩,
      ⟨"NEXTEN", 14, 1, .rws, none, .any⟩,
      ⟨"MLIST", 16, 12, .rws, none, .any⟩]⟩,
    ⟨0x14, "word 5", [
      ⟨"SETUP", 0, 20, .rws, some 0, .dyn⟩]⟩,
    ⟨0x18, "word 6", [
      ⟨"SCOUNT", 0, 11, .rws, some 0, .dyn⟩,
      ⟨"RMUSEL", 16, 4, .rws, none, .any⟩]⟩,
    ⟨0x1c, "word 7", [
      ⟨"BUSTPL", 0, 11, .rws, none, .rng 0 1024⟩]⟩,
    ⟨0x20, "word 8", [
      ⟨"LOLIM", 0, 32, .rws, some 0, .dyn⟩]⟩,
    ⟨0x24, "word 9", [
      ⟨"LOLIM", 0, 32, .rws, some 0, .dyn⟩]⟩,
    ⟨0x28, "word 10", [
      ⟨"HILIM", 0, 32, .rws, none, .srng (-9223372036854775808) 9223372036854775807⟩]⟩,
    ⟨0x2c, "word 11", [
      ⟨"HILIM", 0, 32, .rws, none, .srng (-9223372036854775808) 9223372036854775807⟩]⟩] ++
  [
    ⟨0x30, "word 12", [
      ⟨"ONFAIL", 0, 2, .rws, none, .any⟩,
      ⟨"FAILARG", 16, 14, .rws, some 0, .dyn⟩]⟩,
    ⟨0x34, "word 13", [
      ⟨"LOEN", 0, 1, .rws, none, .any⟩,
      ⟨"HIEN", 1, 1, .rws, none, .any⟩,
      ⟨"STRICT", 2, 1, .rws, none, .any⟩,
      ⟨"SUMMARY", 3, 1, .rws, none, .any⟩,
      ⟨"REL", 4, 1, .rws, none, .any⟩]⟩,
    ⟨0x38, "word 14", [
      ⟨"TAG", 0, 32, .rws, none, .any⟩]⟩]

end Sys2Proof.Machine
end

