-- ==== Sys2Proof/Machine/Regs.lean ====
section
/-!
DEFINITION. The address map of BAR0 (R7, R470): which register lies at a byte offset, its fields, its reset word; and the
offsets of the registers of each set.
-/

namespace Sys2Proof.Machine

/-- Border value fields of one FABCFG_BVAL word (R301). -/
def bvalFlds : List Fld := (List.range 16).map fun i => ⟨"BV", 2 * i, 2, .rw, none, .rng 0 2⟩

/-- One coefficient pair word of a profile, words 18 to 81 (R155). -/
def coefFlds : List Fld := [⟨"C0", 0, 16, .rws, none, .sgn⟩, ⟨"C1", 16, 16, .rws, none, .sgn⟩]

/-- A whole-word field. -/
def wholeFld (name : String) (acc : Acc) : List Fld := [⟨name, 0, 32, acc, some 0, .any⟩]

/-- Fields of word `w` of a filter profile (R155). -/
def profFlds (w : Nat) : List Fld :=
  if w < 18 then findRow profRows (4 * w) else if w ≤ 81 then coefFlds else []

/-- Fields of word `w` of a wheel record (R177). -/
def wheelFlds (w : Nat) : List Fld :=
  if w < 2 then findRow wheelRows (4 * w) else if w ≤ 24 then [⟨"PRESENT", 0, 32, .rws, none, .dyn⟩] else []

/-- The kind of a bus engine: 0 CAN (0 to 31), 1 LIN (32 to 95), 2 SENT (96 to 119) (R211). -/
def engKind (e : Nat) : Nat := if e < 32 then 0 else if e < 96 then 1 else 2

/-- Fields of the registers of engine `e` (R249): common ones, else those of its kind. -/
def engFlds (e o : Nat) : List Fld :=
  match findRow engRows o with
  | [] =>
    match engKind e with
    | 0 => findRow engcanRows o
    | 1 => findRow englinRows o
    | _ => findRow engsentRows o
  | fs => fs

/-- Replace the reset of the first field of a list. -/
def withReset (v : Nat) : List Fld → List Fld
  | [] => []
  | f :: r => { f with reset := some v } :: r

/-- Replace the reset of the field named `n`. -/
def withResetOf (n : String) (v : Nat) (fs : List Fld) : List Fld :=
  fs.map fun f => if f.name = n then { f with reset := some v } else f

/-- BUS_ERATE with the reset of its kind: the valid value nearest to zero (R249). -/
def erateFlds (e : Nat) : List Fld :=
  withReset (match engKind e with | 0 => 10000 | 1 => 1000 | _ => 3000) (findRow engRows 8)

/-- Fields of the DEV, CLK, BOOT and SEC blocks by block number and offset. -/
def blockFldsA (b o : Nat) : List Fld :=
  if b = 0x00 then
    if 0x210 ≤ o ∧ o < 0x250 then findRow rmufRows ((o - 0x210) % 0x10) else findRow devRows o
  else if b = 0x01 then
    if 0x40 ≤ o ∧ o < 0x80 then findRow clkoutRows (o % 0x10) else findRow clkRows o
  else if b = 0x02 then
    if 0x10 ≤ o ∧ o < 0x20 then findRow bootdlyRows 0 else findRow bootRows o
  else if b = 0x03 then
    if 0x20 ≤ o ∧ o < 0x30 then findRow devidRows 0
    else if 0x1000 ≤ o ∧ o < 0x2000 then wholeFld "MAILBOX" .rw
    else findRow secRows o
  else if b = 0x04 then findRow capoRows o
  else if 0x100 ≤ o ∧ o < 0x180 then findRow retchRows 0
  else if 0x180 ≤ o ∧ o < 0x200 then findRow remapchRows 0
  else if 0x200 ≤ o ∧ o < 0x300 then withResetOf "PHYS" ((o - 0x200) / 4) (findRow laneRows 0)
  else if 0x304 ≤ o ∧ o < 0x314 then findRow engretRows 0
  else findRow faultRows o

/-- Fields of the CAL, POS, STEP, RESQ and MATRIX blocks. -/
def blockFldsB (b o : Nat) : List Fld :=
  if b = 0x06 then
    if 0x40 ≤ o ∧ o < 0x50 then findRow calrmuqRows 0
    else if 0x80 ≤ o ∧ o < 0xC0 then findRow caltempRows 0
    else if 0x4000 ≤ o ∧ o < 0x4400 then findRow calsetRows (o % 0x20)
    else if 0x8000 ≤ o then findRow calsetRows (o % 0x20)
    else findRow calRows o
  else if b = 0x07 then
    if 0x8000 ≤ o ∧ o < 0x8800 then wheelFlds (o % 0x80 / 4)
    else if o < 0x4000 then
      let r := o % 0x1000
      if 0x50 ≤ r ∧ r < 0x60 then findRow tpoRows 0
      else if 0x400 ≤ r ∧ r < 0x800 then findRow cmpRows (r % 0x10)
      else if r < 0x50 then findRow posRows r else []
    else []
  else if b = 0x08 then
    if 0x1000 ≤ o ∧ o < 0x2000 then findRow steplRows (o % 0x10)
    else if 0x2000 ≤ o ∧ o < 0x2100 then findRow stepactRows 0
    else findRow stepRows o
  else if b = 0x09 then
    if o < 0x400 then findRow resqRows (o % 0x40) else []
  else if 0x100 ≤ o ∧ o < 0x180 then withResetOf "PHYS" ((o - 0x100) / 4) (findRow busstatRows 0)
  else if 0x180 ≤ o ∧ o < 0x200 then findRow busctxRows 0
  else if 0x1000 ≤ o ∧ o < 0x1800 then findRow catRows (o % 0x20)
  else if 0x1800 ≤ o ∧ o < 0x1900 then findRow rmuRows (o % 0x40)
  else if o = 0x4000 then []
  else if 0x4004 ≤ o ∧ o < 0x8000 then findRow ldescRows 0
  else if 0x8000 ≤ o then findRow lentRows 0
  else findRow matrixRows o

/-- Fields of the CHORD, DDR, HOSTIF and FABCFG blocks. PRESUMED (assumption 4): the MSI-X table and the pending-bit array
have the layout of PCI Express, and a table entry is masked at reset. -/
def blockFldsC (b o : Nat) : List Fld :=
  if b = 0x0B then
    if 0x100 ≤ o ∧ o < 0x140 then findRow cportRows (o % 0x10)
    else if 0x4000 ≤ o ∧ o < 0x4000 + 4 * 2047 then findRow ctokRows 0
    else findRow chordRows o
  else if b = 0x0C then
    if 0x1000 ≤ o ∧ o < 0x1800 then findRow cbRows (o % 0x20) else findRow ddrRows o
  else if b = 0x0D then
    if 0x100 ≤ o ∧ o < 0x300 then findRow hqRows (o % 0x20)
    else if 0x400 ≤ o ∧ o < 0x500 then findRow hdRows (o % 0x20)
    else if 0x8000 ≤ o ∧ o < 0x8400 then
      if o % 0x10 = 0xC then [⟨"MASK", 0, 1, .rw, some 1, .any⟩] else wholeFld "MSIX" .rw
    else if 0x9000 ≤ o ∧ o < 0x9008 then wholeFld "PBA" .ro
    else findRow hostifRows o
  else if 0x100 ≤ o ∧ o < 0x700 then findRow fretRows (o % 0x20)
  else if 0x1000 ≤ o ∧ o < 0x1C00 then bvalFlds
  else if 0x2000 ≤ o ∧ o < 0x5000 then findRow xinRows 0
  else if 0x6000 ≤ o ∧ o < 0x6FF0 then findRow catalogRows (o % 0x10)
  else findRow fabcfgRows o

/-- Fields of the PIN, BUS and context blocks. -/
def blockFldsD (b o : Nat) : List Fld :=
  if b = 0x18 then
    if o < 0x4000 then findRow pinRows (o % 0x10)
    else if o < 0x4080 then findRow pinsetRows 0
    else if o < 0x4100 then findRow pinclrRows 0
    else if o < 0x4180 then findRow pintglRows 0
    else if o < 0x4200 then findRow pinpadRows 0
    else if o < 0x4300 then findRow pinwakeRows (o % 8)
    else if o < 0x4308 then findRow pinevRows (o - 0x4300) else []
  else if b = 0x19 then
    if 0x1000 ≤ o ∧ o < 0x1000 + 0x40 * 120 then
      if o % 0x40 = 8 then erateFlds ((o - 0x1000) / 0x40) else engFlds ((o - 0x1000) / 0x40) (o % 0x40)
    else if 0x4004 ≤ o ∧ o < 0x5004 then findRow tdescRows 0
    else findRow busRows o
  else if b ≤ 0x1D then findRow tentRows (o % 0x40)
  else []

/-- The fields of the register at byte offset `a` of BAR0; empty where no register lies (R470). -/
def regFields (a : Nat) : List Fld :=
  let b := a / 0x10000
  let o := a % 0x10000
  if a % 4 ≠ 0 then []
  else if b ≤ 0x05 then blockFldsA b o
  else if b ≤ 0x0A then blockFldsB b o
  else if b ≤ 0x0E then blockFldsC b o
  else if b = 0x0F then []
  else if b ≤ 0x13 then
    if a % 0x100 = 0x38 then withResetOf "ACTIVE_SLICE" ((a - 0x100000) / 0x100 % 32) (findRow chRows 0x38)
    else findRow chRows (a % 0x100)
  else if b ≤ 0x17 then
    if a % 0x100 < 0x80 then findRow filtRows (a % 0x100)
    else profFlds ((a - 0x140000) / 0x100 % 4 * 32 + a % 0x100 / 4 - 32)
  else if b ≤ 0x1E then blockFldsD b o
  else if b = 0x1F then []
  else if b < 0x40 then
    if a % 0x80 = 0 then withResetOf "ID" ((a - 0x200000) / 0x80) (findRow ctxRows 0) else findRow ctxRows (a % 0x80)
  else []

/-- The field named `n` at `a`, if the register has one. -/
def fldNamed (a : Nat) (n : String) : Option Fld := (regFields a).find? fun f => f.name == n

/-- The word at `a` after power-on reset (R9). BOOT_ORDER holds the default order of R389. -/
def resetWord (a : Nat) : Word := if a = 0x2000C then 0x78 else resetOfFlds (regFields a)

/-! Offsets of the sets (R81, R119, R156, R183, R186, R209, R210, R248, R298 and their like). -/

/-- CH register of channel `n` (R81). -/
def aCH (n o : Nat) : Nat := 0x100000 + n * 0x100 + o
/-- FILT register of channel `n` (R156). -/
def aFILT (n o : Nat) : Nat := 0x140000 + n * 0x100 + o
/-- Word `w` of profile `p` (R153). -/
def aPROF (p w : Nat) : Nat := 0x140000 + (4 * p + w / 32) * 0x100 + 0x80 + 4 * (w % 32)
/-- Filter-unit register of RMU `r` (R157). -/
def aRMUF (r o : Nat) : Nat := 0x210 + 0x10 * r + o
/-- RMU register (R122). -/
def aRMU (r o : Nat) : Nat := 0xA1800 + 0x40 * r + o
/-- CAT register (R121). -/
def aCAT (t o : Nat) : Nat := 0xA1000 + 0x20 * t + o
/-- MATRIX register (R119). -/
def aMX (o : Nat) : Nat := 0xA0000 + o
/-- Axis register (R183). -/
def aPOS (a o : Nat) : Nat := 0x70000 + 0x1000 * a + o
/-- Compare-unit register (R184). -/
def aCMP (a k o : Nat) : Nat := 0x70400 + 0x1000 * a + 0x10 * k + o
/-- Wheel word (R183). -/
def aWHEEL (w i : Nat) : Nat := 0x78000 + 0x80 * w + 4 * i
/-- STEP register (R209). -/
def aSTEP (o : Nat) : Nat := 0x80000 + o
/-- List register (R209). -/
def aLIST (l o : Nat) : Nat := 0x81000 + 0x10 * l + o
/-- Active entry (R209). -/
def aACT (i : Nat) : Nat := 0x82000 + 4 * i
/-- Queue register (R210). -/
def aRESQ (q o : Nat) : Nat := 0x90000 + 0x40 * q + o
/-- Context word (R186). -/
def aCTX (c w : Nat) : Nat := 0x200000 + 0x80 * c + 4 * w
/-- BUS register (R248). -/
def aBUS (o : Nat) : Nat := 0x190000 + o
/-- Engine register (R248). -/
def aENG (e o : Nat) : Nat := 0x191000 + 0x40 * e + o
/-- Template descriptor `t` = 1 to 1,024 (R228, R248). -/
def aTD (t : Nat) : Nat := 0x194000 + 4 * t
/-- Transaction entry word (R230, R248). -/
def aTE (x w : Nat) : Nat := 0x1A0000 + 0x40 * x + 4 * w
/-- Pin register (R267). -/
def aPIN (n o : Nat) : Nat := 0x180000 + 0x10 * n + o
/-- Pin bank register (R267): base 0x4000 SET, 0x4080 CLR, 0x4100 TGL, 0x4180 PAD. -/
def aBANK (base w : Nat) : Nat := 0x180000 + base + 4 * w
/-- Wake slot register (R267). -/
def aWAKE (s o : Nat) : Nat := 0x184200 + 8 * s + o
/-- Per-Fret register (R298). -/
def aFRET (f o : Nat) : Nat := 0xE0100 + 0x20 * f + o
/-- Border value word (R298). -/
def aBVAL (f w : Nat) : Nat := 0xE1000 + 0x40 * f + 4 * w
/-- Cross input (R298). -/
def aXIN (f x : Nat) : Nat := 0xE2000 + 0x100 * f + 4 * x
/-- Catalogue word (R298). -/
def aCATLG (r v : Nat) : Nat := 0xE6000 + 0x10 * r + 4 * v
/-- Calibration set of channel `n` (R330). -/
def aCALCH (n o : Nat) : Nat := 0x68000 + 0x20 * n + o
/-- Calibration set of the spare of course `c` (R330). -/
def aCALSP (c o : Nat) : Nat := 0x64000 + 0x20 * c + o
/-- Capture buffer register (R477). -/
def aCB (b o : Nat) : Nat := 0xC1000 + 0x20 * b + o
/-- Queue DMA register (R478). -/
def aHQ (q o : Nat) : Nat := 0xD0100 + 0x20 * q + o
/-- DMA channel register (R478). -/
def aHD (n o : Nat) : Nat := 0xD0400 + 0x20 * n + o
/-- Chord port register (R497). -/
def aPORT (p o : Nat) : Nat := 0xB0100 + 0x10 * p + o
/-- Chord token of an ID (R497). -/
def aTOK (i : Nat) : Nat := 0xB4000 + 4 * i

end Sys2Proof.Machine
end

