-- ==== Sys2Proof/Machine/Sparse.lean ====
section
/-!
DEFINITION. Sparse tables: a list of (index, value) pairs in one canonical form, with a default for every index that the
list does not name. Registers, DDR5 and flash bytes and every per-channel, per-axis, per-context record are held in this
form, so that equal contents are equal data.
-/

namespace Sys2Proof.Machine

/-- A sparse table over natural indexes. -/
abbrev Tab (α : Type) := List (Nat × α)

/-- The value at index `k`: the listed one, else the default. -/
def tabGet {α : Type} (dflt : Nat → α) : Tab α → Nat → α
  | [], k => dflt k
  | (j, v) :: r, k => if j = k then v else tabGet dflt r k

/-- Insert or replace, keeping rising indexes. -/
def tabPut {α : Type} (k : Nat) (v : α) : Tab α → Tab α
  | [] => [(k, v)]
  | (j, w) :: r =>
    if k < j then (k, v) :: (j, w) :: r
    else if j = k then (k, v) :: r
    else (j, w) :: tabPut k v r

/-- Remove every entry of index `k`. -/
def tabDrop {α : Type} (k : Nat) : Tab α → Tab α
  | [] => []
  | (j, w) :: r => if j = k then tabDrop k r else (j, w) :: tabDrop k r

/-- Write `v` at `k`; a value equal to the default is not listed. -/
def tabSet {α : Type} [DecidableEq α] (dflt : Nat → α) (k : Nat) (v : α) (t : Tab α) : Tab α :=
  if v = dflt k then tabDrop k t else tabPut k v t

/-- Every listed index is above `b`. -/
def tabAbove {α : Type} (b : Nat) (t : Tab α) : Bool := t.all fun p => decide (b < p.1)

/-- The canonical form: indexes strictly rising, no entry equal to its default. -/
def tabWf {α : Type} [DecidableEq α] (dflt : Nat → α) : Tab α → Bool
  | [] => true
  | (k, v) :: r => decide (v ≠ dflt k) && tabAbove k r && tabWf dflt r

/-- Apply `f` to the value at `k`. -/
def tabMod {α : Type} [DecidableEq α] (dflt : Nat → α) (k : Nat) (f : α → α) (t : Tab α) : Tab α :=
  tabSet dflt k (f (tabGet dflt t k)) t

/-- The indexes that hold something other than the default, in rising order. -/
def tabKeys {α : Type} (t : Tab α) : List Nat := t.map Prod.fst

end Sys2Proof.Machine
end

