-- ==== Sys2Proof/Machine/PartCore.lean ====
section
/-!
DEFINITION. Records that the reporting machinery holds: fault-queue entries (R352), clamp-report entries (R429) and the
items that wait for the event log (R354, R430).
-/

namespace Sys2Proof.Machine

/-- Classes of R334 in the coding of R352. -/
inductive Cls where
  | t
  | p
  | d
  | notice
deriving DecidableEq, Repr

/-- The CLASS byte of R352. -/
def Cls.code : Cls → Nat
  | .t => 0
  | .p => 1
  | .d => 2
  | .notice => 3

/-- One fault-queue entry (R352); the CRC is computed when the entry is read out as bytes. -/
structure FqEntry where
  fseq : Word
  cls : Cls
  srckind : Nat
  srcidx : Nat
  code : Nat
  action : Nat
  axis : Nat
  pos : Nat
  ctx : Nat
  epoch : Word
  detail : Nat
deriving DecidableEq, Repr

/-- The first 28 bytes of an entry (R352). -/
def FqEntry.body (e : FqEntry) : List Byte :=
  leBytes 4 e.fseq.toNat ++ leBytes 1 e.cls.code ++ leBytes 1 e.srckind ++ leBytes 2 e.srcidx ++ leBytes 1 e.code ++
  leBytes 1 0 ++ leBytes 1 e.action ++ leBytes 1 e.axis ++ leBytes 6 e.pos ++ leBytes 2 e.ctx ++
  leBytes 4 e.epoch.toNat ++ leBytes 4 e.detail

/-- The 32 bytes of an entry, CRC-32C last (R352). -/
def FqEntry.bytes (e : FqEntry) : List Byte := e.body ++ leBytes 4 (crc32c e.body)

/-- An entry of zeros, as an index of the ring that was never written reads. -/
def FqEntry.zero : FqEntry := ⟨0, .t, 0, 0, 0, 0, 0, 0, 0, 0, 0⟩

/-- One clamp-report entry (R429). ORIGINAL and APPLIED are 64-bit numbers, sign-extended for a signed field. -/
structure ClampEntry where
  cseq : Word
  src : Nat
  width : Nat
  recd : Nat
  fieldpos : Nat
  original : Int
  applied : Int
deriving DecidableEq, Repr

/-- The first 28 bytes of a clamp entry (R429). -/
def ClampEntry.body (e : ClampEntry) : List Byte :=
  leBytes 4 e.cseq.toNat ++ leBytes 1 0xC1 ++ leBytes 1 e.src ++ leBytes 1 e.width ++ leBytes 3 e.recd ++
  leBytes 2 e.fieldpos ++ leBytes 8 (ofSigned 64 e.original) ++ leBytes 8 (ofSigned 64 e.applied)

/-- The 32 bytes of a clamp entry (R429). -/
def ClampEntry.bytes (e : ClampEntry) : List Byte := e.body ++ leBytes 4 (crc32c e.body)

/-- What firmware has still to copy into the event log, in the order made (R354, R430). -/
inductive LogItem where
  | fault (e : FqEntry)
  | clamp (e : ClampEntry)
deriving DecidableEq, Repr

/-- The 32 bytes of a log item. -/
def LogItem.bytes : LogItem → List Byte
  | .fault e => e.bytes
  | .clamp e => e.bytes

/-- Where a clamp came from (R429): the source code of SRC [5:4] and the section code of SRC [3:0]. -/
inductive ClampSrc where
  | image (sect : Nat)
  | register
  | shell
  | setup
deriving DecidableEq, Repr

/-- The SRC byte (R429). -/
def ClampSrc.code : ClampSrc → Nat
  | .image s => s % 16
  | .register => 0x10
  | .shell => 0x20
  | .setup => 0x30

end Sys2Proof.Machine
end

