-- ==== Sys2Proof/Machine/PartChan.lean ====
section
/-!
DEFINITION. What a channel cell, its slice and the spare of a course hold beside their registers (R38 to R80).
-/

namespace Sys2Proof.Machine

/-- A request that changes CH_MODE, CH_RANGE, CH_FORCE or CH_CLAMP: the new words of the registers it writes, and the RUN of a setup
record, which waits with it (R61, R65). `recd` and `src` locate its clamp entries (R62). -/
structure ChReq where
  mode : Option Word
  range : Option Word
  force : Option Word
  clamp : Option Word
  run : Option Bool
  src : ClampSrc
  recd : Nat
deriving DecidableEq, Repr

/-- What a pin is driven to: nothing, a digital low or high, the released form of an engine (R256), or the level of its analogue
cell. -/
inductive Drive where
  | none
  | low
  | high
  | released (engine : Nat)
  | analogue
deriving DecidableEq, Repr

/-- The digital sources of a pin: its source enables, the words of PIN_FAB and PIN_AXO, the engines that drive it (R251, R255). -/
structure PinSet where
  src : Nat
  fab : Word
  axo : Word
  engines : List Nat
deriving DecidableEq, Repr

/-- One channel beyond its registers: the 4,096-entry DAC queue and its indexes (R48), the code that the output holds, whether it
holds it for an empty queue (R50), whether playback runs, its next update edge and whether that is its first (R49, R52), the
bridge and flag windows (R58 to R64), the mode and range words that the sample in progress was begun with when a later edge
changes them, the requests that wait behind a bridge (R61), the end of the sample period for which the hold network holds the pin, the
level before the present edge, the digital sources in force until a switch takes effect and whether that switch waits for a bridge (R63,
R64), the pad level (R43), the one before it and the pin voltage of the latest edge in microvolts, the edge at which the clamp took hold and whether it has held within the sample in progress (R53, R56), and
the edge that ended the interval of the raw sample in CH_SAMPLE. -/
structure Chan where
  codes : List (Nat × Nat)
  wr : Nat
  rd : Nat
  fill : Nat
  held : Nat
  starved : Bool
  plays : Bool
  grid : Nat
  fresh : Bool
  bridgeStart : Nat
  bridgeEnd : Nat
  fromV : Nat
  fromI : Nat
  flagStart : Nat
  flagEnd : Nat
  inForce : Option (Word × Word)
  holdUntil : Nat
  before : Drive
  pinOld : Option PinSet
  pinWait : Bool
  waiting : List ChReq
  pad : Bool
  prevPad : Bool
  volt : Int
  clampSince : Option Nat
  clampHit : Bool
  powered : Bool
  seen : Nat
deriving DecidableEq, Repr

/-- A channel at power-on: OFF, its output stage unpowered (R67), its pad level low (R43). -/
def Chan.init : Chan :=
  { codes := [], wr := 0, rd := 0, fill := 0, held := 0, starved := false, plays := false, grid := 0, fresh := false,
    bridgeStart := 0, bridgeEnd := 0, fromV := 2, fromI := 4, flagStart := 0, flagEnd := 0, inForce := none, holdUntil := 0,
    before := .none, pinOld := none, pinWait := false, waiting := [], pad := false, prevPad := false, volt := 0, clampSince := none,
    clampHit := false, powered := false, seen := 0 }

/-- The channel once its bridge, function switch, windows and waiting requests are abandoned (R70, R340). -/
def Chan.abandon (c : Chan) : Chan :=
  { c with waiting := [], bridgeStart := 0, bridgeEnd := 0, flagStart := 0, flagEnd := 0, inForce := none, holdUntil := 0,
           before := .none, pinOld := none, pinWait := false }

/-- Playback ends (R52, R69): the output holds the last code and no sample is starved. -/
def Chan.halt (c : Chan) : Chan := { c with plays := false, fresh := false, starved := false }

/-- Why a pin moves between slices (R78, R24, R339). -/
inductive HandKind where
  | remap
  | cal
  | back
deriving DecidableEq, Repr

/-- A handover under preparation (R78): the channel, the receiving slice 0 to 32, its kind, the planned edge, the Ts left of a
preparation that HOLD paused (R80), whether the calibration run that it closes has committed a range (R325), and whether it also
ends an idle-gap calibration, so that the channel's chain restarts (R316). -/
structure Handover where
  chan : Nat
  toSlice : Nat
  kind : HandKind
  edge : Nat
  paused : Option Nat
  commit : Bool
  gap : Bool
deriving DecidableEq, Repr

/-- One course: the handover in progress, the hand-backs of slices in idle gaps in progress, which move no spare (R29), those that follow it (R24) or wait for the end of HOLD or SAFE (R319, R547), the pin its
spare serves or is reserved for, whether for a remap, whether the spare is retired, the primary slices that failed since the
cold start (R339, R342), and the channel and edge of the last reconnection after an idle gap (R29). -/
structure Course where
  hand : Option Handover
  backs : List Handover
  next : List Handover
  spareFor : Option Nat
  spareRemap : Bool
  spareRetired : Bool
  failed : List Nat
  joined : Option (Nat × Nat)
deriving DecidableEq, Repr

/-- A course after power-on: the spare is free (R17). -/
def Course.init : Course :=
  { hand := none, backs := [], next := [], spareFor := none, spareRemap := false, spareRetired := false, failed := [], joined := none }

end Sys2Proof.Machine
end

