-- ==== Sys2Proof/Machine/PartMatrix.lean ====
section
/-!
DEFINITION. What the bridge matrix and the meters hold beside their registers (R84 to R118).
-/

namespace Sys2Proof.Machine

/-- One closed switch: a node (R89) on a physical bus, and whether a host command closed it. -/
structure Switch where
  node : Nat
  phys : Nat
  host : Bool
deriving DecidableEq, Repr

/-- A switch that begins to move at a later edge (R92). -/
structure Move where
  due : Nat
  close : Bool
  sw : Switch
deriving DecidableEq, Repr

/-- Owners of R95. A context is known by the number of its execution and its ID. Fault recovery overrides every owner (R100) and is done
with a bus within the command that decides on it (R117), so no command finds it as an owner. -/
inductive Owner where
  | free
  | ctx (exec ctx : Nat)
  | host
  | tuning
deriving DecidableEq, Repr

/-- The claims of an ended execution and the edge at which its switches are open (R95). -/
structure Release where
  exec : Nat
  due : Nat
deriving DecidableEq, Repr

/-- Why a bus is held open (R115 to R117). -/
inductive OpenWhy where
  | no
  | host
  | overcurrent
deriving DecidableEq, Repr

/-- A command to the matrix that HOLD holds back (R94): a MATRIX_CMD, the clear of a host claim whose switches must open, a per-bus
open and its release. -/
inductive HeldCmd where
  | move (node bus : Nat) (close : Bool)
  | letGo (res : Nat)
  | open_ (bus : Nat)
  | rel (bus : Nat)
deriving DecidableEq, Repr

/-- The matrix: closed pin taps and port switches, moves to come, claims by resource number (see `resBus` and its like), releases to come, held
open buses, physical buses out of service, segments isolated for the rest of service life as physical bus and course (R116), and commands that
HOLD holds back (R94). A segment switch follows the taps of its course (R85): `segClosed`. -/
structure Matrix where
  closed : List Switch
  moves : List Move
  claims : Tab Owner
  releases : List Release
  opens : Tab OpenWhy
  out : List Nat
  isolated : List (Nat × Nat)
  heldCmds : List HeldCmd
deriving DecidableEq, Repr

/-- Nothing closed, nothing claimed. -/
def Matrix.init : Matrix :=
  { closed := [], moves := [], claims := [], releases := [], opens := [], out := [], isolated := [], heldCmds := [] }

/-- One conversion of a meter (R106 to R109): host-started or for a context, the edge at which it was started, the axis of its context,
the LINE axis on which its window is timed, the length of its window in Ts or in LINE ticks, whether it runs without its LINE axis
(R108), the edge and LINE position at which its window opened, the edge at which the window closed, and that at which the zero window of
AZERO closed. -/
structure Conv where
  byHost : Bool
  start : Nat
  axis : Nat
  line : Option Nat
  len : Nat
  noline : Bool
  openAt : Option Nat
  openPos : Nat
  shutAt : Option Nat
  zeroAt : Option Nat
deriving DecidableEq, Repr

/-- One meter: the conversion in progress (R106 to R109). -/
structure Rmu where
  conv : Option Conv
deriving DecidableEq, Repr

/-- A meter at rest. -/
def Rmu.init : Rmu := { conv := none }

end Sys2Proof.Machine
end

