-- ==== Sys2Proof/Machine/PartFilt.lean ====
section
/-!
DEFINITION. What filter chains and threshold units hold (R123 to R151).
-/

namespace Sys2Proof.Machine

/-- One calibrated raw sample as it reaches a lane: the start edge of its interval, its code (R47), its side-band flags in the
order RANGING, OVR, CLIMIT, UNDERRUN (R53), and the measured range (kind and number, R146). -/
structure Raw where
  edge : Nat
  code : Int
  flags : Nat
  rng : Nat
deriving DecidableEq, Repr

/-- One chain output: value, start edge of its last raw sample, side-band flags, saturation of stages A to D, the range of its
raw samples when they share one, the range in use at its corrected edge, and the edges at which the range changed among its raw
samples (R131 to R133, R139, R146). -/
structure ChainOut where
  val : Int
  last : Nat
  flags : Nat
  sat : Nat
  rng : Option Nat
  atRng : Nat
  moves : List Nat
deriving DecidableEq, Repr

/-- One biquad's memory (R129). -/
structure Biquad where
  x1 : Int
  x2 : Int
  y1 : Int
  y2 : Int
deriving DecidableEq, Repr

/-- A filter chain: its start edge, the raw samples of the group in progress, the integrators and combs of stage A, the delay
lines of stages B and C, the biquads, the flagged samples and range changes of the recent past, the output latched last,
whether a spare lane took it over and it has given no output since (R149), and, for an RMU's chain, the window centres of its readings, newest
first, and the readings it took (R151). -/
structure Chain where
  start : Nat
  group : List Raw
  integ : List Nat
  comb : List Nat
  halfs : List (List Int)
  fir : List Int
  bqs : List Biquad
  marks : List Raw
  lastVal : Int
  lastFlags : Nat
  subst : Bool
  centres : List Nat
  used : Nat
deriving DecidableEq, Repr

/-- A cleared chain (R135). -/
def Chain.init : Chain :=
  { start := 0, group := [], integ := [], comb := [], halfs := [], fir := [], bqs := [], marks := [], lastVal := 0, lastFlags := 0,
    subst := false, centres := [], used := 0 }

/-- A threshold unit: loaded or not, the edge from which it takes samples since its last load, its group of samples, its stage A, and whether no output has set its comparators yet
(R147, R148). -/
structure Thr where
  loaded : Bool
  start : Nat
  group : List Raw
  integ : List Nat
  comb : List Nat
  fresh : Bool
deriving DecidableEq, Repr

/-- A threshold unit before its first load. -/
def Thr.init : Thr := { loaded := false, start := 0, group := [], integ := [], comb := [], fresh := true }

end Sys2Proof.Machine
end

