-- ==== Sys2Proof/Machine/PartAxis.lean ====
section
/-!
DEFINITION. What a position axis holds beside its registers (R159 to R184).
-/

namespace Sys2Proof.Machine

/-- One entry of an axis history (R140, R162): its edge, the position, and whether it is a regular entry (0), the position
just before a jump (1) or just after it (2). -/
structure HistEnt where
  edge : Nat
  pos : Nat
  kind : Nat
deriving DecidableEq, Repr

/-- One axis: C, C before the last edge, C just before a jump at the last edge, the history (newest first), the low word of
the next load (R165), the fraction of a tick in progress, the next slew step (R170), the last accepted period or tooth
interval and the ticks that belong to it, the previous crossing or tooth, crossings accepted in a row, ticks owed after a
HOLDOVER (R169), the end of HOLDOVER, the wheel position of the last tooth with teeth and revolutions counted (R171), the
encoder's accepted and candidate levels with their ages, whether the index was taken (R173), and, for a CHORD axis, the Z of
the root, whether it ever locked, and the root's rate (R174). -/
structure Axis where
  c : Nat
  prev : Nat
  mid : Option Nat
  hist : List HistEnt
  loadLo : Option Nat
  acc : Nat
  slewAt : Nat
  per : Nat
  span : Nat
  cross : Option Nat
  run : Nat
  debt : Nat
  holdEnd : Nat
  tpos : Nat
  teeth : Option Nat
  revs : Nat
  lastInt : Nat
  encA : Bool
  encB : Bool
  candA : Bool
  candB : Bool
  ageA : Nat
  ageB : Nat
  indexed : Bool
  rootZ : Nat
  everLocked : Bool
  rate : Int
  rootSrc : Nat
deriving DecidableEq, Repr

/-- An axis after a cold start (R159). -/
def Axis.init : Axis :=
  { c := 0, prev := 0, mid := none, hist := [], loadLo := none, acc := 0, slewAt := 0, per := 0, span := 0, cross := none,
    run := 0, debt := 0, holdEnd := 0, tpos := 0, teeth := none, revs := 0, lastInt := 0, encA := false, encB := false,
    candA := false, candB := false, ageA := 0, ageB := 0, indexed := false, rootZ := 0, everLocked := false, rate := 0,
    rootSrc := 0 }

/-- One compare unit beside its registers: the edge at which it fired last, the end of its pulse (R181), VALUE, the edge from which it is in
force and what is in force before, and whether CMP_VALLO holds a low word that waits (R184). -/
structure CmpUnit where
  firedAt : Option Nat
  pulseEnd : Option Nat
  value : Nat
  from_ : Nat
  before : Nat
  waits : Bool
deriving DecidableEq, Repr

/-- A unit at rest. -/
def CmpUnit.init : CmpUnit := { firedAt := none, pulseEnd := none, value := 0, from_ := 0, before := 0, waits := false }

end Sys2Proof.Machine
end

