-- ==== Sys2Proof/Machine/PartExec.lean ====
section
/-!
DEFINITION. What the step engine and the result queues hold beside their registers: pending contexts, executions with their
slots, lists, queues (R186 to R210).
-/

namespace Sys2Proof.Machine

/-- One result record but for SEQ, which the queue gives (R203). -/
structure ResRec where
  ctx : Nat
  chan : Nat
  value : Int
  pos : Nat
  axis : Nat
  kind : Nat
  flags : Nat
  aux : Nat
deriving DecidableEq, Repr

/-- The 32 bytes of a record with its SEQ (R203). -/
def ResRec.bytes (r : ResRec) (seq : Nat) : List Byte :=
  leBytes 4 seq ++ leBytes 2 r.ctx ++ leBytes 2 r.chan ++ leBytes 8 (ofSigned 64 r.value) ++ leBytes 6 r.pos ++
  leBytes 1 r.axis ++ leBytes 1 r.kind ++ leBytes 4 r.flags ++ leBytes 4 r.aux

/-- One setup record as fetched and clamped (R188, R189): its four words. -/
structure Setup where
  w0 : Word
  w1 : Word
  w2 : Word
  w3 : Word
deriving DecidableEq, Repr

/-- What a slot measures (R204): a channel, a meter, or a bus transaction (its entry and engine). -/
inductive SlotKind where
  | chan (n : Nat)
  | rmu (r : Nat)
  | bus (entry engine : Nat)
deriving DecidableEq, Repr

/-- One chain output in a slot's window, with its corrected position (R142), and whether the range changed in the window among
its raw samples (R146). -/
structure SlotOut where
  out : ChainOut
  pos : Nat
  moved : Bool
deriving DecidableEq, Repr

/-- One slot of an execution: what it measures, the start position of its latest window, the outputs and threshold events
gathered, retries with the edge of the first fault and of the last one, whether a retry or re-measurement waits to begin, the
edge at which the window ended, sticky flags, the fault entry it refers to, the resource, code and raw value of the event whose retry it
waits for (R201), whether a channel slot measures current (R546), and its record once it has completed. -/
structure Slot where
  kind : SlotKind
  start : Nat
  outs : List SlotOut
  thr : List (Nat × Nat)
  retries : Nat
  firstFault : Option Nat
  lastFault : Nat
  waits : Bool
  remeasure : Bool
  endEdge : Option Nat
  flags : Nat
  ref : Option Nat
  fault : Option (Resource × Nat × Nat)
  amps : Bool
  fill : Bool
  valueless : Bool
  rec_ : Option ResRec
deriving DecidableEq, Repr

/-- One execution of a context from its start edge to the commit of its last record. `words` is the context as it was started. -/
structure Exec where
  id : Nat
  list : Nat
  ctx : Nat
  words : List Word
  startEdge : Nat
  start : Nat
  deferred : Bool
  disturbed : Bool
  setups : List Setup
  slots : List Slot
  active : Bool
  closeEdge : Nat
  closePos : Nat
  entry : Nat
  verdict : Option Bool
  summary : Option ResRec
  retire : List ResRec
  committed : Nat
deriving DecidableEq, Repr

/-- The context that a list names as the next to run (R196). -/
structure Pend where
  ctx : Nat
  first : Bool
  since : Nat
  eligible : Option Nat
  due : Option Nat
  fetched : Bool
  setups : List Setup
  causes : Nat
  verdictWait : Bool
  disturbed : Bool
deriving DecidableEq, Repr

/-- One step list beside its registers: its pending context, the axis positions at its trigger (R193), runs since it was armed,
whether it ends after the active context (R194, R195): 0 no, 1 STOPPED, 2 IDLE, and the execution that STEP_STOP with ABORT ends at the
next sample edge with the writer's code (R195). -/
structure ListSt where
  pend : Option Pend
  trig : List Nat
  runs : Nat
  ending : Nat
  abort : Option (Nat × Nat)
deriving DecidableEq, Repr

/-- A list at rest. -/
def ListSt.init : ListSt := { pend := none, trig := [0, 0, 0, 0], runs := 0, ending := 0, abort := none }

/-- One result queue beside its registers (R206 to R210): SEQ of the next record to be committed, records committed and not yet
visible (with a mark on retirement records), retirement records that RESQ_WRSEQ has not passed, records since the last
interrupt, and the SEQ that queue DMA reached (R474). -/
structure Queue where
  seq : Nat
  done : List (ResRec × Bool)
  ret : Nat
  since : Nat
  dmaSeq : Nat
deriving DecidableEq, Repr

/-- A queue after a cold start. -/
def Queue.init : Queue := { seq := 0, done := [], ret := 0, since := 0, dmaSeq := 0 }

/-- One open raw capture run (R463, R464): buffer, partition, channel, execution, context, its number in the buffer, the
partition's word count at its first word, the position of its first sample (known once it has one), samples taken, the
samples of the word in progress with their flags, and the OR of all tags. -/
structure CapRun where
  buf : Nat
  part : Nat
  chan : Nat
  exec : Nat
  ctx : Nat
  runseq : Nat
  start : Nat
  edge : Nat
  pos : Nat
  count : Nat
  acc : List (Nat × Nat)
  rflags : Nat
deriving DecidableEq, Repr

/-- One capture buffer beside its registers: words written to each partition of a RAW buffer, entries of a DECIM or MARK
buffer, and the number of the next run (R462 to R466). -/
structure CapBuf where
  parts : Tab Nat
  entries : Nat
  runseq : Nat
deriving DecidableEq, Repr

/-- A buffer just enabled or reset. -/
def CapBuf.init : CapBuf := { parts := [], entries := 0, runseq := 0 }

end Sys2Proof.Machine
end

