-- ==== Sys2Proof/Machine/PartBus.lean ====
section
/-!
DEFINITION. What a bus engine holds beside its registers: its transactions and their progress, and the frame on its wire (R211 to R247).
Instants and lengths on a wire count 2^-37 Ts, which is 2^-32 periods of 655.36 MHz (R212).
-/

namespace Sys2Proof.Machine

/-- A stretch of a frame: its length, whether the engine drives its pin low in it, the level at its sample point (true: recessive or high),
the type of the mark at its start or 0, whether it is a stuff bit, whether it lies in the data phase, and the index of its bit (R245). -/
structure Seg where
  len : Nat
  drive : Bool
  level : Bool
  kind : Nat
  stuff : Bool
  data : Bool
  idx : Nat
deriving DecidableEq, Repr

/-- A frame on the wire: the instant at which it begins, and its stretches. -/
structure Wave where
  start : Nat
  segs : List Seg
deriving DecidableEq, Repr

/-- How far a transaction has come (R233, R220): it waits for the engine or its gap; one of its frames waits for its instant, or is on
the wire; it waits for frames or a response; for flow control after its own frames; takes consecutive frames; sets the content of a
SENT transmitter; is decided. -/
inductive TxPhase where
  | waiting
  | pausing
  | sending
  | listening
  | flow
  | taking
  | setting
  | decided
deriving DecidableEq, Repr

/-- What the end of a frame on the wire leads to (R220, R223, R224, R231): the transaction is over; its response is awaited; flow control is
awaited; the next consecutive frame of a block is sent; consecutive frames are taken; a LIN frame is judged, the next frame of a LIN request is sent; the answer to
a header 61 is taken. -/
inductive Then where
  | finish
  | respond
  | flow
  | block
  | taking
  | lin
  | diag
  | poll
deriving DecidableEq, Repr

/-- One transaction: the execution and slot it serves (none for a keepalive), its entry, the edge at
which it became ready, its progress, the edge of its start, that of its first frame on the wire, of the request's end and of the response's start,
the edge from which its protocol timer runs with its length in Ts, the edge at which its response timeout or its frame limit ends, the instant at which its frame begins or ends (none
while that is open), the frame and what its end leads to, the CAN transmissions of it that failed, whether it ends with a bit error (R218), the LIN bytes and the differing bit of it, the request and response bytes, frames counted, frames of either direction that had marks, the outcome with its edge,
request bytes sent, sequence number, frames left in the block and wait frames, the separation time, the length of the response announced, and whether bit markers are made. -/
structure Tx where
  exec : Option Nat
  slot : Nat
  entry : Nat
  ready : Nat
  phase : TxPhase
  begun : Option Nat
  first : Option Nat
  reqEnd : Nat
  rspStart : Nat
  timer : Nat
  limit : Nat
  deadline : Nat
  due : Option Nat
  frame : CanFrame
  next : Then
  fails : Nat
  bad : Bool
  lin : LinData
  req : List Byte
  got : List Byte
  frames : Nat
  frameNo : Nat
  outcome : Nat
  decidedAt : Nat
  sent : Nat
  sn : Nat
  block : Nat
  waits : Nat
  stmin : Nat
  rxLen : Nat
  bitMarks : Bool
deriving DecidableEq, Repr

/-- A frame with nothing in it. -/
def noFrame : CanFrame := { ext := false, fd := false, rtr := false, brs := false, esi := false, ident := 0, bytes := [] }

/-- A transaction that becomes ready at an edge. -/
def Tx.init (exec : Option Nat) (slot entry ready : Nat) : Tx :=
  { exec := exec, slot := slot, entry := entry, ready := ready, phase := .waiting, begun := none, first := none, reqEnd := 0,
    rspStart := 0, timer := 0, limit := 0, deadline := 0, due := none, frame := noFrame, next := .finish, fails := 0, bad := false,
    lin := ⟨[], none⟩, req := [], got := [], frames := 0, frameNo := 0, outcome := 0, decidedAt := 0, sent := 0, sn := 0, block := 0,
    waits := 0, stmin := 0, rxLen := 0, bitMarks := false }

/-- One engine: its transactions in order of service (R233), the one under way first; its error counters and states (R217,
R244, R241) with the edge at which it entered bus-off; the frame on its wire, and the instant from which it may begin one (R217, R244); the content that a SENT
transmitter sends (R227) and the number of its message within the slow-channel message; what a SENT receiver keeps of the messages before: the calibration pulse (R226) and the slow-channel
bits of their status nibbles, the last first; a keepalive that is due, and the edge from which its PERIOD runs (R234). -/
structure Engine where
  txs : List Tx
  tec : Nat
  rec_ : Nat
  busOff : Bool
  offAt : Nat
  halted : Bool
  faulted : Bool
  wave : Option Wave
  idleAt : Nat
  content : List Nat
  slowTx : Nat
  slowRx : List Nat
  lastCal : Option Nat
  keepDue : Bool
  keepFrom : Nat
deriving DecidableEq, Repr

/-- An engine after a cold start. -/
def Engine.init : Engine :=
  { txs := [], tec := 0, rec_ := 0, busOff := false, offAt := 0, halted := false, faulted := false, wave := none, idleAt := 0, content := [],
    slowTx := 0, slowRx := [], lastCal := none, keepDue := false, keepFrom := 0 }

/-- The engine with nothing to serve and nothing on its wire (R241, R244). -/
def Engine.clear (g : Engine) : Engine := { g with txs := [], wave := none, keepDue := false }

end Sys2Proof.Machine
end

