-- ==== Sys2Proof/Machine/PartFab.lean ====
section
/-!
DEFINITION. What the Frets, the loader, the region cache, the scrubber and the pins hold beside their registers (R250 to R301).
-/

namespace Sys2Proof.Machine

/-- One request (R281): the Fret, the region, the operation (0 LOAD, 1 UNLOAD, 2 RESET), whether firmware repeats it under R289, so
that the cached copy is evicted, and whether it is the RESET of R293. -/
structure FretReq where
  fret : Nat
  region : Nat
  op : Nat
  again : Bool
  upset : Bool
deriving DecidableEq, Repr

/-- One image of the cache (R280): its key (the region and 1, or 257 and the Fret for base content), the decrypted image with its essential
map, and the time of its last use. -/
structure CacheEnt where
  key : Nat
  img : RegionImg
  used : Nat
deriving DecidableEq, Repr

/-- The loader (R281, R283): the requests in order, the one in progress, whether its Fret is isolated, the edge of isolation or of
the release, and a count that orders the use of cached images. -/
structure Loader where
  queue : List FretReq
  cur : Option FretReq
  isolated : Bool
  since : Nat
  cache : List CacheEnt
  uses : Nat
deriving DecidableEq, Repr

/-- A loader at rest. -/
def Loader.init : Loader := { queue := [], cur := none, isolated := false, since := 0, cache := [], uses := 0 }

/-- One Fret: the cache key of its content (0 none), the levels its design drives, the levels held at the last isolation, the
border words in force (R284), whether it ever ran, whether it is cut off from its inputs since an isolation (R285), the edge of its latest reset release (R286), its event queue (R274), the repeat that is scheduled and the edge at which it
falls due (R289). -/
structure Fret where
  content : Nat
  live : Tab Bool
  held : Tab Bool
  bvals : List Word
  ran : Bool
  cut : Bool
  released : Nat
  events : List Nat
  retry : Option (FretReq × Nat)
deriving DecidableEq, Repr

/-- An empty Fret. -/
def Fret.init : Fret := { content := 0, live := [], held := [], bvals := [], ran := false, cut := false, released := 0, events := [], retry := none }

/-- The scrubber (R290, R296): the frame it reads next, the edge of its latest slot, and whether every frame of the present pass read back as
recorded. -/
structure Scrub where
  next : Nat
  last : Nat
  good : Bool
deriving DecidableEq, Repr

/-- The changes of one word of the GPIO register that wait for the next sample edge (R259, R260). -/
structure GpioWait where
  set : Nat
  clr : Nat
  tgl : Nat
deriving DecidableEq, Repr

/-- No change waits. -/
def GpioWait.init : GpioWait := { set := 0, clr := 0, tgl := 0 }

/-- The inputs to the OR of R256 that HOLD keeps: border levels by 256 times the Fret plus the signal, and words of the GPIO
register (R262). -/
structure HeldIn where
  border : Tab Bool
  gpio : Tab Word
deriving DecidableEq, Repr

end Sys2Proof.Machine
end

