-- ==== Sys2Proof/Machine/PartLink.lean ====
section
/-!
DEFINITION. What the Chord link holds beside its registers (R479 to R495).
-/

namespace Sys2Proof.Machine

/-- A message that the device puts on the link, its own or one that it forwards (R486). -/
inductive LinkMsg where
  | capo (origin : Nat) (assert_ : Bool)
  | trig (sender dest list n : Nat)
  | pos (m : PosMsg)
  | wake (sender : Nat)
  | time
  | join (unit_ : Nat) (path : List Nat)
  | assign (unit_ : Nat) (path : List Nat) (ident : Option Nat)
  | status (t : Token)
deriving DecidableEq, Repr

/-- The link: what commands put on it, each message with the port that sends it (newest last), the triggers that wait for their local edge (R490), the messages acted
on already (R486), the asserted Capo origins with the port each was learned on (R492, R493), the paths that hold IDs with their IDs
and whether they are joined (R481), the hop latencies of the last 16 exchanges (R487), POS messages in a row within and beyond the
limits (R488), the sample-edge count (R488), the edge of each token's arrival (R494), the instant in 10^-5 Ts from which the next POS may
follow, and the edges of the latest exchange and token (R486). -/
structure Link where
  sent : List (Nat × LinkMsg)
  trigs : List (Nat × Nat)
  seenTrig : List (Nat × Nat)
  seenCapo : List (Nat × Nat)
  origins : List (Nat × Nat)
  members : List (List Nat × Nat)
  hops : List Int
  inRow : Nat
  outRow : Nat
  sedge : Nat
  tokenAt : List (Nat × Nat)
  posDue : Nat
  timeAt : Option Nat
  statusAt : Option Nat
deriving DecidableEq, Repr

/-- The link after a cold start. -/
def Link.init : Link :=
  { sent := [], trigs := [], seenTrig := [], seenCapo := [], origins := [], members := [], hops := [], inRow := 0, outRow := 0,
    sedge := 0, tokenAt := [], posDue := 0, timeAt := none, statusAt := none }

end Sys2Proof.Machine
end

