-- ==== Sys2Proof/Machine/PartCal.lean ====
section
/-!
DEFINITION. What the Tuning engine and fault recovery hold beside their registers (R302 to R333, R335, R336).
-/

namespace Sys2Proof.Machine

/-- One request of the Tuning engine (R318): the operation (0 FULL, 1 RANGE, 2 QUICK, 3 TAPS, 4 RMU), its target (slice 33c + k, pin or
RMU), and the range of RANGE and QUICK. -/
structure CalReq where
  op : Nat
  target : Nat
  range : Nat
deriving DecidableEq, Repr

/-- How the slice of a run is off its pin (R315, R316): a free spare; its pin on the spare; in an idle gap that ends at an edge, where
one is known; taps and meters take no slice. -/
inductive CalVia where
  | spareFree
  | spare
  | gap (until_ : Option Nat)
  | none
deriving DecidableEq, Repr

/-- The run in progress: its request, the ranges, buses or meter ranges still to end (the first is in progress), how its slice is off
the pin, the edge at which the present one began (none: it waits for its handover, headroom or claims), and whether one has been
committed. -/
structure CalRun where
  req : CalReq
  left : List Nat
  via : CalVia
  start : Option Nat
  committed : Bool
deriving DecidableEq, Repr

/-- One commit of a range (R318, R320): the second and the temperature then, the gain as numerator over 2^62 and the offset in
1/256 LSB of the sense and the force path, factory and user values together, and whether it was one of a quick offset calibration. -/
structure CalMark where
  time : Nat
  temp : Int
  gains : List Int
  offsets : List Int
  quick : Bool
deriving DecidableEq, Repr

/-- One copy of the user calibration store as it lies in flash (R326, R328): erased, valid with what it holds, or neither. `words` are the
quality, UNCAL and DIST registers. -/
inductive CalCopy where
  | erased
  | bad
  | valid (seq : Word) (user : Tab Int) (tcal : Tab (Option Int)) (words : Tab Word) (marks : Tab (List CalMark)) (taps : Tab Nat)
    (rmuQ : Tab Nat) (rmuVals : Tab (Int × Int)) (rmuUncal : List Nat)
deriving DecidableEq, Repr

/-- The eight user items of one path of a range that a fit produced: gain, offset, eight linearity points (R311). -/
structure Fit where
  gain : Int
  offset : Int
  lin : List Int
deriving DecidableEq, Repr

/-- What the Tuning engine makes of a range's measurements (R310 to R313): the fits as user deltas with the quality figure in 0.1 ppm; disturbed; a
point or check point that still disagrees. The worst residual in ppm is that under the factory values alone. -/
inductive CalEnd where
  | fitted (sense force : Fit) (quality residualPpm : Nat)
  | disturbed
  | disagreed (residualPpm : Nat)
deriving DecidableEq, Repr

/-- The Tuning engine. Requests of the start-up (R323) and of items 1 to 3 of R318; ranges that ended DISTURBED with the edge from which
they may be scheduled again (R313); the run in progress. The user and factory values and TCAL, by `calKey`; the user values in force for
the sample in progress where a write changes them (R332); the commits of a range within 7 days, newest first; the tap table (R321); quality by RMU
range, gain and offset by RMU range (R302), and RMU ranges marked UNCAL (R322). The edge from which values are DIRTY (R327), the two copies, and the
temperatures that the slices apply (R307); the seconds that have passed, and whether CAL_EPOCH has been written since the cold start
(R325); the edges of the latest sensor reading and of the latest second (R307, R325). A CRC over the values in use always matches them here (R329). -/
structure Cal where
  boot : List CalReq
  reqs : List CalReq
  auto : List CalReq
  again : List CalReq
  dist : List (CalReq × Nat)
  run : Option CalRun
  user : Tab Int
  factory : Tab Int
  tcal : Tab (Option Int)
  old : Option (Tab Int)
  marks : Tab (List CalMark)
  taps : Tab Nat
  rmuQ : Tab Nat
  rmuVals : Tab (Int × Int)
  rmuUncal : List Nat
  dirtySince : Option Nat
  copyA : CalCopy
  copyB : CalCopy
  temps : List Int
  seconds : Nat
  epochSet : Bool
  sensedAt : Nat
  tickAt : Nat
deriving DecidableEq, Repr

/-- A Tuning engine at power-on: no user value, both copies erased. -/
def Cal.init : Cal :=
  { boot := [], reqs := [], auto := [], again := [], dist := [], run := none, user := [], factory := [], tcal := [], old := none,
    marks := [], taps := [], rmuQ := [], rmuVals := [], rmuUncal := [], dirtySince := none, copyA := .erased, copyB := .erased,
    temps := [0, 0, 0, 0, 0, 0, 0, 0, 0, 0, 0, 0, 0, 0, 0, 0], seconds := 0, epochSet := false, sensedAt := 0, tickAt := 0 }

/-- A retest in progress (R335): the resource, its detector, the edge of the event, the raw value, and the tests failed. -/
structure Retest where
  res : Resource
  code : Nat
  edge : Nat
  detail : Nat
  fails : Nat
deriving DecidableEq, Repr

/-- Fault recovery: retests in progress, and the class T events of each resource with their edges (R336). -/
structure Recovery where
  retests : List Retest
  recent : List (Resource × Nat)
deriving DecidableEq, Repr

/-- Nothing has failed. -/
def Recovery.init : Recovery := { retests := [], recent := [] }

end Sys2Proof.Machine
end

