-- ==== Sys2Proof/Machine/PartSys.lean ====
section
/-!
DEFINITION. What Capo, the watchdog, the clocks, the start-up, the security block, the boundary scan and the host interface hold beside
their registers (R346 to R351, R357 to R409, R434 to R453, R474 to R476).
-/

namespace Sys2Proof.Machine

/-- A patch in use or to be used (R447, R449): its copy, its PSEQ, and the plain text of its body. -/
structure Patch where
  copy : Nat
  seq : Word
  plain : List Byte
deriving DecidableEq, Repr

/-- A command of the security block that runs (R445): an attestation with its report as formed at the accepting edge, or the
verification of a patch copy. -/
inductive SecTask where
  | attest (report : List Byte)
  | patch (copy : Nat)
deriving DecidableEq, Repr

/-- The instruction in force of the boundary scan (R452). -/
inductive JtagOp where
  | bypass
  | idcode
  | sample
  | extest
deriving DecidableEq, Repr

/-- Capo and the watchdog: the lists that SAFE stopped (R349); whether this device's own ASSERT stands, and the edge of its latest sending
(R350, R492); the edge from which the conditions of R348 hold; whether CAPO_N is low; the edge of the latest accepted kick or watchdog
stage, whether the step engine was re-armed and the watchdog kicked since (R351). -/
structure CapoSt where
  lists : List Nat
  asserting : Bool
  sentAt : Nat
  ready : Option Nat
  pinLow : Bool
  wdFrom : Nat
  rearmed : Bool
  kicked : Bool
deriving DecidableEq, Repr

/-- A warm start in progress (R399): its cause (0 host, 1 watchdog, 2 patch), the phase it interrupted, and the contexts it ended with
whether each had a transaction under way (R34, R243). -/
structure WarmRun where
  cause : Nat
  phase : Nat
  ended : List (Nat × Bool)
deriving DecidableEq, Repr

/-- The references (R357 to R375): the edge of the loss that the root PLL's holdover follows, the reference that a switch moves to,
whether the latest window of R360 passed and had begun after the count of the judged reference completed, and whether the window that runs
began so, and the fabric clock in kHz that is in force while the fabric PLL is not locked (R367). -/
structure ClkSt where
  lossAt : Option Nat
  switching : Option Bool
  winOk : Bool
  winAfter : Bool
  fabOld : Nat
deriving DecidableEq, Repr

/-- A wake comparator in QUIET (R264, R265): its slot, pin, edge and filter codes, thresholds in 4 mV, and its state. -/
structure WakeCmp where
  slot : Nat
  pin : Nat
  edge : Nat
  filt : Nat
  high : Int
  low : Int
  state : Bool
deriving DecidableEq, Repr

/-- The start-up (R383 to R392): the edge of supply-good, the position in BOOT_ORDER, the edge at which the phase there completed (its delay
runs), the edge at which WAIT_LOCK began, and the Frets
that were RUNNING when QUIET began with their regions, the phase that QUIET interrupted (R405), the wake comparators as QUIET began with
them (R264), the boot header in use (R414), the signed manifest of the slot that is loaded (R417), and, once the SYSTEM section of the slot in progress is applied, the edge of that
and CSEQ at the slot's beginning (R385, R394). -/
structure BootSt where
  supplyAt : Nat
  pos : Nat
  doneAt : Option Nat
  lockFrom : Option Nat
  frets : List (Nat × Nat)
  quietPhase : Nat
  wakes : List WakeCmp
  header : List Byte
  manifest : List Byte
  system : Option (Nat × Word)
deriving DecidableEq, Repr

/-- Keys and commands of the security block (R435 to R453): the hash of each programmed key slot, the eFuse key, the BBRAM key, the latched
causes of its clearing (R436), the patch that a restart activates, the command that runs, and the challenge that waits for
its one attempt. -/
structure SecSt where
  hashes : Tab (List Byte)
  fkey : Option (List Byte)
  bbKey : Option (List Byte)
  tamper : Bool
  vbatLoss : Bool
  patch : Option Patch
  task : Option SecTask
  challenge : Option (List Byte)
deriving DecidableEq, Repr

/-- The boundary scan (R452): the instruction, the captured levels, the preloaded levels, and those driven on digital balls. -/
structure Jtag where
  op : JtagOp
  captured : List Bool
  preload : List Bool
  drive : Option (List Bool)
deriving DecidableEq, Repr

/-- A transfer of a DMA channel (R475): toward DDR5 or from it, its addresses and length. -/
structure DmaJob where
  toDdr : Bool
  ddr : Nat
  host : Nat
  len : Nat
deriving DecidableEq, Repr

/-- A flash operation of the host (R476): 0 READ, 1 PROGRAM, 2 ERASE; its offset, length and DDR5 address. -/
structure FlashJob where
  op : Nat
  ofs : Nat
  len : Nat
  ddr : Nat
deriving DecidableEq, Repr

/-- All of them, with the transfers of the DMA channels, the flash operation of the host that runs (R476), and whether the endpoint was reset
by a hot reset or a link-down since the link was up (R469), and the time in Ts for which the patrol scrubber of DDR5 has run, with the edge since
which it runs (R457). -/
structure Sys where
  capo : CapoSt
  warm : Option WarmRun
  clk : ClkSt
  boot : BootSt
  sec : SecSt
  jtag : Jtag
  dma : Tab (Option DmaJob)
  flOp : Option FlashJob
  linkLost : Bool
  patrol : Nat × Option Nat
deriving DecidableEq, Repr

/-- After power-on. PRESUMED (assumption 11): the boundary scan starts with IDCODE, as IEEE 1149.1 prescribes. -/
def Sys.init : Sys :=
  { capo := { lists := [], asserting := false, sentAt := 0, ready := none, pinLow := false, wdFrom := 0, rearmed := true, kicked := true },
    warm := none, clk := { lossAt := none, switching := none, winOk := false, winAfter := false, fabOld := 327680 },
    boot := { supplyAt := 0, pos := 0, doneAt := none, lockFrom := none, frets := [], quietPhase := 0, wakes := [], header := [], manifest := [], system := none },
    sec := { hashes := [], fkey := none, bbKey := none, tamper := false, vbatLoss := false, patch := none, task := none, challenge := none },
    jtag := { op := .idcode, captured := [], preload := [], drive := none }, dma := [], flOp := none, linkLost := false, patrol := (0, none) }

end Sys2Proof.Machine
end

