-- ==== Sys2Proof/Syntax.lean ====
section
/-!
DEFINITION. The commands of the block: one constructor for each row of spec/opcode_table.json, in the order of the table.
Operands say which register set, engine, axis or list the command concerns, who writes (`Wr`), and what the block saw of the
world outside (log entry 5). The Lean word for a command is `Instr`.
-/

namespace Sys2Proof

/-- The commands (opcode_table.json). -/
inductive Instr where
  /-- REGISTER_WRITE (R8). -/
  | registerWrite (addr : BitVec 24) (w : Wr)
  /-- CH_MODE_WRITE (R40). -/
  | chModeWrite (n : Fin 1024) (w : Wr)
  /-- CH_RANGE_WRITE (R58). -/
  | chRangeWrite (n : Fin 1024) (w : Wr)
  /-- CH_FORCE_WRITE (R46). -/
  | chForceWrite (n : Fin 1024) (w : Wr)
  /-- CH_CLAMP_WRITE (R55). -/
  | chClampWrite (n : Fin 1024) (w : Wr)
  /-- BRIDGE_END (R61). -/
  | bridgeEnd (n : Fin 1024)
  /-- CLAMP_ENGAGE (R55). -/
  | clampEngage (n : Fin 1024)
  /-- FOLD_BACK (R56). -/
  | foldBack (n : Fin 1024)
  /-- CH_QWR_WRITE (R48). -/
  | chQwrWrite (n : Fin 1024) (w : Wr)
  /-- QUEUE_RUN_START (R49). -/
  | queueRunStart (n : Fin 1024) (w : Wr)
  /-- QUEUE_RUN_STOP (R52). -/
  | queueRunStop (n : Fin 1024) (w : Wr)
  /-- DAC_UPDATE (R49). -/
  | dacUpdate (n : Fin 1024)
  /-- GOVBUDGET_WRITE (R83). -/
  | govbudgetWrite (w : Wr)
  /-- SLICE_HANDOVER (R78). -/
  | sliceHandover (c : Fin 32)
  /-- MATRIX_CMD_CLOSE (R93). -/
  | matrixCmdClose (w : Wr)
  /-- MATRIX_CMD_OPEN (R93). -/
  | matrixCmdOpen (w : Wr)
  /-- MATRIX_HOSTBUS_WRITE (R97). -/
  | matrixHostbusWrite (w : Wr)
  /-- MATRIX_HOST_CLAIM_WRITE (R98). -/
  | matrixHostClaimWrite (r : Fin 3) (w : Wr)
  /-- MATRIX_BUSOPEN_WRITE (R116). -/
  | matrixBusopenWrite (w : Wr) (stuck : List (Fin 34 × Nat))
  /-- MATRIX_BUSREL_WRITE (R116). -/
  | matrixBusrelWrite (w : Wr) (stuck : List (Fin 34 × Nat))
  /-- MATRIX_LENT_WRITE (R91). -/
  | matrixLentWrite (j : Fin 8192) (w : Wr)
  /-- RMU_START (R99). -/
  | rmuStart (r : Fin 4) (w : Wr)
  /-- RMU_CONVERSION_END (R109). -/
  | rmuConversionEnd (r : Fin 4) (m : RmuMeas)
  /-- RMU_CHAIN_START (R151). -/
  | rmuChainStart (r : Fin 4) (w : Wr)
  /-- RMU_CHAIN_STOP (R151). -/
  | rmuChainStop (r : Fin 4) (w : Wr)
  /-- BUS_OVERCURRENT (R115). -/
  | busOvercurrent (p : Fin 34) (stuck : List (Fin 34 × Nat))
  /-- CLAIM_RELEASE (R95). -/
  | claimRelease
  /-- CAT_COMPARATOR_EVENT (R113). -/
  | catComparatorEvent (t : Fin 64) (v : TileVolts) (sat : Bool)
  /-- FILT_RUN_START (R135). -/
  | filtRunStart (n : Fin 1024) (w : Wr)
  /-- FILT_RUN_STOP (R135). -/
  | filtRunStop (n : Fin 1024) (w : Wr)
  /-- CHAIN_OUTPUT (R131). -/
  | chainOutput (n : Fin 1024)
  /-- FILT_OUTLO_READ (R156). -/
  | filtOutloRead (n : Fin 1024)
  /-- THRESHOLD_UNIT_OUTPUT (R148). -/
  | thresholdUnitOutput (n : Fin 1024)
  /-- LANE_SPARE_TAKEOVER (R149). -/
  | laneSpareTakeover (m : Fin 64)
  /-- POS_RUN_START (R166). -/
  | posRunStart (a : Fin 4) (w : Wr)
  /-- POS_RUN_STOP (R166). -/
  | posRunStop (a : Fin 4) (w : Wr)
  /-- COUNTER_LOAD (R165). -/
  | counterLoad (a : Fin 4) (w : Wr)
  /-- POS_CNTLO_READ (R183). -/
  | posCntloRead (a : Fin 4)
  /-- POS_RATE_WRITE (R170). -/
  | posRateWrite (a : Fin 4) (w : Wr)
  /-- POS_SLEW_WRITE (R170). -/
  | posSlewWrite (a : Fin 4) (w : Wr)
  /-- RATE_SLEW_STEP (R170). -/
  | rateSlewStep (a : Fin 4)
  /-- LINE_CROSSING (R168). -/
  | lineCrossing (a : Fin 4)
  /-- LINE_CROSSING_TIMEOUT (R169). -/
  | lineCrossingTimeout (a : Fin 4)
  /-- HOLDOVER_EXPIRY (R169). -/
  | holdoverExpiry (a : Fin 4)
  /-- TOOTH_EDGE (R171). -/
  | toothEdge (a : Fin 4)
  /-- ANGLE_STALL (R172). -/
  | angleStall (a : Fin 4)
  /-- ENCODER_SAMPLE (R173). -/
  | encoderSample (a : Fin 4)
  /-- ENCODER_INDEX (R173). -/
  | encoderIndex (a : Fin 4)
  /-- COMPARE_FIRE (R180). -/
  | compareFire (a : Fin 4) (k : Fin 64)
  /-- PULSE_END (R181). -/
  | pulseEnd (a : Fin 4) (k : Fin 64)
  /-- CMP_CLAIM (R182). -/
  | cmpClaim (a : Fin 4) (w : Wr)
  /-- CMP_RELEASE (R182). -/
  | cmpRelease (a : Fin 4) (w : Wr)
  /-- CMP_VALHI_WRITE (R184). -/
  | cmpValhiWrite (a : Fin 4) (k : Fin 64) (w : Wr)
  /-- CMP_CFG_WRITE (R184). -/
  | cmpCfgWrite (a : Fin 4) (k : Fin 64) (w : Wr)
  /-- STEP_START_ARM (R194). -/
  | stepStartArm (w : ArmWr)
  /-- STEP_START_GO (R192). -/
  | stepStartGo (w : Wr)
  /-- STEP_STOP (R195). -/
  | stepStop (w : Wr)
  /-- STEP_STOP_ABORT (R195). -/
  | stepStopAbort (w : Wr)
  /-- STEP_CTL_WRITE (R209). -/
  | stepCtlWrite (w : Wr)
  /-- LIST_DISABLE (R194). -/
  | listDisable (l : Fin 256) (w : Wr)
  /-- PIN_TRIGGER (R191). -/
  | pinTrigger (l : Fin 256)
  /-- SETUP_FETCH_DONE (R189). -/
  | setupFetchDone (l : Fin 256) (ecc : Option FetchErr)
  /-- CONTEXT_START (R196). -/
  | contextStart (l : Fin 256) (ecc : Bool)
  /-- CONTEXT_CLOSE (R196). -/
  | contextClose (l : Fin 256)
  /-- SLOT_COMPLETE (R196). -/
  | slotComplete (l : Fin 256) (i : Nat)
  /-- RESQ_WRSEQ_ADVANCE (R208). -/
  | resqWrseqAdvance (q : Fin 16)
  /-- SLOT_RETRY (R199). -/
  | slotRetry (l : Fin 256) (i : Nat)
  /-- RESQ_RDSEQ_WRITE (R210). -/
  | resqRdseqWrite (q : Fin 16) (w : Wr)
  /-- CANTX (R231). -/
  | cantx (e : Fin 120) (delay : Option (BitVec 24))
  /-- CANRX (R231). -/
  | canrx (e : Fin 120)
  /-- CANREQ (R231). -/
  | canreq (e : Fin 120) (delay : Option (BitVec 24))
  /-- ISOTP (R231). -/
  | isotp (e : Fin 120) (delay : Option (BitVec 24))
  /-- LINFRAME (R231). -/
  | linframe (e : Fin 120) (d : LinData)
  /-- LINDIAG (R224). -/
  | lindiag (e : Fin 120) (d : LinData)
  /-- SENTRX (R231). -/
  | sentrx (e : Fin 120)
  /-- SENTTX (R231). -/
  | senttx (e : Fin 120)
  /-- CAN_FRAME_RECEIVED (R219). -/
  | canFrameReceived (e : Fin 120) (f : CanFrame) (syncs : List Sync)
  /-- CAN_FRAME_ERROR (R217). -/
  | canFrameError (e : Fin 120) (k : CanError) (sending : Bool)
  /-- BUSOFF_RECOVERY (R219). -/
  | busoffRecovery (e : Fin 120)
  /-- LIN_HEADER_RECEIVED (R223). -/
  | linHeaderReceived (e : Fin 120) (b : LinBreak) (pid : Byte) (d : LinData)
  /-- LIN_WAKE_DETECT (R222). -/
  | linWakeDetect (e : Fin 120)
  /-- LIN_FRAME_LIMIT (R223). -/
  | linFrameLimit (e : Fin 120)
  /-- LINDIAG_POLL (R224). -/
  | lindiagPoll (e : Fin 120) (d : LinData)
  /-- SENT_MESSAGE_RECEIVED (R226). -/
  | sentMessageReceived (e : Fin 120) (m : SentMsg)
  /-- SENT_MESSAGE_SENT (R227). -/
  | sentMessageSent (e : Fin 120)
  /-- RESPONSE_PENDING (R221). -/
  | responsePending (e : Fin 120) (f : CanRx)
  /-- ISOTP_FLOW_CONTROL (R220). -/
  | isotpFlowControl (e : Fin 120) (f : CanRx)
  /-- ISOTP_TIMER_EXPIRY (R220). -/
  | isotpTimerExpiry (e : Fin 120)
  /-- TRANSACTION_TIMEOUT (R236). -/
  | transactionTimeout (e : Fin 120)
  /-- BUS_SLOT_COMPLETE (R238). -/
  | busSlotComplete (e : Fin 120)
  /-- KEEPALIVE_DUE (R234). -/
  | keepaliveDue (e : Fin 120)
  /-- BUS_ECFG_WRITE (R244). -/
  | busEcfgWrite (e : Fin 120) (w : Wr)
  /-- BUS_EPIN_WRITE (R251). -/
  | busEpinWrite (e : Fin 120) (w : Wr)
  /-- PIN_SRC_WRITE (R251). -/
  | pinSrcWrite (n : Fin 1024) (w : Wr)
  /-- PIN_FAB_WRITE (R258). -/
  | pinFabWrite (n : Fin 1024) (w : Wr)
  /-- PIN_AXO_WRITE (R258). -/
  | pinAxoWrite (n : Fin 1024) (w : Wr)
  /-- PIN_SET_WRITE (R259). -/
  | pinSetWrite (b : Fin 32) (w : Wr)
  /-- PIN_CLR_WRITE (R259). -/
  | pinClrWrite (b : Fin 32) (w : Wr)
  /-- PIN_TGL_WRITE (R259). -/
  | pinTglWrite (b : Fin 32) (w : Wr)
  /-- WAKE_PIN_EVENT (R265). -/
  | wakePinEvent (pins : List PinVolt)
  /-- FRET_LOAD (R281). -/
  | fretLoad (w : Wr)
  /-- FRET_UNLOAD (R281). -/
  | fretUnload (w : Wr)
  /-- FRET_RESET (R282). -/
  | fretReset (w : Wr)
  /-- REGION_IMAGE_CACHED (R283). -/
  | regionImageCached (r : RegionFetch)
  /-- REGION_LOAD_COMPLETE (R283). -/
  | regionLoadComplete (r : RegionWrite)
  /-- FRET_BORDER_CONNECT (R286). -/
  | fretBorderConnect (f : Fin 48)
  /-- REGION_RETRY (R289). -/
  | regionRetry (f : Fin 48)
  /-- SCRUB_FRAME (R290). -/
  | scrubFrame (r : FrameCheck)
  /-- SHELL_WRITE (R275). -/
  | shellWrite (f : Fin 48) (addr : BitVec 24) (be : BitVec 4) (data : Word)
  /-- FRET_WINDOW_ACCESS (R276). -/
  | fretWindowAccess (f : Fin 48) (op : WindowOp)
  /-- FRET_WINDOW_TIMEOUT (R276). -/
  | fretWindowTimeout (f : Fin 48)
  /-- CAL_CMD_FULL (R318). -/
  | calCmdFull (w : Wr)
  /-- CAL_CMD_RANGE (R318). -/
  | calCmdRange (w : Wr)
  /-- CAL_CMD_QUICK (R314). -/
  | calCmdQuick (w : Wr)
  /-- CAL_CMD_TAPS (R321). -/
  | calCmdTaps (w : Wr)
  /-- CAL_CMD_RMU (R322). -/
  | calCmdRmu (w : Wr)
  /-- CAL_CMD_SAVE (R327). -/
  | calCmdSave (w : Wr) (ok : Bool)
  /-- CAL_CMD_ABORT (R319). -/
  | calCmdAbort (w : Wr)
  /-- CAL_CTL_WRITE (R319). -/
  | calCtlWrite (w : Wr)
  /-- AUTO_CAL_DUE (R318). -/
  | autoCalDue (i : Fin 1056) (r : Fin 8)
  /-- CALIBRATION_START (R315). -/
  | calibrationStart (vref : Int)
  /-- CAL_RANGE_END (R309). -/
  | calRangeEnd (m : CalMeas) (vref : Int)
  /-- DISTURBED_RESCHEDULE (R313). -/
  | disturbedReschedule (i : Fin 1056) (r : Fin 8)
  /-- TAP_MEASURE_END (R321). -/
  | tapMeasureEnd (b : Fin 34) (pairs : List (Nat × Nat)) (vref : Int)
  /-- RMU_CAL_END (R322). -/
  | rmuCalEnd (x : RmuCal) (vref : Int)
  /-- CAL_SAVE_TIMER (R327). -/
  | calSaveTimer (ok : Bool)
  /-- CAL_VU_WRITE (R332). -/
  | calVuWrite (w : Wr)
  /-- CAL_EPOCH_WRITE (R325). -/
  | calEpochWrite (w : Wr)
  /-- EPOCH_TICK (R325). -/
  | epochTick
  /-- SENSOR_READ (R307). -/
  | sensorRead (temps : List Int)
  /-- FAULT_DETECTED (R335). -/
  | faultDetected (x : Detect)
  /-- DEVICE_RETEST (R335). -/
  | deviceRetest (r : Resource) (pass : Bool)
  /-- EVENT_LOG_COPY (R354). -/
  | eventLogCopy
  /-- SUPPLY_OUT_OF_WINDOW (R346). -/
  | supplyOutOfWindow (r : Rail)
  /-- SUPPLY_RESTORED (R346). -/
  | supplyRestored
  /-- OVERTEMP_TRIP (R346). -/
  | overtempTrip
  /-- OVERTEMP_CLEAR (R346). -/
  | overtempClear
  /-- CAPO_N_ASSERT (R346). -/
  | capoNAssert
  /-- CAPO_N_RELEASE (R346). -/
  | capoNRelease
  /-- CAPO_CMD_SAFE (R346). -/
  | capoCmdSafe (w : Wr)
  /-- CAPO_CMD_CLRHOST (R346). -/
  | capoCmdClrhost (w : Wr)
  /-- CAPO_CMD_RELEASE (R348). -/
  | capoCmdRelease (w : Wr)
  /-- CAPO_RDELAY_EXPIRY (R348). -/
  | capoRdelayExpiry
  /-- WATCHDOG_KICK (R351). -/
  | watchdogKick (w : Wr)
  /-- WATCHDOG_EXPIRY (R351). -/
  | watchdogExpiry
  /-- WATCHDOG_STAGE2 (R351). -/
  | watchdogStage2
  /-- WATCHDOG_STAGE3 (R351). -/
  | watchdogStage3
  /-- REF_COUNT_COMPLETE (R359). -/
  | refCountComplete (b : Bool)
  /-- REF_MISSING_EDGE (R359). -/
  | refMissingEdge (b : Bool)
  /-- ACTIVE_REF_LOSS (R372). -/
  | activeRefLoss
  /-- REF_WINDOW_END (R360). -/
  | refWindowEnd (count : Nat)
  /-- REF_SWITCH_COMPLETE (R370). -/
  | refSwitchComplete
  /-- GATED_DOMAINS_STOP (R373). -/
  | gatedDomainsStop
  /-- CLK_CMD_SWITCH (R369). -/
  | clkCmdSwitch (w : Wr)
  /-- HITLESS_SLEW_END (R371). -/
  | hitlessSlewEnd
  /-- FABRIC_CLOCK_WRITE (R367). -/
  | fabricClockWrite (r : Fin 2) (w : Wr)
  /-- FAB_PLL_LOCK (R367). -/
  | fabPllLock
  /-- CLKOUT_WRITE (R378). -/
  | clkoutWrite (n : Fin 4) (r : Fin 3) (w : Wr)
  /-- CLKOUT_RELOCK (R378). -/
  | clkoutRelock (n : Fin 4)
  /-- SUPPLY_GOOD (R383). -/
  | supplyGood (st : Straps)
  /-- BASE_IMAGE_LOADED (R394). -/
  | baseImageLoaded (l : SlotLoad)
  /-- DDR_TRAINED (R456). -/
  | ddrTrained
  /-- DDR_TRAIN_RETRY (R456). -/
  | ddrTrainRetry
  /-- RELEASE_PHASE (R389). -/
  | releasePhase (k : Fin 4)
  /-- BOOT_DELAY_EXPIRY (R391). -/
  | bootDelayExpiry (k : Fin 4)
  /-- STEP_ENGINE_ARM (R384). -/
  | stepEngineArm
  /-- PROG_N (R397). -/
  | progN
  /-- BOOT_CTL_REPROG (R397). -/
  | bootCtlReprog (w : Wr)
  /-- BOOT_CTL_WARM (R398). -/
  | bootCtlWarm (w : Wr) (saveOk : Bool)
  /-- WARM_START_REARM (R34). -/
  | warmStartRearm
  /-- PATCH_RETRY (R388). -/
  | patchRetry (x : PatchIn) (saveOk : Bool)
  /-- BOOT_CTL_QUIET (R402). -/
  | bootCtlQuiet (w : Wr) (saveOk : Bool)
  /-- WAKE_N_LOW (R404). -/
  | wakeNLow
  /-- BOOT_CTL_WAKE (R404). -/
  | bootCtlWake (w : Wr)
  /-- QUIET_EXIT_ARM (R405). -/
  | quietExitArm
  /-- BOOT_CTL_CLRCLAMP (R408). -/
  | bootCtlClrclamp (w : Wr)
  /-- SEC_ATTEST (R451). -/
  | secAttest (w : Wr)
  /-- ATTEST_COMPLETE (R451). -/
  | attestComplete
  /-- SEC_PATCHACT (R448). -/
  | secPatchact (w : Wr)
  /-- PATCH_VERIFIED (R448). -/
  | patchVerified (x : PatchIn) (saveOk : Bool)
  /-- SEC_REVOKE (R444). -/
  | secRevoke (w : Wr) (sigOk : Bool)
  /-- SEC_KEYPROG (R445). -/
  | secKeyprog (w : Wr) (sigOk : Bool)
  /-- SEC_FKEYPROG (R450). -/
  | secFkeyprog (w : Wr) (sigOk : Bool)
  /-- SEC_BBWRITE (R445). -/
  | secBbwrite (w : Wr)
  /-- SEC_BBCLEAR (R445). -/
  | secBbclear (w : Wr)
  /-- SEC_GETID (R445). -/
  | secGetid (w : Wr)
  /-- TAMPER_EVENT (R436). -/
  | tamperEvent
  /-- VBAT_LOSS (R436). -/
  | vbatLoss
  /-- JTAG_FUSEPROG (R443). -/
  | jtagFuseprog (op : FuseOp)
  /-- JTAG_DBGCHAL (R453). -/
  | jtagDbgchal
  /-- JTAG_DBGUNLOCK (R453). -/
  | jtagDbgunlock (request : List Byte) (sigOk : Bool)
  /-- JTAG_BYPASS (R452). -/
  | jtagBypass
  /-- JTAG_IDCODE (R452). -/
  | jtagIdcode
  /-- JTAG_SAMPLE_PRELOAD (R452). -/
  | jtagSamplePreload (pads : List Bool) (preload : List Bool)
  /-- JTAG_EXTEST (R452). -/
  | jtagExtest (drive : List Bool)
  /-- PCIE_RESET (R469). -/
  | pcieReset (k : LinkLoss)
  /-- BAR2_ACCESS (R472). -/
  | bar2Access (op : Bar2Op)
  /-- BAR2BASE_WRITE (R472). -/
  | bar2baseWrite (w : Wr)
  /-- QUEUE_DMA_COPY (R474). -/
  | queueDmaCopy (q : Fin 16)
  /-- DMA_GO (R475). -/
  | dmaGo (n : Fin 8) (w : Wr)
  /-- DMA_COMPLETE (R475). -/
  | dmaComplete (n : Fin 8) (r : DmaEnd)
  /-- FLASH_READ (R476). -/
  | flashRead (w : Wr)
  /-- FLASH_PROGRAM (R476). -/
  | flashProgram (w : Wr)
  /-- FLASH_ERASE (R476). -/
  | flashErase (w : Wr)
  /-- FLASH_OP_COMPLETE (R476). -/
  | flashOpComplete (ok : Bool)
  /-- DDR_UNCORRECTABLE (R457). -/
  | ddrUncorrectable (addr : BitVec 36)
  /-- DDR_CORRECTED (R457). -/
  | ddrCorrected
  /-- CB_RESET (R466). -/
  | cbReset (b : Fin 64) (w : Wr)
  /-- DDR_CBWR_READ (R477). -/
  | ddrCbwrRead (b : Fin 64)
  /-- CHORD_PORT_DOWN (R484). -/
  | chordPortDown (p : Fin 4)
  /-- CHORD_PORT_UP (R484). -/
  | chordPortUp (p : Fin 4) (origins : List (BitVec 11))
  /-- JOIN_MESSAGE (R481). -/
  | joinMessage (j : JoinMsg)
  /-- ASSIGN_MESSAGE (R481). -/
  | assignMessage (j : AssignMsg)
  /-- CHORD_ENUM (R482). -/
  | chordEnum (w : Wr)
  /-- CHORD_CLRORIG (R493). -/
  | chordClrorig (w : Wr)
  /-- CAPO_MESSAGE (R492). -/
  | capoMessage (m : CapoMsg)
  /-- CAPO_ASSERT_REPEAT (R492). -/
  | capoAssertRepeat
  /-- TRIG_MESSAGE (R490). -/
  | trigMessage (m : TrigMsg)
  /-- CHORD_SEND_GO (R491). -/
  | chordSendGo (w : Wr)
  /-- POS_MESSAGE (R488). -/
  | posMessage (m : PosMsg)
  /-- POS_SEND (R486). -/
  | posSend
  /-- WAKE_MESSAGE (R495). -/
  | wakeMessage (p : Fin 4) (sender : BitVec 11)
  /-- TIME_EXCHANGE (R487). -/
  | timeExchange
  /-- TIME_REPLY (R487). -/
  | timeReply (p : Fin 4) (t : TimeStamps)
  /-- STATUS_SEND (R494). -/
  | statusSend
  /-- STATUS_TOKEN (R494). -/
  | statusToken (t : Token)
  /-- TOKEN_AGE_EXPIRY (R494). -/
  | tokenAgeExpiry (i : Fin 2047)
  /-- CHORD_SEDGELO_READ (R497). -/
  | chordSedgeloRead
  /-- SAMPLE_EDGE (R159). -/
  | sampleEdge (samples : List PinSample)
  /-- CLAMP_RELEASE (R55). -/
  | clampRelease (n : Fin 1024)
  /-- BORDER_OUTPUT_CHANGE (R273). -/
  | borderOutputChange (f : Fin 48) (sig : Fin 256) (level : Bool)
  /-- ROOT_PLL_LOCK (R383). -/
  | rootPllLock (x : HeaderSigs)
  /-- DDR_PLL_LOCK (R385). -/
  | ddrPllLock
  /-- PCIE_LINK_UP (R469). -/
  | pcieLinkUp (speed : Fin 4) (width : Fin 3)
deriving DecidableEq, Repr

end Sys2Proof
end

