-- ==== Sys2Proof/Machine/State.lean ====
section
/-!
DEFINITION. The state of the block: everything the spec gives it, as plain data, and the queue of commands that wait.
-/

namespace Sys2Proof.Machine

/-- Why a command stops the block: there is no such case. The spec gives every command an effect in every state: what is refused is reported
and the block goes on (R12, R393), what is not addressed is discarded (R470). Nobody raises a fault, which is safe: nothing is cut off. -/
inductive Fault where
deriving DecidableEq, Repr

/-- Why a command has no meaning here. -/
inductive Refusal where
  /-- Raised by an arm of exec that has no meaning yet. Safe: nothing is claimed of it. -/
  | notModelled (mnemonic : String)
deriving DecidableEq, Repr

/-- The memories with byte addresses: DDR5 (R455), the serial flash (R411) and what the device has written to the host's
memory (R474, R475). -/
structure Mem where
  ddr : List Host.Cell
  flash : List Host.Cell
  host : List Host.Cell
deriving DecidableEq, Repr

/-- The device but for its byte memories and the queue of commands. -/
structure Device where
  regs : Tab Word
  edge : Nat
  freeCtr : Nat
  chan : Tab Chan
  course : Tab Course
  mx : Matrix
  rmu : Tab Rmu
  calP : Nat
  cal : Cal
  rec_ : Recovery
  chains : Tab Chain
  thrs : Tab Thr
  lanePend : Tab Nat
  laneOut : List Nat
  axes : Tab Axis
  cmps : Tab CmpUnit
  posMsgs : List PosMsg
  lists : Tab ListSt
  execs : List Exec
  nextExec : Nat
  queues : Tab Queue
  capRuns : List CapRun
  capBufs : Tab CapBuf
  engines : Tab Engine
  frets : Tab Fret
  frames : Tab (Option (List Byte))
  loader : Loader
  scrub : Scrub
  gpio : Tab GpioWait
  link : Link
  heldIn : Option HeldIn
  ddrOut : List (Nat × List Byte)
  answer : List Byte
  poisoned : Bool
  fq : Tab FqEntry
  fqSince : Nat
  cseq : Word
  clampRep : List ClampEntry
  logQ : List LogItem
  logIdx : Nat
  logAt : Option Nat
  logSeq : Option Word
  msix : Tab Nat
  sys : Sys
deriving DecidableEq, Repr

/-- The whole state. `pending` is the queue of commands, first in, first out. -/
structure State where
  pending : List Instr
  mem : Mem
  dev : Device
deriving DecidableEq, Repr

/-- Memories with nothing listed. -/
def Mem.empty : Mem := { ddr := [], flash := [], host := [] }

/-- The device after power-on reset. -/
def Device.reset : Device :=
  { regs := [], edge := 0, freeCtr := 0, chan := [], course := [], mx := Matrix.init, rmu := [], calP := 0, cal := Cal.init, rec_ := Recovery.init, chains := [], thrs := [], lanePend := [], laneOut := [],
    axes := [], cmps := [], posMsgs := [], lists := [], execs := [], nextExec := 0, queues := [], capRuns := [], capBufs := [],
    engines := [], frets := [], frames := [], loader := Loader.init, scrub := { next := 0, last := 0, good := true }, gpio := [], link := Link.init, heldIn := none,
    ddrOut := [], answer := [], poisoned := false, fq := [], fqSince := 0, cseq := 0, clampRep := [], logQ := [], logIdx := 0, logAt := none, logSeq := none, msix := [], sys := Sys.init }

/-- The block after power-on reset: no command waits. -/
def State.reset : State := { pending := [], mem := Mem.empty, dev := Device.reset }

end Sys2Proof.Machine
end

