-- ==== Sys2Proof/Machine/Flags.lean ====
section
/-!
DEFINITION. Register words and their fields, event bits, interrupts, fault-queue entries, notices and clamp-report entries: the
flags and reports that every family of commands uses.
-/

namespace Sys2Proof.Machine

namespace Device

/-- The stored word of the register at `a`. -/
def rd (d : Device) (a : Nat) : Word := tabGet resetWord d.regs a

/-- Store a word at `a`. -/
def wr (d : Device) (a : Nat) (v : Word) : Device := { d with regs := tabSet resetWord a v d.regs }

/-- Bits [lo + n - 1 : lo] of the register at `a`. -/
def fget (d : Device) (a lo n : Nat) : Nat := bitsOf (d.rd a) lo n

/-- The same field read as two's complement. -/
def fgetS (d : Device) (a lo n : Nat) : Int := toSigned n (d.fget a lo n)

/-- One bit of the register at `a`. -/
def flag (d : Device) (a i : Nat) : Bool := d.fget a i 1 = 1

/-- Store a field of the register at `a`. -/
def fset (d : Device) (a lo n x : Nat) : Device := d.wr a (setBits (d.rd a) lo n x)

/-- Store one bit. -/
def fsetB (d : Device) (a i : Nat) (b : Bool) : Device := d.fset a i 1 (if b then 1 else 0)

/-- Count on a counter field, wrapping at its width. -/
def bump (d : Device) (a lo n : Nat) : Device := d.fset a lo n (d.fget a lo n + 1)

/-- Count on a counter field by `k`, wrapping at its width. -/
def bumpBy (d : Device) (a lo n k : Nat) : Device := d.fset a lo n (d.fget a lo n + k)

/-- Return a register to its reset word. -/
def toReset (d : Device) (a : Nat) : Device := d.wr a (resetWord a)

/-- The next free byte and its use. -/
def takeByte (d : Device) : Device := { d with freeCtr := d.freeCtr + 1 }

/-! Interrupts (R473). -/

/-- HOSTIF_VEN bit of vector `v` (R473). -/
def vecEnabled (d : Device) (v : Nat) : Bool := d.flag (0xD0010 + 4 * (v / 32)) (v % 32)

/-- The MSI-X entry of `v` is masked. -/
def vecMasked (d : Device) (v : Nat) : Bool := d.flag (0xD8000 + 0x10 * v + 0xC) 0

/-- The source of vector `v` rises (R473). A masked vector sets its bit of the pending-bit array (assumption 4). -/
def signal (d : Device) (v : Nat) : Device :=
  if d.vecEnabled v then
    if d.vecMasked v then d.fset (0xD9000 + 4 * (v / 32)) (v % 32) 1 1
    else { d with msix := tabMod (fun _ => 0) v (· + 1) d.msix }
  else d

/-- The block vector of the register at `a`, when its RW1C bits have one (R473). -/
def vectorOf (a : Nat) : Option Nat :=
  let b := a / 0x10000
  if b = 0x00 then some 11 else if b = 0x01 then some 2 else if b = 0x02 then some 3 else if b = 0x03 then some 4
  else if b = 0x04 then some 1 else if b = 0x05 then some 14 else if b = 0x06 then some 5
  else if b = 0x07 then (if a % 0x1000 = 0x30 then some 13 else none)
  else if b = 0x08 then some 6 else if b = 0x09 then some 15 else if b = 0x0A then some 12 else if b = 0x0B then some 8
  else if b = 0x0C then some 9 else if b = 0x0D then some 10 else if b = 0x0E then some 7
  else if b ≤ 0x1E then some 11 else none

/-- Set an RW1C bit; a rise of it raises the block vector (R473). -/
def event (d : Device) (a i : Nat) : Device :=
  if d.flag a i then d
  else
    match vectorOf a with
    | some v => (d.fset a i 1 1).signal v
    | none => d.fset a i 1 1

/-- Set a status bit that only software reads. -/
def status (d : Device) (a i : Nat) (b : Bool) : Device := d.fsetB a i b

/-! The fault queue (R352). -/

/-- FSEQ of the next entry. -/
def nextFseq (d : Device) : Word := d.rd 0x50020

/-- Raise vector 0 once FAULT_FQIRQ.THRESH entries were written since the last interrupt, while IEN is one (R356, R473). -/
def fqIrq (d : Device) : Device :=
  if d.flag 0x5002C 31 && decide (d.fget 0x5002C 0 11 ≤ d.fqSince) then { d with fqSince := 0 }.signal 0 else d

/-- Count entries that FAULT_FQRD had not passed when the ring overwrote them (R352). -/
def fqOverrun (d : Device) : Device :=
  if (d.rd 0x50020 - d.rd 0x50024).toNat > 1024 then (d.bump 0x50028 0 32).event 0x50004 3 else d

/-- Write one entry to the ring (R352). -/
def fqPush (d : Device) (e : FqEntry) : Device :=
  let e := { e with fseq := d.nextFseq, epoch := d.rd 0x60018 }
  let d := { d with fq := tabSet (fun _ => FqEntry.zero) (e.fseq.toNat % 1024) e d.fq, fqSince := d.fqSince + 1,
                    logQ := d.logQ ++ (if decide (e.cls = Cls.d) && !d.flag 0x50000 9 then [] else [LogItem.fault e]) }
  let d := d.wr 0x50020 (e.fseq + 1)
  d.fqOverrun.fqIrq

/-- The FAULT_EVENT bit and counter of a class (R356). -/
def countClass (d : Device) (c : Cls) : Device :=
  match c with
  | .t => (d.bump 0x50040 0 32).event 0x50004 0
  | .p => (d.bump 0x50044 0 32).event 0x50004 1
  | .d => (d.bump 0x50048 0 32).event 0x50004 2
  | .notice => d.bump 0x5004C 0 32

/-- An event of the device: counted, and entered in the fault queue unless it is of class D with FAULT_CFG.QD zero and no
record refers to it (R352). -/
def report (d : Device) (e : FqEntry) (forced : Bool := false) : Device :=
  let d := d.countClass e.cls
  if decide (e.cls = Cls.d) && !d.flag 0x50000 8 && !forced then d else d.fqPush e

/-- An entry without position, context or action. AXIS 0xFF stands for none (R352). -/
def entry (c : Cls) (kind idx code detail : Nat) : FqEntry :=
  ⟨0, c, kind, idx, code, 0, 0xFF, 0, 0xFFFF, 0, detail⟩

/-- A notice (R334). -/
def notice (d : Device) (kind idx code detail : Nat) : Device := d.report (entry .notice kind idx code detail)

/-- A REFUSED notice that names the register at `a` (R352, R353). -/
def noticeRefused (d : Device) (a : Nat) : Device := d.notice 0x0C (a / 0x10000) 0x31 a

/-- A CLAMPED notice that names the register at `a`, or a field of block `blk` that no register holds (R430). -/
def noticeClamped (d : Device) (a : Option Nat) (blk ctx : Nat) : Device :=
  match a with
  | some a => d.report { entry .notice 0x0C (a / 0x10000) 0x32 a with ctx := ctx }
  | none => d.report { entry .notice 0x0C blk 0x32 0xFFFFFFFF with ctx := ctx }

/-! The clamp report (R408, R429, R430). -/

/-- Record one clamp: its entry takes the next CSEQ; with 1,024 entries held it is counted in BOOT_CLAMPCNT.LOST and goes to
the event log only (R408). -/
def clampEntry (d : Device) (e : ClampEntry) : Device :=
  let e := { e with cseq := d.cseq }
  let d := { d with cseq := d.cseq + 1, logQ := d.logQ ++ [LogItem.clamp e] }
  if d.clampRep.length < 1024 then
    let d := { d with clampRep := d.clampRep ++ [e] }
    d.fset 0x20040 0 11 d.clampRep.length
  else d.bump 0x20040 16 16

/-- A clamp of a field: its entry and its CLAMPED notice (R429, R430). -/
def reportClamp (d : Device) (src : ClampSrc) (a : Option Nat) (blk ctx width recd fieldpos : Nat) (orig appl : Int) : Device :=
  (d.clampEntry ⟨0, src.code, width, recd, fieldpos, orig, appl⟩).noticeClamped a blk ctx

/-- The CLAMPED and REFUSED event bits of the block of a register: the event register and its two bits. Blocks without such
bits have none (R83, R355). DESIGN CHOICE (assumption 80): a write of DEV_RMUFCTL, for which R157 names no bit, is reported in
DEV_FILTPEVT.PREFUSED and PCLAMPED. -/
def blockEvents (a : Nat) : Option (Nat × Nat × Nat) :=
  let b := a / 0x10000
  let o := a % 0x10000
  if b = 0x00 then (if 0x210 ≤ o ∧ o < 0x250 then some (0x200, 9, 8) else none)
  else if b = 0x01 then some (0x10004, 7, 6)
  else if b = 0x02 then some (0x20004, 5, 6)
  else if b = 0x03 then some (0x30004, 1, 0)
  else if b = 0x04 then none
  else if b = 0x05 then some (0x50004, 6, 7)
  else if b = 0x06 then some (0x60008, 0, 1)
  else if b = 0x07 then (if o < 0x4000 then some (aPOS (o / 0x1000) 0x30, 7, 8) else some (aPOS 0 0x30, 7, 8))
  else if b = 0x08 then some (0x80008, 0, 1)
  else if b = 0x09 then some (aRESQ (o / 0x40) 0x20, 9, 10)
  else if b = 0x0A then some (0xA0004, 0, 1)
  else if b = 0x0B then some (0xB0004, 10, 9)
  else if b = 0x0C then some (0xC0004, 3, 4)
  else if b = 0x0D then some (0xD0004, 6, 5)
  else if b = 0x0E then some (0xE0004, 0, 1)
  else if b ≤ 0x0F then none
  else if b ≤ 0x13 then some (aCH ((a - 0x100000) / 0x100) 0x3C, 3, 4)
  else if b ≤ 0x17 then
    if a % 0x100 < 0x80 then some (aFILT ((a - 0x140000) / 0x100) 8, 1, 2) else some (0x200, 9, 8)
  else if b = 0x18 then some (0x184300, 0, 1)
  else if b ≤ 0x1E then
    if 0x191000 ≤ a ∧ a < 0x191000 + 0x40 * 120 then some (aENG ((a - 0x191000) / 0x40) 0x24, 6, 7) else some (0x190000, 0, 1)
  else if b ≤ 0x1F then none
  else if b < 0x40 then some (0x80008, 0, 1)
  else none

/-- Axes that use wheel `w` (R183): measured ANGLE axes that name it, and axes with an enabled tooth-pattern output that does. -/
def wheelAxes (d : Device) (w : Nat) : List Nat :=
  (List.range 4).filter fun a =>
    (d.fget (aPOS a 0) 0 3 == 3 && d.flag (aPOS a 0) 3 && d.fget (aPOS a 0) 8 4 == w) ||
    ((List.range 4).any fun k => d.flag (aPOS a (0x50 + 4 * k)) 31 && d.fget (aPOS a (0x50 + 4 * k)) 0 4 == w)

/-- An event bit for the wheel at `a`: in every axis that uses it, in AX0 when none does (R183). -/
def eventWheel (d : Device) (a bit : Nat) : Device :=
  let xs := d.wheelAxes ((a - 0x78000) / 0x80)
  (if xs.isEmpty then [0] else xs).foldl (fun d x => d.event (aPOS x 0x30) bit) d

/-- The CLAMPED event bit of the block of `a` (R66 and its like). -/
def eventClamped (d : Device) (a : Nat) : Device :=
  if 0x78000 ≤ a ∧ a < 0x78800 then d.eventWheel a 7 else
  match blockEvents a with
  | some (e, c, _) => d.event e c
  | none => d

/-- The REFUSED event bit of the block of `a`. -/
def eventRefused (d : Device) (a : Nat) : Device :=
  if 0x78000 ≤ a ∧ a < 0x78800 then d.eventWheel a 8 else
  match blockEvents a with
  | some (e, _, r) => d.event e r
  | none => d

/-- A write to the register at `a` is refused and reported: the block's REFUSED bit and a REFUSED notice. -/
def refuse (d : Device) (a : Nat) : Device := (d.eventRefused a).noticeRefused a

end Device

end Sys2Proof.Machine
end

