-- ==== Sys2Proof/Machine/Operands.lean ====
section
/-!
DEFINITION. How a written word becomes a register's new word: byte enables (R8), access types (R10), refusal of RWS fields
(R12), and the clamp of each configuration field to its nearest valid value (R13), ranges that depend on other fields
included.
-/

namespace Sys2Proof.Machine

/-- The largest T of R130: 9 (2^H - 1) M + T + 5 J at most 16 K 2^H M. -/
def tapLimit (k h m j : Nat) : Nat := 16 * k * 2 ^ h * m - 9 * (2 ^ h - 1) * m - 5 * j

/-- The highest RMU range of a function (R104). -/
def rmuTop (func : Nat) : Nat := if func = 0 then 3 else if func = 1 then 2 else 7

/-- The largest TXID or RXID of an entry (R230): LIN identifiers, 11-bit or 29-bit CAN identifiers. -/
def idTop (w0 : Word) : Nat :=
  if engKind (bitsOf w0 0 7) = 1 then 63 else if bitOf w0 18 then 2 ^ 29 - 1 else 2047

/-- The valid range of REQLEN by operation (R230, R231). -/
def reqRange (w0 : Word) : Nat × Nat :=
  match bitsOf w0 8 3 with
  | 0 => (0, if bitOf w0 19 then 64 else 8)
  | 2 => (0, if bitOf w0 19 then 64 else 8)
  | 3 => (1, 65535)
  | 4 => (0, 8)
  | 5 => (1, 4095)
  | _ => (0, 65535)

/-- Divisors of 36,000 from 2 to 360 (R177), rising. -/
def wheelDivisors : List Nat := (List.range 361).filter fun n => 2 ≤ n ∧ 36000 % n = 0

/-- The nearest of a rising list of values, ties to the lower (R177). -/
def nearestOf (x : Nat) : List Nat → Nat → Nat
  | [], best => best
  | v :: r, best =>
    let dist (y : Nat) : Nat := (x - y) + (y - x)
    nearestOf x r (if dist v < dist best then v else best)

namespace Device

/-- The bytes of buffer space from an 8-byte-unit offset to the end of the bus data area (R229). -/
def areaLeft (d : Device) (ofs : Nat) : Nat := (d.fget (aBUS 0x14) 0 25 - ofs) * 8

/-- The valid range of a profile field, R130 included. `v` is the word with the fields before it in place. -/
def profLimit (d : Device) (a : Nat) (raw v : Word) (f : Fld) : Lim :=
  let t := bitsOf raw 16 8
  if f.name = "CTAPS" then
    let m := if t = 0 then 1 else clampNat 1 16 (bitsOf raw 24 5)
    .rng 0 (min 128 (tapLimit (d.fget (a + 4) 0 13) (bitsOf v 4 2) m (bitsOf v 8 2)))
  else if f.name = "CDEC" then (if bitsOf v 16 8 = 0 then .rng 1 1 else .rng 1 16)
  else f.lim

/-- The valid range of a field of a bus transaction entry (R229 to R231). -/
def entryLimit (d : Device) (a : Nat) (f : Fld) : Lim :=
  let base := a - a % 0x40
  let w0 := d.rd base
  if f.name = "TXID" ∨ f.name = "RXID" then .rng 0 (idTop w0)
  else if f.name = "REQLEN" then
    let (lo, hi) := reqRange w0
    let left := d.areaLeft (d.fget (base + 16) 0 24)
    .rng (min lo left) (min hi left)
  else if f.name = "EXPLEN" then .rng 0 (d.areaLeft (d.fget (base + 24) 0 24) / 2)
  else if f.name = "RSPMAX" then
    let left := d.areaLeft (d.fget (base + 28) 0 24)
    if bitsOf w0 8 3 = 4 then .rng (min 1 left) (min 8 left) else .rng 0 (min 65535 left)
  else f.lim

/-- The valid range of a field of an engine (R217, R225, R249). -/
def engineLimit (d : Device) (e : Nat) (v : Word) (f : Fld) : Lim :=
  if f.name = "RATE" then
    (match engKind e with
     | 0 => .rng 10000 1000000
     | 1 => .rng 1000 20000
     | _ => .rng 3000 90000)
  else if f.name = "DRATE" then .rng (d.fget (aENG e 8) 0 24) 8000000
  else if f.name = "NQ" then .rng 8 80
  else if f.name = "NSP" then .rng 2 (bitsOf v 0 7 - 1)
  else if f.name = "NSJW" then .rng 1 (min 16 (bitsOf v 0 7 - bitsOf v 8 7))
  else if f.name = "DQ" then .rng 5 25
  else if f.name = "DSP" then .rng 2 (bitsOf v 0 5 - 1)
  else if f.name = "DSJW" then .rng 1 (min 8 (bitsOf v 0 5 - bitsOf v 8 5))
  else f.lim

/-- Width masks of the slow-channel message by SLOW format (R225, R249): data bits and ID bits. -/
def slowWidths (slow : Nat) : Nat × Nat :=
  match slow with
  | 1 => (8, 4)
  | 2 => (12, 8)
  | 3 => (16, 4)
  | _ => (16, 8)

/-- The valid range of a field in a write of `raw` to the register at `a`, where `v` holds the fields already decided. -/
def limitOf (d : Device) (a : Nat) (raw v : Word) (f : Fld) : Lim :=
  let b := a / 0x10000
  if 0x10 ≤ b ∧ b ≤ 0x13 then
    let n := (a - 0x100000) / 0x100
    if a % 0x100 = 0x24 then .srng (d.fgetS (aCH n 0x28) 0 18) 125000
    else if a % 0x100 = 0x28 then .srng (-125000) (d.fgetS (aCH n 0x24) 0 18)
    else if f.name = "VTHL" then .srng (-7500) (toSigned 14 (bitsOf v 0 14))
    else f.lim
  else if 0x14 ≤ b ∧ b ≤ 0x17 then d.profLimit a raw v f
  else if b = 0x18 then
    if f.name = "VTHL" then .srng (-7500) (toSigned 14 (bitsOf v 0 14))
    else if f.name = "IDX" then (if bitOf raw 2 then .rng 0 63 else .rng 0 3)
    else f.lim
  else if b = 0x19 ∧ a < 0x194000 then d.engineLimit ((a - 0x191000) / 0x40) v f
  else if b = 0x19 then (if f.name = "COUNT" then .rng 1 (min 8 (4096 - bitsOf v 0 12)) else f.lim)
  else if 0x1A ≤ b ∧ b ≤ 0x1D then d.entryLimit a f
  else if 0x20 ≤ b then
    if f.name = "SETUP" then .rng 0 (d.fget 0x80034 0 21 - 1)
    else if f.name = "SCOUNT" then .rng 0 (min 1024 (d.fget 0x80034 0 21 - d.fget (a - 4) 0 20))
    else if f.name = "FAILARG" then (if bitsOf raw 0 2 = 3 then .rng 0 1023 else .any)
    else f.lim
  else if b = 0x0A then
    if f.name = "COUNT" then .rng 0 (min 64 (8192 - bitsOf v 0 13))
    else if f.name = "RANGE" then .rng 0 (rmuTop (bitsOf raw 0 2))
    else f.lim
  else if b = 0x0E then
    if f.name = "CHHI" then .rng (bitsOf v 8 10) 1023
    else if f.name = "LEN" then .rng 1 (50331648 - 4096 * d.fget (a - 4) 0 14)
    else f.lim
  else if b = 0x0C then
    if f.name = "KIND" then .rng 0 2
    else if f.name = "NPART" then .rng 1 512
    else if f.name = "ISIZE" then .rng 1 (max 1 (d.fget (a - 4) 0 24 - clampNat 1 512 (bitsOf raw 16 10)))
    else if f.name = "SIZE" then .rng 1 16777215
    else f.lim
  else if a = 0xD000C then .rng 0 (d.fget 0xC0000 8 7 * 1024 - 256)
  else f.lim

/-- Bits of a register that read as zero whatever is written (R478). -/
def alignMask (a : Nat) : Nat :=
  if 0xD0100 ≤ a ∧ a < 0xD0300 then
    (match a % 0x20 with | 0 => 12 | 8 => 2 | _ => 0)
  else if 0xD0400 ≤ a ∧ a < 0xD0500 then
    (match a % 0x20 with | 4 => 3 | 0xC => 3 | _ => 0)
  else 0

/-- The applied value of a field whose range is not an interval: STMIN, the bits of a wheel, a slow-channel message, a
modulo-2^32 pointer (R177, R210, R230, R249, R356). -/
def specialClamp (d : Device) (a : Nat) (f : Fld) (x : Nat) : Option Nat :=
  if f.name = "STMIN" then some (if x ≤ 0x7F ∨ (0xF1 ≤ x ∧ x ≤ 0xF9) then x else 0x7F)
  else if f.name = "ZPOS" then some (nearestOf x wheelDivisors 2)
  else if f.name = "PRESENT" then
    let w := (a - 0x78000) / 0x80
    let n := d.fget (aWHEEL w 0) 0 9 * (1 + d.fget (aWHEEL w 0) 9 1)
    some (x % 2 ^ (n - 32 * (a % 0x80 / 4 - 2)))
  else if f.name = "OFFSET" then
    some (min x (if d.flag (aWHEEL ((a - 0x78000) / 0x80) 0) 9 then 71999 else 35999))
  else if 0x191000 ≤ a ∧ a < 0x194000 ∧ a % 0x40 = 0x34 then
    let e := (a - 0x191000) / 0x40
    let (dw, iw) := slowWidths (d.fget (aENG e 0x18) 9 2)
    some (if f.name = "DATA" then x % 2 ^ dw else x % 2 ^ iw)
  else if a = 0x50024 then
    let wrSeq := (d.rd 0x50020).toNat
    let back := (wrSeq + 2 ^ 32 - x) % 2 ^ 32
    some (if back ≤ 1024 then x else if back - 1024 ≤ 2 ^ 32 - back then (wrSeq + 2 ^ 32 - 1024) % 2 ^ 32 else wrSeq)
  else if 0x90000 ≤ a ∧ a < 0x90400 ∧ a % 0x40 = 0x14 then
    let wrSeq := (d.rd (a - 4)).toNat
    let size := 2 ^ d.fget (a - 12) 0 5
    let back := (wrSeq + 2 ^ 32 - x) % 2 ^ 32
    some (if back ≤ size then x else if back - size ≤ 2 ^ 32 - back then (wrSeq + 2 ^ 32 - size) % 2 ^ 32 else wrSeq)
  else none

/-- The applied value of a field (R13). -/
def applied (d : Device) (a : Nat) (raw v : Word) (f : Fld) : Nat :=
  let x := bitsOf raw f.lo f.width
  match d.specialClamp a f x with
  | some y => y
  | none => (d.limitOf a raw v f).clamp f.width x

/-- One clamp found in a write: the field, the value given and the value applied. -/
structure ClampHit where
  fld : Fld
  given : Int
  used : Int
deriving DecidableEq, Repr

/-- A number of a field as R429 extends it to 64 bits. -/
def extend64 (d : Device) (a : Nat) (raw v : Word) (f : Fld) (x : Nat) : Int :=
  if (d.limitOf a raw v f).signed ∨ f.lim.signed then toSigned f.width x else x

/-- Fold the fields of a write over the old word: clamped fields are collected, access types are obeyed. -/
def cookFlds (d : Device) (a : Nat) (raw : Word) : List Fld → Word → List ClampHit → Word × List ClampHit
  | [], v, hits => (v, hits)
  | f :: r, v, hits =>
    match f.acc with
    | .ro => cookFlds d a raw r v hits
    | .rw1c => cookFlds d a raw r (setBits v f.lo f.width (bitsOf v f.lo f.width &&& (2 ^ f.width - 1 - bitsOf raw f.lo f.width))) hits
    | .w1s => cookFlds d a raw r (setBits v f.lo f.width (bitsOf v f.lo f.width ||| bitsOf raw f.lo f.width)) hits
    | _ =>
      let x := bitsOf raw f.lo f.width
      let y := d.applied a raw v f
      let hits := if x = y then hits else hits ++ [⟨f, d.extend64 a raw v f x, d.extend64 a raw v f y⟩]
      cookFlds d a raw r (setBits v f.lo f.width y) hits

/-- The word that a write of `raw` to `a` gives, write-only fields included, and the clamps it makes. -/
def cook (d : Device) (a : Nat) (raw : Word) : Word × List ClampHit := d.cookFlds a raw (regFields a) (d.rd a) []

/-- The word stored after a write: write-only fields read zero, bits that R478 fixes read zero. -/
def storeWord (a : Nat) (v : Word) : Word :=
  let v := (regFields a).foldl (fun v f => if f.acc = .wo then setBits v f.lo f.width 0 else v) v
  setBits v 0 (alignMask a) 0

/-- A write reaches an RWS field (R12). A register whose writable fields are all RWS is reached by every write. Where a register
also has writable fields of other types, as CH_QCTL with RUN (R52), a write reaches the RWS fields that it would change
(assumption 16). -/
def reachesRws (d : Device) (a : Nat) (raw : Word) : Bool :=
  let fs := regFields a
  (fs.any fun f => decide (f.acc = .rws)) &&
    ((fs.all fun f => decide (f.acc = .rws ∨ f.acc = .ro)) ||
     fs.any fun f => decide (f.acc = .rws) && decide (bitsOf raw f.lo f.width ≠ d.fget a f.lo f.width))

/-- The clamp entries and notices of the clamps of one register write, and its block's CLAMPED bit (R66, R429, R430). -/
def reportHits (d : Device) (src : ClampSrc) (a recd word ctx : Nat) (hits : List ClampHit) : Device :=
  match hits with
  | [] => d
  | _ =>
    (hits.foldl (fun d h => d.reportClamp src (some a) 0 ctx h.fld.width recd (32 * word + h.fld.lo) h.given h.used) d).eventClamped a

/-- Clamp source of a party (R429). -/
def srcOf (p : Party) : ClampSrc :=
  match p with
  | .shell _ => .shell
  | _ => .register

/-- Store a cooked write and report its clamps. -/
def putCooked (d : Device) (p : Party) (a : Nat) (raw : Word) : Device :=
  let (v, hits) := d.cook a raw
  (d.wr a (storeWord a v)).reportHits (srcOf p) a a 0 0xFFFF hits

end Device

end Sys2Proof.Machine
end

