-- ==== Sys2Proof/Machine/ChanOps.lean ====
section
/-!
DEFINITION. Operations on one channel: its settings, its predicted dissipation (R73), the governor's sums (R74, R75), the
request path of range changes and function switches (R58 to R65), the DAC queue (R48 to R52), the safe state (R68, R69).
-/

namespace Sys2Proof.Machine

/-- Full scale of a voltage range in 0.1 V (R44). -/
def fsV (r : Nat) : Nat := match r with | 0 => 12 | 1 => 60 | _ => 300

/-- Full scale of a current range in microamperes (R44). -/
def fsI (r : Nat) : Nat := match r with | 0 => 2 | 1 => 20 | 2 => 200 | 3 => 2000 | _ => 25000

/-- Settle time of a voltage range in Ts (R44). -/
def settleV (r : Nat) : Nat := match r with | 0 => 24 | _ => 20

/-- Settle time of a current range in Ts (R44). -/
def settleI (r : Nat) : Nat := match r with | 0 => 4096 | 1 => 640 | 2 => 96 | 3 => 32 | _ => 24

/-- The raw-sample noise of a voltage range in sense LSB (R44, R524), which bounds the reading of the zero node (R542; assumption 70). -/
def zeroNoise (r : Nat) : Int := if r = 0 then 15 else 10

/-- Bridge time of a change by `k` ranges; none runs where the range stays (R60). -/
def bridgeTime (k : Nat) : Nat := if k = 0 then 0 else 8 + 8 * k

/-- Distance of two range numbers. -/
def rangeDist (a b : Nat) : Nat := (a - b) + (b - a)

/-- Flagged samples of a change of voltage range (R60). -/
def flaggedV (a b : Nat) : Nat := if a = b then 0 else bridgeTime (rangeDist a b) + settleV b

/-- Flagged samples of a change of current range (R60). -/
def flaggedI (a b : Nat) : Nat := if a = b then 0 else bridgeTime (rangeDist a b) + settleI b

/-- The kind of value a mode forces (R41, R46): 0 nothing, 1 voltage from CH_FORCE, 2 current from CH_FORCE, 3 other. -/
def forceKind (mode : Nat) : Nat := match mode with | 1 => 1 | 2 => 2 | _ => 0

/-- The output stage of a cell (R41). -/
inductive Stage where
  | disabled
  | voltageLoop
  | currentLoop
  | virtualZero
  | digital
deriving DecidableEq, Repr

/-- What feeds the force DAC (R41). -/
inductive Feed where
  | nothing
  | force
  | levels
  | queue
deriving DecidableEq, Repr

/-- What the sense converter measures (R41). -/
inductive Sense where
  | zeroNode
  | current
  | voltage
deriving DecidableEq, Repr

/-- One row of the table of R41; `clamp` is 0 none, 1 ICLAMP, 2 VCLAMP. The pad comparators are active in every row. -/
structure ModeRow where
  stage : Stage
  feed : Feed
  sense : Sense
  closed : Bool
  clamp : Nat
deriving DecidableEq, Repr

/-- The row of R41 of a mode word. The value 7 is no mode and never stands in CH_MODE (R82). -/
def modeRow (m : Word) : ModeRow :=
  match bitsOf m 0 3 with
  | 1 => ⟨.voltageLoop, .force, .current, true, 1⟩
  | 2 => ⟨.currentLoop, .force, .voltage, true, 2⟩
  | 3 => ⟨.disabled, .nothing, .voltage, true, 0⟩
  | 4 => ⟨.virtualZero, .nothing, .current, true, 1⟩
  | 5 => if bitOf m 4 then ⟨.disabled, .nothing, .voltage, true, 0⟩ else ⟨.digital, .levels, .voltage, true, 1⟩
  | 6 => if bitOf m 8 then ⟨.currentLoop, .queue, .voltage, true, 2⟩ else ⟨.voltageLoop, .queue, .current, true, 1⟩
  | _ => ⟨.disabled, .nothing, .zeroNode, false, 0⟩

/-- Whether the sense converter measures current in a mode word (R41). -/
def measuresI (m : Word) : Bool := decide ((modeRow m).sense = .current)

/-- Whether a mode word is an analogue mode that owns the pin (R42). -/
def analogueMode (m : Word) : Bool :=
  match bitsOf m 0 3 with
  | 0 => false
  | 5 => false
  | _ => true

/-- Whether a mode word drives the pin (R41). -/
def drivesPin (m : Word) : Bool := decide ((modeRow m).stage ≠ .disabled)

/-- The clamp that a mode has in force (R41): 0 none, 1 the current clamp, 2 the voltage clamp. -/
def clampKind (m : Word) : Nat := (modeRow m).clamp

/-- Absolute value of a signed 18-bit code field. -/
def absCode (w : Word) : Nat := (toSigned 18 (bitsOf w 0 18)).natAbs

/-- Predicted dissipation in mW of the given register words (R73), rounded up. Voltages are counted in units of 0.1 V divided
by 125,000 or 50,000, currents in microamperes divided by 50,000 or 125,000. -/
def pdissOf (mode range force clamp voh vol : Word) : Nat :=
  let v := fsV (bitsOf range 0 2)
  let i := fsI (bitsOf range 4 3)
  let icl := bitsOf clamp 0 16
  let vcl := bitsOf clamp 16 16
  match bitsOf mode 0 3 with
  | 1 => ceilDiv ((320 * 125000 + absCode force * v) * (icl * i)) (10 * 125000 * 50000 * 1000)
  | 2 => ceilDiv ((320 * 50000 + vcl * v) * (absCode force * i)) (10 * 50000 * 125000 * 1000)
  | 4 => ceilDiv (320 * (icl * i)) (10 * 50000 * 1000)
  | 5 => if bitOf mode 4 then 0
         else ceilDiv ((320 * 125000 + max (absCode voh) (absCode vol) * v) * (icl * i)) (10 * 125000 * 50000 * 1000)
  | 6 => if bitOf mode 8 then ceilDiv ((320 * 50000 + vcl * v) * i) (10 * 50000 * 1000)
         else ceilDiv ((320 + v) * (icl * i)) (10 * 50000 * 1000)
  | _ => 0

namespace Device

/-- Channel `n` beyond its registers. -/
def ch (d : Device) (n : Nat) : Chan := tabGet (fun _ => Chan.init) d.chan n

/-- Replace channel `n`. -/
def setCh (d : Device) (n : Nat) (c : Chan) : Device := { d with chan := tabSet (fun _ => Chan.init) n c d.chan }

/-- Course `c`. -/
def crs (d : Device) (c : Nat) : Course := tabGet (fun _ => Course.init) d.course c

/-- Replace course `c`. -/
def setCrs (d : Device) (c : Nat) (x : Course) : Device := { d with course := tabSet (fun _ => Course.init) c x d.course }

/-- The first sample edge after a command: the edge at which its effects take place. -/
def nextEdge (d : Device) : Nat := d.edge + 1

/-- Capo's state: 0 NONE, 1 HOLD, 2 SAFE (R347). -/
def capo (d : Device) : Nat := d.fget 0x40000 0 2

/-- Mode of channel `n` (R40). -/
def mode (d : Device) (n : Nat) : Nat := d.fget (aCH n 0) 0 3

/-- Channel `n` is retired (R340). -/
def retired (d : Device) (n : Nat) : Bool := d.flag (aCH n 0x38) 15

/-- Slice 33c + k that serves channel `n` (R17). -/
def sliceOf (d : Device) (n : Nat) : Nat := 33 * (n / 32) + d.fget (aCH n 0x38) 0 6

/-- Channel `n` is off its pin in an idle-gap calibration, or has not been reconnected after one (R29, R316). -/
def gapHeld (d : Device) (n : Nat) : Bool :=
  (match d.cal.run with
   | some r => (match r.via with
     | .gap _ => r.req.target == d.sliceOf n
     | _ => false)
   | none => false) ||
  (((d.crs (n / 32)).backs ++ (d.crs (n / 32)).next).any fun h => h.gap && h.chan == n) ||
  decide ((d.crs (n / 32)).joined = some (n, d.edge))

/-- Predicted dissipation of channel `n` in its present state (R73); 0 while retired (R340). -/
def pdiss (d : Device) (n : Nat) : Nat :=
  if d.retired n then 0
  else pdissOf (d.rd (aCH n 0)) (d.rd (aCH n 4)) (d.rd (aCH n 8)) (d.rd (aCH n 0xC)) (d.rd (aCH n 0x24)) (d.rd (aCH n 0x28))

/-- The channels whose CH_MODE is not at its reset value: every other channel is OFF and dissipates nothing. -/
def liveChans (d : Device) : List Nat :=
  (tabKeys d.regs).filterMap fun a =>
    if 0x100000 ≤ a ∧ a < 0x140000 ∧ a % 0x100 = 0 then some ((a - 0x100000) / 0x100) else none

/-- A node is an output that can drive a bus (R74): T2 of a tile whose topology drives it, or a guard buffer's output. -/
def drivingNode (d : Device) (node : Nat) : Bool :=
  if 1040 ≤ node ∧ node < 1296 then
    let topo := d.fget (aCAT ((node - 1040) / 4) 0) 0 3
    decide ((node - 1040) % 4 = 2) && decide (1 ≤ topo ∧ topo ≤ 4)
  else decide (1312 ≤ node ∧ node < 1320)

/-- Dissipation of the tile and guard outputs that a set of closed switches connects (R74). -/
def tilePower (d : Device) (sw : List Switch) : Nat :=
  620 * (((sw.map Switch.node).filter fun k => d.drivingNode k).eraseDups).length

/-- The committed dissipation in mW (R75). -/
def committed (d : Device) : Nat :=
  (d.liveChans.map d.pdiss).sum + d.tilePower d.mx.closed + d.calP

/-- Lanes that run at least one chain, threshold-only lanes apart (R28, R150). -/
def busyLanes (d : Device) : Nat :=
  (((tabKeys d.regs).filterMap fun a =>
    if 0x140000 ≤ a ∧ a < 0x180000 ∧ a % 0x100 = 4 ∧ d.flag a 8 ∧ !d.flag (0x50200 + 4 * ((a - 0x140000) / 0x1000)) 8 then
      some ((a - 0x140000) / 0x1000) else none).eraseDups).length

/-- The time in Ts for which the patrol scrubber has run (R457). -/
def patrolTime (d : Device) : Nat := d.sys.patrol.1 + (match d.sys.patrol.2 with | some e => d.edge - e | none => 0)

/-- The patrol scrubber runs from now on. -/
def startPatrol (d : Device) : Device := { d with sys := { d.sys with patrol := (d.patrolTime, some d.edge) } }

/-- DDR5 goes into self-refresh (R403): the scrubber stands still (DESIGN CHOICE, assumption 90). -/
def stopPatrol (d : Device) : Device := { d with sys := { d.sys with patrol := (d.patrolTime, none) } }

/-- The fabric clock in kHz (R365); until the fabric PLL is locked the domain keeps the clock before the change (R367). -/
def fabricKhz (d : Device) : Nat :=
  if d.flag 0x10008 1 then (if d.flag 0x10000 3 then d.fget 0x1000C 0 19 else d.sys.clk.fabOld) else if d.flag 0x10008 2 then 163840 else 327680

/-- Frets that are LOADING, RELEASING or RUNNING (R28). -/
def busyFrets (d : Device) : Nat := ((List.range 48).filter fun f => [1, 2, 3].contains (d.fget (aFRET f 0) 0 3)).length

/-- Chord ports that are TRAINING or UP (R28). -/
def livePorts (d : Device) : Nat := ((List.range 4).filter fun p => [1, 2].contains (d.fget (aPORT p 0) 0 2)).length

/-- The non-load power N in mW, rounded up (R28). -/
def nonLoad (d : Device) : Nat :=
  ceilDiv ((27500 + 1500 * d.fget 0xD0000 0 1 + 500 * d.livePorts) * 15728640 + 6000 * 245760 * d.busyLanes +
    6000 * d.busyFrets * d.fabricKhz) 15728640

/-- The governor's ceiling in mW (R28): what DEV_GOVCEIL.CEIL reports. Firmware computes it whenever one of its terms changes; the
model computes it where it is used. -/
def ceiling (d : Device) : Nat := min (d.fget 0x100 0 16) (95000 - d.nonLoad)

/-- A register write that raises the committed dissipation above the ceiling is refused (R77). -/
def govRefuses (d d' : Device) : Bool := decide (d.committed < d'.committed) && decide (d.ceiling < d'.committed)

/-! Requests (R58 to R65). -/

/-- The bridge of a range change that began before edge `e` still runs at it (R61). -/
def bridging (d : Device) (n e : Nat) : Bool :=
  decide ((d.ch n).bridgeStart < e) && decide (e < (d.ch n).bridgeEnd)

/-- The rescaled force code of R62, before the clamp of R13. -/
def rescaled (kind : Nat) (oldRange newRange : Word) (code : Int) : Int :=
  if kind = 1 then roundDiv (code * fsV (bitsOf oldRange 0 2)) (fsV (bitsOf newRange 0 2))
  else roundDiv (code * fsI (bitsOf oldRange 4 3)) (fsI (bitsOf newRange 4 3))

/-- Rescaling takes place (R62): no new code, the same force kind before and after, and its range changed. -/
def rescales (newCode : Bool) (m0 m1 r0 r1 : Word) : Bool :=
  let k := forceKind (bitsOf m0 0 3)
  !newCode && decide (k = forceKind (bitsOf m1 0 3)) &&
    ((decide (k = 1) && decide (bitsOf r0 0 2 ≠ bitsOf r1 0 2)) || (decide (k = 2) && decide (bitsOf r0 4 3 ≠ bitsOf r1 4 3)))

/-- The new mode word of channel `n` under request `r`: a retired channel stays OFF (R340). -/
def newMode (d : Device) (n : Nat) (r : ChReq) : Word :=
  let m := r.mode.getD (d.rd (aCH n 0))
  if d.retired n then setBits m 0 3 0 else m

/-- The rescaled code of R62 that request `r` makes, before and after the clamp of R13. -/
def newCode (d : Device) (n : Nat) (r : ChReq) : Option (Int × Int) :=
  let m0 := d.rd (aCH n 0)
  let r0 := d.rd (aCH n 4)
  let r1 := r.range.getD r0
  let m1 := d.newMode n r
  if rescales r.force.isSome m0 m1 r0 r1 then
    let x := rescaled (forceKind (bitsOf m1 0 3)) r0 r1 (d.fgetS (aCH n 8) 0 18)
    some (x, clampInt (-125000) 125000 x)
  else none

/-- The settings of channel `n` after request `r`, CODE rescaled where R62 asks for it. -/
def putReq (d : Device) (n : Nat) (r : ChReq) : Device :=
  let m1 := d.newMode n r
  let force := match d.newCode n r with
    | some (_, y) => setBits (d.rd (aCH n 8)) 0 18 (ofSigned 18 y)
    | none => r.force.getD (d.rd (aCH n 8))
  (((d.wr (aCH n 0) m1).wr (aCH n 4) (r.range.getD (d.rd (aCH n 4)))).wr (aCH n 8) force).wr (aCH n 0xC) (r.clamp.getD (d.rd (aCH n 0xC)))

/-- One request takes effect on the settings; the clamp of a rescaled code is reported at the place that R62 gives for its source. -/
def applyReq (d : Device) (n ctx : Nat) (r : ChReq) : Device :=
  let d' := d.putReq n r
  match d.newCode n r with
  | some (x, y) =>
    if x = y then d'
    else (d'.reportClamp r.src (some (aCH n 8)) 0 ctx 18 (if r.src = .setup then r.recd else aCH n 8) (if r.src = .setup then 64 else 0) x y).eventClamped (aCH n 8)
  | none => d'

/-- Playback of the DAC queue of channel `n` begins at edge `e` (R49): LOOP and ONCE begin with entry 0. DESIGN CHOICE (assumption 68):
the three queue modes share the 4,096 entries, and a STREAM queue keeps its fill while LOOP or ONCE plays. -/
def startPlay (d : Device) (n e : Nat) : Device :=
  let c := d.ch n
  let m := d.fget (aCH n 0x18) 0 2
  d.setCh n { c with starved := false, plays := true, grid := e, fresh := true, rd := if m = 0 then c.rd else 0 }

/-- One update edge of the DAC queue (R49, R50): the next code reaches the DAC, or an empty STREAM queue holds it. The next update edge
is DIV Ts later. -/
def playOne (d : Device) (n : Nat) : Device :=
  let c := { d.ch n with grid := d.edge + d.fget (aCH n 0x14) 0 13, fresh := false }
  let qm := d.fget (aCH n 0x18) 0 2
  let qlen := d.fget (aCH n 0x18) 16 13
  let code := tabGet (fun _ => 0) c.codes (c.rd % 4096)
  match qm with
  | 0 =>
    if c.fill = 0 then (d.setCh n { c with starved := true }).event (aCH n 0x20) 30
    else d.setCh n { c with held := code, rd := (c.rd % 4096 + 1) % 4096, fill := c.fill - 1, starved := false }
  | 1 => d.setCh n { c with held := code, rd := if c.rd + 1 < qlen then c.rd + 1 else 0, starved := false }
  | _ =>
    if c.rd < qlen then d.setCh n { c with held := code, rd := c.rd + 1, starved := false } else d.setCh n c

/-- Playback begins at edge `e`; where that is the present edge, its first code appears now (R49). -/
def beginPlay (d : Device) (n e : Nat) : Device :=
  let d := d.startPlay n e
  if e ≤ d.edge then d.playOne n else d

/-- RUN of the queue of channel `n` is written at a moment whose effect takes place at edge `e` (R49, R52): one starts playback, in WAVE;
zero lets it end at the next update edge. A one while RUN reads one has no effect. -/
def runQueue (d : Device) (n e : Nat) (run : Bool) : Device :=
  if run then
    if d.flag (aCH n 0x18) 31 then d
    else
      let d := d.fset (aCH n 0x18) 31 1 1
      if d.mode n = 6 then d.beginPlay n e else d
  else d.fset (aCH n 0x18) 31 1 0

/-- The pin is in WAVE, its queue plays, and the present edge is one of its update edges (R49). -/
def updates (d : Device) (n : Nat) : Bool :=
  let c := d.ch n
  decide (d.mode n = 6) && c.plays && decide (c.grid ≤ d.edge) && decide ((d.edge - c.grid) % max 1 (d.fget (aCH n 0x14) 0 13) = 0)

/-- A flag window from edge `e` to before edge `f` joins the window that runs (R60, R63). -/
def flagWindow (c : Chan) (e f : Nat) : Chan :=
  if f ≤ e then c
  else { c with flagStart := if e ≤ c.flagEnd then c.flagStart else e, flagEnd := max c.flagEnd f }

/-- The preparation time of a handover for a mode and range word (R78): 64 Ts plus the settle time of the measured range; 64 Ts
in OFF. -/
def prepTime (m r : Word) : Nat :=
  if bitsOf m 0 3 = 0 then 64 else if measuresI m then 64 + settleI (bitsOf r 4 3) else 64 + settleV (bitsOf r 0 2)

/-- The measured range of R78: OFF counts as one of its own. -/
def measured (m r : Word) : Nat :=
  if bitsOf m 0 3 = 0 then 16 else if measuresI m then 8 + bitsOf r 4 3 else bitsOf r 0 2

/-- The range on which raw samples are taken: in OFF the zero node is read on VRANGE (R132). -/
def sampleRange (m r : Word) : Nat := if bitsOf m 0 3 = 0 then bitsOf r 0 2 else measured m r

/-- A change of the measured range at edge `e` restarts the preparation of a handover (R80), one that HOLD pauses too. -/
def restartPrep (d : Device) (n e : Nat) (m0 r0 m1 r1 : Word) : Device :=
  let x := d.crs (n / 32)
  let again (h : Handover) : Handover :=
    if h.chan = n then { h with edge := e + prepTime m1 r1, paused := h.paused.map fun _ => prepTime m1 r1 } else h
  if measured m0 r0 = measured m1 r1 ∨ !((x.hand.toList ++ x.backs).any fun h => h.chan == n) then d
  else d.setCrs (n / 32) { x with hand := x.hand.map again, backs := x.backs.map again }

/-- Engines whose TXPIN is pin `n`, lowest first (R213, R268). -/
def txEngines (d : Device) (n : Nat) : List Nat :=
  (List.range 120).filter fun e => d.fget (aENG e 4) 0 10 == n

/-- The digital sources of pin `n` as its registers have them. An engine counts while its EN is one (assumption 65). -/
def pinSet (d : Device) (n : Nat) : PinSet :=
  ⟨d.fget (aPIN n 0) 0 3, d.rd (aPIN n 4), d.rd (aPIN n 8), (d.txEngines n).filter fun e => d.flag (aENG e 0) 0 && d.flag 0x20000 10⟩

/-- Two mode words make a function switch between an analogue mode or OFF and DIG (R63). -/
def switchesMode (m0 m1 : Word) : Bool := decide ((bitsOf m0 0 3 = 5) ≠ (bitsOf m1 0 3 = 5))

/-- Two mode words switch DDRV within DIG (R63). -/
def switchesDdrv (m0 m1 : Word) : Bool :=
  decide (bitsOf m0 0 3 = 5) && decide (bitsOf m1 0 3 = 5) && decide (bitOf m0 4 ≠ bitOf m1 4)

/-- A clamp that a change of mode takes out of force holds no longer (R41, R55). -/
def dropClamp (d : Device) (n : Nat) (m0 m1 : Word) : Device :=
  if clampKind m0 = clampKind m1 then d else (d.setCh n { d.ch n with clampSince := none }).fsetB (aCH n 0x38) 8 false

/-- The mode of channel `n` has changed at edge `e`: playback begins with a change to WAVE while RUN is one, and ends with the change out
of it (R49, R52). -/
def playMode (d : Device) (n e : Nat) (m0 m1 : Word) : Device :=
  if bitsOf m0 0 3 = 6 then (if bitsOf m1 0 3 = 6 then d else d.setCh n { d.ch n with plays := false, fresh := false })
  else if bitsOf m1 0 3 = 6 then
    let d := d.setCh n { d.ch n with starved := false }
    if d.flag (aCH n 0x18) 31 then d.beginPlay n e else d
  else d

/-- Apply requests to channel `n` at edge `e` as one change (R58 to R65): in their order, the latest value of a field standing. The cell
leaves fold-back where they change a setting (R56). A switch between OFF and DIG sets no flag, since OFF is no analogue mode of R42. -/
def applyReqs (d : Device) (n e : Nat) (rs : List ChReq) (ctx : Nat) : Device :=
  if rs.isEmpty then d
  else
    let c := d.ch n
    let m0 := d.rd (aCH n 0)
    let r0 := d.rd (aCH n 4)
    let f0 := d.rd (aCH n 8)
    let k0 := d.rd (aCH n 0xC)
    let pins := c.pinOld.getD (d.pinSet n)
    let same := decide (c.bridgeStart = e ∧ e < c.bridgeEnd)
    let v0 := if same then c.fromV else bitsOf r0 0 2
    let i0 := if same then c.fromI else bitsOf r0 4 3
    let d := rs.foldl (fun d r => d.applyReq n ctx r) d
    let m1 := d.rd (aCH n 0)
    let r1 := d.rd (aCH n 4)
    let b := max (bridgeTime (rangeDist v0 (bitsOf r1 0 2))) (bridgeTime (rangeDist i0 (bitsOf r1 4 3)))
    let nfl := max (flaggedV v0 (bitsOf r1 0 2)) (flaggedI i0 (bitsOf r1 4 3))
    let switched := switchesMode m0 m1 || switchesDdrv m0 m1
    let flagged := switchesMode m0 m1 && (analogueMode m0 || analogueMode m1)
    let d := d.setCh n { flagWindow (d.ch n) e (max (e + nfl) (if flagged then e + 1 else 0)) with
      bridgeStart := if b = 0 then c.bridgeStart else e, bridgeEnd := if b = 0 then (if same then e else c.bridgeEnd) else e + b,
      fromV := v0, fromI := i0,
      inForce := if e ≤ d.edge then none else if c.inForce.isSome then c.inForce else some (m0, r0),
      holdUntil := if switched then e + 1 else c.holdUntil,
      pinOld := if switched && decide (d.edge < e) then some pins else c.pinOld,
      powered := c.powered || decide (bitsOf m1 0 3 ≠ 0) }
    let d := if m1 = m0 ∧ r1 = r0 ∧ d.rd (aCH n 8) = f0 ∧ d.rd (aCH n 0xC) = k0 then d else d.fsetB (aCH n 0x38) 9 false
    let d := ((d.dropClamp n m0 m1).restartPrep n e m0 r0 m1 r1).playMode n e m0 m1
    match (rs.filterMap ChReq.run).getLast? with
    | some run => d.runQueue n e run
    | none => d

/-- A request changes a range or makes a function switch, so that it waits for a bridge (R61, R64). -/
def changesMux (d : Device) (n : Nat) (r : ChReq) : Bool :=
  let m0 := d.rd (aCH n 0)
  let m1 := r.mode.getD m0
  let r0 := d.rd (aCH n 4)
  let r1 := r.range.getD r0
  decide (bitsOf r0 0 2 ≠ bitsOf r1 0 2) || decide (bitsOf r0 4 3 ≠ bitsOf r1 4 3) || switchesMode m0 m1 || switchesDdrv m0 m1

/-- A request or a switch of digital sources waits for the end of a bridge of channel `n` (R61, R64). -/
def queued (d : Device) (n : Nat) : Bool := !(d.ch n).waiting.isEmpty || (d.ch n).pinWait

/-- Requests reach channel `n` with effect at edge `e`: they wait when another waits, or when one changes a range or makes a function
switch while a bridge runs (R61, R64). -/
def requests (d : Device) (n e : Nat) (rs : List ChReq) (ctx : Nat) : Device :=
  if d.queued n || (d.bridging n e && rs.any fun r => d.changesMux n r) then
    d.setCh n { d.ch n with waiting := (d.ch n).waiting ++ rs }
  else d.applyReqs n e rs ctx

/-! Writes of the request registers. -/

/-- The request that a write of the register at offset `o` makes. -/
def reqOf (o : Nat) (v : Word) (src : ClampSrc) (recd : Nat) : ChReq :=
  { mode := if o = 0 then some v else none, range := if o = 4 then some v else none,
    force := if o = 8 then some v else none, clamp := if o = 0xC then some v else none, run := none, src := src, recd := recd }

/-- The settings after every waiting request and more, for the governor's tests (R76, R77). -/
def previewReqs (d : Device) (n : Nat) (rs : List ChReq) : Device :=
  ((d.ch n).waiting ++ rs).foldl (fun d r => d.putReq n r) d

/-- A write of CH_MODE, CH_RANGE, CH_FORCE or CH_CLAMP (offset `o`) of channel `n`: refused under SAFE and HOLD (R71, R72), on a
retired channel that it would take out of OFF (R340) and by the governor (R77); else clamped, reported and requested. -/
def writeReq (d : Device) (n o : Nat) (p : Party) (raw : Word) : Device :=
  let (v, hits) := d.cook (aCH n o) raw
  let r := reqOf o v (srcOf p) (aCH n o)
  if d.capo ≠ 0 then d.refuse (aCH n o)
  else if decide (o = 0) && d.retired n && decide (bitsOf v 0 3 ≠ 0) then d.refuse (aCH n o)
  else if d.govRefuses (d.previewReqs n [r]) then d.refuse (aCH n o)
  else (d.reportHits (srcOf p) (aCH n o) (aCH n o) 0 0xFFFF hits).requests n d.nextEdge [r] 0xFFFF

/-! The safe state (R67 to R71). -/

/-- Empty a STREAM queue (R71). -/
def dropStream (d : Device) (n : Nat) : Device :=
  if d.fget (aCH n 0x18) 0 2 = 0 then d.setCh n { d.ch n with fill := 0 } else d

/-- Channel `n` takes its safe-table mode, ranges, code and current clamp from CH_SAFE and CH_SAFECODE (R68, R69). -/
def takeSafe (d : Device) (n : Nat) : Device :=
  let s := d.rd (aCH n 0x30)
  let smode := if d.retired n then 0 else bitsOf s 0 1
  let d := d.fset (aCH n 0) 0 3 smode
  let d := (d.fset (aCH n 4) 0 2 (bitsOf s 4 2)).fset (aCH n 4) 4 3 (bitsOf s 8 3)
  let d := d.fset (aCH n 8) 0 18 (d.fget (aCH n 0x34) 0 18)
  d.fset (aCH n 0xC) 0 16 (bitsOf s 16 16)

/-- What Capo SAFE does to channel `n` (R69 to R71): the safe-table state, playback stopped, RUN zero, a STREAM queue emptied,
bridges, switches and waiting requests abandoned, fold-back replaced. -/
def safeChan (d : Device) (n : Nat) : Device :=
  let m0 := d.rd (aCH n 0)
  let d := (d.takeSafe n).fset (aCH n 0x18) 31 1 0
  let d := (d.dropStream n).fsetB (aCH n 0x38) 9 false
  (d.setCh n (d.ch n).abandon.halt).dropClamp n m0 (d.rd (aCH n 0))

/-- Every channel (R16). -/
def allChans : List Nat := List.range 1024

/-- Apply `f` for every channel of a list. -/
def forChans (d : Device) (ns : List Nat) (f : Device → Nat → Device) : Device := ns.foldl f d

end Device

end Sys2Proof.Machine
end

