-- ==== Sys2Proof/Machine/MatrixOps.lean ====
section
/-!
DEFINITION. Operations on the bridge matrix: nodes and resources (R89, R95), limits (R87), claims (R95 to R98), switching
(R92 to R94), per-bus open (R116), the mapping of logical to physical buses (R19, R117).
-/

namespace Sys2Proof.Machine

/-! Resource numbers of R95: logical buses, tiles, meters, XIO balls, guard buffers and pin tap sets. -/

/-- Logical bus `b`. -/
def resBus (b : Nat) : Nat := b
/-- Tile `t`. -/
def resCat (t : Nat) : Nat := 100 + t
/-- Meter `r`. -/
def resRmu (r : Nat) : Nat := 200 + r
/-- XIO ball `x`. -/
def resXio (x : Nat) : Nat := 210 + x
/-- Guard buffer `g`. -/
def resGuard (g : Nat) : Nat := 220 + g
/-- Tap set of pin `n`. -/
def resTaps (n : Nat) : Nat := 1000 + n

/-- The resource that a node belongs to (R89); none for NONE. -/
def resOfNode (k : Nat) : Option Nat :=
  if k < 1024 then some (resTaps k)
  else if k < 1040 then some (resRmu ((k - 1024) / 4))
  else if k < 1296 then some (resCat ((k - 1040) / 4))
  else if k < 1304 then some (resXio (k - 1296))
  else if k < 1312 then some (resGuard (k - 1304))
  else if k < 1320 then some (resGuard (k - 1312))
  else none

/-- One entry of the connection-list store (R91, R120). -/
structure ListEntry where
  node : Nat
  bus : Nat
  bbm : Bool
deriving DecidableEq, Repr

/-- Decode an entry word. -/
def entryOf (w : Word) : ListEntry := ⟨bitsOf w 0 12, bitsOf w 12 5, bitOf w 17⟩

/-- Closed taps among switches of one bus. -/
def countTaps (sw : List Switch) (p : Nat) : Nat := (sw.filter fun s => s.phys == p && decide (s.node < 1024)).length

/-- Closed port switches among switches of one bus. -/
def countPorts (sw : List Switch) (p : Nat) : Nat := (sw.filter fun s => s.phys == p && decide (1024 ≤ s.node)).length

/-- Entries keep within R87 on every logical bus, each node and bus counted once. -/
def listFits (es : List ListEntry) : Bool :=
  let ks := (((es.filter fun e => decide (e.node < 1320)).map fun e => (e.node, e.bus))).eraseDups
  (List.range 32).all fun b =>
    decide (((ks.filter fun k => k.2 == b && decide (k.1 < 1024)).length) ≤ 48) &&
    decide (((ks.filter fun k => k.2 == b && decide (1024 ≤ k.1)).length) ≤ 8)

/-- The longest prefix length, at most `n`, of a list that keeps within R87 (R91). -/
def fitPrefix (es : List ListEntry) : Nat → Nat
  | 0 => 0
  | n + 1 => if listFits (es.take (n + 1)) then n + 1 else fitPrefix es n

/-- Close a switch in a set; one already closed stays as it is. -/
def closeIn (sw : List Switch) (s : Switch) : List Switch :=
  if sw.any fun x => x.node == s.node && x.phys == s.phys then sw else sw ++ [s]

/-- Open a switch in a set. -/
def openIn (sw : List Switch) (node phys : Nat) : List Switch :=
  sw.filter fun x => !(x.node == node && x.phys == phys)

/-- The course of a pin's tap (R84). -/
def courseOf (node : Nat) : Nat := node / 32

/-- The segment switch of course `c` on physical bus `p` is closed (R85): with the first closed tap of the course, until the last one opens.
A segment isolated by R116 stays open. -/
def Matrix.segClosed (m : Matrix) (p c : Nat) : Bool :=
  !m.isolated.contains (p, c) && m.closed.any fun s => s.phys == p && decide (s.node < 1024) && courseOf s.node == c

/-- A closed switch joins its node to its bus: a port switch does (R86), a tap through the segment switch of its course (R84). -/
def Matrix.joins (m : Matrix) (s : Switch) : Bool :=
  m.closed.contains s && (decide (1024 ≤ s.node) || m.segClosed s.phys (courseOf s.node))

/-- The nodes that physical bus `p` joins. -/
def Matrix.joined (m : Matrix) (p : Nat) : List Nat := (m.closed.filter fun s => s.phys == p && m.joins s).map Switch.node

/-- The bound of R88 on the leakage of a physical bus at 25 °C, in pA. -/
def Matrix.leakBound (m : Matrix) (p : Nat) : Nat :=
  let s := ((List.range 32).filter fun c => m.segClosed p c).length
  50 * (32 * s - countTaps m.closed p + (32 - s) + (296 - countPorts m.closed p))

namespace Device

/-- Replace the matrix. -/
def setMx (d : Device) (m : Matrix) : Device := { d with mx := m }

/-- The physical bus of a logical one (R19). -/
def phys (d : Device) (b : Nat) : Nat := d.fget (aMX (0x100 + 4 * b)) 12 6

/-- The logical bus that a physical one serves, if any. -/
def logicalOf (d : Device) (p : Nat) : Option Nat :=
  (List.range 32).find? fun b => d.phys b == p && !d.flag (aMX (0x100 + 4 * b)) 21

/-- Logical bus `b` is retired (R118). -/
def busRetired (d : Device) (b : Nat) : Bool := d.flag (aMX (0x100 + 4 * b)) 21

/-- Why logical bus `b` is held open. -/
def busOpen (d : Device) (b : Nat) : OpenWhy := tabGet (fun _ => OpenWhy.no) d.mx.opens b

/-- Owner of a resource (R95). -/
def owner (d : Device) (r : Nat) : Owner := tabGet (fun _ => Owner.free) d.mx.claims r

/-- Set the owner of a resource. -/
def setOwner (d : Device) (r : Nat) (o : Owner) : Device :=
  d.setMx { d.mx with claims := tabSet (fun _ => Owner.free) r o d.mx.claims }

/-- The entries of descriptor `i` (R90, R91); descriptor 0 is empty. -/
def listOf (d : Device) (i : Nat) : List ListEntry :=
  if i = 0 then []
  else (List.range (d.fget (aMX (0x4000 + 4 * i)) 16 7)).map fun j => entryOf (d.rd (aMX (0x8000 + 4 * (d.fget (aMX (0x4000 + 4 * i)) 0 13 + j))))

/-- The resources that a list names: its buses but retired ones, and the resources of its nodes (R95, R118). -/
def listRes (d : Device) (es : List ListEntry) : List Nat :=
  let live := es.filter fun e => !d.busRetired e.bus && decide (e.node < 1320)
  ((live.map fun e => resBus e.bus) ++ live.filterMap fun e => resOfNode e.node).eraseDups

/-- The switches of a list's entries on the present buses. -/
def listSwitches (d : Device) (es : List ListEntry) : List Switch :=
  ((es.filter fun e => !d.busRetired e.bus && decide (e.node < 1320)).map fun e => (⟨e.node, d.phys e.bus, false⟩ : Switch)).eraseDups

/-- The switches that the list of a starting context asks for: none where it names a retired bus, since the context then starts without its
matrix connections (R118). -/
def askedFor (d : Device) (es : List ListEntry) : List Switch :=
  if es.any fun e => d.busRetired e.bus && decide (e.node < 1320) then [] else d.listSwitches es

/-- Physical buses that an entry marks for break-before-make (R92). -/
def bbmBuses (d : Device) (es : List ListEntry) : List Nat := (es.filter fun e => e.bbm).map fun e => d.phys e.bus

/-- A switch may close on a physical bus: R87, and the bus is not held open. -/
def mayClose (d : Device) (s : Switch) : Bool :=
  let others := openIn d.mx.closed s.node s.phys
  if s.node < 1024 then decide (countTaps others s.phys < 48) else decide (countPorts others s.phys < 8)

/-- A logical bus is held open in any way. -/
def isHeldOpen (d : Device) (b : Nat) : Bool := decide (d.busOpen b ≠ OpenWhy.no)

/-- Move one switch now. A close on a bus held open does not take place (R116). -/
def moveSwitch (d : Device) (close : Bool) (s : Switch) : Device :=
  if close then
    match d.logicalOf s.phys with
    | some b => if d.isHeldOpen b then d else d.setMx { d.mx with closed := closeIn d.mx.closed s }
    | none => d.setMx { d.mx with closed := closeIn d.mx.closed s }
  else d.setMx { d.mx with closed := openIn d.mx.closed s.node s.phys }

/-- Carry out the moves that are due at edge `e` (R92); under HOLD none is (R94). Opens come first. DESIGN CHOICE (assumption 72): a close that
R87 has no room for on its bus waits until an open has made room. -/
def flushMoves (d : Device) (e : Nat) : Device :=
  if d.capo = 1 then d
  else
    let due := d.mx.moves.filter fun m => decide (m.due ≤ e)
    let d := d.setMx { d.mx with moves := d.mx.moves.filter fun m => !decide (m.due ≤ e) }
    let d := (due.filter fun m => !m.close).foldl (fun d m => d.moveSwitch false m.sw) d
    (due.filter fun m => m.close).foldl (fun d m =>
      if d.mayClose m.sw then d.moveSwitch true m.sw else d.setMx { d.mx with moves := d.mx.moves ++ [m] }) d

/-- Change the closed switches of contexts from those of `old` entries to those of `new` entries at edge `e` in the order of
R92: on a bus without BBM close at `e` and open at `e` + 24, on a bus with BBM open at `e` and close at `e` + 24. The moves
of an edge are carried out when the edge has passed, so that a context that starts where another of its list ends can keep
a switch closed. -/
def switchLists (d : Device) (e : Nat) (old new : List ListEntry) : Device :=
  let so := d.listSwitches old
  let sn := d.askedFor new
  let bbm := d.bbmBuses (old ++ new)
  let opens := so.filter fun s => !(sn.any fun x => x.node == s.node && x.phys == s.phys)
  let closes := sn.filter fun s => !(d.mx.closed.any fun x => x.node == s.node && x.phys == s.phys)
  let mv (s : Switch) (close : Bool) : Move :=
    ⟨if bbm.contains s.phys = close then e + 24 else e, close, s⟩
  let same (s : Switch) (m : Move) : Bool := m.sw.node == s.node && m.sw.phys == s.phys
  let kept := d.mx.moves.filter fun m => !(!m.close && sn.any fun s => same s m)
  d.setMx { d.mx with moves := kept ++ opens.map (fun s => mv s false) ++ closes.map (fun s => mv s true) }

/-- The edge at which the last move of a set of entries has ended (R92, R95). -/
def movesEnd (d : Device) (e : Nat) (es : List ListEntry) : Nat :=
  (d.mx.moves.filter fun m => !m.close && (d.listSwitches es).any fun s => s.node == m.sw.node && s.phys == m.sw.phys).foldl
    (fun t m => max t m.due) e

/-- The execution named owns resource `r`. -/
def ownsExec (x : Nat) (o : Owner) : Bool :=
  match o with
  | .ctx y _ => x == y
  | _ => false

/-- Release every claim of execution `x`; a bus that over-current opened becomes free with it (R95, R115). -/
def releaseExec (d : Device) (x : Nat) : Device :=
  let keys := (tabKeys d.mx.claims).filter fun r => ownsExec x (d.owner r)
  keys.foldl (fun d r =>
    let d := d.setOwner r .free
    if decide (r < 32) && decide (d.busOpen r = OpenWhy.overcurrent) then
      (d.setMx { d.mx with opens := tabSet (fun _ => OpenWhy.no) r OpenWhy.no d.mx.opens }).fsetB (aMX (0x100 + 4 * r)) 20 false
    else d) d

/-- All resources a list names are free, or held by execution `x` whose claims pass on (R95, R96); no bus is held open. -/
def claimsFree (d : Device) (es : List ListEntry) (x : Option Nat) : Bool :=
  (d.listRes es).all fun r =>
    (match d.owner r with
     | .free => true
     | .ctx y _ => x == some y
     | _ => false) && !(decide (r < 32) && d.isHeldOpen r)

/-- Claim what a list names for an execution (R95). -/
def claimList (d : Device) (es : List ListEntry) (x c : Nat) : Device :=
  (d.listRes es).foldl (fun d r => d.setOwner r (.ctx x c)) d

/-- Open every switch that the host closed on logical bus `b` (R97). -/
def openHostBus (d : Device) (b : Nat) : Device :=
  d.setMx { d.mx with closed := d.mx.closed.filter fun s => !(s.host && s.phys == d.phys b) }

/-- Open every switch that the host closed on the nodes of a resource (R98). -/
def openHostRes (d : Device) (r : Nat) : Device :=
  d.setMx { d.mx with closed := d.mx.closed.filter fun s => !(s.host && resOfNode s.node == some r) }

/-- Free the tap sets of pins on which the host has no closed tap left (R98). -/
def dropHostTaps (d : Device) : Device :=
  let keys := (tabKeys d.mx.claims).filter fun r => decide (1000 ≤ r) && decide (d.owner r = .host)
  keys.foldl (fun d r => if d.mx.closed.any fun s => s.host && s.node == r - 1000 then d else d.setOwner r .free) d

/-- Open every switch of a physical bus (R116). -/
def openBus (d : Device) (p : Nat) : Device :=
  (d.setMx { d.mx with closed := d.mx.closed.filter fun s => s.phys != p, moves := d.mx.moves.filter fun m => m.sw.phys != p }).dropHostTaps

/-- Hold logical bus `b` open. -/
def holdOpen (d : Device) (b : Nat) (w : OpenWhy) : Device :=
  (d.setMx { d.mx with opens := tabSet (fun _ => OpenWhy.no) b w d.mx.opens }).fsetB (aMX (0x100 + 4 * b)) 20 (decide (w ≠ OpenWhy.no))

/-- What Capo SAFE does to the matrix (R94): every switch opens and every claim ends; a bus that the host holds open stays so
until its release (R116). -/
def safeMatrix (d : Device) : Device :=
  let d := (List.range 32).foldl (fun d b => if d.busOpen b = .overcurrent then d.holdOpen b .no else d) d
  let d := d.setMx { d.mx with closed := [], moves := [], claims := [], releases := [], heldCmds := [] }
  ((d.wr 0xA0014 0).wr 0xA0020 0).wr 0xA0024 0 |>.wr 0xA0028 0

/-- OWNER of MATRIX_BUSSTAT (R120). -/
def ownerCode (o : Owner) : Nat :=
  match o with
  | .free => 0
  | .ctx _ _ => 1
  | .host => 2
  | .tuning => 3

end Device

end Sys2Proof.Machine
end

