-- ==== Sys2Proof/Machine/FiltOps.lean ====
section
/-!
DEFINITION. The arithmetic of the filter chains and the start of a chain: stages A to D with their shifts (R124 to R129), the
contributing samples (R133), group delay (R137, R138), threshold units (R147, R148).
-/

namespace Sys2Proof.Machine

/-- The parameters of a profile that the chain arithmetic uses (R155). -/
structure Prof where
  ordN : Nat
  decK : Nat
  halfH : Nat
  biqJ : Nat
  tapT : Nat
  decM : Nat
  shA : Nat
  shB : Nat
  shC : Nat
  shD : Nat
  dspan : Nat
  cscale : Nat
  coefs : List Int
  biq : List (Int × Int × Int × Int × Int)
deriving DecidableEq, Repr

/-- A saturated, rounded shift and whether it saturated (R125). -/
def shiftSat (v : Int) (s : Nat) : Int × Bool :=
  let r := shiftRound v s
  (sat64 r, decide (sat64 r ≠ r))

/-- One sample through the integrators of stage A: each adds what the one before it holds now (R126). -/
def integrate (x : Nat) : List Nat → List Nat
  | [] => []
  | i :: r =>
    let i' := (i + x) % 2 ^ 80
    i' :: integrate i' r

/-- One value through the combs of stage A: the output and the new memories (R126). -/
def combs (x : Nat) : List Nat → Nat × List Nat
  | [] => (x, [])
  | c :: r =>
    let (y, r') := combs ((x + 2 ^ 80 - c) % 2 ^ 80) r
    (y, x :: r')

/-- Samples through the integrators, in order. -/
def integrateAll (xs : List Int) (integ : List Nat) : List Nat :=
  xs.foldl (fun i x => integrate (ofSigned 80 x) i) integ

/-- The last of a list, or zero. -/
def lastOr (l : List Nat) : Nat := l.getLastD 0

/-- One group of K samples through stage A: the output before SHA, and the memories (R126). -/
def stageA (xs : List Int) (integ comb : List Nat) : Int × List Nat × List Nat :=
  let i := integrateAll xs integ
  let (y, c) := combs (lastOr i) comb
  (toSigned 80 y, i, c)

/-- Cut a list into pieces of `k`, `fuel` of them at most. -/
def chunks {α : Type} (k : Nat) : Nat → List α → List (List α)
  | 0, _ => []
  | fuel + 1, l => if l.isEmpty then [] else l.take k :: chunks k fuel (l.drop k)

/-- Groups of K samples through stage A and SHA: outputs, saturation, memories. -/
def runA (p : Prof) : List (List Int) → List Nat → List Nat → List Int × Bool × List Nat × List Nat
  | [], i, c => ([], false, i, c)
  | g :: r, i, c =>
    let (y, i, c) := stageA g i c
    let (v, s) := shiftSat y p.shA
    let (vs, s', i, c) := runA p r i c
    (v :: vs, s || s', i, c)

/-- The half-band coefficients h[-15] to h[15] (R127). -/
def halfCoefs : List Int :=
  [-248, 0, 507, 0, -1082, 0, 2094, 0, -3764, 0, 6657, 0, -12865, 0, 41469, 65536,
   41469, 0, -12865, 0, 6657, 0, -3764, 0, 2094, 0, -1082, 0, 507, 0, -248]

/-- Sum of products of coefficients with a delay line, newest value first. -/
def dot : List Int → List Int → Int
  | c :: cs, x :: xs => c * x + dot cs xs
  | _, _ => 0

/-- Values through one half-band, an output for every second input (R127). `line` holds the inputs newest first. -/
def halfBand : List Int → List Int → List Int × Bool × List Int
  | x0 :: x1 :: r, line =>
    let line := (x1 :: x0 :: line).take 31
    let y := shiftRound (dot halfCoefs line) 17
    let (ys, s, line') := halfBand r line
    (sat64 y :: ys, decide (sat64 y ≠ y) || s, line')
  | _, line => ([], false, line)

/-- Values through the cascade of half-bands (R127). -/
def runB : List Int → List (List Int) → List Int × Bool × List (List Int)
  | xs, [] => (xs, false, [])
  | xs, l :: ls =>
    let (ys, s, l') := halfBand xs l
    let (zs, s', ls') := runB ys ls
    (zs, s || s', l' :: ls')

/-- Shift every value (R125). -/
def shiftAll (s : Nat) (xs : List Int) : List Int × Bool :=
  (xs.map fun x => (shiftSat x s).1, xs.any fun x => (shiftSat x s).2)

/-- M values through stage C: one output (R128). With no taps the last value passes. -/
def runC (p : Prof) (xs : List Int) (line : List Int) : Int × Bool × List Int :=
  if p.tapT = 0 then (xs.getLastD 0, false, [])
  else
    let line := (xs.reverse ++ line).take p.tapT
    let y := shiftRound (dot p.coefs line) (15 + p.cscale)
    (sat64 y, decide (sat64 y ≠ y), line)

/-- One value through one biquad (R129). -/
def biquad (k : Int × Int × Int × Int × Int) (x : Int) (m : Biquad) : Int × Bool × Biquad :=
  let y := shiftRound (k.1 * x + k.2.1 * m.x1 + k.2.2.1 * m.x2 - k.2.2.2.1 * m.y1 - k.2.2.2.2 * m.y2) 29
  (sat64 y, decide (sat64 y ≠ y), ⟨x, m.x1, sat64 y, m.y1⟩)

/-- One value through stage D (R129). -/
def runD : List (Int × Int × Int × Int × Int) → Int → List Biquad → Int × Bool × List Biquad
  | k :: ks, x, m :: ms =>
    let (y, s, m') := biquad k x m
    let (z, s', ms') := runD ks y ms
    (z, s || s', m' :: ms')
  | _, x, ms => (x, false, ms)

/-- Raw samples in one decimation group of a chain (R131). -/
def Prof.period (p : Prof) : Nat := p.decK * 2 ^ p.halfH * p.decM

/-- W of R133: the raw samples that contribute to one output. -/
def Prof.span (p : Prof) : Nat :=
  p.ordN * (p.decK - 1) + 30 * p.decK * (2 ^ p.halfH - 1) + (p.tapT - 1) * p.decK * 2 ^ p.halfH +
    (if p.biqJ = 0 then 0 else p.dspan * p.decK * 2 ^ p.halfH * p.decM) + 1

/-- One complete group through a chain: the value, the saturation bits of stages A to D, and the memories (R124). -/
def runGroup (p : Prof) (xs : List Int) (c : Chain) : Int × Nat × Chain :=
  let (va, sa, integ, comb) := runA p (chunks p.decK (2 ^ p.halfH * p.decM) xs) c.integ c.comb
  let (vb, sb, halfs) := runB va c.halfs
  let (vb, sb') := shiftAll p.shB vb
  let (vc, sc, fir) := runC p vb c.fir
  let (vc, sc') := shiftSat vc p.shC
  let (vd, sd, bqs) := runD (p.biq.take p.biqJ) vc c.bqs
  let (vd, sd') := shiftSat vd p.shD
  let bit (b : Bool) (k : Nat) : Nat := if b then k else 0
  (vd, bit sa 1 + bit (sb || sb') 2 + bit (sc || sc') 4 + bit (sd || sd') 8,
   { c with integ := integ, comb := comb, halfs := halfs, fir := fir, bqs := bqs })

/-- M readings through an RMU's chain: stages C and D only (R151). -/
def runReadings (p : Prof) (xs : List Int) (c : Chain) : Int × Nat × Chain :=
  let (vc, sc, fir) := runC p xs c.fir
  let (vc, sc') := shiftSat vc p.shC
  let (vd, sd, bqs) := runD (p.biq.take p.biqJ) vc c.bqs
  let (vd, sd') := shiftSat vd p.shD
  (vd, (if sc || sc' then 1 else 0) + (if sd || sd' then 2 else 0), { c with fir := fir, bqs := bqs })

/-- A fraction num / den with a positive denominator. -/
structure Frac where
  num : Int
  den : Nat
deriving DecidableEq, Repr

/-- Sum of fractions. -/
def Frac.add (x y : Frac) : Frac := ⟨x.num * y.den + y.num * x.den, x.den * y.den⟩

/-- A fraction of integers; 0 where the denominator is 0 (R137). -/
def fracOf (n m : Int) : Frac :=
  if m = 0 then ⟨0, 1⟩ else if 0 < m then ⟨n, m.toNat⟩ else ⟨-n, (-m).toNat⟩

/-- The delay of one biquad (R137). -/
def biquadDelay (k : Int × Int × Int × Int × Int) : Frac :=
  (fracOf (k.2.1 + 2 * k.2.2.1) (k.1 + k.2.1 + k.2.2.1)).add
    (fracOf (-(k.2.2.2.1 + 2 * k.2.2.2.2)) (2 ^ 29 + k.2.2.2.1 + k.2.2.2.2))

/-- Tau D: the sum over the biquads (R137). -/
def Prof.tauD (p : Prof) : Frac := (p.biq.take p.biqJ).foldl (fun t k => t.add (biquadDelay k)) ⟨0, 1⟩

/-- A fraction times 256, rounded and clamped as R138 says; and whether the clamp changed it. -/
def delay256 (g : Frac) : Nat × Bool :=
  let x := (2 * 256 * g.num + g.den) / (2 * g.den : Int)
  let y := clampInt 0 1073741823 x
  (y.toNat, decide (x ≠ y))

/-- Total group delay of a chain in Ts (R137). -/
def Prof.groupDelay (p : Prof) : Frac :=
  let a : Frac := ⟨p.ordN * (p.decK - 1 : Nat), 2⟩
  let b : Frac := ⟨15 * p.decK * (2 ^ p.halfH - 1 : Nat), 1⟩
  let c : Frac := ⟨(p.tapT - 1 : Nat) * p.decK * 2 ^ p.halfH, 2⟩
  let t := p.tauD
  ((a.add b).add c).add ⟨t.num * p.decK * 2 ^ p.halfH * p.decM, t.den⟩

/-- Delay of an RMU's chain in readings (R151). -/
def Prof.readingDelay (p : Prof) : Frac :=
  let t := p.tauD
  (⟨(p.tapT - 1 : Nat), 2⟩ : Frac).add ⟨t.num * p.decM, t.den⟩

namespace Device

/-- Coefficient `i` of stage C of profile `p` (R155). -/
def coef (d : Device) (p i : Nat) : Int := d.fgetS (aPROF p (18 + i / 2)) (16 * (i % 2)) 16

/-- The five coefficients of biquad `b` (R155). -/
def biqCoefs (d : Device) (p b : Nat) : Int × Int × Int × Int × Int :=
  let w (i : Nat) : Int := d.fgetS (aPROF p (8 + 5 * b + i)) 0 32
  (w 0, w 1, w 2, w 3, w 4)

/-- Profile `p` as the profile table holds it (R153, R155). -/
def profile (d : Device) (p : Nat) : Prof :=
  let w0 := d.rd (aPROF p 0)
  let sh := d.rd (aPROF p 2)
  { ordN := bitsOf w0 0 3, decK := d.fget (aPROF p 1) 0 13, halfH := bitsOf w0 4 2, biqJ := bitsOf w0 8 2, tapT := bitsOf w0 16 8,
    decM := bitsOf w0 24 5, shA := bitsOf sh 0 5, shB := bitsOf sh 8 5, shC := bitsOf sh 16 5, shD := bitsOf sh 24 5,
    dspan := d.fget (aPROF p 4) 16 12, cscale := d.fget (aPROF p 5) 0 3,
    coefs := (List.range (bitsOf w0 16 8)).map (d.coef p), biq := [d.biqCoefs p 0, d.biqCoefs p 1] }

/-- Chain of channel `n` (0 to 1,023), or of RMU `r` as number 1,024 + r. -/
def chain (d : Device) (n : Nat) : Chain := tabGet (fun _ => Chain.init) d.chains n

/-- Replace a chain. -/
def setChain (d : Device) (n : Nat) (c : Chain) : Device := { d with chains := tabSet (fun _ => Chain.init) n c d.chains }

/-- Threshold unit of channel `n`. -/
def thr (d : Device) (n : Nat) : Thr := tabGet (fun _ => Thr.init) d.thrs n

/-- Replace a threshold unit. -/
def setThr (d : Device) (n : Nat) (t : Thr) : Device := { d with thrs := tabSet (fun _ => Thr.init) n t d.thrs }

/-- The profile that the chain of channel `n` names. -/
def profOf (d : Device) (n : Nat) : Nat := d.fget (aFILT n 0) 0 8

/-- The chain of channel `n` runs. -/
def chainRuns (d : Device) (n : Nat) : Bool := d.flag (aFILT n 4) 8

/-- The chain of RMU `r` runs. -/
def rmuChainRuns (d : Device) (r : Nat) : Bool := d.flag (aRMUF r 8) 8

/-- Logical lane of a channel (R123). -/
def laneOf (n : Nat) : Nat := n / 16

/-- The lane of channel `n` is in threshold-only operation (R150). -/
def thrOnly (d : Device) (n : Nat) : Bool := d.flag (0x50200 + 4 * laneOf n) 8

/-- Load the threshold unit of channel `n` from its profile and clear it; it takes samples from edge `e` on, as the chain does (R147). -/
def loadThr (d : Device) (n e : Nat) : Device :=
  let p := d.profile (d.profOf n)
  let d := ((d.fset (aFILT n 0x30) 4 3 p.ordN).fset (aFILT n 0x30) 8 13 p.decK).fset (aFILT n 0x30) 24 5 p.shA
  d.setThr n { loaded := true, start := e, group := [], integ := List.replicate p.ordN 0, comb := List.replicate p.ordN 0, fresh := true }

/-- Cleared memories for a profile at a start edge (R135). -/
def freshChain (p : Prof) (e : Nat) (old : Chain) : Chain :=
  { start := e, group := [], integ := List.replicate p.ordN 0, comb := List.replicate p.ordN 0,
    halfs := List.replicate p.halfH (List.replicate 31 0), fir := [], bqs := List.replicate p.biqJ ⟨0, 0, 0, 0⟩,
    marks := [], lastVal := old.lastVal, lastFlags := old.lastFlags,
    subst := false, centres := [], used := 0 }

/-- Start the chain of channel `n` at edge `e` with the profile it names (R135, R138, R147, R150): in threshold-only operation too FILT_GDLY and
the threshold unit follow. DESIGN CHOICE (assumption 76): FILT_RATE.PERIOD, which R131 gives no time of change, follows at a start too. -/
def startChain (d : Device) (n e : Nat) : Device :=
  let p := d.profile (d.profOf n)
  let g := delay256 p.groupDelay
  let d := (((d.fset (aFILT n 0) 31 1 1).loadThr n e).fset (aFILT n 0xC) 0 30 g.1).fsetB (aFILT n 4) 12 g.2
  let d := d.fset (aFILT n 0x1C) 0 20 p.period
  if d.thrOnly n then d
  else ((d.setChain n (freshChain p e (d.chain n))).fsetB (aFILT n 4) 8 true).fsetB (aFILT n 4) 9 true

/-- Stop the chain of channel `n` (R135). -/
def stopChain (d : Device) (n : Nat) : Device :=
  let d := (d.fset (aFILT n 0) 31 1 0).setChain n { d.chain n with group := [] }
  (d.fsetB (aFILT n 4) 8 false).fsetB (aFILT n 4) 9 false

/-- Start the chain of RMU `r` (R135, R151). -/
def startRmuChain (d : Device) (r e : Nat) : Device :=
  let p := d.profile (d.fget (aRMUF r 0) 0 8)
  let d := (d.fset (aRMUF r 0) 31 1 1).setChain (1024 + r) (freshChain p e (d.chain (1024 + r)))
  let d := d.fset (aRMUF r 4) 0 30 (delay256 p.readingDelay).1
  (d.fsetB (aRMUF r 8) 8 true).fsetB (aRMUF r 8) 9 true

/-- Stop the chain of RMU `r` (R151). -/
def stopRmuChain (d : Device) (r : Nat) : Device :=
  ((d.fset (aRMUF r 0) 31 1 0).fsetB (aRMUF r 8) 8 false).fsetB (aRMUF r 8) 9 false

/-- A raw sample enters the chain and the threshold unit of channel `n`. A retired channel's unit receives none (R340), nor does
a chain whose lane waits for its substitution (R149). -/
def feedRaw (d : Device) (n : Nat) (x : Raw) (lane : Bool) : Device :=
  let d := if d.chainRuns n && lane && decide ((d.chain n).start ≤ x.edge) then
    d.setChain n { d.chain n with group := (d.chain n).group ++ [x],
                                  marks := (x :: (d.chain n).marks).take ((d.profile (d.profOf n)).span + (d.chain n).group.length + 1) } else d
  if (d.thr n).loaded && !d.retired n && decide ((d.thr n).start ≤ x.edge) then d.setThr n { d.thr n with group := (d.thr n).group ++ [x] } else d

/-- The range all of some samples share (R146). -/
def commonRange : List Raw → Option Nat
  | [] => none
  | x :: r => if r.all (fun y => y.rng == x.rng) then some x.rng else none

/-- The corrected edge of a chain output (R139). -/
def correctedEdge (d : Device) (n last : Nat) : Nat := last - (d.fget (aFILT n 0xC) 0 30 + 128) / 256

/-- The edges at which the range changed among samples, given newest first (R146). -/
def rangeMoves : List Raw → List Nat
  | x :: y :: r => if x.rng = y.rng then rangeMoves (y :: r) else x.edge :: rangeMoves (y :: r)
  | _ => []

/-- The range in use at edge `e`, of samples given newest first: that of the sample of that edge (R146). -/
def rangeAt (e : Nat) (xs : List Raw) : Nat := (((xs.find? fun x => decide (x.edge ≤ e)).orElse fun _ => xs.getLast?).map Raw.rng).getD 0

/-- Take one complete group of channel `n` through its chain: the output, if the chain delivers one (R131, R133, R135). A saturation sets
SAT_SEEN also before the first output (R156). DESIGN CHOICE (assumption 77): SAT of an output tells of the values of its own group, not of earlier
ones in the delay lines. -/
def chainStep (d : Device) (n : Nat) : Device × Option ChainOut :=
  let c := d.chain n
  let p := d.profile (d.profOf n)
  if p.period = 0 ∨ c.group.length < p.period ∨ d.chainRuns n = false then (d, none)
  else
    let g := c.group.take p.period
    let (v, sat, c) := runGroup p (g.map Raw.code) c
    let last := (g.getLast?.map Raw.edge).getD 0
    let contrib := c.marks.filter fun x => decide (x.edge ≤ last) && decide (last < x.edge + p.span)
    let out : ChainOut := ⟨v, last, contrib.foldl (fun f x => f ||| x.flags) 0, sat, commonRange contrib,
      rangeAt (d.correctedEdge n last) contrib, rangeMoves contrib⟩
    let c := { c with group := c.group.drop p.period }
    let d := if sat = 0 then d else d.event (aFILT n 8) 0
    if last + 1 < c.start + p.span then (d.setChain n c, none)
    else
      let d := d.setChain n { c with subst := false, lastVal := v, lastFlags := out.flags + (if sat = 0 then 0 else 16) }
      let d := ((d.fset (aFILT n 4) 0 4 sat).fsetB (aFILT n 4) 9 false).wr (aFILT n 0x10) (BitVec.ofNat 32 (ofSigned 64 v))
      (d, some out)

/-- A comparator's new state (R148). -/
def cmpState (v level : Int) (hyst : Nat) (old : Bool) : Bool :=
  if level < v then true else if v < level - hyst then false else old

/-- A change of state matches DIR (R148). -/
def dirMatches (dir : Nat) (old new : Bool) : Bool :=
  decide (old ≠ new) && (match dir with | 0 => new | 1 => !new | _ => true)

/-- Take one group of K samples of channel `n` through its threshold unit: the comparators that had an event, and the start edge
of the group's last sample (R148). -/
def thrStep (d : Device) (n : Nat) : Device × List Nat × Nat :=
  let t := d.thr n
  let k := d.fget (aFILT n 0x30) 8 13
  if t.loaded = false ∨ k = 0 ∨ t.group.length < k then (d, [], 0)
  else
    let g := t.group.take k
    let last := (g.getLast?.map Raw.edge).getD 0
    let (y, integ, comb) := stageA (g.map Raw.code) t.integ t.comb
    let v := clampInt (-(2 ^ 31)) (2 ^ 31 - 1) (shiftSat y (d.fget (aFILT n 0x30) 24 5)).1
    let cfg := d.rd (aFILT n 0x28)
    let one (i : Nat) : Bool × Bool :=
      let level := d.fgetS (aFILT n (0x20 + 4 * i)) 0 32
      let old := d.flag (aFILT n 0x30) i
      if t.fresh then (decide (level < v), false)
      else
        let new := cmpState v level (bitsOf cfg (16 * i) 12) old
        (new, dirMatches (bitsOf cfg (12 + 16 * i) 2) old new && bitOf cfg (14 + 16 * i))
    let d := d.setThr n { t with group := t.group.drop k, integ := integ, comb := comb, fresh := false }
    let d := (d.fsetB (aFILT n 0x30) 0 (one 0).1).fsetB (aFILT n 0x30) 1 (one 1).1
    let evs := (if (one 0).2 then [0] else []) ++ (if (one 1).2 then [1] else [])
    (evs.foldl (fun d i => (d.event (aFILT n 8) (3 + i)).bump (aFILT n 0x2C) (16 * i) 16) d, evs, last)

/-- The edge to which a threshold event belongs (R148). -/
def thrEdge (d : Device) (n last : Nat) : Nat :=
  last - (d.fget (aFILT n 0x30) 4 3 * (d.fget (aFILT n 0x30) 8 13 - 1) + 1) / 2

end Device

end Sys2Proof.Machine
end

