-- ==== Sys2Proof/Machine/AxisOps.lean ====
section
/-!
DEFINITION. Operations on one position axis: its cycle length (R163), motion at a sample edge (R167 to R174), jumps and the
history (R140, R162), wheels (R171, R177, R178), compare units (R180, R181).
-/

namespace Sys2Proof.Machine

/-- 2^48, the modulus of C (R159). -/
def posMod : Nat := 2 ^ 48

/-- The forward distance from `x` to `y` modulo 2^48. -/
def fwd (x y : Nat) : Nat := (y + posMod - x % posMod) % posMod

/-- C has reached X (R160). -/
def reachedPos (c x : Nat) : Bool := decide (fwd x c < 2 ^ 47)

/-- The smallest value not below `c` whose phase modulo `z` is `ph`. -/
def nextPhase (c z ph : Nat) : Nat := c + (ph + z - c % z) % z

/-- A fraction of ticks in 2^-32, rounded to nearest with ties up (R125). -/
def rateTicks (rate : Int) (n : Nat) : Int := (rate * n + 2 ^ 31) / 2 ^ 32

namespace Device

/-- Axis `a`. -/
def ax (d : Device) (a : Nat) : Axis := tabGet (fun _ => Axis.init) d.axes a

/-- Replace axis `a`. -/
def setAx (d : Device) (a : Nat) (x : Axis) : Device := { d with axes := tabSet (fun _ => Axis.init) a x d.axes }

/-- POS_STATUS.STATE: 0 STOPPED, 1 SEEKING, 2 LOCKED, 3 HOLDOVER (R183). -/
def axState (d : Device) (a : Nat) : Nat := d.fget (aPOS a 0x2C) 0 2

/-- Set POS_STATUS.STATE. -/
def setAxState (d : Device) (a s : Nat) : Device := d.fset (aPOS a 0x2C) 0 2 s

/-- POS_CTL.SRC (R163). -/
def axSrc (d : Device) (a : Nat) : Nat := d.fget (aPOS a 0) 0 3

/-- POS_CTL.AMODE is MEAS. -/
def axMeas (d : Device) (a : Nat) : Bool := d.flag (aPOS a 0) 3

/-- The cycle length of an axis; 0 where it has none (R163, R174). -/
def axZ (d : Device) (a : Nat) : Nat :=
  match d.axSrc a with
  | 2 => 65536
  | 3 => if d.flag (aPOS a 0) 4 then 72000 else 36000
  | 4 => d.fget (aPOS a 0x28) 8 24
  | 5 => if (d.ax a).everLocked then (d.ax a).rootZ else 0
  | _ => 0

/-- The axis may start contexts: LOCKED or HOLDOVER (R166). -/
def axLive (d : Device) (a : Nat) : Bool := decide (2 ≤ d.axState a)

/-! History (R140, R162). -/

/-- Entries of a history that lie within the last 4,194,304 Ts (R140). -/
def trimHist (e : Nat) (h : List HistEnt) : List HistEnt := (h.filter fun x => decide (e ≤ x.edge + 4194304)).take 66048

/-- The history takes a regular entry at every 64th edge (R140). -/
def noteHist (d : Device) (a : Nat) : Device :=
  if d.edge % 64 = 0 then
    d.setAx a { d.ax a with hist := trimHist d.edge (⟨d.edge, (d.ax a).c, 0⟩ :: (d.ax a).hist) }
  else d

/-- A jump of axis `a` to `c`: two history entries, the JUMP event and the count (R162). -/
def jumpTo (d : Device) (a c : Nat) : Device :=
  let x := d.ax a
  let d := d.setAx a { x with c := c % posMod, mid := some x.c, acc := 0,
                              hist := trimHist d.edge (⟨d.edge, c % posMod, 2⟩ :: ⟨d.edge, x.c, 1⟩ :: x.hist) }
  (d.event (aPOS a 0x30) 2).bump (aPOS a 0x38) 16 16

/-- The newest entry at or before edge `e` and the oldest after it, of a history given newest first; an entry just before a jump
counts as after its edge (R162). -/
def bracket (e : Nat) : List HistEnt → Option HistEnt → Option HistEnt × Option HistEnt
  | [], later => (none, later)
  | x :: r, later => if x.edge ≤ e ∧ x.kind ≠ 1 then (some x, later) else bracket e r (some x)

/-- Interpolate between two entries, rounding to the nearest tick (R140). -/
def interpolate (x y : HistEnt) (e : Nat) : Nat :=
  let s := fwd x.pos y.pos
  let span : Int := if s < 2 ^ 47 then s else (s : Int) - posMod
  if y.edge ≤ x.edge then x.pos
  else (((x.pos : Int) + roundDiv (span * (e - x.edge : Nat)) (y.edge - x.edge)) % (posMod : Int)).toNat

/-- The position of axis `a` at the past edge `e`, and whether the history no longer held it (R140, R162). DESIGN CHOICE (assumption 78): an edge
later than the newest entry is interpolated towards the present position. -/
def posAt (d : Device) (a e : Nat) : Nat × Bool :=
  let x := d.ax a
  if d.edge ≤ e then (x.c, false)
  else if d.axSrc a = 1 ∧ d.axState a = 2 ∧ !(x.hist.any fun h => decide (h.kind ≠ 0) && decide (e < h.edge)) then
    ((x.c + posMod - (d.edge - e) % posMod) % posMod, false)
  else
    match bracket e x.hist none with
    | (some h, some y) => (interpolate h y e, false)
    | (some h, none) => (interpolate h ⟨d.edge, x.c, 0⟩ e, false)
    | (none, some y) => (y.pos, decide (e < y.edge) && decide (x.hist.length ≥ 1))
    | (none, none) => (x.c, false)

/-! Motion at a sample edge. -/

/-- Move C by one tick up, unless it stands at the tick before `stop`; ticks owed are paid first (R168, R169, R171). -/
def tickUp (x : Axis) (stop : Option Nat) : Axis :=
  if 0 < x.debt then { x with debt := x.debt - 1 }
  else if stop = some ((x.c + 1) % posMod) then x
  else { x with c := (x.c + 1) % posMod }

/-- The C of the next wheel position of a measured axis after its present one (R171); none before a lock. -/
def toothNext (d : Device) (a : Nat) : Option Nat :=
  let x := d.ax a
  let w := d.fget (aPOS a 0) 8 4
  let zpos := d.fget (aWHEEL w 0) 0 9
  let n := zpos * (1 + d.fget (aWHEEL w 0) 9 1)
  let total := zpos * (1 + d.fget (aPOS a 0) 4 1)
  let present (j : Nat) : Bool := d.flag (aWHEEL w (2 + j % n / 32)) (j % n % 32)
  ((List.range total).find? fun k => present ((x.tpos + 1 + k) % total)).map fun k =>
    let j := (x.tpos + 1 + k) % total
    let ph := (d.fget (aWHEEL w 1) 0 17 + j * (36000 / zpos)) % d.axZ a
    nextPhase (x.c + 1) (d.axZ a) ph % posMod

/-- The latest POS message for edge `m` under horizon `l` (R489). -/
def posFor (d : Device) (m l : Nat) : Option PosMsg := d.posMsgs.find? fun p => decide (p.localEdge + l ≤ m)

/-- Motion of a CHORD axis toward P (R489); its Z and RSRC follow the root axis (R174). -/
def chordMove (d : Device) (a : Nat) : Device :=
  let x := d.ax a
  match d.posFor d.edge (d.fget 0xB001C 16 11) with
  | none => d
  | some p =>
    match p.axes[d.fget (aPOS a 0) 12 2]? with
    | none => d
    | some r =>
      let tgt := (((r.count.toNat : Int) + rateTicks r.rate (d.edge - p.localEdge)) % (posMod : Int)).toNat
      let up := fwd x.c tgt
      let dist := min up (fwd tgt x.c)
      let x := { x with rootZ := r.z, rootSrc := r.src.toNat }
      let d := (d.setAx a x).fset (aPOS a 0x2C) 4 3 r.src.toNat
      if r.jumps ≠ x.run ∨ 64 < dist then (d.setAx a { x with run := r.jumps }).jumpTo a tgt
      else if dist = 0 then d
      else d.setAx a { x with c := if up < 2 ^ 47 then (x.c + 1) % posMod else (x.c + posMod - 1) % posMod }

/-- Normal motion of axis `a` at the edge that begins now (R167 to R174). -/
def axMove (d : Device) (a : Nat) : Device :=
  let x := { d.ax a with prev := (d.ax a).c, mid := none }
  let d := d.setAx a x
  if d.axState a < 2 then d
  else
    match d.axSrc a with
    | 1 => d.setAx a { x with c := (x.c + 1) % posMod }
    | 2 =>
      let acc := x.acc + x.span
      if x.per = 0 ∨ acc < x.per then d.setAx a { x with acc := acc }
      else
        let stop := if d.axState a = 2 then some (nextPhase (x.c + 1) 65536 (d.fget (aPOS a 0x20) 0 16) % posMod) else none
        d.setAx a (tickUp { x with acc := acc - x.per } stop)
    | 3 =>
      if d.axMeas a then
        let acc := x.acc + x.span
        if x.per = 0 ∨ acc < x.per then d.setAx a { x with acc := acc }
        else d.setAx a (tickUp { x with acc := acc - x.per } (d.toothNext a))
      else
        let acc := x.acc + (d.rd (aPOS a 0x1C)).toNat
        if acc < 2 ^ 32 then d.setAx a { x with acc := acc } else d.setAx a { x with acc := acc - 2 ^ 32, c := (x.c + 1) % posMod }
    | 5 => d.chordMove a
    | _ => d

/-- One step of the present rate toward TARGET (R170). -/
def rateStep (d : Device) (a : Nat) : Device :=
  let now := (d.rd (aPOS a 0x1C)).toNat
  let tgt := (d.rd (aPOS a 0x14)).toNat
  let slew := (d.rd (aPOS a 0x18)).toNat
  let new := if slew = 0 then tgt else if now ≤ tgt then min tgt (now + slew) else max tgt (now - slew)
  (d.wr (aPOS a 0x1C) (BitVec.ofNat 32 new)).setAx a { d.ax a with slewAt := d.edge + 1 + 64 }

/-- The angle of axis `a` is synthesised and runs. -/
def axSyn (d : Device) (a : Nat) : Bool := decide (d.axSrc a = 3) && !d.axMeas a && decide (d.axState a = 2)

/-- The encoder's filter takes the pad levels of one edge (R173). -/
def encFilter (d : Device) (a : Nat) : Device :=
  let x := d.ax a
  let la := (d.ch (d.fget (aPOS a 4) 0 10)).pad
  let lb := (d.ch (d.fget (aPOS a 4) 16 10)).pad
  if d.axSrc a = 4 then
    d.setAx a { x with candA := la, candB := lb, ageA := if la = x.candA then x.ageA + 1 else 1,
                       ageB := if lb = x.candB then x.ageB + 1 else 1 }
  else d

/-- The quarter of a quadrature cycle that levels A and B mean, rising when A leads. -/
def quarter (a b : Bool) : Nat :=
  match a, b with
  | false, false => 0
  | true, false => 1
  | true, true => 2
  | false, true => 3

/-! Wheels and tooth-pattern outputs (R177, R178). -/

/-- Position `j` of wheel `w` is present (R177). -/
def toothPresent (d : Device) (w j : Nat) : Bool := d.flag (aWHEEL w (2 + j / 32)) (j % 32)

/-- Positions of wheel `w`, over both revolutions when its CYC2 is one. -/
def wheelLen (d : Device) (w : Nat) : Nat := d.fget (aWHEEL w 0) 0 9 * (1 + d.fget (aWHEEL w 0) 9 1)

/-- Runs of missing positions of wheel `w` that begin in revolution `r`. -/
def wheelRuns (d : Device) (w r : Nat) : Nat :=
  let z := d.fget (aWHEEL w 0) 0 9
  let n := d.wheelLen w
  ((List.range z).filter fun k => !d.toothPresent w (r * z + k) && d.toothPresent w ((r * z + k + n - 1) % n)).length

/-- Wheel `w` has one run of missing positions in each revolution (R172). -/
def wheelOk (d : Device) (w : Nat) : Bool :=
  (List.range (1 + d.fget (aWHEEL w 0) 9 1)).all fun r => decide (d.wheelRuns w r = 1)

/-- The reference tooth in revolution `r`: the present position of that revolution that follows a run of missing positions (R171). -/
def refTooth (d : Device) (w r : Nat) : Nat :=
  let z := d.fget (aWHEEL w 0) 0 9
  let n := d.wheelLen w
  r * z + ((List.range z).find? fun k => d.toothPresent w (r * z + k) && !d.toothPresent w ((r * z + k + n - 1) % n)).getD 0

/-- Teeth of wheel `w` from the reference tooth at position `i` up to, not with, that at position `j`. -/
def wheelTeeth (d : Device) (w i j : Nat) : Nat :=
  let n := d.wheelLen w
  ((List.range (if i = j then n else (j + n - i) % n)).filter fun k => d.toothPresent w ((i + k) % n)).length

/-- Level of tooth-pattern output `k` of axis `a` (R178). -/
def tpo (d : Device) (a k : Nat) : Bool :=
  let reg := d.rd (aPOS a (0x50 + 4 * k))
  let z := d.axZ a
  let w := bitsOf reg 0 4
  let fromAngle := decide (d.axSrc a = 3) || (decide (d.axSrc a = 5) && decide ((d.ax a).rootSrc = 3))
  if bitOf reg 31 && fromAngle && decide (0 < z) then
    let p := 36000 / d.fget (aWHEEL w 0) 0 9
    let hi := (d.fget (aWHEEL w 0) 10 8 * p + 128) / 256
    let ph := (d.ax a).c % z
    let high := (List.range (d.wheelLen w)).any fun j =>
      d.toothPresent w j && decide ((ph + z - (d.fget (aWHEEL w 1) 0 17 + j * p) % z) % z < hi)
    high != d.flag (aWHEEL w 0) 18
  else false

/-! Compare units (R180, R181, R184). -/

/-- Compare unit `k` of axis `a`. -/
def cmpU (d : Device) (a k : Nat) : CmpUnit := tabGet (fun _ => CmpUnit.init) d.cmps (64 * a + k)

/-- Replace a compare unit. -/
def setCmpU (d : Device) (a k : Nat) (u : CmpUnit) : Device := { d with cmps := tabSet (fun _ => CmpUnit.init) (64 * a + k) u d.cmps }

/-- CMP_CFG.OWNER (R182). -/
def cmpOwner (d : Device) (a k : Nat) : Nat := d.fget (aCMP a k 8) 22 3

/-- Level of AXa.CMPk (R181). -/
def cmpOut (d : Device) (a k : Nat) : Bool := d.flag (aCMP a k 0xC) 0

/-- The written VALUE of a unit, both words. -/
def cmpWritten (d : Device) (a k : Nat) : Nat := (d.rd (aCMP a k 0)).toNat + 2 ^ 32 * d.fget (aCMP a k 4) 0 16

/-- Clamp a unit's VALUE against its cycle while MOD is one (R184). The clamp entry has WIDTH 48 and FIELDPOS 0. A low word that waits keeps
waiting. -/
def cmpClamp (d : Device) (a k : Nat) (src : ClampSrc) (recd : Nat) : Device :=
  let v := (d.cmpU a k).value
  let z := d.axZ a
  if d.flag (aCMP a k 8) 16 && decide (0 < z) && decide (z ≤ v) then
    let u := d.cmpU a k
    let d := d.setCmpU a k { u with value := z - 1 }
    let d := if u.waits then d else d.wr (aCMP a k 0) (BitVec.ofNat 32 (z - 1))
    let d := d.fset (aCMP a k 4) 0 16 ((z - 1) / 2 ^ 32)
    (d.reportClamp src (some (aCMP a k 0)) 0 0xFFFF 48 recd 0 v (z - 1 : Nat)).event (aPOS a 0x30) 7
  else d

/-- The value that a unit compares, of a C: C itself or the phase (R180). -/
def cmpView (d : Device) (a k c : Nat) : Nat := if d.flag (aCMP a k 8) 16 then c % d.axZ a else c

/-- A path of `n` ticks up from `c` reaches a compared value (R180). -/
def upReaches (modz c n v : Nat) : Bool :=
  let m := if modz = 0 then posMod else modz
  decide (0 < n) && (decide (m ≤ n) || (decide (v < m) && decide (0 < (v + m - c % m) % m) && decide ((v + m - c % m) % m ≤ n)) ||
    (decide (v < m) && decide ((v + m - c % m) % m = 0) && decide (m ≤ n)))

/-- A path of `n` ticks down from `c` reaches a compared value. -/
def downReaches (modz c n v : Nat) : Bool :=
  let m := if modz = 0 then posMod else modz
  decide (0 < n) && decide (v < m) && (decide (m ≤ n) || (decide (0 < (c % m + m - v) % m) && decide ((c % m + m - v) % m ≤ n)))

/-- The value that unit `k` compares at the present edge (R184). -/
def cmpNow (d : Device) (a k : Nat) : Nat :=
  let u := d.cmpU a k
  if d.edge < u.from_ then u.before else u.value

/-- Whether the motion of the last edge makes unit `k` fire, and whether a jump did (R180). DESIGN CHOICE (assumption 83): every wrap counts in the
direction of the motion, C over 2^48 and a phase from 0 down to Z - 1 too. -/
def cmpTest (d : Device) (a k : Nat) : Bool × Bool :=
  let x := d.ax a
  let modz := if d.flag (aCMP a k 8) 16 then d.axZ a else 0
  let dir := d.fget (aCMP a k 8) 17 2
  let v := d.cmpNow a k
  let hit (c1 c2 : Nat) : Bool :=
    let n := fwd c1 c2
    if n < 2 ^ 47 then decide (dir ≠ 1) && upReaches modz c1 n v
    else decide (dir ≠ 0) && downReaches modz c1 (fwd c2 c1) v
  if d.flag (aCMP a k 8) 16 && decide (d.axZ a = 0) then (false, false)
  else
    match x.mid with
    | none => (hit x.prev x.c, false)
    | some m => (hit x.prev m || hit m x.c, hit m x.c)

end Device

end Sys2Proof.Machine
end

