-- ==== Sys2Proof/Machine/DetectOps.lean ====
section
/-!
DEFINITION. The detectors of R141 to R146, and the scaling of their values into records (R132, R110, R151).
-/

namespace Sys2Proof.Machine

/-- Integer square root, bit by bit from bit `b - 1` down, over a partial root `r`. -/
def isqrtFrom (x : Nat) : Nat → Nat → Nat
  | 0, r => r
  | b + 1, r => if (r + 2 ^ b) * (r + 2 ^ b) ≤ x then isqrtFrom x b (r + 2 ^ b) else isqrtFrom x b r

/-- Integer square root. -/
def isqrt (x : Nat) : Nat := isqrtFrom x (x.log2 / 2 + 1) 0

/-- The square root of s / n rounded to nearest, ties up (R142). -/
def rootOf (s n : Nat) : Nat := (isqrt (4 * s / n) + 1) / 2

/-- What a detector gives: its value, the instant stamped, the sub-value, and the outputs it used (R142, R144, R145). -/
structure Detected where
  val : Int
  at_ : Nat
  sub : Int
  used : List SlotOut
deriving DecidableEq, Repr

/-- The first output with the largest value. -/
def firstMax : List SlotOut → Option SlotOut
  | [] => none
  | x :: r =>
    match firstMax r with
    | none => some x
    | some y => if y.out.val ≤ x.out.val then some x else some y

/-- The first output with the smallest value. -/
def firstMin : List SlotOut → Option SlotOut
  | [] => none
  | x :: r =>
    match firstMin r with
    | none => some x
    | some y => if x.out.val ≤ y.out.val then some x else some y

/-- One RMS window: its root, its centre and its outputs (R142). -/
structure RmsWin where
  root : Nat
  centre : Nat
  outs : List SlotOut
deriving DecidableEq, Repr

/-- Sum of squares of outputs. -/
def sumSq (xs : List SlotOut) : Nat := xs.foldl (fun s x => s + x.out.val.natAbs * x.out.val.natAbs) 0

/-- Insert in rising order. -/
def insNat (x : Nat) : List Nat → List Nat
  | [] => [x]
  | y :: r => if x ≤ y then x :: y :: r else y :: insNat x r

/-- The complete RMS windows that hold an output, in order, and the number of complete windows (R142, R143). `len` is L of the
window in ticks; with unit 1 it has no effect. Windows in ticks are taken from the outputs: a window with none has no root. -/
def rmsWindows (unit : Bool) (win s len : Nat) (xs : List SlotOut) : List RmsWin × Nat :=
  if unit then
    let k := xs.length / win
    ((List.range k).map fun j =>
      let g := (xs.drop (j * win)).take win
      ⟨rootOf (sumSq g) g.length, (g[(win - 1) / 2]?.map SlotOut.pos).getD 0, g⟩, k)
  else
    let k := len / win
    let js := (((xs.map fun x => fwd s x.pos / win).eraseDups).filter fun j => decide (j < k)).foldl (fun l j => insNat j l) []
    (js.map fun j =>
      let g := xs.filter fun x => fwd s x.pos / win == j
      ⟨rootOf (sumSq g) g.length, (s + j * win + win / 2) % posMod, g⟩, k)

/-- The first window with the largest root. -/
def firstRmsMax : List RmsWin → Option RmsWin
  | [] => none
  | x :: r =>
    match firstRmsMax r with
    | none => some x
    | some y => if y.root ≤ x.root then some x else some y

/-- The envelope over outputs: its end, its largest value and the position of that (R142). -/
def envelope (att dec : Nat) : List SlotOut → Int → Int → Nat → Int × Int × Nat
  | [], e, best, at_ => (e, best, at_)
  | x :: r, e, best, at_ =>
    let a : Int := x.out.val.natAbs
    let e' := if e < a then e + roundDiv (a - e) (2 ^ att) else e + roundDiv (a - e) (2 ^ dec)
    if best < e' then envelope att dec r e' e' x.pos else envelope att dec r e' best at_

/-- The outputs that R146 admits, those whose raw samples were all taken on the range in use at the window's last output, and whether
the range changed within the window. An output that reaches past the window to a later change is left out, but that change is not
one within the window (R541; assumption 64). -/
def admitted (xs : List SlotOut) : List SlotOut × Bool :=
  match xs.getLast? with
  | none => ([], false)
  | some l =>
    (xs.filter fun x => x.out.rng == some l.out.atRng,
     xs.any fun x => x.moved || (match x.out.rng with
       | some r => r != l.out.atRng
       | none => false))

/-- A detector from LAST to ENVMAX over outputs, oldest first; none where R145 gives no value. -/
def detect (det : Nat) (unit : Bool) (win att dec s len : Nat) (xs : List SlotOut) : Option Detected :=
  let n : Int := xs.length
  match xs.getLast?, xs.head? with
  | some last, some x0 =>
    match det with
    | 0 => some ⟨last.out.val, last.pos, n, [last]⟩
    | 1 => some ⟨roundDiv (xs.foldl (fun a x => a + x.out.val) 0) xs.length, (xs[(xs.length - 1) / 2]?.map SlotOut.pos).getD 0, n, xs⟩
    | 2 => (firstMax xs).map fun m => ⟨m.out.val, m.pos, n, xs⟩
    | 3 => (firstMin xs).map fun m => ⟨m.out.val, m.pos, n, xs⟩
    | 4 =>
      match firstMax xs, firstMin xs with
      | some m, some k => some ⟨m.out.val - k.out.val, m.pos, n, xs⟩
      | _, _ => none
    | 5 => (rmsWindows unit win s len xs).1.getLast?.map fun w => ⟨w.root, w.centre, n, w.outs⟩
    | 6 =>
      let ws := rmsWindows unit win s len xs
      (firstRmsMax ws.1).map fun w => ⟨w.root, w.centre, ws.2, (ws.1.map RmsWin.outs).flatten⟩
    | 7 =>
      let a : Int := x0.out.val.natAbs
      some ⟨(envelope att dec xs.tail a a x0.pos).1, last.pos, n, xs⟩
    | 8 =>
      let a : Int := x0.out.val.natAbs
      let e := envelope att dec xs.tail a a x0.pos
      some ⟨e.2.1, e.2.2, n, xs⟩
    | _ => none
  | _, _ => none

/-- Record flags of side-band flags and saturation (R54, R133). -/
def recordFlags (xs : List SlotOut) : Nat :=
  let f := xs.foldl (fun f x => f ||| x.out.flags) 0
  let sat := xs.any fun x => decide (x.out.sat ≠ 0)
  (if f % 2 = 1 then 0x80 else 0) + (if f / 2 % 2 = 1 ∨ sat then 0x40 else 0) + (if f / 4 % 2 = 1 then 0x200 else 0) +
    (if f / 8 % 2 = 1 then 0x1000 else 0)

/-- Saturate a record VALUE; a saturated one carries CLAMPED (R132). -/
def satValue (v : Int) : Int × Nat :=
  let y := clampInt (-(2 ^ 63 - 1)) (2 ^ 63 - 1) v
  (y, if y = v then 0 else 0x40)

/-- U of R132 for a measured range: pV or fA per raw LSB. Ranges from 8 are current ranges. -/
def rawLsb (rng : Nat) : Nat := if rng < 8 then fsV rng * 200000 else fsI (rng - 8) * 2000

/-- VALUE of a chain value (R132): v × U × 2^shifts / K^N. -/
def scaleChain (p : Prof) (rng : Nat) (v : Int) : Int × Nat :=
  satValue (roundDiv (v * rawLsb rng * 2 ^ (p.shA + p.shB + p.shC + p.shD)) (p.decK ^ p.ordN))

/-- Full scale of an RMU range in pV, fA or µΩ (R104). -/
def rmuFs (func range : Nat) : Nat :=
  match func with
  | 0 => (match range with | 0 => 10 ^ 11 | 1 => 10 ^ 12 | 2 => 10 ^ 13 | _ => 3 * 10 ^ 13)
  | 1 => (match range with | 0 => 10 ^ 10 | 1 => 10 ^ 12 | _ => 4 * 10 ^ 13)
  | _ => 10 ^ (7 + range)

/-- KIND of an RMU result (R110). -/
def rmuKind (func rtrans : Nat) : Nat :=
  match func with
  | 0 => if rtrans = 0 then 1 else 2
  | 1 => 2
  | _ => 3

/-- VALUE of an RMU value (R110, R151): a reading LSB is 1.2 × FS / 8,388,607. -/
def scaleReading (p : Prof) (func range rtrans : Nat) (v : Int) : Int × Nat :=
  let num := v * (12 * rmuFs func range * 2 ^ (p.shC + p.shD) : Nat)
  if func = 0 ∧ rtrans ≠ 0 then satValue (roundDiv (num * 1000000) (10 * 8388607 * rtrans))
  else satValue (roundDiv num (10 * 8388607))

/-- AUX in the SUB form (R203). -/
def auxSub (n : Int) : Nat := ofSigned 30 (clampInt (-(2 ^ 29)) (2 ^ 29 - 1) n)

/-- AUX in the FAULT form (R203). -/
def auxFault (fseq retries : Nat) : Nat := 2 ^ 30 + (retries % 4) * 2 ^ 24 + fseq % 2 ^ 24

end Sys2Proof.Machine
end

