-- ==== Sys2Proof/Machine/Wave.lean ====
section
/-!
DEFINITION. Frames bit by bit: CAN and CAN FD (R217; bit stuffing and checksums PRESUMED as in ISO 11898-1, log entry 10), LIN (R222), SENT
with its checksums and slow channels (R225; PRESUMED as in SAE J2716, log entry 10), and the marks of a frame (R245, R246).
-/

namespace Sys2Proof.Machine

/-- One Ts in the unit of a wave (R212). -/
def tsU : Nat := 2 ^ 37

/-- A time in 1/256 Ts in the unit of a wave. -/
def fineU (n : Nat) : Nat := n * 2 ^ 29

/-- A time in 1/16 of a 655.36 MHz period in the unit of a wave. -/
def periodU (n : Nat) : Nat := n * 2 ^ 28

/-- The length of a bit at a rate in bit/s (R212). -/
def bitU (rate : Nat) : Nat := (655360000 * 2 ^ 32 + rate / 2) / rate

/-- The length of stretches. -/
def segsLen (ss : List Seg) : Nat := (ss.map Seg.len).sum

/-- The instant at which a wave ends. -/
def Wave.stop (w : Wave) : Nat := w.start + segsLen w.segs

/-- The stretch at instant `t`, with the instant at which it begins. -/
def segAt (t : Nat) : Nat → List Seg → Option (Nat × Seg)
  | _, [] => none
  | a, s :: r => if a ≤ t ∧ t < a + s.len then some (a, s) else segAt t (a + s.len) r

/-- The engine drives its pin low at instant `t`. -/
def Wave.lowAt (w : Wave) (t : Nat) : Bool := ((segAt t w.start w.segs).map fun p => p.2.drive).getD false

/-- A mark before it is placed in a buffer (R245): type, level bits, bit index, instant. -/
structure Mark where
  kind : Nat
  level : Nat
  idx : Nat
  at_ : Nat
deriving DecidableEq, Repr

/-- LEVEL of a mark on a stretch (R245). -/
def Seg.bits (s : Seg) : Nat := (if s.level then 1 else 0) + (if s.stuff then 2 else 0) + (if s.data then 4 else 0)

/-- The marks of the stretches that begin before instant `t`. -/
def segMarks (t : Nat) : Nat → List Seg → List Mark
  | _, [] => []
  | a, s :: r =>
    if t ≤ a then []
    else if s.kind = 0 then segMarks t (a + s.len) r
    else ⟨s.kind, s.bits, s.idx, a⟩ :: segMarks t (a + s.len) r

/-- The marks of a wave up to instant `t`. -/
def Wave.marks (w : Wave) (t : Nat) : List Mark := segMarks t w.start w.segs

/-- The END mark of a wave (R245). -/
def Wave.endMark (w : Wave) : List Mark := match w.segs.getLast? with
  | some s => [⟨4, s.bits, s.idx, w.stop⟩]
  | none => []

/-- The ERROR mark at the bit that runs at instant `t`, or has just ended (R245). -/
def Wave.errorMark (w : Wave) (t : Nat) : List Mark := match segAt (t - 1) w.start w.segs with
  | some (a, s) => [⟨5, s.bits, s.idx, a⟩]
  | none => []

/-- The end of the stretches of the first `n` bits, from the wave's start. -/
def bitEnd (n : Nat) (ss : List Seg) : Nat := segsLen (ss.filter fun s => decide (s.idx < n))

/-- The n bits of a number, most significant first. -/
def msbBits (n x : Nat) : List Bool := ((List.range n).map fun i => x.testBit i).reverse

/-- The number that bits spell, most significant first. -/
def bitsNat (bs : List Bool) : Nat := bs.foldl (fun x b => 2 * x + (if b then 1 else 0)) 0

/-- One bit into a checksum of `n` bits. -/
def crcShift (n poly c : Nat) (b : Bool) : Nat :=
  (2 * c % 2 ^ n) ^^^ (if (c.testBit (n - 1)) != b then poly else 0)

/-- A checksum of `n` bits over bits. -/
def crcOf (n poly init : Nat) (bs : List Bool) : Nat := bs.foldl (crcShift n poly) init

/-! CAN (R217). -/

/-- The rate at which a bit of a CAN frame runs: nominal, data, from nominal to data at its sample point, back again. -/
inductive Rate where
  | nominal
  | data
  | up
  | down
deriving DecidableEq, Repr

/-- One bit of a CAN frame: its value (true: recessive), the mark at its start, its rate, whether it is a stuff bit. -/
structure CBit where
  v : Bool
  kind : Nat
  rate : Rate
  stuff : Bool
deriving DecidableEq, Repr

/-- Bits at a rate. -/
def cbits (r : Rate) (vs : List Bool) : List CBit := vs.map fun v => ⟨v, 6, r, false⟩

/-- Bits of which the first has a mark of type `k`. -/
def cfield (k : Nat) : List CBit → List CBit
  | [] => []
  | b :: r => { b with kind := k } :: r

/-- The payload sizes of CAN FD (R217). -/
def canSizes : List Nat := [0, 1, 2, 3, 4, 5, 6, 7, 8, 12, 16, 20, 24, 32, 48, 64]

/-- The rate of the bits of a frame's data phase. -/
def canFast (f : CanFrame) : Rate := if f.fd && f.brs then .data else .nominal

/-- The bits from start of frame to the end of the data field, before stuffing (R217). -/
def canBody (f : CanFrame) : List CBit :=
  let n := f.ident.toNat
  let dlc := msbBits 4 ((canSizes.findIdx? fun k => decide (f.bytes.length ≤ k)).getD 15)
  let ids := if f.ext then msbBits 11 (n / 2 ^ 18) ++ [true, true] ++ msbBits 18 n ++ [f.rtr] else msbBits 11 n ++ [f.rtr]
  let ctl := if f.fd then
      cbits .nominal ((if f.ext then [] else [false]) ++ [true, false]) ++ [⟨f.brs, 6, if f.brs then .up else .nominal, false⟩] ++ cbits (canFast f) (f.esi :: dlc)
    else cbits .nominal (false :: false :: dlc)
  ⟨false, 1, .nominal, false⟩ :: cfield 2 (cbits .nominal ids) ++ cfield 2 ctl ++ cfield 2 (cbits (canFast f) (f.bytes.flatMap fun b => msbBits 8 b.toNat))

/-- Stuff bits: after five equal bits one of the other value, after the last bit too if `tail` (R217). `run` bits of value `last` went before. -/
def stuffBits (tail : Bool) : Nat → Bool → List CBit → List CBit
  | _, _, [] => []
  | run, last, b :: r =>
    let n := if b.v == last then run + 1 else 1
    if n = 5 ∧ (tail ∨ r ≠ []) then b :: ⟨!b.v, 6, if b.rate = .up then .data else b.rate, true⟩ :: stuffBits tail 1 (!b.v) r
    else b :: stuffBits tail n b.v r

/-- Fixed stuff bits before each four bits (R217). -/
def fixedBits (rate : Rate) : Nat → Bool → List Bool → List CBit
  | _, _, [] => []
  | i, last, v :: r =>
    if i % 4 = 0 then ⟨!last, 6, rate, true⟩ :: ⟨v, 6, rate, false⟩ :: fixedBits rate (i + 1) v r
    else ⟨v, 6, rate, false⟩ :: fixedBits rate (i + 1) v r

/-- The bits of a frame up to its CRC sequence (R217). -/
def canStuffed (f : CanFrame) : List CBit :=
  let body := canBody f
  if f.fd then
    let st := stuffBits false 0 true body
    let n := (st.filter CBit.stuff).length % 8
    let g := n ^^^ (n / 2)
    let count := msbBits 3 g ++ [decide (popCount 3 g % 2 = 1)]
    let vs := st.map CBit.v
    let crc := if f.bytes.length ≤ 16 then msbBits 17 (crcOf 17 0x1685B (2 ^ 16) (vs ++ count)) else msbBits 21 (crcOf 21 0x102899 (2 ^ 20) (vs ++ count))
    st ++ cfield 2 (fixedBits (canFast f) 0 (vs.getLast?.getD false) (count ++ crc))
  else
    let crc := msbBits 15 (crcOf 15 0x4599 0 (body.map CBit.v))
    stuffBits true 0 true (body ++ cfield 2 (cbits .nominal crc))

/-- All bits of a frame (R217): CRC delimiter, acknowledge field, end of frame. -/
def canBits (f : CanFrame) : List CBit :=
  canStuffed f ++ [⟨true, 6, if (canFast f) = .data then .down else .nominal, false⟩] ++ cfield 2 (cbits .nominal [true, true]) ++
    cfield 2 (cbits .nominal (List.replicate 7 true))

/-- The bit timing of a CAN engine: the nominal bit with its part before the sample point, and the data bit likewise (R217, R218). -/
structure CanTiming where
  nom : Nat
  nomSp : Nat
  dat : Nat
  datSp : Nat
deriving DecidableEq, Repr

/-- The stretches of one bit. `mine` says that the engine sends it. A bit in which the rate changes has two. -/
def cbitSegs (t : CanTiming) (mine : Bool) (i : Nat) (b : CBit) : List Seg :=
  let s (len kind : Nat) (data : Bool) : Seg := ⟨len, mine && !b.v, b.v, kind, b.stuff, data, i⟩
  match b.rate with
  | .nominal => [s t.nom b.kind false]
  | .data => [s t.dat b.kind true]
  | .up => [s t.nomSp b.kind false, s (t.dat - t.datSp) 3 true]
  | .down => [s t.datSp b.kind true, s (t.nom - t.nomSp) 0 false]

/-- Stretches of bits from index `i` on. -/
def cbitsSegs (t : CanTiming) (mine : Bool) : Nat → List CBit → List Seg
  | _, [] => []
  | i, b :: r => cbitSegs t mine i b ++ cbitsSegs t mine (i + 1) r

/-- The acknowledge slot is dominant on the wire, sent by the receivers (R217): it is the first of the last nine bits. -/
def ackSlot (ss : List Seg) : List Seg :=
  let n := ss.length - 9
  ss.take n ++ ((ss.drop n).take 1).map (fun s => { s with level := false }) ++ ss.drop (n + 1)

/-- The stretches of a CAN frame that the engine sends, or that it receives. -/
def canSegs (t : CanTiming) (mine : Bool) (f : CanFrame) : List Seg := ackSlot (cbitsSegs t mine 0 (canBits f))

/-- The bits of an error: six of the flag, dominant for an error-active engine, eight of the delimiter (R217). -/
def errorSegs (bit : Nat) (active : Bool) : List Seg := [⟨6 * bit, active, !active, 0, false, false, 0⟩, ⟨8 * bit, false, true, 0, false, false, 0⟩]

/-- Marks of a received frame (R246): a bit begins whole bit times after the edge last synchronised on. `now` is the instant of the command. -/
def rxMarks (now : Nat) (syncs : List Sync) : Nat → List Seg → List Mark
  | _, [] => []
  | a, s :: r =>
    let a := match syncs.find? fun y => decide (y.bit = s.idx ∧ s.kind ≠ 0 ∧ s.kind ≠ 3) with
      | some y => now - fineU y.back
      | none => a
    if s.kind = 0 then rxMarks now syncs (a + s.len) r else ⟨s.kind, s.bits, s.idx, a⟩ :: rxMarks now syncs (a + s.len) r

/-! LIN (R222). -/

/-- The two parity bits of a LIN identifier over it (R222). -/
def linPid (n : Nat) : Nat :=
  let b (i : Nat) : Bool := n.testBit i
  let p0 := xor (xor (b 0) (b 1)) (xor (b 2) (b 4))
  let p1 := !(xor (xor (b 1) (b 3)) (xor (b 4) (b 5)))
  n % 64 + (if p0 then 64 else 0) + (if p1 then 128 else 0)

/-- The inverted sum with carry of bytes (R222). -/
def linSum (bs : List Nat) : Nat := 255 - bs.foldl (fun s b => if 255 < s + b then s + b - 255 else s + b) 0

/-- One bit of a LIN frame. -/
def linBit (len : Nat) (mine : Bool) (kind i : Nat) (v : Bool) : Seg := ⟨len, mine && !v, v, kind, false, false, i⟩

/-- One byte of a LIN frame from bit `i` on: start bit, data bits from the least significant, stop bit (R222). -/
def linByteSegs (len : Nat) (mine : Bool) (i v : Nat) (stop : Bool) : List Seg :=
  linBit len mine 2 i false :: ((List.range 8).map fun k => linBit len mine 6 (i + 1 + k) (v.testBit k)) ++ [linBit len mine 6 (i + 9) stop]

/-- Bytes one after the other, each after a space of length `gap`, from bit `i` on. -/
def linBytesSegs (len gap : Nat) : Nat → List Nat → List Seg
  | _, [] => []
  | i, v :: r => (if gap = 0 then [] else [⟨gap, false, true, 0, false, false, i⟩]) ++ linByteSegs len true i v true ++ linBytesSegs len gap (i + 10) r

/-- The header that a commander sends: `brk` dominant bits, `dlm` recessive ones, the sync byte, the protected identifier (R222). -/
def linHeadSegs (len brk dlm pid : Nat) : List Seg :=
  ((List.range brk).map fun k => linBit len true (if k = 0 then 1 else 6) k false) ++ ((List.range dlm).map fun k => linBit len true 6 (brk + k) true) ++
    linByteSegs len true (brk + dlm) 0x55 true ++ linByteSegs len true (brk + dlm + 10) pid true

/-- Bytes that another node sends, at their instants; `a` is the instant at which the stretches before them end. -/
def linRxSegs (len base : Nat) : Nat → Nat → List LinByte → List Seg
  | _, _, [] => []
  | a, i, b :: r =>
    let s := base + fineU b.start
    [⟨s - a, false, true, 0, false, false, i⟩] ++ linByteSegs len false i b.value.toNat b.stop ++ linRxSegs len base (max a s + 10 * len) (i + 10) r

/-- A header that a responder saw: `brk` long low, then high up to the sync byte (R222). -/
def linSeenSegs (len brk total pid : Nat) : List Seg :=
  let low := max 1 (brk / len)
  let n := max (low + 1) ((total - 20 * len) / len)
  ((List.range low).map fun k => ⟨if k + 1 = low then brk - (low - 1) * len else len, false, false, if k = 0 then 1 else 6, false, false, k⟩) ++
    ((List.range (n - low)).map fun k =>
      ⟨if low + k + 1 = n then total - 20 * len - brk - (n - low - 1) * len else len, false, true, 6, false, false, low + k⟩) ++
    linByteSegs len false n 0x55 true ++ linByteSegs len false (n + 10) pid true

/-! SENT (R225). -/

/-- Four bits into the checksum of nibbles x^4 + x^3 + x^2 + 1 (R225). -/
def sentStep (c n : Nat) : Nat := (crcOf 4 0xD c [false, false, false, false]) ^^^ n

/-- The CRC nibble of data nibbles, seed 5: the recommended one with a zero nibble behind, or the legacy one (R225). -/
def sentCrc (legacy : Bool) (ns : List Nat) : Nat := (if legacy then ns else ns ++ [0]).foldl sentStep 5

/-- The checksum of an enhanced serial message: x^6 + x^4 + x^3 + 1, seed 010101, with six zeros behind (PRESUMED, log entry 10). -/
def slowCrc (bits : List Bool) : Nat := crcOf 6 0x19 0x15 (bits ++ List.replicate 6 false)

/-- The bits 2 and 3 of the status nibbles of one slow-channel message, each as bit 2 + 2 × bit 3 (R225; PRESUMED, log entry 10). `fmt` is SLOW: 1 short, 2
enhanced with 12-bit data and 8-bit ID, 3 enhanced with 16-bit data and 4-bit ID. -/
def slowBits (fmt data ident : Nat) : List Nat :=
  let join (b2 b3 : List Bool) : List Nat := List.zipWith (fun x y => (if x then 1 else 0) + (if y then 2 else 0)) b2 b3
  match fmt with
  | 0 => []
  | 1 =>
    let crc := sentCrc false [ident % 16, data / 16 % 16, data % 16]
    join (msbBits 4 ident ++ msbBits 8 data ++ msbBits 4 crc) (true :: List.replicate 15 false)
  | _ =>
    let d := msbBits 12 data
    let tail := if fmt = 2 then false :: msbBits 4 (ident / 16) ++ [false] ++ msbBits 4 ident ++ [false]
      else true :: msbBits 4 ident ++ [false] ++ msbBits 4 (data / 2 ^ 12) ++ [false]
    let crc := slowCrc ((List.zipWith (fun x y => [x, y]) d (false :: tail)).flatten)
    join (msbBits 6 crc ++ d) (List.replicate 6 true ++ false :: tail)

/-- The slow-channel message that bits of the last messages spell, the oldest first: data and ID (R225). -/
def slowMessage (fmt : Nat) (ms : List Nat) : Option (Nat × Nat) :=
  let b2 := ms.map fun m => m.testBit 0
  let b3 := ms.map fun m => m.testBit 1
  let (data, ident) := match fmt with
    | 1 => (bitsNat ((b2.drop 4).take 8), bitsNat (b2.take 4))
    | 2 => (bitsNat (b2.drop 6), bitsNat ((b3.drop 8).take 4 ++ (b3.drop 13).take 4))
    | _ => (bitsNat ((b3.drop 13).take 4 ++ b2.drop 6), bitsNat ((b3.drop 8).take 4))
  if fmt ≠ 0 ∧ ms = slowBits fmt data ident then some (data, ident) else none

/-- Messages of the fast channel that carry one message of the slow channel (R225). -/
def slowLen (fmt : Nat) : Nat := if fmt = 1 then 16 else 18

/-- One pulse of a SENT transmitter (R225): low for `low`, then high. -/
def sentPulseSegs (kind i low len : Nat) : List Seg := [⟨low, true, false, kind, false, false, i⟩, ⟨len - low, false, true, 0, false, false, i⟩]

/-- The pulses of a message from nibble `i` on: lengths in ticks. -/
def sentPulses (tick low : Nat) : Nat → List Nat → List Seg
  | _, [] => []
  | i, n :: r => sentPulseSegs (if i = 0 then 1 else 2) i (low * tick) (n * tick) ++ sentPulses tick low (i + 1) r

end Sys2Proof.Machine
end

