-- ==== Sys2Proof/Machine/PinOps.lean ====
section
/-!
DEFINITION. Pins and Frets: border levels (R273, R284), the event ports (R274), who owns a pin (R250), the level its digital driver
carries (R255, R256, R262), the GPIO register (R259, R260).
-/

namespace Sys2Proof.Machine

namespace Device

/-- Fret `f`. -/
def fret (d : Device) (f : Nat) : Fret := tabGet (fun _ => Fret.init) d.frets f

/-- Replace a Fret. -/
def setFret (d : Device) (f : Nat) (x : Fret) : Device := { d with frets := tabSet (fun _ => Fret.init) f x d.frets }

/-- FABCFG_FSTAT.STATE: 0 EMPTY, 1 LOADING, 2 RELEASING, 3 RUNNING, 4 FAULTED (R300). -/
def fretState (d : Device) (f : Nat) : Nat := d.fget (aFRET f 0) 0 3

/-- The clock of the fabric runs: it is one of the gated domains (R297, R373). -/
def fabricOn (d : Device) : Bool := !d.flag 0x10000 14

/-- The Fret receives its inputs: from its reset release on (R285, R286). -/
def fretLive (d : Device) (f : Nat) : Bool := decide (d.fretState f = 2 ∨ d.fretState f = 3)

/-- The border value in force on a signal (R284). -/
def borderValue (x : Fret) (sig : Nat) : Bool :=
  match bitsOf (x.bvals.getD (sig / 16) 0) (2 * (sig % 16)) 2 with
  | 0 => tabGet (fun _ => false) x.held sig
  | 1 => false
  | _ => true

/-- The level of border output `sig` of Fret `f` as the shell carries it: live while RUNNING, else its border value (R273, R284). -/
def border (d : Device) (f sig : Nat) : Bool :=
  if d.fretState f = 3 then tabGet (fun _ => false) (d.fret f).live sig else borderValue (d.fret f) sig

/-- The crossings between the fabric clock and the sample clock are defined: in FREE mode the core clock is 0.9375 to 16 times the fabric clock, and
that at least twice the sample clock (R366). -/
def crossingOk (d : Device) : Bool :=
  !d.flag 0x10008 1 || (decide (40960 ≤ d.fget 0x1000C 0 19) && decide (15 * d.fget 0x1000C 0 19 ≤ 16 * 327680))

/-- The level of border output `sig` of Fret `f` at a pin: free where its crossing is undefined (R271, R366). -/
def borderOut (d : Device) (f sig : Nat) : Bool :=
  if d.crossingOk || decide (d.fretState f ≠ 3) then d.border f sig else Config.crossing d.freeCtr (256 * f + sig)

/-- The level of a cross input: zero while its EN is zero or it names its own Fret (R273). -/
def crossInput (d : Device) (f x : Nat) : Bool :=
  let w := d.rd (aXIN f x)
  bitOf w 31 && decide (bitsOf w 0 6 ≠ f) && d.border (bitsOf w 0 6) (bitsOf w 8 8)

/-- An event word for Fret `f`: it enters the queue, or is dropped and counted when the queue is full, and from an isolation
until the reset release (R274, R285). Where its crossing is undefined the word is free (R366). -/
def fretEvent (d : Device) (f typ pos : Nat) (level : Bool) (src : Nat) : Device :=
  let x := d.fret f
  let word := pos % 2 ^ 48 + typ * 2 ^ 48 + (if level then 2 ^ 51 else 0) + src * 2 ^ 52
  let word := if d.crossingOk then word else Config.crossedWord d.freeCtr word % 2 ^ 64
  if d.fretLive f && decide (x.events.length < 1024) then
    (d.setFret f { x with events := x.events ++ [word] }).fset
      (aFRET f 0x18) 0 11 (x.events.length + 1)
  else if d.fretLive f || x.cut then d.bump (aFRET f 0x18) 16 16
  else d

/-- An event of a type for every Fret whose FABCFG_FEVCFG selects it (R274); `e` is the edge of its instant. THR events are
selected by channel too. -/
def fretEvents (d : Device) (typ e : Nat) (level : Bool) (src : Nat) : Device :=
  (List.range 48).foldl (fun d f =>
    let cfg := d.rd (aFRET f 0x14)
    let inRange := decide (typ ≠ 0) || (decide (bitsOf cfg 8 10 ≤ src / 2) && decide (src / 2 ≤ bitsOf cfg 18 10))
    if bitOf cfg (2 + typ) && inRange then d.fretEvent f typ (d.posAt (bitsOf cfg 0 2) e).1 level src else d) d

/-- A compare unit that a Fret owns fires (R274). -/
def fretCmpEvent (d : Device) (f a k : Nat) : Device :=
  let cfg := d.rd (aFRET f 0x14)
  if bitOf cfg 4 then d.fretEvent f 2 (d.ax (bitsOf cfg 0 2)).c false (64 * a + k) else d

/-! Engines on their pins. -/

/-- Engine `e` beside its registers. -/
def eng (d : Device) (e : Nat) : Engine := tabGet (fun _ => Engine.init) d.engines e

/-- Replace an engine. -/
def setEng (d : Device) (e : Nat) (g : Engine) : Device := { d with engines := tabSet (fun _ => Engine.init) e g d.engines }

/-- The present instant on the wires (R212). -/
def nowU (d : Device) : Nat := d.edge * tsU

/-- Engine `e` drives its pin dominant or low at the present instant (R214). -/
def engLow (d : Device) (e : Nat) : Bool := match (d.eng e).wave with
  | some w => w.lowAt d.nowU
  | none => false

/-! Pins. -/

/-- PIN_SRC.OWN (R250, R340): 0 NONE, 1 ANALOGUE, 2 DIGITAL, 3 COMPARE. -/
def pinOwner (d : Device) (n : Nat) : Nat :=
  if d.retired n then 0
  else
    match d.mode n with
    | 0 => 0
    | 5 => if d.flag (aCH n 0) 4 then 3 else 2
    | _ => 1

/-- Bit `n` of the GPIO output register as it enters the OR of R256: the register, or from the entry into HOLD to the sample edge after
its end the value that it had then (R262). -/
def gpioBit (d : Device) (n : Nat) : Bool :=
  match d.heldIn with
  | some h => bitOf (tabGet (fun _ => 0) h.gpio (n / 32)) (n % 32)
  | none => d.flag (aBANK 0x4000 (n / 32)) (n % 32)

/-- The axis output that a PIN_AXO word names (R255, R258). -/
def axisOutput (d : Device) (w : Word) : Bool :=
  if bitOf w 2 then d.cmpOut (bitsOf w 0 2) (bitsOf w 3 6) else d.tpo (bitsOf w 0 2) (bitsOf w 3 2)

/-- The fabric level that a PIN_FAB word names; from the entry into HOLD to the sample edge after its end the level when HOLD began
(R262). -/
def fabricInput (d : Device) (w : Word) : Bool :=
  let f := bitsOf w 0 6
  let s := bitsOf w 8 8
  match d.heldIn with
  | some h => tabGet (fun _ => false) h.border (256 * f + s)
  | none => d.borderOut f s

/-- The level that the sources `s` give a DIGITAL pin (R214, R256): an engine counts zero while it is dominant or low, else one. A LIN engine and a
SENT receiver only release the pin. -/
def orLevel (d : Device) (n : Nat) (s : PinSet) : Drive :=
  let strong := (decide (s.src % 2 = 1) && d.gpioBit n) || (decide (s.src / 2 % 2 = 1) && d.fabricInput s.fab) ||
    (decide (s.src / 4 % 2 = 1) && d.axisOutput s.axo)
  let up := s.engines.filter fun e => !d.engLow e
  let push := up.any fun e => decide (engKind e = 0) || (decide (engKind e = 2) && decide (d.fget (aENG e 0) 1 2 = 1))
  if strong || push then .high
  else match up with
    | e :: _ => .released e
    | [] => .low

/-- The mode word in force on channel `n` in the sample period that runs: a request that waits for the next edge is not yet (R65). -/
def modeNow (d : Device) (n : Nat) : Word := ((d.ch n).inForce.map Prod.fst).getD (d.rd (aCH n 0))

/-- What pin `n` is driven to apart from a function switch (R41, R42, R69, R256, R264, R340, R542). Under SAFE and in QUIET no digital source
acts on a pin. -/
def driven (d : Device) (n : Nat) : Drive :=
  let m := d.modeNow n
  if d.flag 0x20000 12 || d.retired n || d.gapHeld n || !drivesPin m then .none
  else if (modeRow m).stage ≠ .digital then .analogue
  else if d.capo = 2 then .none
  else d.orLevel n ((d.ch n).pinOld.getD (d.pinSet n))

/-- What pin `n` is driven to (R63, R78): during the sample period of a function switch or handover the hold network keeps the level
before it. -/
def pinState (d : Device) (n : Nat) : Drive :=
  if (d.ch n).holdUntil = d.edge + 1 then (d.ch n).before else d.driven n

/-- One word of the GPIO register after the changes that wait (R260). -/
def gpioNext (v : Nat) (w : GpioWait) : Nat :=
  (v ||| w.set) &&& (2 ^ 32 - 1 - (w.clr &&& (2 ^ 32 - 1 - w.set))) ^^^ (w.tgl &&& (2 ^ 32 - 1 - (w.set ||| w.clr)))

/-- The waiting changes of word `w`. -/
def gpioWait (d : Device) (w : Nat) : GpioWait := tabGet (fun _ => GpioWait.init) d.gpio w

/-- Note a change of word `w` for the next sample edge (R259, R260). -/
def gpioAdd (d : Device) (w : Nat) (set clr tgl : Nat) : Device :=
  let g := d.gpioWait w
  { d with gpio := tabSet (fun _ => GpioWait.init) w ⟨g.set ||| set, g.clr ||| clr, g.tgl ^^^ tgl⟩ d.gpio }

/-- The sample edge carries out the changes that wait (R259). -/
def gpioEdge (d : Device) : Device :=
  let d' := ((List.range 32).filter fun w => (tabKeys d.gpio).contains w).foldl (fun d w =>
    d.wr (aBANK 0x4000 w) (BitVec.ofNat 32 (gpioNext (d.rd (aBANK 0x4000 w)).toNat (d.gpioWait w)))) d
  { d' with gpio := [] }

/-- A change of the set of enabled sources, or of an enabled mapping, of a DIGITAL pin is a function switch: the hold network takes
the pin for one sample period, without a flag; it waits for a bridge, and for what waits there already (R63, R64, R258). `old` is the
block before the change: its sources stay in force until the switch. -/
def pinSwitch (d old : Device) (n : Nat) : Device :=
  if d.pinOwner n = 2 then
    let c := d.ch n
    let c := { c with pinOld := some (c.pinOld.getD (old.pinSet n)) }
    d.setCh n (if d.queued n || d.bridging n d.nextEdge then { c with pinWait := true } else { c with holdUntil := d.nextEdge + 1 })
  else d

/-- Capo enters HOLD: the levels of every border output and of the GPIO register are noted (R262). -/
def holdInputs (d : Device) : Device :=
  let lv := ((List.range 48).filter fun f => (tabKeys d.frets).contains f).flatMap fun f =>
    ((List.range 256).filter fun s => d.borderOut f s).map fun s => (256 * f + s, true)
  { d with heldIn := some ⟨lv, ((List.range 32).map fun w => (w, d.rd (aBANK 0x4000 w))).filter fun p => p.2 ≠ 0⟩ }

/-- The first sample edge after HOLD: the inputs of the OR are live again (R262). -/
def freeInputs (d : Device) : Device := if d.capo = 1 then d else { d with heldIn := none }

end Device

end Sys2Proof.Machine
end

