-- ==== Sys2Proof/Machine/CapOps.lean ====
section
/-!
DEFINITION. Capture buffers (R461 to R467): raw runs with their index, decimated entries, marks. Bytes for DDR5 are collected in
`ddrOut`; the command that makes them writes them (see `State.onMem`).
-/

namespace Sys2Proof.Machine

namespace Device

/-- Bytes for DDR5 (R31). -/
def toDdr (d : Device) (addr : Nat) (bs : List Byte) : Device := { d with ddrOut := d.ddrOut ++ [(addr, bs)] }

/-- Capture buffer `b`. -/
def capBuf (d : Device) (b : Nat) : CapBuf := tabGet (fun _ => CapBuf.init) d.capBufs b

/-- Replace a capture buffer. -/
def setCapBuf (d : Device) (b : Nat) (x : CapBuf) : Device := { d with capBufs := tabSet (fun _ => CapBuf.init) b x d.capBufs }

/-- First byte of buffer `b`. -/
def cbBase (d : Device) (b : Nat) : Nat := d.fget (aCB b 0) 0 24 * 4096
/-- SIZE of buffer `b` in 4 KiB units. -/
def cbSize (d : Device) (b : Nat) : Nat := d.fget (aCB b 4) 0 24
/-- KIND of buffer `b`: 0 RAW, 1 DECIM, 2 MARK. -/
def cbKind (d : Device) (b : Nat) : Nat := d.fget (aCB b 4) 24 2
/-- Buffer `b` wraps (RING). -/
def cbRing (d : Device) (b : Nat) : Bool := d.flag (aCB b 4) 26
/-- AXIS of buffer `b`. -/
def cbAxis (d : Device) (b : Nat) : Nat := d.fget (aCB b 4) 28 2
/-- Buffer `b` is enabled. -/
def cbOn (d : Device) (b : Nat) : Bool := d.flag (aCB b 4) 31
/-- ISIZE of buffer `b`. -/
def cbIsize (d : Device) (b : Nat) : Nat := d.fget (aCB b 8) 0 16
/-- NPART of buffer `b`. -/
def cbNpart (d : Device) (b : Nat) : Nat := d.fget (aCB b 8) 16 10
/-- PSIZE of buffer `b` in 4 KiB units (R462). -/
def cbPsize (d : Device) (b : Nat) : Nat := (d.cbSize b - d.cbIsize b) / d.cbNpart b

/-- One index entry (R464). -/
def indexBytes (r : CapRun) (axis count cause : Nat) : List Byte :=
  leBytes 4 r.runseq ++ leBytes 2 r.part ++ leBytes 2 r.chan ++ leBytes 6 r.start ++ leBytes 6 r.pos ++ leBytes 6 count ++
  leBytes 2 r.ctx ++ leBytes 1 axis ++ leBytes 1 cause ++ leBytes 1 r.rflags ++ leBytes 1 0

/-- Write the index entry of a run (R464). -/
def putIndex (d : Device) (r : CapRun) (count cause : Nat) : Device :=
  let b := r.buf
  d.toDdr ((d.cbSize b - d.cbIsize b) * 4096 + d.cbBase b + 32 * (r.runseq % (d.cbIsize b * 128))) (indexBytes r (d.cbAxis b) count cause)

/-- Open runs on buffer `b`. -/
def openRuns (d : Device) (b : Nat) : List CapRun := d.capRuns.filter fun r => r.buf == b

/-- Keep DDR_CBSTAT.OPEN of `b` and DDR_RAWCH in step with the open runs (R477). -/
def countRuns (d : Device) (b : Nat) : Device :=
  (d.fset (aCB b 0x14) 1 10 (d.openRuns b).length).fset 0xC0018 0 10 d.capRuns.length

/-- A capture request is refused (R190, R467). -/
def capRefused (d : Device) (ctx : Nat) : Device :=
  (d.event 0x80008 5).report { entry .notice 0x0C 0x08 0x31 0xFFFFFFFF with ctx := ctx }

/-- The lowest partition of `b` without an open run (R463). -/
def freePart (d : Device) (b : Nat) : Option Nat :=
  (List.range (d.cbNpart b)).find? fun k => !(d.openRuns b).any fun r => r.part == k

/-- Open a raw run of a channel for an execution at its start edge (R21, R463, R464, R467); an index that it fills in STOP mode is FULL
(R466). -/
def openRun (d : Device) (x ctx chan b : Nat) : Device :=
  if !d.cbOn b || decide (d.cbKind b ≠ 0) || decide (512 ≤ d.capRuns.length) ||
      (!d.cbRing b && decide (d.cbIsize b * 128 ≤ (d.capBuf b).runseq)) then d.capRefused ctx
  else
    match d.freePart b with
    | none => d.capRefused ctx
    | some k =>
      let c := d.capBuf b
      let r : CapRun := ⟨b, k, chan, x, ctx, c.runseq, tabGet (fun _ => 0) c.parts k, d.edge, (d.ax (d.cbAxis b)).c, 0, [], 0⟩
      let d := (d.setCapBuf b { c with runseq := c.runseq + 1 }).putIndex r 0 0
      let d := { d with capRuns := d.capRuns ++ [r] }.countRuns b
      if !d.cbRing b && decide (d.cbIsize b * 128 ≤ c.runseq + 1) then d.fsetB (aCB b 0x14) 0 true else d

/-- A decimated-capture request is refused when its buffer is disabled or not a DECIM buffer (R467). -/
def checkDecim (d : Device) (ctx b : Nat) : Device :=
  if d.cbOn b && decide (d.cbKind b = 1) then d else d.capRefused ctx

/-- The 64-bit word of up to three samples with their flags (R465). -/
def rawWord (xs : List (Nat × Nat)) : Nat :=
  let s (i : Nat) : Nat := ((xs[i]?.map Prod.fst).getD 0) % 2 ^ 20
  s 0 + s 1 * 2 ^ 20 + s 2 * 2 ^ 40 + (xs.foldl (fun f x => f ||| x.2) 0 % 16) * 2 ^ 60

/-- Replace a run, known by its buffer and partition. -/
def setRun (d : Device) (r : CapRun) : Device :=
  { d with capRuns := d.capRuns.map fun x => if x.buf == r.buf && x.part == r.part then r else x }

/-- Write the word that a run has gathered (R462, R465). -/
def flushWord (d : Device) (r : CapRun) : Device × CapRun :=
  if r.acc.isEmpty then (d, r)
  else
    let c := d.capBuf r.buf
    let w := tabGet (fun _ => 0) c.parts r.part
    let psz := d.cbPsize r.buf
    let addr := d.cbBase r.buf + r.part * psz * 4096 + 8 * (w % (psz * 512))
    ((d.setCapBuf r.buf { c with parts := tabSet (fun _ => 0) r.part ((w + 1) % 2 ^ 48) c.parts }).toDdr addr (leBytes 8 (rawWord r.acc)),
     { r with acc := [], rflags := r.rflags ||| r.acc.foldl (fun f x => f ||| x.2) 0 })

/-- End a run with a cause: its last word, its entry (R464). -/
def endRun (d : Device) (r : CapRun) (cause : Nat) : Device :=
  let (d, r) := d.flushWord r
  let d := d.putIndex r r.count cause
  { d with capRuns := d.capRuns.filter fun x => !(x.buf == r.buf && x.part == r.part) }.countRuns r.buf

/-- End every run that satisfies a test. -/
def endRuns (d : Device) (p : CapRun → Bool) (cause : Nat) : Device := (d.capRuns.filter p).foldl (fun d r => d.endRun r cause) d

/-- A raw sample enters a run (R463, R465, R466). -/
def capSample (d : Device) (r : CapRun) (x : Raw) : Device :=
  let w := tabGet (fun _ => 0) (d.capBuf r.buf).parts r.part
  if !d.cbRing r.buf && decide (d.cbPsize r.buf * 512 ≤ w) then ((d.fsetB (aCB r.buf 0x14) 0 true).endRun r 2)
  else
    let r := { r with acc := r.acc ++ [(ofSigned 20 x.code, x.flags % 16)], count := r.count + 1 }
    if r.acc.length < 3 then d.setRun r
    else
      let (d, r) := d.flushWord r
      if !d.cbRing r.buf && decide (d.cbPsize r.buf * 512 ≤ w + 1) then (d.fsetB (aCB r.buf 0x14) 0 true).endRun r 2
      else d.setRun r

/-- Append an entry of 16 bytes to a DECIM or MARK buffer (R466). -/
def capEntry (d : Device) (b : Nat) (bs : List Byte) : Device :=
  let c := d.capBuf b
  let cap := d.cbSize b * 256
  if !d.cbRing b && decide (cap ≤ c.entries) then ((d.fsetB (aCB b 0x14) 0 true).bump (aCB b 0x18) 0 32)
  else
    let d := (d.setCapBuf b { c with entries := (c.entries + 1) % 2 ^ 48 }).toDdr (d.cbBase b + 16 * (c.entries % cap)) bs
    if !d.cbRing b && decide (cap ≤ c.entries + 1) then d.fsetB (aCB b 0x14) 0 true else d

/-- One decimated entry (R466). -/
def decimEntry (d : Device) (b n : Nat) (o : ChainOut) (ev : Nat) : Device :=
  if d.cbOn b && decide (d.cbKind b = 1) then
    d.capEntry b (leBytes 8 (ofSigned 64 o.val) ++ leBytes 6 (d.posAt (d.cbAxis b) ev).1 ++
      leBytes 2 (n + o.flags % 16 * 2 ^ 10 + (if o.sat = 0 then 0 else 2 ^ 14)))
  else d

/-- One mark (R245): position of its instant, fraction, engine, type, level, indexes. -/
def putMark (d : Device) (b eng frame : Nat) (m : Mark) : Device :=
  if !d.cbOn b then d
  else if d.cbKind b ≠ 2 then d.event 0xC0004 5
  else
    let a := d.cbAxis b
    let frac := if d.axSrc a = 1 then m.at_ % tsU / 2 ^ 29 else 0
    d.capEntry b (leBytes 6 (d.posAt a (m.at_ / tsU)).1 ++ leBytes 1 frac ++ leBytes 1 a ++ leBytes 1 eng ++
      leBytes 1 m.kind ++ leBytes 1 m.level ++ leBytes 1 0 ++ leBytes 2 m.idx ++ leBytes 2 frame)

/-- Words and entries that buffer `b` has written, all streams (R477). -/
def cbCount (d : Device) (b : Nat) : Nat :=
  let c := d.capBuf b
  ((c.parts.map Prod.snd).sum + c.entries + c.runseq) % 2 ^ 48

end Device

end Sys2Proof.Machine
end

