-- ==== Sys2Proof/Machine/WireOps.lean ====
section
/-!
DEFINITION. The frame on an engine's wire: its marks (R245 to R247), its end before time (R243, R244), the standstill of an engine (R212).
-/

namespace Sys2Proof.Machine

/-- One Ts in which an engine stands still: what it waits for comes one Ts later (R212). -/
def Engine.slip (g : Engine) : Engine :=
  let late (t : Tx) : Tx := { t with due := t.due.map (· + tsU), timer := t.timer + 1, deadline := t.deadline + 1 }
  { g with txs := g.txs.map late, wave := g.wave.map fun w => { w with start := w.start + tsU }, idleAt := g.idleAt + tsU,
           offAt := g.offAt + 1, keepFrom := g.keepFrom + 1 }

namespace Device

/-- Marks of a frame of a transaction (R245, R247): a keepalive writes none (R234), and BIT marks only where they were not reduced. -/
def markAll (d : Device) (e : Nat) (t : Tx) (ms : List Mark) : Device :=
  if d.fget (aTE t.entry 0) 24 2 = 0 ∨ t.exec.isNone then d
  else (ms.filter fun m => t.bitMarks || decide (m.kind ≠ 6)).foldl (fun d m => d.putMark (d.fget (aTE t.entry 0) 26 6) e t.frameNo m) d

/-- What is on the wire of engine `e` ends at the present instant: the marks of its transaction so far are written, and the pin goes
recessive (R243, R244). -/
def cutWave (d : Device) (e : Nat) : Device :=
  let g := d.eng e
  match g.wave with
  | none => d
  | some w =>
    let d := match g.txs.head? with
      | some t => if t.phase = TxPhase.sending ∨ t.phase = TxPhase.setting then d.markAll e t (w.marks d.nowU) else d
      | none => d
    d.setEng e { d.eng e with wave := none }

/-- Engine `e` has nothing to serve and nothing on its wire (R241, R244). -/
def clearEng (d : Device) (e : Nat) : Device :=
  let d := d.cutWave e
  d.setEng e (d.eng e).clear

/-- Every engine stands still for one Ts while no READY clock runs (R212). -/
def slipEngines (d : Device) : Device := (tabKeys d.engines).foldl (fun d e => d.setEng e (Engine.slip (d.eng e))) d

end Device

end Sys2Proof.Machine
end

