-- ==== Sys2Proof/Machine/ExecOps.lean ====
section
/-!
DEFINITION. The step engine: lists and their triggers (R191 to R195), pending and due contexts (R196), the conditions and the effect
of a start, slots and their records (R197 to R205), queues and commit (R206 to R208), the end of an execution (R34).
-/

namespace Sys2Proof.Machine

/-! Fields of a context as words (R186). -/

/-- A bit field of a context word. -/
def ctxF (ws : List Word) (w lo n : Nat) : Nat := bitsOf (ws.getD w 0) lo n
/-- Axis of a context. -/
def ctxAxis (ws : List Word) : Nat := ctxF ws 0 14 2
/-- Result queue of a context. -/
def ctxQueue (ws : List Word) : Nat := ctxF ws 0 16 4
/-- Detector of a context. -/
def ctxDet (ws : List Word) : Nat := ctxF ws 0 20 4
/-- Profile of a context. -/
def ctxProf (ws : List Word) : Nat := ctxF ws 0 24 8
/-- START of a context. -/
def ctxStart (ws : List Word) : Nat := ctxF ws 1 0 32 + 2 ^ 32 * ctxF ws 2 0 16
/-- LEN of a context. -/
def ctxLen (ws : List Word) : Nat := ctxF ws 3 0 32
/-- NEXT of a context, when NEXTEN is one. -/
def ctxNext (ws : List Word) : Option Nat := if ctxF ws 4 14 1 = 1 then some (ctxF ws 4 0 14) else none
/-- MLIST of a context. -/
def ctxMlist (ws : List Word) : Nat := ctxF ws 4 16 12
/-- Meters of a context. -/
def ctxRmus (ws : List Word) : List Nat := onesOf 4 (ctxF ws 6 16 4)
/-- Template of a context. -/
def ctxTpl (ws : List Word) : Nat := ctxF ws 7 0 11
/-- A signed 64-bit limit. -/
def ctxLim (ws : List Word) (w : Nat) : Int := toSigned 64 (ctxF ws w 0 32 + 2 ^ 32 * ctxF ws (w + 1) 0 32)
/-- ONFAIL of a context: 0 CONTINUE, 1 SKIP, 2 STOP, 3 ASSERT. -/
def ctxOnfail (ws : List Word) : Nat := ctxF ws 12 0 2
/-- FAILARG of a context. -/
def ctxFailarg (ws : List Word) : Nat := ctxF ws 12 16 14
/-- One of LOEN, HIEN, STRICT, SUMMARY, REL (bits 0 to 4). -/
def ctxBit (ws : List Word) (i : Nat) : Bool := ctxF ws 13 i 1 = 1

/-- CHAN of a setup record. -/
def Setup.chan (s : Setup) : Nat := bitsOf s.w0 0 10
/-- MASK bit of a setup record: 0 mode, 1 ranges, 2 CODE, 3 clamps, 4 queue RUN. -/
def Setup.mask (s : Setup) (i : Nat) : Bool := bitOf s.w0 (16 + i)
/-- MEAS of a setup record. -/
def Setup.meas (s : Setup) : Bool := bitOf s.w0 24
/-- CAP of a setup record. -/
def Setup.cap (s : Setup) : Nat := bitsOf s.w0 25 2
/-- CBUF of a setup record. -/
def Setup.cbuf (s : Setup) : Nat := bitsOf s.w1 12 6

/-- The request that a setup record makes of its channel (R188, R190). `idx` is its number in the pool. -/
def Setup.req (s : Setup) (idx : Nat) : ChReq :=
  { mode := if s.mask 0 then some (BitVec.ofNat 32 (bitsOf s.w1 0 3 + 16 * bitsOf s.w1 3 1 + 256 * bitsOf s.w1 4 1)) else none,
    range := if s.mask 1 then some (BitVec.ofNat 32 (bitsOf s.w1 5 2 + 16 * bitsOf s.w1 8 3)) else none,
    force := if s.mask 2 then some (BitVec.ofNat 32 (bitsOf s.w2 0 18)) else none,
    clamp := if s.mask 3 then some s.w3 else none, run := if s.mask 4 then some (bitOf s.w1 11) else none, src := .setup, recd := idx }

/-- A slot that begins at a position. -/
def Slot.start_ (k : SlotKind) (pos : Nat) : Slot :=
  { kind := k, start := pos, outs := [], thr := [], retries := 0, firstFault := none, lastFault := 0, waits := false,
    remeasure := false, endEdge := none, flags := 0, ref := none, fault := none, amps := false, fill := false, valueless := false, rec_ := none }

/-- CHAN of a slot's record (R203). -/
def Slot.chanCode (s : Slot) : Nat :=
  match s.kind with
  | .chan n => n
  | .rmu r => 0x8000 + r
  | .bus _ e => 0xC000 + e

/-- The channels that setup records measure, in order. -/
def measChans (ss : List Setup) : List Nat := (ss.filter Setup.meas).map Setup.chan

namespace Device

/-- The words of context `c` (R186). -/
def ctxWords (d : Device) (c : Nat) : List Word := (List.range 15).map fun w => d.rd (aCTX c w)

/-- List `l` beside its registers. -/
def lst (d : Device) (l : Nat) : ListSt := tabGet (fun _ => ListSt.init) d.lists l

/-- Replace a list. -/
def setLst (d : Device) (l : Nat) (x : ListSt) : Device := { d with lists := tabSet (fun _ => ListSt.init) l x d.lists }

/-- STEP_LSTAT.STATE: 0 IDLE, 1 ARMED, 2 RUNNING, 3 STOPPED. -/
def lstState (d : Device) (l : Nat) : Nat := d.fget (aLIST l 8) 0 2

/-- Set STEP_LSTAT.STATE. -/
def setLstState (d : Device) (l s : Nat) : Device := d.fset (aLIST l 8) 0 2 s

/-- STEP_LDESC.TRIG. -/
def lstTrig (d : Device) (l : Nat) : Nat := d.fget (aLIST l 0) 16 3

/-- STEP_LTRIG.TRIGARG. -/
def lstArg (d : Device) (l : Nat) : Nat := d.fget (aLIST l 4) 0 16

/-- The step engine is armed (R194, R209). -/
def armed (d : Device) : Bool := d.flag 0x80004 16

/-- Replace an execution. -/
def setExec (d : Device) (x : Exec) : Device := { d with execs := d.execs.map fun y => if y.id == x.id then x else y }

/-- Execution number `i`. -/
def execOf (d : Device) (i : Nat) : Option Exec := d.execs.find? fun x => x.id == i

/-- The active execution of list `l`. -/
def activeOf (d : Device) (l : Nat) : Option Exec := d.execs.find? fun x => x.list == l && x.active

/-- Active executions. -/
def actives (d : Device) : List Exec := d.execs.filter fun x => x.active

/-- Start position of a pending context (R193). -/
def pendStart (d : Device) (l : Nat) (p : Pend) : Nat :=
  let ws := d.ctxWords p.ctx
  if ctxBit ws 4 then (ctxStart ws + (d.lst l).trig.getD (ctxAxis ws) 0) % posMod else ctxStart ws

/-- A context becomes due at the present edge when its axis has reached its start while LOCKED or HOLDOVER; FIRST not before
its trigger (R196). One that an alignment jump passes is marked (R176). -/
def dueList (d : Device) (l : Nat) : Device :=
  match (d.lst l).pend with
  | none => d
  | some p =>
    let a := ctxAxis (d.ctxWords p.ctx)
    let s := d.pendStart l p
    if p.due.isSome ∨ (p.first ∧ p.eligible.isNone) ∨ d.axLive a = false ∨ reachedPos (d.ax a).c s = false then d
    else
      let jumped := match (d.ax a).mid with
        | some m => decide (d.axSrc a ≠ 4) && !reachedPos m s
        | none => false
      d.setLst l { d.lst l with pend := some { p with due := some d.edge, disturbed := jumped } }

/-- The due test for every list. -/
def dueAll (d : Device) : Device := (tabKeys d.lists).foldl dueList d

/-- List `l` names its next context (R196). -/
def namePend (d : Device) (l c : Nat) (first : Bool) (eligible : Option Nat) (verdictWait : Bool) : Device :=
  let p : Pend := ⟨c, first, d.edge, eligible, none, false, [], 0, verdictWait, false⟩
  let d := d.setLst l { d.lst l with pend := some p }
  (if (d.activeOf l).isNone then d.fset (aLIST l 0xC) 0 14 c else d).dueList l

/-- Drop the pending context of list `l`. -/
def dropPend (d : Device) (l : Nat) : Device := d.setLst l { d.lst l with pend := none }

/-- A trigger reaches list `l` at the present edge (R193, R194). -/
def trigger (d : Device) (l : Nat) : Device :=
  if d.lstState l = 1 then
    let x := d.lst l
    let d := (d.setLst l { x with trig := (List.range 4).map fun a => (d.ax a).c,
                                  pend := x.pend.map fun p => { p with eligible := some d.edge } }).setLstState l 2
    (d.fretEvents 3 d.edge false l).dueList l
  else if d.lstState l = 2 then d.bump (aLIST l 0xC) 16 16
  else d

/-- List `l` becomes ARMED: FIRST becomes pending; with TRIG ARM it is triggered at once (R191, R194). -/
def armList (d : Device) (l : Nat) (fresh : Bool) : Device :=
  let x := d.lst l
  let d := (d.setLst l { x with runs := if fresh then 0 else x.runs, ending := 0 }).setLstState l 1
  let d := d.namePend l (d.fget (aLIST l 0) 0 14) true none false
  if d.lstTrig l = 1 then d.trigger l else d

/-- The last context of list `l` has completed (R191, R194). -/
def listEnds (d : Device) (l : Nat) : Device :=
  let x := d.lst l
  let d := ((d.setLst l { x with runs := x.runs + 1, pend := none }).bump (aLIST l 8) 16 16).fretEvents 4 d.edge false l
  let rep := d.fget (aLIST l 4) 16 16
  let d :=
    if d.lstState l = 3 then d
    else if rep = 0 ∨ x.runs + 1 < rep then d.armList l false
    else d.setLstState l 0
  ((tabKeys d.lists).filter fun m => decide (d.lstTrig m = 5) && decide (d.lstArg m % 256 = l)).foldl trigger d

/-- Every list whose trigger source is `trig` with argument `arg` (R191). -/
def triggerLists (d : Device) (trig : Nat) (arg : Nat → Bool) : Device :=
  ((tabKeys d.lists).filter fun m => decide (d.lstTrig m = trig) && arg (d.lstArg m)).foldl trigger d

/-! Queues (R206 to R208). -/

/-- Queue `q` beside its registers. -/
def que (d : Device) (q : Nat) : Queue := tabGet (fun _ => Queue.init) d.queues q

/-- Replace a queue. -/
def setQue (d : Device) (q : Nat) (x : Queue) : Device := { d with queues := tabSet (fun _ => Queue.init) q x d.queues }

/-- Free space of queue `q` (R206). -/
def queFree (d : Device) (q : Nat) : Nat :=
  2 ^ d.fget (aRESQ q 8) 0 5 - ((d.rd (aRESQ q 0x10) - d.rd (aRESQ q 0x14)).toNat + d.fget (aRESQ q 0x18) 0 25)

/-- Reserve `n` records on queue `q` (R30). -/
def reserve (d : Device) (q n : Nat) : Device := d.bumpBy (aRESQ q 0x18) 0 25 n

/-- RESQ_IRQ: enough records committed since the last interrupt raise the next (R210, R473); with queue DMA enabled the vector
waits for the write-back (R474). -/
def queIrq (d : Device) (q : Nat) : Device :=
  if d.flag (aRESQ q 0x24) 31 && decide (d.fget (aRESQ q 0x24) 0 25 ≤ (d.que q).since) && !d.flag (aHQ q 0x10) 0 then
    (d.setQue q { d.que q with since := 0 }).signal (16 + q)
  else d

/-- Commit one record (R208): it takes its SEQ. -/
def commitRec (d : Device) (q : Nat) (r : ResRec) (retirement : Bool) : Device :=
  let x := d.que q
  (d.setQue q { x with seq := (x.seq + 1) % 2 ^ 32, done := x.done ++ [(r, retirement)], since := x.since + 1 }).queIrq q

/-- The records of an execution in their fixed order (R204), as far as they stand, with a mark on retirement records. -/
def execRecs (x : Exec) : List (Option ResRec × Bool) :=
  (x.slots.map fun s => (s.rec_, false)) ++
  (if ctxBit x.words 3 then [(x.summary, false)] else []) ++
  (if x.active ∨ x.verdict.isNone then [(none, true)] else x.retire.map fun r => (some r, true))

/-- The records from the front of a list that stand. -/
def readyRecs : List (Option ResRec × Bool) → List (ResRec × Bool)
  | (some r, b) :: rest => (r, b) :: readyRecs rest
  | _ => []

/-- Every record of an execution has been committed. -/
def allCommitted (x : Exec) : Bool := decide ((execRecs x).length ≤ x.committed) && !x.active && x.verdict.isSome

/-- Commit what stands on a queue, execution by execution in order of start (R208). -/
def commitExecs (d : Device) (q : Nat) : List Exec → Device
  | [] => d
  | x :: rest =>
    if ctxQueue x.words ≠ q then commitExecs d q rest
    else
      let rs := readyRecs ((execRecs x).drop x.committed)
      let x' := { x with committed := x.committed + rs.length }
      let d := rs.foldl (fun d r => d.commitRec q r.1 r.2) (d.setExec x')
      if allCommitted x' then commitExecs d q rest else d

/-- Commit what can be committed on queue `q`. -/
def commit (d : Device) (q : Nat) : Device := d.commitExecs q d.execs

/-- A retirement record for an execution: it draws on the queue's headroom, or is dropped and counted (R205). -/
def retireRec (d : Device) (x : Exec) (nslots flag fseq : Nat) : Device :=
  let q := ctxQueue x.words
  if d.queFree q = 0 then (d.bump (aRESQ q 0x28) 0 32).event (aRESQ q 0x20) 8
  else
    let a := ctxAxis x.words
    let r : ResRec := ⟨x.ctx, 0xFFFF, nslots, (d.ax a).c, a, 5, flag, auxFault fseq 0⟩
    let d := (d.reserve q 1).setQue q { d.que q with ret := (d.que q).ret + 1 }
    (d.setExec { x with retire := x.retire ++ [r] }).fsetB (aRESQ q 0x20) 1 true

/-! Slots. -/

/-- Replace slot `i` of execution `x`. -/
def setSlot (d : Device) (x : Exec) (i : Nat) (s : Slot) : Device := d.setExec { x with slots := x.slots.set i s }

/-- PASS and FAIL flags of a record (R197). -/
def limitFlags (ws : List Word) (v : Int) : Nat :=
  let lo := ctxBit ws 0 && decide (v < ctxLim ws 8)
  let hi := ctxBit ws 1 && decide (ctxLim ws 10 < v)
  (if lo then 2 else 0) + (if hi then 4 else 0) + (if lo || hi then 0 else 1)

/-- AUX of a slot: FAULT when a fault entry affected it, else the given form (R203). -/
def slotAux (s : Slot) (aux : Nat) : Nat :=
  match s.ref with
  | some f => auxFault f s.retries
  | none => aux

/-- The KIND that a slot's record has or would have (R110, R132, R144, R232, R546). -/
def slotKind (d : Device) (x : Exec) (s : Slot) : Nat :=
  match s.kind with
  | .chan _ => if ctxDet x.words = 9 then 4 else if ctxDet x.words = 10 then 5 else if s.amps then 2 else 1
  | .rmu r => rmuKind (d.fget (aRMU r 0) 0 2) (d.rd (aRMU r 0x10)).toNat
  | .bus e _ => match d.fget (aTE e 0) 12 2 with | 0 => 6 | 2 => 4 | _ => 5

/-- The flags that every slot record of an execution carries (R176, R196). -/
def execFlags (x : Exec) : Nat := (if x.deferred then 0x400 else 0) ||| (if x.disturbed then 0x800 else 0)

/-- Fill a slot with VALUE 0 and the given flags (R34, R201, R546); such a record is valueless (R197). -/
def fillSlot (d : Device) (x : Exec) (s : Slot) (flags : Nat) : Slot :=
  { s with fill := true, valueless := true, endEdge := some d.edge,
           rec_ := some ⟨x.ctx, s.chanCode, 0, s.start, ctxAxis x.words, d.slotKind x s, execFlags x ||| s.flags ||| flags,
                         slotAux s 0⟩ }

/-- A range of channel `n` is marked UNCAL on the slice that serves it (R39, R312). -/
def uncal (d : Device) (n rng : Nat) : Bool :=
  let r := if rng < 8 then rng else 3 + (rng - 8)
  if d.fget (aCH n 0x38) 0 6 = 32 then d.flag (aCALSP (n / 32) 0x18) r else d.flag (aCALCH n 0x18) r

/-- A complete record of a slot: value, position, kind, flags with the limits compared, AUX. -/
def slotRecord (x : Exec) (s : Slot) (v : Int) (pos kind flags aux : Nat) : Slot :=
  { s with rec_ := some ⟨x.ctx, s.chanCode, v, pos, ctxAxis x.words, kind,
                         limitFlags x.words v ||| execFlags x ||| s.flags ||| flags, slotAux s aux⟩ }

/-- The record of a slot whose window gave no value: VALUE 0 and DISTURBED (R145). -/
def emptyRecord (d : Device) (x : Exec) (s : Slot) (flags : Nat) : Slot :=
  { s with valueless := true,
           rec_ := some ⟨x.ctx, s.chanCode, 0, s.start, ctxAxis x.words, d.slotKind x s, execFlags x ||| s.flags ||| flags ||| 0x800,
                         slotAux s 0⟩ }

/-- Form the record of a channel slot (R141 to R146, R150, R197). -/
def chanRecord (d : Device) (x : Exec) (s : Slot) (n : Nat) : Slot :=
  let det := ctxDet x.words
  let pr := ctxProf x.words
  let p := d.profile pr
  let uc (r : Nat) : Nat := if d.uncal n r then 0x100 else 0
  if d.retired n then d.fillSlot x s 0x10
  else if det = 9 then
    let e0 := s.thr.filter fun t => t.1 == 0
    let sub : Int := match (s.thr.filter fun t => t.1 == 1).head? with
      | some t => fwd s.start t.2
      | none => -1
    match e0.head? with
    | some t => slotRecord x s (fwd s.start t.2) t.2 4 0 (auxSub sub)
    | none => slotRecord x s (-1) s.start 4 0 (auxSub sub)
  else if det = 10 then
    let e0 := s.thr.filter fun t => t.1 == 0
    slotRecord x s e0.length ((e0.getLast?.map Prod.snd).getD s.start) 5 0 (auxSub (s.thr.filter fun t => t.1 == 1).length)
  else if d.thrOnly n then d.fillSlot x s 0x10
  else
    let (xs, changed) := admitted s.outs
    let rf := if changed then 0x80 else 0
    let w3 := d.rd (aPROF pr 3)
    let w4 := d.rd (aPROF pr 4)
    match detect det (bitOf w3 31) (bitsOf w3 0 24) (bitsOf w4 0 5) (bitsOf w4 8 5) s.start (ctxLen x.words) xs with
    | none => d.emptyRecord x s rf
    | some r =>
      let rng := (r.used.getLast?.bind fun o => o.out.rng).getD 0
      let (v, cf) := scaleChain p rng r.val
      slotRecord x s v r.at_ (if rng < 8 then 1 else 2) (recordFlags r.used ||| rf ||| cf ||| uc rng) (auxSub r.sub)

/-- Form the record of a meter's slot (R110, R151). DESIGN CHOICE (assumption 79): the detectors THRFIRST and THRCOUNT, which R144 takes from
threshold units, give a meter VALUE 0 and DISTURBED. -/
def rmuRecord (d : Device) (x : Exec) (s : Slot) (r : Nat) : Slot :=
  if d.flag (aRMU r 0x14) 3 then d.fillSlot x s 0x10
  else
    let pr := d.fget (aRMUF r 0) 0 8
    let w3 := d.rd (aPROF pr 3)
    let w4 := d.rd (aPROF pr 4)
    let func := d.fget (aRMU r 0) 0 2
    let rt := (d.rd (aRMU r 0x10)).toNat
    let det := ctxDet x.words
    if 9 ≤ det then d.emptyRecord x s 0
    else
      match detect det (bitOf w3 31) (bitsOf w3 0 24) (bitsOf w4 0 5) (bitsOf w4 8 5) s.start (ctxLen x.words) s.outs with
      | none => d.emptyRecord x s 0
      | some o =>
        let (v, cf) := scaleReading (d.profile pr) func (d.fget (aRMU r 0) 4 3) rt o.val
        let rng := (o.used.foldl (fun f u => f ||| u.out.flags / 16) 0)
        slotRecord x s v o.at_ (rmuKind func rt)
          (recordFlags o.used ||| cf ||| (if rng % 2 = 1 then 0x800 else 0) ||| (if d.flag (0x60040 + 4 * r) 16 then 0x100 else 0)) (auxSub o.sub)

/-! Completion and what follows. -/

/-- Slot records that make the verdict FAIL (R197, R204). -/
def failing (x : Exec) : Nat :=
  (x.slots.filter fun s =>
    if s.valueless then ctxBit x.words 2
    else match s.rec_ with
      | some r => decide (r.flags / 2 % 4 ≠ 0)
      | none => false).length

/-- The summary record (R204). -/
def summaryRec (x : Exec) (pass : Bool) : ResRec :=
  ⟨x.ctx, 0xFFFF, failing x, x.closePos, ctxAxis x.words, 5, (if pass then 1 else 4) + (if x.deferred then 0x400 else 0), auxSub x.slots.length⟩

/-- The next context of a list becomes eligible at the present edge (R198). -/
def makeEligible (d : Device) (l : Nat) : Device :=
  match (d.lst l).pend with
  | some p => (d.setLst l { d.lst l with pend := some { p with eligible := some (p.eligible.getD d.edge) } }).dueList l
  | none => d

/-- Execution `x` is the latest of its list, and the list has not been armed again since it started. -/
def isLatest (d : Device) (x : Exec) : Bool :=
  ((d.execs.filter fun y => y.list == x.list).getLast?.map Exec.id) == some x.id &&
  (match (d.lst x.list).pend with
   | some p => !p.first
   | none => true)

/-- The list goes on after a verdict (R198); `ended` says that the execution was ended early (R34, R175), after which the list
waits at the context that follows. A list that was disabled is IDLE once every execution of it has completed (R194). -/
def afterVerdict (d : Device) (x : Exec) (pass ended : Bool) : Device :=
  let l := x.list
  let d := if !pass && decide (ctxOnfail x.words = 3) then
      d.gpioAdd (ctxFailarg x.words / 32) (2 ^ (ctxFailarg x.words % 32)) 0 0 else d
  if (d.lst l).ending = 2 then
    if d.execs.any fun y => y.list == l && y.id != x.id && y.verdict.isNone then d
    else (d.setLst l { d.lst l with pend := none, ending := 0 }).setLstState l 0
  else if !d.isLatest x then d
  else if d.lstState l ≠ 2 ∨ ended then d
  else
    match ctxOnfail x.words with
    | 1 =>
      if pass then (match ctxNext x.words with | some _ => d.makeEligible l | none => d.listEnds l)
      else d.namePend l (ctxFailarg x.words) false (some d.edge) true
    | 2 =>
      if pass then (match ctxNext x.words with | some _ => d.makeEligible l | none => d.listEnds l)
      else (d.dropPend l).setLstState l 3
    | _ => match ctxNext x.words with | some _ => d | none => d.listEnds l

/-- An execution completes once it is closed and every slot has its record: its verdict, its summary, what its list does
(R196 to R198, R204); then what stands is committed. -/
def finish (d : Device) (i : Nat) (ended : Bool) : Device :=
  match d.execOf i with
  | none => d
  | some x =>
    if x.active ∨ x.verdict.isSome ∨ x.slots.any (fun s => s.rec_.isNone) then d.commit (ctxQueue x.words)
    else
      let pass := decide (failing x = 0)
      let x := { x with verdict := some pass, summary := some (x.summary.getD (summaryRec x pass)) }
      ((d.setExec x).afterVerdict x pass ended).commit (ctxQueue x.words)

/-- Free an entry of the active table (R209). -/
def freeEntry (d : Device) (x : Exec) : Device :=
  let d := d.wr (aACT x.entry) 0
  d.fset 0x80004 0 7 (d.actives.length)

/-- The switches and claims of a context that ends now, with no context of its list starting (R92, R95). -/
def closeMatrix (d : Device) (x : Exec) : Device :=
  let es := d.listOf (ctxMlist x.words)
  let d := d.switchLists d.edge es []
  d.setMx { d.mx with releases := d.mx.releases ++ [⟨x.id, d.movesEnd d.edge es⟩] }

/-- Stop the conversions of an execution's meters. -/
def stopConvs (d : Device) (x : Exec) : Device :=
  (ctxRmus x.words).foldl (fun d r =>
    if d.flag (aRMU r 0x14) 0 then
      { d with rmu := tabSet (fun _ => Rmu.init) r Rmu.init d.rmu }.fsetB (aRMU r 0x14) 0 false
    else d) d

/-- A context ends at the present edge for switching and claims (R196); `cause` is that of its capture runs (R464). Under HOLD its
switches stay until the re-arm edge (R94). -/
def endActive (d : Device) (x : Exec) (cause : Nat) : Device :=
  let x := { x with active := false, closeEdge := d.edge, closePos := (d.ax (ctxAxis x.words)).c }
  let d := ((d.setExec x).freeEntry x).endRuns (fun r => r.exec == x.id) cause
  let d := match (d.lst x.list).pend with
    | some p => d.fset (aLIST x.list 0xC) 0 14 p.ctx
    | none => d
  if d.capo = 1 then d else d.closeMatrix x

/-- Insert a transaction behind those that are under way and those whose contexts started no later (R233); a keepalive is served
after every transaction (R234). -/
def insertTx (t : Tx) : List Tx → List Tx
  | [] => [t]
  | y :: r =>
    let before := match y.exec, t.exec with
      | some i, some j => decide (i ≤ j)
      | none, some _ => y.begun.isSome
      | _, none => true
    if y.begun.isSome || before then y :: insertTx t r else t :: y :: r

/-- Slot `i` of execution `x` becomes ready on its engine at the present edge (R233). -/
def queueTx (d : Device) (x i entry engine : Nat) : Device :=
  let g := d.eng engine
  d.setEng engine { g with txs := insertTx (Tx.init (some x) i entry d.edge) g.txs }

/-- The first bus slot of an execution from slot `i` on that has no record becomes ready (R233). -/
def readyNextTx (d : Device) (x : Exec) (i : Nat) : Device :=
  let isBus (s : Slot) : Bool := match s.kind with
    | .bus _ _ => s.rec_.isNone
    | _ => false
  match (List.range x.slots.length).find? fun k => decide (i ≤ k) && ((x.slots[k]?.map isBus).getD false) with
  | none => d
  | some k =>
    match x.slots[k]?.map Slot.kind with
    | some (.bus e g) => d.queueTx x.id k e g
    | _ => d

/-- Slot `i` of execution `x` is that of a transaction under way. -/
def inFlight (d : Device) (x : Exec) (i : Nat) : Bool :=
  d.engines.any fun g => match g.2.txs.head? with
    | some t => t.exec == some x.id && t.slot == i && t.begun.isSome && decide (t.phase ≠ .decided)
    | none => false

/-- The transactions of an execution leave the engines (R195, R237, R243); a frame on the wire ends by itself. -/
def dropTxs (d : Device) (i : Nat) : Device :=
  (tabKeys d.engines).foldl (fun d e => d.setEng e { d.eng e with txs := (d.eng e).txs.filter fun t => t.exec != some i }) d

/-- End an execution early (R34 steps 1 and 2): every uncommitted slot, the summary slot among them, is filled DISTURBED with VALUE 0
and refers to the entry; `busFlag` is added to bus slots (R243), and BUS_TIMEOUT to that of a transaction under way, which ends ABORTED
(R236). -/
def endExec (d : Device) (x : Exec) (fseq busFlag : Nat) : Device :=
  let fillOne (i : Nat) (s : Slot) : Slot :=
    if i < x.committed then s
    else
      let extra := match s.kind with
        | .bus _ _ => busFlag ||| (if d.inFlight x i then 0x2000 else 0)
        | _ => 0
      d.fillSlot x { s with ref := some fseq, flags := s.flags } (0x800 ||| extra)
  let slots := x.slots.mapIdx fillOne
  let sum : ResRec := ⟨x.ctx, 0xFFFF, 0, x.start, ctxAxis x.words, 5, execFlags x ||| 0x800, auxFault fseq 0⟩
  let x := { x with slots := slots, summary := if x.committed ≤ x.slots.length then some sum else x.summary }
  let d := if x.active then ((d.setExec x).stopConvs x).endActive x 3 else d.setExec x
  (d.dropTxs x.id).finish x.id true

/-- The list of an execution that ended early waits at the context that follows, eligible at once; with none it has ended (R34,
R175). -/
def listFollows (d : Device) (x : Exec) : Device :=
  if d.lstState x.list ≠ 2 then d
  else match ctxNext x.words with
    | some _ => d.makeEligible x.list
    | none => d.listEnds x.list

/-! Start of a context. -/

/-- The requests that setup records make of channel `n`, in pool order. -/
def reqsOf (base n : Nat) (ss : List Setup) : List ChReq :=
  (ss.mapIdx fun i s => (s, base + i)).filterMap fun p =>
    if p.1.chan = n ∧ ((List.range 5).any fun i => p.1.mask i) then some (p.1.req p.2) else none

/-- The channels that setup records name, each once, in pool order. -/
def setupChans (ss : List Setup) : List Nat := (ss.map Setup.chan).eraseDups

/-- The demand of a context fits (R76): the settings of its channels and the outputs that its list connects. -/
def demandFits (d : Device) (base : Nat) (ss : List Setup) (old new : List ListEntry) : Bool :=
  let d' := (setupChans ss).foldl (fun d n => d.previewReqs n (reqsOf base n ss)) d
  let so := d.listSwitches old
  let keep := d.mx.closed.filter fun s => !(so.any fun x => x.node == s.node && x.phys == s.phys)
  let d' := d'.setMx { d'.mx with closed := keep ++ d.askedFor new }
  let was := d.committed
  let now := d'.committed
  decide (now ≤ was) || decide (now ≤ d.ceiling)

/-- A filter-chain claim stands against channel `n` with profile `p` (R136). -/
def chainBusy (d : Device) (n p : Nat) : Bool :=
  d.execs.any fun x => x.verdict.isNone && decide (ctxProf x.words ≠ p) && x.slots.any fun s => s.kind == .chan n

/-- A claim stands against the chain of RMU `r` with profile `p` (R136, R151). -/
def rmuChainBusy (d : Device) (r p : Nat) : Bool :=
  d.execs.any fun x => x.verdict.isNone && decide (ctxProf x.words ≠ p) && x.slots.any fun s => s.kind == .rmu r

/-- The execution of list `l` that ended at the present edge, whose claims can pass (R96). -/
def endingHere (d : Device) (l : Nat) : Option Exec :=
  d.execs.reverse.find? fun x => x.list == l && !x.active && x.closeEdge == d.edge && d.mx.releases.any fun r => r.exec == x.id

/-- All resources that an execution claims: those of its list, its channels as pin tap sets, its meters (R95, R196). -/
def needs (d : Device) (ws : List Word) (ss : List Setup) : List Nat :=
  (d.listRes (d.listOf (ctxMlist ws)) ++ (setupChans ss).map resTaps ++ (ctxRmus ws).map resRmu).eraseDups

/-- The resources are free, or held by the ending execution of the same list; no bus among them is held open (R95, R96, R116); a
retired meter cannot be claimed and is left out (R341). -/
def needsFree (d : Device) (rs : List Nat) (x : Option Nat) : Bool :=
  rs.all fun r =>
    (match d.owner r with
     | .free => true
     | .ctx y _ => x == some y
     | _ => false) && !(decide (r < 32) && d.isHeldOpen r)

/-- Bus slots of a template: entry and engine (R228, R231). -/
def tplSlots (d : Device) (t : Nat) : List SlotKind :=
  if t = 0 then []
  else (List.range (d.fget (aTD t) 16 4)).map fun i =>
    let x := d.fget (aTD t) 0 12 + i
    .bus x (d.fget (aTE x 0) 0 7)

/-- The causes that keep the pending context of list `l` from starting now, as bits of STEP_LASTDEF.CAUSE (R196, R209). -/
def startCauses (d : Device) (l : Nat) (p : Pend) : Nat :=
  let ws := d.ctxWords p.ctx
  let old := d.endingHere l
  let n := (measChans p.setups).length + (ctxRmus ws).length + (d.tplSlots (ctxTpl ws)).length + (if ctxBit ws 3 then 1 else 0)
  let q := ctxQueue ws
  let pr := ctxProf ws
  let bit (b : Bool) (k : Nat) : Nat := if b then 2 ^ k else 0
  bit (decide (64 ≤ d.actives.length)) 0 + bit (!p.fetched) 1 + bit (d.actives.any fun x => x.ctx == p.ctx) 2 +
  bit (!d.needsFree ((d.needs ws p.setups).filter fun r => !(decide (200 ≤ r ∧ r < 204) && d.flag (aRMU (r - 200) 0x14) 3)) (old.map Exec.id) || (setupChans p.setups).any d.gapHeld) 3 +
  bit ((measChans p.setups).any (fun c => d.chainBusy c pr) || (ctxRmus ws).any fun r => d.rmuChainBusy r pr) 4 +
  bit (!d.demandFits (ctxF ws 5 0 20) p.setups ((old.map fun x => d.listOf (ctxMlist x.words)).getD []) (d.listOf (ctxMlist ws))) 5 +
  bit (!d.flag (aRESQ q 0xC) 0 || decide (d.queFree q < n + 64)) 6

/-- Setup records act on channel `n` at the present edge (R65, R190). -/
def applySetup (d : Device) (base ctx : Nat) (ss : List Setup) (n : Nat) : Device := d.requests n d.edge (reqsOf base n ss) ctx

/-- The chain of channel `n` for a starting context (R136). -/
def claimChain (d : Device) (n p : Nat) : Device :=
  if d.chainRuns n && decide (d.profOf n = p) then d
  else (d.fset (aFILT n 0) 0 8 p).startChain n d.edge

/-- The chain of RMU `r` for a starting context (R136, R151). -/
def claimRmuChain (d : Device) (r p : Nat) : Device :=
  if d.rmuChainRuns r && decide (d.fget (aRMUF r 0) 0 8 = p) then d
  else (d.fset (aRMUF r 0) 0 8 p).startRmuChain r d.edge

/-- A slot depends on logical bus `b` (R544). DESIGN CHOICE (assumption 74): an entry whose node is NONE connects nothing (R89) and names no
bus. -/
def dependsOn (d : Device) (ws : List Word) (s : Slot) (b : Nat) : Bool :=
  (d.listOf (ctxMlist ws)).any fun e => e.bus == b && decide (e.node < 1320) &&
    (match s.kind with
     | .chan n => e.node == n
     | .rmu _ => true
     | .bus _ _ => false)

/-- The flags that a slot carries from its start: REMAPPED of its channel, lane or bus (R79, R117, R149). -/
def startFlags (d : Device) (ws : List Word) (s : Slot) : Nat :=
  let own := match s.kind with
    | .chan n => d.flag (aCH n 0x38) 14 || d.flag (aFILT n 4) 11
    | _ => false
  let bus := (List.range 32).any fun b => decide (d.phys b ≠ b) && !d.busRetired b && d.dependsOn ws s b
  if own || bus then 0x20 else 0

/-- A slot is filled RETIRED at its start: its channel, meter or engine is retired, or a retired bus carries it (R110, R118, R241,
R345). -/
def startRetired (d : Device) (ws : List Word) (s : Slot) : Bool :=
  (match s.kind with
   | .chan n => d.retired n
   | .rmu r => d.flag (aRMU r 0x14) 3
   | .bus _ e => (tabGet (fun _ => Engine.init) d.engines e).faulted) ||
  (List.range 32).any fun b => d.busRetired b && d.dependsOn ws s b

/-- A resource serves a slot (R335). -/
def servesSlot (d : Device) (r : Resource) (ws : List Word) (s : Slot) : Bool :=
  match r, s.kind with
  | .slice i, .chan n => d.sliceOf n == i.val
  | .cell k, .chan n => n == k.val
  | .lane m, .chan n => d.fget (0x50200 + 4 * (n / 16)) 0 7 == m.val && !d.flag (0x50200 + 4 * (n / 16)) 8
  | .rmu k, .rmu r => r == k.val
  | .engine k, .bus _ e => e == k.val
  | .bus p, _ => (List.range 32).any fun b => d.phys b == p.val && !d.busRetired b && d.dependsOn ws s b
  | _, _ => false

/-- A slot that starts on a resource during its retest counts the retest's failures against its own budget (R335). -/
def startFails (d : Device) (ws : List Word) (s : Slot) : Slot :=
  match d.rec_.retests.find? fun t => d.servesSlot t.res ws s && decide (0 < t.fails) with
  | some t => { s with retries := t.fails, firstFault := some t.edge }
  | none => s

/-- The window of a conversion of meter `r`: its LINE axis, its length in LINE ticks or in Ts, and whether it runs without that axis (R106
to R108). -/
def convWindow (d : Device) (r : Nat) : Option Nat × Nat × Bool :=
  let w := d.rd (aRMU r 4)
  let a := bitsOf w 1 2
  if bitOf w 0 = false then (none, d.fget (aRMU r 8) 0 26, false)
  else if d.axSrc a = 2 ∧ d.axState a = 2 then (some a, (roundDiv (bitsOf w 4 10 * 65536) 10).toNat, false)
  else (none, bitsOf w 4 10 * 40960, true)

/-- A conversion that starts at edge `e` (R99, R106 to R109): outside LINE time its windows are known at once. -/
def convOf (d : Device) (r : Nat) (byHost : Bool) (axis e : Nat) : Conv :=
  let (line, n, bad) := d.convWindow r
  match line with
  | some a => ⟨byHost, e, axis, some a, n, bad, none, (d.ax a).c, none, none⟩
  | none => ⟨byHost, e, axis, none, n, bad, some e, 0, some (e + n), some (e + (if d.flag (aRMU r 0) 8 then 2 * n else n))⟩

/-- Meter `r` beside its registers. -/
def meter (d : Device) (r : Nat) : Rmu := tabGet (fun _ => Rmu.init) d.rmu r

/-- Replace a meter. -/
def setMeter (d : Device) (r : Nat) (x : Rmu) : Device := { d with rmu := tabSet (fun _ => Rmu.init) r x d.rmu }

/-- Start a conversion (R99, R106 to R109): at the next edge for the host, else at the present one. -/
def startConv (d : Device) (r : Nat) (byHost : Bool) (axis : Nat) : Device :=
  let c := d.convOf r byHost axis (if byHost then d.nextEdge else d.edge)
  ((d.setMeter r ⟨some c⟩).fsetB (aRMU r 0x14) 0 true).fsetB (aRMU r 0x14) 1 c.noline

/-- One sample edge of a window in LINE time (R107, R109): it opens at the next tick of the axis after its start or, with PHEN one, at the first
tick whose position within a cycle is PHASE; it closes `len` ticks later, and the zero window of AZERO as many ticks after that. Until it
opens `openPos` is the position of the latest edge. -/
def lineWindow (d : Device) (r : Nat) (c : Conv) : Conv :=
  match c.line with
  | none => c
  | some a =>
    let x := (d.ax a).c
    match c.openAt with
    | none =>
      let ph := d.rd (aRMU r 0xC)
      let steps := fwd c.openPos x
      let due := if bitOf ph 31 then decide ((bitsOf ph 0 16 + 65536 - (c.openPos + 1) % 65536) % 65536 < steps) else true
      if d.edge < c.start ∨ steps = 0 ∨ 2 ^ 47 ≤ steps ∨ due = false then { c with openPos := x } else { c with openAt := some d.edge, openPos := x }
    | some _ =>
      let t := fwd c.openPos x
      let past (k : Nat) : Bool := decide (k ≤ t ∧ t < 2 ^ 47)
      { c with shutAt := if c.shutAt.isNone && past c.len then some d.edge else c.shutAt,
               zeroAt := if c.zeroAt.isNone && past (if d.flag (aRMU r 0) 8 then 2 * c.len else c.len) then some d.edge else c.zeroAt }

/-- The conversions that a sample edge finds in LINE time. -/
def lineWindows (d : Device) : Device :=
  (tabKeys d.rmu).foldl (fun d r => match (d.meter r).conv with
    | some c => d.setMeter r ⟨some (d.lineWindow r c)⟩
    | none => d) d

/-- HOLD has ended: a conversion that it found running starts afresh at the next edge, since measurement pauses under HOLD (R33). DESIGN
CHOICE (assumption 73). -/
def resumeConvs (d : Device) : Device :=
  (tabKeys d.rmu).foldl (fun d r => match (d.meter r).conv with
    | some c => d.setMeter r ⟨some (d.convOf r c.byHost c.axis d.nextEdge)⟩
    | none => d) d

/-- The lowest free entry of the active table (R209). -/
def freeAct (d : Device) : Nat := ((List.range 64).find? fun i => !d.flag (aACT i) 31).getD 0

/-- A due and eligible context waits for space on queue `q` (R210). -/
def waitsForQueue (d : Device) (q : Nat) : Bool :=
  (tabKeys d.lists).any fun l =>
    match (d.lst l).pend with
    | some p => p.due.isSome && p.eligible.isSome && decide (ctxQueue (d.ctxWords p.ctx) = q) && decide (d.startCauses l p / 64 % 2 = 1)
    | none => false

/-- The channel slot of `n` measures current once the setup records `ss` have acted (R41, R546). -/
def ampsAfter (d : Device) (base : Nat) (ss : List Setup) (n : Nat) : Bool :=
  measuresI ((d.previewReqs n (reqsOf base n ss)).rd (aCH n 0))

/-- Start the pending context of list `l` at the present edge (R196): its claims, chains, settings, captures, switches, meters and
queue space, its slots; NEXT becomes pending. -/
def startCtx (d : Device) (l : Nat) (p : Pend) : Device :=
  let ws := d.ctxWords p.ctx
  let old := d.endingHere l
  let deferred := decide (p.due ≠ some d.edge)
  let a := ctxAxis ws
  let s := if deferred then (d.ax a).c else d.pendStart l p
  let d := if deferred then
      let d := (d.bump 0x8000C 0 32).event 0x80008 2
      let d := d.wr 0x80010 (BitVec.ofNat 32 (p.ctx + p.causes % 128 * 2 ^ 16 + (if p.verdictWait then 2 ^ 23 else 0)))
      if p.causes / 32 % 2 = 1 then d.bump 0x10C 0 32 else d
    else d
  let id := d.nextExec
  let kinds := (measChans p.setups).map SlotKind.chan ++ (ctxRmus ws).map SlotKind.rmu ++ d.tplSlots (ctxTpl ws)
  let slots := kinds.map fun k =>
    let sl := { Slot.start_ k s with amps := match k with
      | .chan n => d.ampsAfter (ctxF ws 5 0 20) p.setups n
      | _ => false }
    d.startFails ws { sl with flags := d.startFlags ws sl }
  let x : Exec := ⟨id, l, p.ctx, ws, d.edge, s, deferred, p.disturbed, p.setups, slots, true, 0, 0, d.freeAct, none, none, [], 0⟩
  let x := { x with slots := slots.map fun sl => if d.startRetired ws sl then d.fillSlot x sl 0x10 else sl }
  let rs := d.needs ws p.setups
  let es := d.listOf (ctxMlist ws)
  let oldEs := (old.map fun o => d.listOf (ctxMlist o.words)).getD []
  let d := { d with execs := d.execs ++ [x], nextExec := id + 1 }
  let d := rs.foldl (fun d r => d.setOwner r (.ctx id p.ctx)) d
  let d := (measChans p.setups).foldl (fun d n => d.claimChain n (ctxProf ws)) d
  let d := (ctxRmus ws).foldl (fun d r => d.claimRmuChain r (ctxProf ws)) d
  let d := (setupChans p.setups).foldl (fun d n => d.applySetup (ctxF ws 5 0 20) p.ctx p.setups n) d
  let d := p.setups.foldl (fun d st =>
    if st.cap = 1 then d.openRun id p.ctx st.chan st.cbuf else if st.cap = 2 then d.checkDecim p.ctx st.cbuf else d) d
  let d := d.switchLists d.edge oldEs es
  let d := (ctxRmus ws).foldl (fun d r => if d.flag (aRMU r 0x14) 3 then d else d.startConv r false a) d
  let d := d.reserve (ctxQueue ws) (slots.length + (if ctxBit ws 3 then 1 else 0))
  let d := (d.wr (aACT x.entry) (BitVec.ofNat 32 (p.ctx + l * 2 ^ 14 + 2 ^ 31))).fset 0x80004 0 7 d.actives.length
  let d := (d.dropPend l).fset (aLIST l 0xC) 0 14 p.ctx
  let d := match ctxNext ws with
    | some c => if (d.lst l).ending = 0 then d.namePend l c false none (decide (ctxOnfail ws = 1 ∨ ctxOnfail ws = 2)) else d
    | none => d
  match d.execOf id with
  | some x => (d.readyNextTx x 0).commit (ctxQueue ws)
  | none => d

end Device

end Sys2Proof.Machine
end

