-- ==== Sys2Proof/Machine/Ops.lean ====
section
/-!
DEFINITION. The operations that every family of commands uses: byte memories (R411, R455), the form of every meaning, and the
tests that every register write passes before its register sees it (R8, R275, R393, R395, R403, R471).
-/

namespace Sys2Proof.Machine

/-! Byte memories. A byte of DDR5 or of the host's memory that nothing has written reads 0, an erased byte of flash reads 0xFF
(DESIGN CHOICE, assumption 6). -/

/-- What an unlisted byte of DDR5 or of the host's memory reads. -/
def blankRam (_ : Nat) : Byte := 0

/-- What an erased byte of flash reads. -/
def blankFlash (_ : Nat) : Byte := 0xFF

/-- Bytes [a, a + n) of a memory. -/
def readCells (dflt : Nat → Byte) (m : List Host.Cell) (a : Nat) : Nat → List Byte
  | 0 => []
  | n + 1 => tabGet dflt m a :: readCells dflt m (a + 1) n

/-- Store bytes from address `a`. -/
def writeCells (dflt : Nat → Byte) : List Host.Cell → Nat → List Byte → List Host.Cell
  | m, _, [] => m
  | m, a, b :: r => writeCells dflt (tabSet dflt a b m) (a + 1) r

/-- Bytes of DDR5. -/
def Mem.ddrRead (m : Mem) (a n : Nat) : List Byte := readCells blankRam m.ddr a n

/-- Store bytes in DDR5. -/
def Mem.ddrWrite (m : Mem) (a : Nat) (bs : List Byte) : Mem := { m with ddr := writeCells blankRam m.ddr a bs }

/-- Bytes of flash. -/
def Mem.flashRead (m : Mem) (a n : Nat) : List Byte := readCells blankFlash m.flash a n

/-- Store bytes in flash. -/
def Mem.flashWrite (m : Mem) (a : Nat) (bs : List Byte) : Mem := { m with flash := writeCells blankFlash m.flash a bs }

/-- Bytes of the host's memory. -/
def Mem.hostRead (m : Mem) (a n : Nat) : List Byte := readCells blankRam m.host a n

/-- Store bytes in the host's memory. -/
def Mem.hostWrite (m : Mem) (a : Nat) (bs : List Byte) : Mem := { m with host := writeCells blankRam m.host a bs }

/-- Write what a command collected for DDR5 (R31), in order. -/
def Mem.drain (m : Mem) (ws : List (Nat × List Byte)) : Mem := ws.foldl (fun m w => m.ddrWrite w.1 w.2) m

/-- A command that changes the device and no byte memory: it collects nothing for DDR5. -/
def State.onDev (s : State) (f : Device → Device) : State := { s with dev := { f s.dev with ddrOut := s.dev.ddrOut } }

/-- A command that may also write DDR5, through what it collects. -/
def State.onDdr (s : State) (f : Device → Device) : State :=
  { s with dev := { f s.dev with ddrOut := [] }, mem := s.mem.drain (f s.dev).ddrOut }

/-- A command that reads or writes the byte memories directly. -/
def State.onMem (s : State) (f : Mem → Device → Mem × Device) : State :=
  { s with mem := (f s.mem s.dev).1, dev := { (f s.mem s.dev).2 with ddrOut := s.dev.ddrOut } }

/-- A command that reads or writes the byte memories directly, and also DDR5 through what it collects. -/
def State.onBoth (s : State) (f : Mem → Device → Mem × Device) : State :=
  { s with mem := (f s.mem s.dev).1.drain (f s.mem s.dev).2.ddrOut, dev := { (f s.mem s.dev).2 with ddrOut := [] } }

/-- A command that reads the byte memories. -/
def State.onRead (s : State) (f : Device → Mem → Device) : State := s.onDev fun d => f d s.mem

/-- A command that reads the byte memories and may write DDR5 through what it collects. -/
def State.onReadDdr (s : State) (f : Device → Mem → Device) : State := s.onDdr fun d => f d s.mem

namespace Device

/-! What every register write passes. -/

/-- BOOT_STATUS.QUIET (R403). -/
def quiet (d : Device) : Bool := d.flag 0x20000 12

/-- The failed state (R395). -/
def failedState (d : Device) : Bool := decide (d.fget 0x20000 0 5 = 12)

/-- The release phase ENABLE_WRITES has completed (R389, R393). -/
def writesOn (d : Device) : Bool := d.flag 0x20000 19

/-- The block of the register at `a` does not answer: QUIET (R403), the failed state (R395). -/
def dead (d : Device) (a : Nat) : Bool :=
  (d.quiet && !([0x00, 0x01, 0x02, 0x03, 0x04, 0x05, 0x0D].contains (a / 0x10000))) ||
  (d.failedState && !([0x00, 0x01, 0x02, 0x03, 0x05].contains (a / 0x10000)))

/-- Writes that the host and Frets may make before ENABLE_WRITES (R393). -/
def earlyOpen (a : Nat) : Bool := decide (a / 0x10000 = 0x02) || decide (a = 0x40010) || decide (a = 0x10010)

/-- Fret `f` may write `data` to the register at `a` through its shell port (R275). -/
def shellGrants (d : Device) (f a : Nat) (data : Word) : Bool :=
  let g := d.rd (aFRET f 0x1C)
  if 0x184000 ≤ a ∧ a < 0x184180 then bitOf g 5
  else if 0x70000 ≤ a ∧ a < 0x74000 then
    let x := (a - 0x70000) / 0x1000
    let o := a % 0x1000
    if o = 0x14 ∨ o = 0x18 then bitOf g x
    else if o = 0x3C then decide (bitsOf data 8 3 = 3) && decide (bitsOf data 16 6 = f)
    else if 0x400 ≤ o ∧ o < 0x800 ∧ o % 0x10 < 0xC then
      let c := d.rd (a - a % 0x10 + 8)
      decide (bitsOf c 22 3 = 3) && decide (bitsOf c 25 6 = f)
    else false
  else if a = 0x80020 ∨ a = 0x80024 then bitOf g 4
  else if 0x90000 ≤ a ∧ a < 0x90400 ∧ a % 0x40 = 0x14 then
    d.flag (a - 8) 1 && decide (d.fget (a - 8) 2 6 = f)
  else false

/-- A refused write of a Fret: FABCFG_EVENT.SHREF and a REFUSED notice (R275). -/
def refuseShell (d : Device) (a : Nat) : Device := (d.event 0xE0004 5).noticeRefused a

/-- A write without all four byte enables is discarded and counted (R8, R471). -/
def badWrite (d : Device) : Device := (d.bump 0xD0008 0 32).event 0xD0004 0

/-- A register write reaches the register at `a`: it has four byte enables, its block answers, and the phase and, for a Fret, its grant
allow it (R8, R275, R393, R395, R403, R471). -/
def admits (d : Device) (w : Wr) (a : Nat) : Bool :=
  decide (w.be = 15) && !d.dead a &&
  (match w.by_ with
   | .firmware => true
   | .host => d.writesOn || earlyOpen a
   | .shell f => (d.writesOn || earlyOpen a) && d.shellGrants f a w.data)

/-- What a write does that does not reach its register: discarded and counted without four byte enables (R471), without effect on a block
that does not answer, else refused and reported. -/
def turnAway (d : Device) (w : Wr) (a : Nat) : Device :=
  if w.be ≠ 15 then d.badWrite
  else if d.dead a then d
  else match w.by_ with
    | .firmware => d
    | .host => d.refuse a
    | .shell _ => d.refuseShell a

/-- A write of the register at `a`, whose own rules are `k`. -/
def write (d : Device) (w : Wr) (a : Nat) (k : Device → Device) : Device := if d.admits w a then k d else d.turnAway w a

/-- A read of the register at `a` whose own rules are `k`: not answered before the root PLL runs, zero from a block that does not answer
(R393, R395, R403). -/
def readAt (d : Device) (a : Nat) (k : Device → Device) : Device :=
  if d.fget 0x20000 0 5 < 5 then { d with answer := [] } else if d.dead a then { d with answer := leBytes 4 0 } else k d

/-- The data of a write with one bit forced: the row of a command fixes it. -/
def withBit (w : Wr) (i : Nat) (b : Bool) : Wr := { w with data := setBits w.data i 1 (if b then 1 else 0) }

end Device

/-- A write whose register's rules read or write the byte memories. -/
def State.onWrite (s : State) (w : Wr) (a : Nat) (k : Mem → Device → Mem × Device) : State :=
  s.onMem fun m d => if d.admits w a then k m d else (m, d.turnAway w a)

end Sys2Proof.Machine
end

