-- ==== Sys2Proof/Machine/LinkOps.lean ====
section
/-!
DEFINITION. Operations of the Chord link that other blocks use: sending (R486, R491), and the lock of CHORD axes (R174, R488, R489).
-/

namespace Sys2Proof.Machine

namespace Device

/-- CHORD_STATUS.STATE: 0 DOWN, 1 JOINING, 2 JOINED, 3 ALIGNING, 4 ALIGNED, 5 REFUSED, 6 ROOT (R497). -/
def chordState (d : Device) : Nat := d.fget 0xB0000 0 3

/-- CHORD_STATUS.ID. -/
def chordId (d : Device) : Nat := d.fget 0xB0000 8 11

/-- Replace the link. -/
def setLink (d : Device) (k : Link) : Device := { d with link := k }

/-- Port `p` is UP (R484). -/
def portUp (d : Device) (p : Nat) : Bool := decide (d.fget (aPORT p 0) 0 2 = 2)

/-- Port `p` transmits: it is UP; a DN port while REFB is READY and, on a member, while its UP port is not DOWN; the UP port of a root is not used
(R479, R483, R485). -/
def portSends (d : Device) (p : Nat) : Bool :=
  let root := decide (d.chordState = 6)
  d.portUp p && (if p = 0 then !root else d.flag 0x10000 1 && (root || decide (d.fget (aPORT 0 0) 0 2 ≠ 0)))

/-- The ports on which a message goes (R486): POS down the DN ports, STATUS, JOIN and the exchanges of R487 up the UP port, ASSIGN down the DN
port that its path names here, the others in both directions. -/
def routes (d : Device) (m : LinkMsg) : List Nat :=
  match m with
  | .capo _ _ | .trig _ _ _ _ | .wake _ => [0, 1, 2, 3]
  | .pos _ => [1, 2, 3]
  | .time | .join _ _ | .status _ => [0]
  | .assign _ path _ => (path[d.fget 0xB0000 4 4]?.map (· + 1)).toList

/-- Put a message on those of the ports `ps` that transmit. A device that is REFUSED or in the failed state sends nothing (R480, R485). -/
def sendOn (d : Device) (ps : List Nat) (m : LinkMsg) : Device :=
  if d.chordState = 5 ∨ d.failedState then d
  else d.setLink { d.link with sent := d.link.sent ++ (ps.filter d.portSends).map fun p => (p, m) }

/-- Send a message of the device's own. -/
def sendMsg (d : Device) (m : LinkMsg) : Device := d.sendOn (d.routes m) m

/-- Forward a message that arrived on port `p`, on every other port of its directions (R486, R495). In QUIET only CAPO and WAKE go on. -/
def forward (d : Device) (p : Nat) (m : LinkMsg) : Device :=
  let quietOk : Bool := match m with | .capo _ _ => true | .wake _ => true | _ => false
  if quietOk || !d.quiet then d.sendOn ((d.routes m).filter fun q => decide (q ≠ p)) m else d

/-- A trigger for a list at a count N of the sample-edge counter reaches this device (R490): it waits for its edge, or acts at the
next edge when it comes late. -/
def takeTrig (d : Device) (l n : Nat) : Device :=
  let ahead := fwd d.link.sedge n
  if 0 < ahead ∧ ahead < 2 ^ 47 then d.setLink { d.link with trigs := d.link.trigs ++ [(l, d.edge + ahead)] }
  else (d.setLink { d.link with trigs := d.link.trigs ++ [(l, d.edge + 1)] }).event 0xB0004 5

/-- Send a TRIG; the sender is among its receivers when the destination names it (R490, R491). -/
def sendTrig (d : Device) (dest l n : Nat) : Device :=
  let d := d.sendMsg (.trig d.chordId dest l n)
  if dest = 2047 ∨ dest = d.chordId then d.takeTrig l n else d

/-- The device may send a TRIG: it is ROOT or ALIGNED (R491). -/
def maySend (d : Device) : Bool := decide (d.chordState = 6 ∨ d.chordState = 4)

/-- A unit that CHORD owns fires (R491). -/
def sendFired (d : Device) (a k : Nat) : Device :=
  if d.maySend then d.sendTrig 2047 (64 * a + k) ((d.link.sedge + d.fget 0xB0008 0 11) % 2 ^ 48)
  else (d.event 0xB0004 9).notice 0x08 a 0x31 (aCMP a k 8)

/-- Axis `a` locks with an alignment jump (R162, R166). Contexts whose start it passes become due at once (R176). -/
def lockAxis (d : Device) (a c : Nat) : Device := ((d.setAxState a 2).event (aPOS a 0x30) 0).jumpTo a c |>.dueAll

/-- A CHORD axis that seeks locks while the device is ALIGNED and its active reference is REFB: it jumps to the root's value, and its
Z and RSRC follow the root axis (R174, R377, R489). -/
def chordLock (d : Device) (a : Nat) : Device :=
  if d.axSrc a = 5 ∧ d.axState a = 1 ∧ d.chordState = 4 ∧ d.flag 0x10000 12 then
    match d.posFor d.edge (d.fget 0xB001C 16 11) with
    | none => d
    | some p =>
      match p.axes[d.fget (aPOS a 0) 12 2]? with
      | none => d
      | some r =>
        let tgt := (((r.count.toNat : Int) + rateTicks r.rate (d.edge - p.localEdge)) % (posMod : Int)).toNat
        let d := d.setAx a { d.ax a with run := r.jumps, rootZ := r.z, rootSrc := r.src.toNat, everLocked := true }
        (d.fset (aPOS a 0x2C) 4 3 r.src.toNat).lockAxis a tgt
  else d

end Device

end Sys2Proof.Machine
end

