-- ==== Sys2Proof/Machine/Axis.lean ====
section
/-!
DEFINITION. The axis commands: start and stop (R166), loads (R165), synthesised rate (R170), mains crossings (R168, R169), teeth
(R171, R172), encoders (R173), compare units (R180 to R184), and the loss of a source (R175).
-/

namespace Sys2Proof.Machine

namespace Device

/-- POS_EVENT.WHEELBAD of an axis that seeks on a wheel without exactly one run of missing positions (R172). -/
def checkWheel (d : Device) (a : Nat) : Device :=
  if d.axSrc a = 3 ∧ d.axMeas a ∧ d.wheelOk (d.fget (aPOS a 0) 8 4) = false then d.event (aPOS a 0x30) 4 else d

/-- An axis with its search for a lock begun afresh (R168, R171). -/
def seekFresh (x : Axis) : Axis :=
  { x with cross := none, run := 0, per := 0, span := 0, acc := 0, debt := 0, teeth := none, revs := 0, lastInt := 0 }

/-- Axis `a` starts by its source (R166, R170, R173, R174). DESIGN CHOICE (assumption 82): a SYN axis takes a first step toward TARGET at once, with
the grid of R170 from there, from the rate it had before its stop. -/
def startAxis (d : Device) (a : Nat) : Device :=
  let lv (o lo : Nat) : Bool := (d.ch (d.fget (aPOS a o) lo 10)).pad
  let x := { seekFresh (d.ax a) with indexed := false, encA := lv 4 0, encB := lv 4 16, candA := lv 4 0, candB := lv 4 16, ageA := 0, ageB := 0 }
  let d := d.setAx a x
  match d.axSrc a with
  | 1 => d.setAxState a 2
  | 3 => if d.axMeas a then (d.setAxState a 1).checkWheel a else (d.setAxState a 2).rateStep a
  | 4 => d.setAxState a 2
  | 5 =>
    let d := d.setAxState a 1
    if d.chordState = 6 then d.event (aPOS a 0x30) 6 else d.chordLock a
  | _ => d.setAxState a 1

/-- A write of POS_CTL with its RUN bit (R164, R166): refused while the axis runs when it would change another field (R12); before
the step engine was first armed the axis stays STOPPED. -/
def posControl (d : Device) (a : Nat) (p : Party) (raw : Word) : Device :=
  let c := aPOS a 0
  if d.flag c 31 && d.reachesRws c raw then d.refuse c
  else
    let was := d.flag c 31
    let d := d.putCooked p c raw
    if bitOf raw 31 then (if !was && d.flag 0x20000 10 then d.startAxis a else d) else d.setAxState a 0

/-- A write of POS_CNTHI (R165): the load is a jump. -/
def loadCounter (d : Device) (a : Nat) (raw : Word) : Device :=
  if d.flag (aPOS a 0) 31 then d.refuse (aPOS a 0x10)
  else
    let x := d.ax a
    let lo := x.loadLo.getD (x.c % 2 ^ 32)
    (d.setAx a { x with loadLo := none }).jumpTo a (lo + bitsOf raw 0 16 * 2 ^ 32)

/-- A read of POS_CNTLO: it answers C[31:0] and latches POS_CNTHI (R183). -/
def readCntlo (d : Device) (a : Nat) : Device :=
  let c := (d.ax a).c
  let d := (d.wr (aPOS a 0xC) (BitVec.ofNat 32 c)).fset (aPOS a 0x10) 0 16 (c / 2 ^ 32)
  { d with answer := leBytes 4 c }

/-- A write of POS_RATE or POS_SLEW at offset `o` (R170): a change restarts the grid, with a first step at the next edge. -/
def rateWrite (d : Device) (a o : Nat) (p : Party) (raw : Word) : Device :=
  let old := d.rd (aPOS a o)
  let d := d.putCooked p (aPOS a o) raw
  if d.rd (aPOS a o) ≠ old ∧ d.axSyn a then d.rateStep a else d

/-- A step of the rate's grid (R170). -/
def slewStep (d : Device) (a : Nat) : Device :=
  if d.axSyn a && decide ((d.ax a).slewAt ≤ d.edge + 1) && decide (d.rd (aPOS a 0x1C) ≠ d.rd (aPOS a 0x14)) then d.rateStep a else d

/-- Axis `a` enters SEEKING from LOCKED or HOLDOVER (R175): its fault entry, and the end of the contexts on it. -/
def seekAxis (d : Device) (a : Nat) : Device :=
  let chord := decide (d.axSrc a = 5)
  let hit := d.actives.filter fun x => ctxAxis x.words == a
  let f := d.nextFseq.toNat
  let e := { entry (if chord then .notice else .d) 0x08 a (if chord then 0x39 else 0x24) 1 with pos := (d.ax a).c, axis := a }
  let d := d.report e (!hit.isEmpty)
  let d := (d.setAxState a 1).checkWheel a
  let d := d.setAx a (seekFresh (d.ax a))
  hit.foldl (fun d x =>
    match d.execOf x.id with
    | some y => (d.endExec y f 0).listFollows y
    | none => d) d

/-- Axis `a` has lost its source (R166, R175). -/
def loseAxis (d : Device) (a : Nat) : Device := (d.event (aPOS a 0x30) 1).seekAxis a

/-- A READY reference has returned (R166, R405): TIME, ENCODER and synthesised ANGLE axes go on, the others seek. -/
def axisReturns (d : Device) (a : Nat) : Device :=
  let goesOn := decide (d.axSrc a = 1 ∨ d.axSrc a = 4) || (decide (d.axSrc a = 3) && !d.axMeas a)
  if d.axState a = 0 ∨ goesOn then d
  else if d.axLive a then d.seekAxis a
  else (d.setAx a (seekFresh (d.ax a))).checkWheel a

/-- A locked LINE axis loses its source (R166, R169). -/
def lineLoss (d : Device) (a : Nat) : Device :=
  let x := d.ax a
  let holdc := d.fget (aPOS a 0x20) 16 4
  if holdc = 0 then d.loseAxis a
  else
    let e := { entry .d 0x08 a 0x24 3 with pos := x.c, axis := a }
    ((d.report e).setAxState a 3).setAx a { x with holdEnd := d.edge + holdc * x.per }

/-- The difference of two periods. -/
def perDiff (x y : Nat) : Nat := (x - y) + (y - x)

/-- A crossing's period lies in the window of R168. -/
def perOk (t : Nat) : Bool := decide (315077 ≤ t ∧ t ≤ 455111)

/-- Accept a period: it becomes the last one (R168). -/
def takePeriod (d : Device) (a t : Nat) (x : Axis) : Device :=
  (d.setAx a { x with per := t, span := 65536, acc := 0, cross := some d.edge }).wr (aPOS a 0x34) (BitVec.ofNat 32 t)

/-- A crossing that is not ignored, of period `t`, by the state of the axis (R168, R169). DESIGN CHOICE (assumption 81): of two values of phase PHOFS
equally near, the one ahead is taken. -/
def crossing (d : Device) (a t : Nat) : Device :=
  let x := d.ax a
  let ph := d.fget (aPOS a 0x20) 0 16
  match d.axState a with
  | 1 =>
    if perOk t then
      let run := if 0 < x.run ∧ 200 * perDiff t x.per ≤ x.per then x.run + 1 else 1
      let d := d.takePeriod a t { x with run := run }
      if run = 8 then d.lockAxis a (nextPhase x.c 65536 ph) else d
    else d.setAx a { x with run := 0, cross := some d.edge }
  | 2 =>
    if perOk t && decide (50 * perDiff t x.per ≤ x.per) then
      (d.takePeriod a t { x with c := nextPhase (x.c + 1) 65536 ph % posMod, debt := 0 }).dueAll
    else (d.setAx a { x with cross := some d.edge }).lineLoss a
  | 3 =>
    if perOk t && decide (50 * perDiff t x.per ≤ x.per) then
      let ahead := nextPhase x.c 65536 ph - x.c
      let d := (d.setAxState a 2).event (aPOS a 0x30) 0
      if ahead ≤ 65536 - ahead then (d.takePeriod a t { x with c := (x.c + ahead) % posMod, debt := 0 }).dueAll
      else d.takePeriod a t { x with debt := 65536 - ahead }
    else d.setAx a { x with cross := some d.edge }
  | _ => d

/-- A rising edge of the mains pin of a LINE axis at the present edge (R168). -/
def lineCross (d : Device) (a : Nat) : Device :=
  let c := d.ch (d.fget (aPOS a 4) 0 10)
  if d.axSrc a = 2 ∧ d.axState a ≠ 0 ∧ c.pad ∧ !c.prevPad then
    match (d.ax a).cross with
    | none => d.setAx a { d.ax a with cross := some d.edge }
    | some p =>
      let t := d.edge - p
      if t = 0 ∨ ((d.ax a).per ≠ 0 ∧ 4 * t ≤ (d.ax a).per) then d else d.crossing a t
  else d

/-- No crossing within 1.25 times the last period (R169). -/
def lineTimeout (d : Device) (a : Nat) : Device :=
  if d.axSrc a = 2 ∧ d.axState a = 2 ∧ 5 * (d.ax a).per ≤ 4 * (d.edge - (d.ax a).cross.getD d.edge) then d.lineLoss a else d

/-- HOLDOVER ends without an accepted crossing (R169). -/
def holdoverEnd (d : Device) (a : Nat) : Device :=
  if d.axState a = 3 ∧ (d.ax a).holdEnd ≤ d.edge then d.loseAxis a else d

/-! Teeth (R171, R172). -/

/-- Revolution that begins at a reference tooth: from the level of PINB when CYC2 is one (R171). -/
def revAt (d : Device) (a : Nat) : Nat :=
  if d.flag (aPOS a 0) 4 then (if (d.ch (d.fget (aPOS a 4) 16 10)).pad = d.flag (aPOS a 0x24) 26 then 0 else 1) else 0

/-- The next present position of a measured axis after `tpos`, and how many positions lie to it. -/
def nextTooth (d : Device) (a : Nat) : Nat × Nat :=
  let w := d.fget (aPOS a 0) 8 4
  let z := d.fget (aWHEEL w 0) 0 9
  let total := z * (1 + d.fget (aPOS a 0) 4 1)
  let n := d.wheelLen w
  let k := ((List.range total).find? fun k => d.toothPresent w (((d.ax a).tpos + 1 + k) % total % n)).getD 0
  (((d.ax a).tpos + 1 + k) % total, k + 1)

/-- A leading edge in SEEKING (R171): gaps are counted until the wheel matches, then the axis locks on the reference tooth. -/
def toothSeek (d : Device) (a i : Nat) (gap : Bool) : Device :=
  let x := d.ax a
  let w := d.fget (aPOS a 0) 8 4
  let cyc := d.flag (aWHEEL w 0) 9
  let rev := d.revAt a
  let z := d.fget (aWHEEL w 0) 0 9
  if gap then
    let here := if cyc then rev else 0
    let revs := if x.teeth = some (d.wheelTeeth w (d.refTooth w (if cyc then 1 - rev else 0)) (d.refTooth w here)) then x.revs + 1 else 0
    let d := d.setAx a { x with teeth := some 1, revs := revs, lastInt := i, cross := some d.edge }
    if d.fget (aPOS a 0x24) 8 2 + 1 ≤ revs ∧ d.wheelOk w then
      let j := d.refTooth w here + (if cyc then 0 else rev * z)
      let ph := (d.fget (aWHEEL w 1) 0 17 + j * (36000 / z)) % d.axZ a
      let miss := ((List.range z).find? fun k => d.toothPresent w ((j + d.wheelLen w - 1 - k) % d.wheelLen w)).getD 0
      let d := d.setAx a { d.ax a with tpos := j, per := i, span := (miss + 1) * (36000 / z), acc := 0, debt := 0 }
      d.lockAxis a (nextPhase (d.ax a).c (d.axZ a) ph)
    else d
  else d.setAx a { x with teeth := x.teeth.map (· + 1), lastInt := i, cross := some d.edge }

/-- A leading edge in LOCKED (R171, R172). -/
def toothLocked (d : Device) (a i : Nat) (gap : Bool) : Device :=
  let x := d.ax a
  let w := d.fget (aPOS a 0) 8 4
  let (j, k) := d.nextTooth a
  let p := 36000 / d.fget (aWHEEL w 0) 0 9
  if gap ≠ decide (1 < k) then (d.setAx a { x with cross := some d.edge }).loseAxis a
  else if 75 * i < 128 * (k * p) then ((d.setAx a { x with cross := some d.edge }).event (aPOS a 0x30) 5).loseAxis a
  else
    let c := (d.toothNext a).getD x.c
    (d.setAx a { x with c := c, tpos := j, per := i, span := k * p, acc := 0, lastInt := i, cross := some d.edge }).dueAll

/-- A leading edge of a tooth at the present edge (R171). -/
def tooth (d : Device) (a : Nat) : Device :=
  let c := d.ch (d.fget (aPOS a 4) 0 10)
  let pol := d.flag (aWHEEL (d.fget (aPOS a 0) 8 4) 0) 18
  if d.axSrc a = 3 ∧ d.axMeas a ∧ (d.axState a = 1 ∨ d.axState a = 2) ∧ c.pad ≠ pol ∧ c.prevPad = pol then
    match (d.ax a).cross with
    | none => d.setAx a { d.ax a with cross := some d.edge, teeth := none }
    | some q =>
      let i := d.edge - q
      if i = 0 then d
      else
        let gap := decide (0 < (d.ax a).lastInt ∧ d.fget (aPOS a 0x24) 0 6 * (d.ax a).lastInt < 16 * i)
        let d := d.wr (aPOS a 0x34) (BitVec.ofNat 32 i)
        if d.axState a = 1 then d.toothSeek a i gap else d.toothLocked a i gap
  else d

/-- No tooth for STALL ms (R172). -/
def stall (d : Device) (a : Nat) : Device :=
  if d.axSrc a = 3 ∧ d.axMeas a ∧ d.axState a = 2 ∧ d.fget (aPOS a 0x24) 16 10 * 20480 ≤ d.edge - (d.ax a).cross.getD d.edge then
    d.loseAxis a else d

/-! Encoders (R173). -/

/-- The accepted levels after the filter. -/
def accepted (d : Device) (a : Nat) : Bool × Bool :=
  let x := d.ax a
  let n := d.fget (aPOS a 0x28) 0 4 + 1
  (if n ≤ x.ageA then x.candA else x.encA, if n ≤ x.ageB then x.candB else x.encB)

/-- An accepted change of A or B counts, one of both is a quadrature error (R173). -/
def encStep (d : Device) (a : Nat) : Device :=
  let x := d.ax a
  let (la, lb) := d.accepted a
  if d.axSrc a ≠ 4 ∨ d.axState a ≠ 2 ∨ (la = x.encA ∧ lb = x.encB) then d
  else if la ≠ x.encA ∧ lb ≠ x.encB then
    let d := d.setAx a { x with encA := la, encB := lb }
    let d := (d.bump (aPOS a 0x38) 0 16).event (aPOS a 0x30) 3
    d.report { entry .d 0x08 a 0x25 0 with pos := x.c, axis := a }
  else
    let up := decide ((quarter la lb + 4 - quarter x.encA x.encB) % 4 = 1)
    let c := if up ≠ d.flag (aPOS a 0x28) 4 then (x.c + 1) % posMod else (x.c + posMod - 1) % posMod
    (d.setAx a { x with encA := la, encB := lb, c := c }).dueAll

/-- The first rising edge of the index pin after RUN (R173). -/
def encIndex (d : Device) (a : Nat) : Device :=
  let c := d.ch (d.fget (aPOS a 8) 0 10)
  if d.axSrc a = 4 ∧ d.axState a = 2 ∧ d.flag (aPOS a 0x28) 5 ∧ !(d.ax a).indexed ∧ c.pad ∧ !c.prevPad then
    ((d.setAx a { d.ax a with indexed := true }).jumpTo a 0).dueAll
  else d

/-! Compare units (R180 to R184). -/

/-- A refused claim, release or write of a compare unit (R182, R183). -/
def refuseCmp (d : Device) (a addr : Nat) : Device := (d.event (aPOS a 0x30) 9).noticeRefused addr

/-- The owner code that a party has: HOST, FIRMWARE, or FABRIC (R182). -/
def ownerOf (p : Party) : Nat :=
  match p with
  | .host => 1
  | .firmware => 5
  | .shell _ => 3

/-- The party is the owner of unit `k` (R182). -/
def ownsCmp (d : Device) (a k : Nat) (p : Party) : Bool :=
  decide (d.cmpOwner a k = ownerOf p) &&
  (match p with
   | .shell f => decide (d.fget (aCMP a k 8) 25 6 = f)
   | _ => true)

/-- The owners that a party may give a FREE unit (R182). -/
def mayGive (p : Party) (owner fret : Nat) : Bool :=
  match p with
  | .host => [1, 2, 4].contains owner
  | .firmware => [5, 2, 4].contains owner
  | .shell f => decide (owner = 3 ∧ fret = f)

/-- A claim of a compare unit (R182). -/
def claimCmp (d : Device) (a : Nat) (p : Party) (raw : Word) : Device :=
  let c := aPOS a 0x3C
  let (v, hits) := d.cook c raw
  let k := bitsOf v 0 6
  let owner := bitsOf raw 8 3
  let o := bitsOf v 8 3
  if owner = 0 ∨ d.cmpOwner a k ≠ 0 ∨ mayGive p o (bitsOf v 16 6) = false then d.refuseCmp a c
  else
    let d := d.reportHits (srcOf p) c c 0 0xFFFF hits
    (d.fset (aCMP a k 8) 22 3 o).fset (aCMP a k 8) 25 6 (if o = 3 then bitsOf v 16 6 else 0)

/-- A release of a compare unit (R182). -/
def releaseCmp (d : Device) (a : Nat) (p : Party) (raw : Word) : Device :=
  let k := bitsOf raw 0 6
  let own := d.cmpOwner a k
  let any := match p with
    | .shell _ => false
    | _ => decide (own = 2 ∨ own = 4)
  if d.ownsCmp a k p || any then (d.fset (aCMP a k 8) 22 3 0).fset (aCMP a k 8) 25 6 0 else d.refuseCmp a (aPOS a 0x3C)

/-- A write of CMP_VALHI (R182, R184): VALUE applies with the word last written to CMP_VALLO, from the next edge on. -/
def valhiWrite (d : Device) (a k : Nat) (p : Party) (raw : Word) : Device :=
  if d.ownsCmp a k p then
    let d := d.putCooked p (aCMP a k 4) raw
    let u := d.cmpU a k
    (d.setCmpU a k { u with value := d.cmpWritten a k, from_ := d.nextEdge, before := d.cmpNow a k, waits := false }).cmpClamp a k (srcOf p) (aCMP a k 0)
  else d.refuseCmp a (aCMP a k 4)

/-- A write of CMP_CFG (R182, R184): VALUE is checked when MOD becomes one. -/
def cmpCfgWrite (d : Device) (a k : Nat) (p : Party) (raw : Word) : Device :=
  if d.ownsCmp a k p then
    let was := d.flag (aCMP a k 8) 16
    let d := d.putCooked p (aCMP a k 8) raw
    if !was && d.flag (aCMP a k 8) 16 then d.cmpClamp a k (srcOf p) (aCMP a k 0) else d
  else d.refuseCmp a (aCMP a k 8)

/-- A unit fires (R180, R181): its output, its status, its owner's event. -/
def fireCmp (d : Device) (a k : Nat) (jumped : Bool) : Device :=
  let out := d.cmpOut a k
  let u := { d.cmpU a k with firedAt := some d.edge }
  let d := d.setCmpU a k u
  let d := match d.fget (aCMP a k 8) 19 3 with
    | 1 => (d.fsetB (aCMP a k 0xC) 0 true).setCmpU a k { u with pulseEnd := some (d.edge + d.fget (aCMP a k 8) 0 16) }
    | 2 => d.fsetB (aCMP a k 0xC) 0 true
    | 3 => d.fsetB (aCMP a k 0xC) 0 false
    | 4 => d.fsetB (aCMP a k 0xC) 0 (!out)
    | _ => d
  let d := d.fsetB (aCMP a k 0xC) 1 true
  let d := if jumped then d.fsetB (aCMP a k 0xC) 2 true else d
  match d.cmpOwner a k with
  | 2 => d.triggerLists 2 fun g => decide (g % 256 = 64 * a + k)
  | 3 => d.fretCmpEvent (d.fget (aCMP a k 8) 25 6) a k
  | 4 => d.sendFired a k
  | _ => d

/-- A unit's value was crossed or jumped past at the present edge (R180). -/
def compare (d : Device) (a k : Nat) : Device :=
  let t := d.cmpTest a k
  if t.1 && decide ((d.cmpU a k).firedAt ≠ some d.edge) then d.fireCmp a k t.2 else d

/-- The end of a pulse (R181). -/
def pulseOver (d : Device) (a k : Nat) : Device :=
  match (d.cmpU a k).pulseEnd with
  | some e => if e ≤ d.edge then (d.setCmpU a k { d.cmpU a k with pulseEnd := none }).fsetB (aCMP a k 0xC) 0 false else d
  | none => d

end Device

/-- POS_RUN_START (R166): a write of POS_CTL whose RUN bit is one. -/
def execPosRunStart (a : Fin 4) (w : Wr) (s : State) : Host.Outcome State Fault Refusal :=
  .next (s.onDev fun d => d.write w (aPOS a 0) fun d => d.posControl a w.by_ (setBits w.data 31 1 1))

/-- POS_RUN_STOP (R166): a write of POS_CTL whose RUN bit is zero. -/
def execPosRunStop (a : Fin 4) (w : Wr) (s : State) : Host.Outcome State Fault Refusal :=
  .next (s.onDev fun d => d.write w (aPOS a 0) fun d => d.posControl a w.by_ (setBits w.data 31 1 0))

/-- COUNTER_LOAD (R165). -/
def execCounterLoad (a : Fin 4) (w : Wr) (s : State) : Host.Outcome State Fault Refusal :=
  .next (s.onDev fun d => d.write w (aPOS a 0x10) fun d => d.loadCounter a w.data)

/-- POS_CNTLO_READ (R183). -/
def execPosCntloRead (a : Fin 4) (s : State) : Host.Outcome State Fault Refusal := .next (s.onDev fun d => d.readAt (aPOS a 0xC) fun d => d.readCntlo a)

/-- POS_RATE_WRITE (R170). -/
def execPosRateWrite (a : Fin 4) (w : Wr) (s : State) : Host.Outcome State Fault Refusal :=
  .next (s.onDev fun d => d.write w (aPOS a 0x14) fun d => d.rateWrite a 0x14 w.by_ w.data)

/-- POS_SLEW_WRITE (R170). -/
def execPosSlewWrite (a : Fin 4) (w : Wr) (s : State) : Host.Outcome State Fault Refusal :=
  .next (s.onDev fun d => d.write w (aPOS a 0x18) fun d => d.rateWrite a 0x18 w.by_ w.data)

/-- RATE_SLEW_STEP (R170). -/
def execRateSlewStep (a : Fin 4) (s : State) : Host.Outcome State Fault Refusal := .next (s.onDev fun d => d.slewStep a)

/-- LINE_CROSSING (R168). A loss may end contexts and their captures (R175). -/
def execLineCrossing (a : Fin 4) (s : State) : Host.Outcome State Fault Refusal := .next (s.onDdr fun d => d.lineCross a)

/-- LINE_CROSSING_TIMEOUT (R169). -/
def execLineCrossingTimeout (a : Fin 4) (s : State) : Host.Outcome State Fault Refusal := .next (s.onDdr fun d => d.lineTimeout a)

/-- HOLDOVER_EXPIRY (R169). -/
def execHoldoverExpiry (a : Fin 4) (s : State) : Host.Outcome State Fault Refusal := .next (s.onDdr fun d => d.holdoverEnd a)

/-- TOOTH_EDGE (R171). -/
def execToothEdge (a : Fin 4) (s : State) : Host.Outcome State Fault Refusal := .next (s.onDdr fun d => d.tooth a)

/-- ANGLE_STALL (R172). -/
def execAngleStall (a : Fin 4) (s : State) : Host.Outcome State Fault Refusal := .next (s.onDdr fun d => d.stall a)

/-- ENCODER_SAMPLE (R173). -/
def execEncoderSample (a : Fin 4) (s : State) : Host.Outcome State Fault Refusal := .next (s.onDdr fun d => d.encStep a)

/-- ENCODER_INDEX (R173). -/
def execEncoderIndex (a : Fin 4) (s : State) : Host.Outcome State Fault Refusal := .next (s.onDev fun d => d.encIndex a)

/-- COMPARE_FIRE (R180). -/
def execCompareFire (a : Fin 4) (k : Fin 64) (s : State) : Host.Outcome State Fault Refusal := .next (s.onDev fun d => d.compare a k)

/-- PULSE_END (R181). -/
def execPulseEnd (a : Fin 4) (k : Fin 64) (s : State) : Host.Outcome State Fault Refusal := .next (s.onDev fun d => d.pulseOver a k)

/-- CMP_CLAIM (R182): a write of POS_CMPCLAIM whose REL bit is zero. -/
def execCmpClaim (a : Fin 4) (w : Wr) (s : State) : Host.Outcome State Fault Refusal :=
  .next (s.onDev fun d => d.write w (aPOS a 0x3C) fun d => d.claimCmp a w.by_ (setBits w.data 31 1 0))

/-- CMP_RELEASE (R182): a write of POS_CMPCLAIM whose REL bit is one. -/
def execCmpRelease (a : Fin 4) (w : Wr) (s : State) : Host.Outcome State Fault Refusal :=
  .next (s.onDev fun d => d.write w (aPOS a 0x3C) fun d => d.releaseCmp a w.by_ w.data)

/-- CMP_VALHI_WRITE (R184). -/
def execCmpValhiWrite (a : Fin 4) (k : Fin 64) (w : Wr) (s : State) : Host.Outcome State Fault Refusal :=
  .next (s.onDev fun d => d.write w (aCMP a k 4) fun d => d.valhiWrite a k w.by_ w.data)

/-- CMP_CFG_WRITE (R184). -/
def execCmpCfgWrite (a : Fin 4) (k : Fin 64) (w : Wr) (s : State) : Host.Outcome State Fault Refusal :=
  .next (s.onDev fun d => d.write w (aCMP a k 8) fun d => d.cmpCfgWrite a k w.by_ w.data)

end Sys2Proof.Machine
end

