-- ==== Sys2Proof/Machine/Channel.lean ====
section
/-!
DEFINITION. The channel commands: settings (R40, R46, R55, R58), bridges (R61), clamps (R55 to R57), the DAC queue (R48 to
R52), the governor's budget (R28, R75, R83).
-/

namespace Sys2Proof.Machine

namespace Device

/-- A class D event of a cell (R57, R352). -/
def cellCondition (d : Device) (n code : Nat) : Device := d.report { entry .d 0x02 n code 0 with pos := (d.ax 0).c, axis := 0 }

/-- The bridge of channel `n` has ended with requests or a switch of sources waiting: they take effect in the order in which they came, as
one change at the present edge (R61, R64). -/
def endBridge (d : Device) (n : Nat) : Device :=
  if !d.queued n ∨ d.edge < (d.ch n).bridgeEnd then d
  else
    let c := d.ch n
    (d.setCh n { c with waiting := [], pinWait := false, pinOld := none,
                        holdUntil := if c.pinWait then d.edge + 1 else c.holdUntil }).applyReqs n d.edge c.waiting 0xFFFF

/-- The clamp of channel `n` engages (R55): COMPLIANCE, its event, a class D condition (R57). -/
def clampOn (d : Device) (n : Nat) : Device :=
  if clampKind (d.rd (aCH n 0)) = 0 ∨ (d.ch n).clampSince.isSome then d
  else
    let d := (d.setCh n { d.ch n with clampSince := some d.edge, clampHit := true }).fsetB (aCH n 0x38) 8 true
    (d.event (aCH n 0x3C) 0).cellCondition n 0x20

/-- The clamp of channel `n` releases (R55). -/
def clampOff (d : Device) (n : Nat) : Device :=
  (d.setCh n { d.ch n with clampSince := none }).fsetB (aCH n 0x38) 8 false

/-- The cell folds back once its clamp has held for FOLD_T with FOLD_EN one (R56): FOLDED, its event, a class D condition. FOLD_T
is in microseconds (R82). What the cell then forces is `Device.target`. -/
def foldBack (d : Device) (n : Nat) : Device :=
  match (d.ch n).clampSince with
  | none => d
  | some e =>
    if d.flag (aCH n 0x10) 31 && decide (2048 * d.fget (aCH n 0x10) 0 14 ≤ 100 * (d.edge - e)) && !d.flag (aCH n 0x38) 9 then
      ((d.fsetB (aCH n 0x38) 9 true).event (aCH n 0x3C) 1).cellCondition n 0x21
    else d

/-- A write of CH_QWR (R48, R51, R71, R72). -/
def queueWrite (d : Device) (n : Nat) (p : Party) (raw : Word) : Device :=
  let c := d.ch n
  let qm := d.fget (aCH n 0x18) 0 2
  let (v, hits) := d.cook (aCH n 0x1C) raw
  let code := bitsOf v 0 18
  if d.capo = 2 ∨ (d.capo = 1 ∧ qm = 0) then d.refuse (aCH n 0x1C)
  else if qm = 0 then
    if 4096 ≤ c.fill then d.event (aCH n 0x20) 31
    else
      let d := d.reportHits (srcOf p) (aCH n 0x1C) (aCH n 0x1C) 0 0xFFFF hits
      d.setCh n { d.ch n with codes := tabSet (fun _ => 0) ((c.rd + c.fill) % 4096) code c.codes, fill := c.fill + 1 }
  else
    let d := d.reportHits (srcOf p) (aCH n 0x1C) (aCH n 0x1C) 0 0xFFFF hits
    d.setCh n { d.ch n with codes := tabSet (fun _ => 0) (c.wr % 4096) code c.codes, wr := (c.wr + 1) % 4096 }

/-- A write of CH_QCTL (R48, R49, R52): refused under SAFE and HOLD (R71, R72), and while the queue runs when it would change
QMODE or QLEN (R12); it resets the write index and starts or stops the queue by its RUN bit. DESIGN CHOICE (assumption 69): a refusal
for QMODE or QLEN takes the whole word, RUN included. -/
def queueControl (d : Device) (n : Nat) (p : Party) (raw : Word) : Device :=
  let a := aCH n 0x18
  if d.capo ≠ 0 then d.refuse a
  else if d.flag a 31 && d.reachesRws a raw then d.refuse a
  else
    let run := d.fget a 31 1
    let d := (d.putCooked p a raw).fset a 31 1 run
    let d := d.setCh n { d.ch n with wr := 0 }
    d.runQueue n d.nextEdge (bitOf raw 31)

/-- DIV has expired on the queue of channel `n`: an update edge plays the next code, or ends a playback that RUN has stopped (R49, R50,
R52). Away from the grid nothing happens, and under HOLD the queue does not advance (R72). -/
def dacUpdate (d : Device) (n : Nat) : Device :=
  if d.updates n && decide (d.capo = 0) then
    (if d.flag (aCH n 0x18) 31 then d.playOne n else d.setCh n (d.ch n).halt)
  else d

/-- A write of DEV_GOVBUDGET: the ceiling follows at once, whatever is committed (R28, R75, R83). -/
def budgetWrite (d : Device) (p : Party) (raw : Word) : Device := d.putCooked p 0x100 raw

end Device

/-- CH_MODE_WRITE (R40, R63, R71, R72, R77). -/
def execChModeWrite (n : Fin 1024) (w : Wr) (s : State) : Host.Outcome State Fault Refusal :=
  .next (s.onDev fun d => d.write w (aCH n 0) fun d => d.writeReq n 0 w.by_ w.data)

/-- CH_RANGE_WRITE (R58 to R62). -/
def execChRangeWrite (n : Fin 1024) (w : Wr) (s : State) : Host.Outcome State Fault Refusal :=
  .next (s.onDev fun d => d.write w (aCH n 4) fun d => d.writeReq n 4 w.by_ w.data)

/-- CH_FORCE_WRITE (R46). -/
def execChForceWrite (n : Fin 1024) (w : Wr) (s : State) : Host.Outcome State Fault Refusal :=
  .next (s.onDev fun d => d.write w (aCH n 8) fun d => d.writeReq n 8 w.by_ w.data)

/-- CH_CLAMP_WRITE (R55). -/
def execChClampWrite (n : Fin 1024) (w : Wr) (s : State) : Host.Outcome State Fault Refusal :=
  .next (s.onDev fun d => d.write w (aCH n 0xC) fun d => d.writeReq n 0xC w.by_ w.data)

/-- BRIDGE_END (R61). -/
def execBridgeEnd (n : Fin 1024) (s : State) : Host.Outcome State Fault Refusal := .next (s.onDev fun d => d.endBridge n)

/-- CLAMP_ENGAGE (R55). -/
def execClampEngage (n : Fin 1024) (s : State) : Host.Outcome State Fault Refusal := .next (s.onDev fun d => d.clampOn n)

/-- CLAMP_RELEASE (R55). -/
def execClampRelease (n : Fin 1024) (s : State) : Host.Outcome State Fault Refusal := .next (s.onDev fun d => d.clampOff n)

/-- FOLD_BACK (R56). -/
def execFoldBack (n : Fin 1024) (s : State) : Host.Outcome State Fault Refusal := .next (s.onDev fun d => d.foldBack n)

/-- CH_QWR_WRITE (R48, R51). -/
def execChQwrWrite (n : Fin 1024) (w : Wr) (s : State) : Host.Outcome State Fault Refusal :=
  .next (s.onDev fun d => d.write w (aCH n 0x1C) fun d => d.queueWrite n w.by_ w.data)

/-- QUEUE_RUN_START (R49): a write of CH_QCTL whose RUN bit is one. -/
def execQueueRunStart (n : Fin 1024) (w : Wr) (s : State) : Host.Outcome State Fault Refusal :=
  .next (s.onDev fun d => d.write w (aCH n 0x18) fun d => d.queueControl n w.by_ (setBits w.data 31 1 1))

/-- QUEUE_RUN_STOP (R52): a write of CH_QCTL whose RUN bit is zero. -/
def execQueueRunStop (n : Fin 1024) (w : Wr) (s : State) : Host.Outcome State Fault Refusal :=
  .next (s.onDev fun d => d.write w (aCH n 0x18) fun d => d.queueControl n w.by_ (setBits w.data 31 1 0))

/-- DAC_UPDATE (R49, R50). -/
def execDacUpdate (n : Fin 1024) (s : State) : Host.Outcome State Fault Refusal := .next (s.onDev fun d => d.dacUpdate n)

/-- GOVBUDGET_WRITE (R83). -/
def execGovbudgetWrite (w : Wr) (s : State) : Host.Outcome State Fault Refusal :=
  .next (s.onDev fun d => d.write w 0x100 fun d => d.budgetWrite w.by_ w.data)

end Sys2Proof.Machine
end

