-- ==== Sys2Proof/Machine/BusOps.lean ====
section
/-!
DEFINITION. Operations on bus engines: transaction entries (R229 to R231), frames and transport segments (R217, R220, R222), the
course of a transaction (R233, R236), slot records (R232, R235 to R237).
-/

namespace Sys2Proof.Machine

/-- Ts in one millisecond (R5). -/
def msTs : Nat := 20480

/-- A number of microseconds in Ts, rounded up. -/
def usTs (n : Nat) : Nat := ceilDiv (2048 * n) 100

/-- The smallest payload size of a frame that holds `n` bytes (R217). -/
def canSize (n : Nat) : Nat := (canSizes.find? fun k => decide (n ≤ k)).getD 64

/-- The n bytes of a number, most significant first. -/
def beBytes (n x : Nat) : List Byte := (leBytes n x).reverse

/-- The number that big-endian bytes spell. -/
def beNat (bs : List Byte) : Nat := leNat bs.reverse

/-- The index of the first position of `n` whose test fails, counted from `i`. -/
def firstBad (p : Nat → Bool) : Nat → Nat → Option Nat
  | 0, _ => none
  | n + 1, i => if p i then firstBad p n (i + 1) else some i

namespace Device

/-- The k-th free word from here (assumption 2). -/
def freeAt (d : Device) (k : Nat) : Nat := (Config.freeWord (d.freeCtr + k)).toNat

/-- Move past `n` free words. -/
def freeSkip (d : Device) (n : Nat) : Device := { d with freeCtr := d.freeCtr + n }

/-- A field of transaction entry `x` (R230). -/
def te (d : Device) (x w lo n : Nat) : Nat := d.fget (aTE x w) lo n

/-- OP of entry `x` (R231). -/
def teOp (d : Device) (x : Nat) : Nat := d.te x 0 8 3

/-- A byte address in the bus data area (R229): offsets count 8-byte units. -/
def areaAt (d : Device) (ofs : Nat) : Nat := (d.rd (aBUS 0x10)).toNat * 16 + 8 * ofs

/-- Request bytes of entry `x`, at most as many as its operation takes (R229, R231). -/
def reqBytes (d : Device) (m : Mem) (x : Nat) : List Byte :=
  m.ddrRead (d.areaAt (d.te x 4 0 24)) (min (d.te x 5 0 16) (reqRange (d.rd (aTE x 0))).2)

/-- BUS_ECFG.EN. -/
def engOn (d : Device) (e : Nat) : Bool := d.flag (aENG e 0) 0

/-- Engine `e` is enabled: its EN is one, and step 12 of the start-up has passed (R384). -/
def engLive (d : Device) (e : Nat) : Bool := d.engOn e && d.flag 0x20000 10

/-- BUS_ECFG.ROLE. -/
def engRole (d : Device) (e : Nat) : Nat := d.fget (aENG e 0) 1 2

/-- The engine's kind and role fit the operation (R231). -/
def opFits (d : Device) (e op : Nat) : Bool :=
  match op with
  | 4 => decide (engKind e = 1)
  | 5 => decide (engKind e = 1) && decide (d.engRole e = 0)
  | 6 => decide (engKind e = 2) && decide (d.engRole e = 0)
  | 7 => decide (engKind e = 2) && decide (d.engRole e = 1)
  | _ => decide (engKind e = 0)

/-- The operation transmits CAN frames: a LISTEN engine cannot perform it (R236). -/
def opSends (op : Nat) : Bool := decide (op = 0 ∨ op = 2 ∨ op = 3)

/-- The transaction under way, or the next to start, on engine `e`. -/
def headTx (d : Device) (e : Nat) : Option Tx := (d.eng e).txs.head?

/-- Replace the first transaction of engine `e`. -/
def setHead (d : Device) (e : Nat) (t : Tx) : Device := d.setEng e { d.eng e with txs := t :: (d.eng e).txs.tail }

/-- A condition that engine `e` sees on its wire: class D (R239, R337). DETAIL is the outcome, or 0. -/
def wireEvent (d : Device) (e detail : Nat) : Device := d.report (entry .d 0x06 e 0x23 detail)

/-- The outcome of the first transaction of engine `e` is decided at the present edge (R236); from TIMEOUT to TPERR it is a condition on
the wire (R239). -/
def decide_ (d : Device) (e : Nat) (t : Tx) (outcome : Nat) : Device :=
  let d := d.setHead e { t with phase := .decided, outcome := outcome, decidedAt := d.edge }
  if 1 ≤ outcome ∧ outcome ≤ 8 then d.wireEvent e outcome else d

/-- Engines whose transaction under way writes BIT marks (R247). -/
def bitMarkers (d : Device) : Nat :=
  (d.engines.filter fun g => match g.2.txs.head? with
    | some t => t.bitMarks && decide (t.phase ≠ .decided)
    | none => false).length

/-- A transaction begins at the present edge; a ninth one with BIT marks is reduced to FRAME (R247). -/
def beginTx (d : Device) (e : Nat) (t : Tx) : Device × Tx :=
  let wants := decide (d.te t.entry 0 24 2 = 2) && t.exec.isSome
  let room := decide (d.bitMarkers < 8)
  let t := { t with begun := some d.edge, bitMarks := wants && room }
  let d := if wants && !room then d.event (aBUS 0) 2 else d
  (d.setHead e t, t)

/-- Engine `e` leaves HALTED (R244): a CAN engine transmits after 11 recessive bits. -/
def unhaltEng (d : Device) (e : Nat) : Device :=
  let g := d.eng e
  d.setEng e { g with halted := false,
                      idleAt := if engKind e = 0 ∧ g.halted then max g.idleAt (d.nowU + 11 * bitU (d.fget (aENG e 8) 0 24)) else g.idleAt }

/-- A command for the engines: they stand still while no READY clock runs (R212). -/
def awake (d : Device) (k : Device → Device) : Device := if d.flag 0x10000 14 then d else k d

/-- Start of operation `op` on engine `e` at the present edge (R233): the first transaction waits, names the operation, and its
gap has passed. What R231, R219 and R236 decide at once is decided; else `k` runs it. Under HOLD the engine is held (R243). -/
def startOp (d : Device) (e op : Nat) (k : Device → Tx → Device) : Device :=
  match d.headTx e with
  | none => d
  | some t =>
    if t.phase ≠ .waiting ∨ d.teOp t.entry ≠ op ∨ d.edge < t.ready + usTs (d.te t.entry 11 16 16) ∨ d.capo = 1 ∨ d.flag 0x10000 14 then d
    else if !d.opFits e op then d.decide_ e t 12
    else if (d.eng e).busOff then d.decide_ e t 7
    else if !d.engLive e || (d.eng e).halted || (opSends op && decide (d.engRole e ≠ 0)) then d.decide_ e t 11
    else
      let (d, t) := d.beginTx e t
      k d t

/-! Frames. -/

/-- A frame or message received is counted (R249). -/
def countRx (d : Device) (e : Nat) : Device := d.bump (aENG e 0x28) 16 16

/-- Fill bytes up to a frame's size: PADB, or free bytes where PAD is zero and the size forces them (R217, R220). -/
def fillBytes (d : Device) (x n : Nat) : List Byte :=
  if d.te x 0 21 1 = 1 then List.replicate n (BitVec.ofNat 8 (d.te x 3 16 8))
  else (List.range n).map fun i => Config.freeByte (d.freeCtr + i)

/-- A CAN frame of entry `x` on engine `e` with the given payload: a payload that no frame size fits is filled; with `full` to 8 bytes at least
when PAD is one (R217, R220). ESI is recessive in a frame of an error-passive engine (PRESUMED, log entry 10). -/
def canFrame (d : Device) (e x : Nat) (bs : List Byte) (full : Bool) : CanFrame :=
  let n := canSize bs.length
  let n := if full && decide (d.te x 0 21 1 = 1) then max 8 n else n
  let fd := decide (d.te x 0 19 1 = 1)
  { ext := decide (d.te x 0 18 1 = 1), fd := fd, rtr := false, brs := fd && decide (d.te x 0 20 1 = 1),
    esi := fd && decide (128 ≤ (d.eng e).tec ∨ 128 ≤ (d.eng e).rec_),
    ident := BitVec.ofNat 29 (d.te x 1 0 29), bytes := bs ++ d.fillBytes x (n - bs.length) }

/-- Bytes per frame of an ISOTP entry (R220). -/
def isoSize (d : Device) (x : Nat) : Nat :=
  if d.te x 0 19 1 = 0 then 8 else ([8, 12, 16, 20, 24, 32, 48, 64][d.te x 3 24 3]?).getD 8

/-- The address byte that extended and mixed addressing put before the PCI (R220). -/
def isoAddr (d : Device) (x : Nat) : List Byte := if 2 ≤ d.te x 0 16 2 then [BitVec.ofNat 8 (d.te x 3 0 8)] else []

/-- The first frame's payload of an ISOTP request, and the request bytes that it carries (R220): a single frame where it fits, else
a first frame, with the escape above 4,095 bytes. -/
def isoFirst (d : Device) (x : Nat) (req : List Byte) : List Byte × Nat :=
  let a := d.isoAddr x
  let size := d.isoSize x
  let n := req.length
  if n + 1 + a.length ≤ 8 then (a ++ [BitVec.ofNat 8 n] ++ req, n)
  else if 8 < size ∧ n + 2 + a.length ≤ size then (a ++ [0, BitVec.ofNat 8 n] ++ req, n)
  else if n ≤ 4095 then
    let k := size - 2 - a.length
    (a ++ [BitVec.ofNat 8 (0x10 + n / 256), BitVec.ofNat 8 n] ++ req.take k, k)
  else
    let k := size - 6 - a.length
    (a ++ [0x10, 0] ++ beBytes 4 n ++ req.take k, k)

/-- Consecutive frames' payloads from request byte `sent` on: at most `n` of them (R220). -/
def isoCfs (d : Device) (x : Nat) (req : List Byte) : Nat → Nat → Nat → List (List Byte)
  | 0, _, _ => []
  | n + 1, sent, sn =>
    if req.length ≤ sent then []
    else
      let a := d.isoAddr x
      let k := d.isoSize x - 1 - a.length
      (a ++ [BitVec.ofNat 8 (0x20 + sn % 16)] ++ (req.drop sent).take k) :: d.isoCfs x req n (sent + k) (sn + 1)

/-- The payload of a flow control CTS of entry `x` (R220). -/
def isoFc (d : Device) (x : Nat) : List Byte := d.isoAddr x ++ [0x30, BitVec.ofNat 8 (d.te x 9 8 8), BitVec.ofNat 8 (d.te x 9 16 8)]

/-- The transaction waits for its response from the present edge on (R231). -/
def awaitRsp (d : Device) (t : Tx) : Tx :=
  { t with phase := .listening, reqEnd := d.edge, deadline := d.edge + msTs * d.te t.entry 10 0 16 }

/-- The response is complete (R221, R236): response pending is discarded and waited out; else NEGRSP, TRUNC or OK. `req0` is the
request's first byte. -/
def rspDone (d : Device) (e : Nat) (t : Tx) (req0 : Option Byte) : Device :=
  let x := t.entry
  let neg := decide (t.got.head? = some 0x7F) && decide (t.got[1]? = req0) && req0.isSome
  if neg && decide (t.got[2]? = some 0x78) && decide (t.got.length = 3) && decide (d.te x 10 16 16 ≠ 0) then
    d.setHead e { t with got := [], phase := .listening, rxLen := 0, deadline := d.edge + msTs * d.te x 10 16 16 }
  else if neg then d.decide_ e t 2
  else d.decide_ e t (if d.te x 8 0 16 < t.got.length then 9 else 0)

/-! Records (R232, R235 to R237). -/

/-- Mismatching bytes of a response against the entry's expected bytes and masks, and the index of the first (R232, R235). -/
def matchOf (d : Device) (m : Mem) (x : Nat) (rsp : List Byte) : Nat × Option Nat :=
  let n := d.te x 5 16 16
  let a := d.areaAt (d.te x 6 0 24)
  let want := m.ddrRead a n
  let mask := m.ddrRead (a + n) n
  let ok (i : Nat) : Bool := match rsp[i]?, want[i]?, mask[i]? with
    | some r, some w, some k => decide ((r ^^^ w) &&& k = 0)
    | _, _, _ => false
  (((List.range n).filter fun i => !ok i).length, firstBad ok n 0)

/-- EXTRACT of a response (R232). Where the response ends before the bytes that it takes the spec states no value: it is a free
value (assumption 2). -/
def extractOf (d : Device) (x : Nat) (rsp : List Byte) : Int :=
  let n := d.te x 9 0 4
  let bs := (rsp.drop (d.te x 8 16 16)).take n
  if bs.length < n then toSigned 64 (d.freeAt 2 + 2 ^ 32 * d.freeAt 3) else
  let bits := if d.teOp x = 6 then 4 else 8
  let v := bs.foldl (fun v b => v * 2 ^ bits + b.toNat % 2 ^ bits) 0
  if d.te x 0 23 1 = 1 then toSigned (bits * n) v else v

/-- Ticks of an axis between two edges, the second at or after the first (R232). -/
def ticksBetween (d : Device) (a e1 e2 : Nat) : Int := toSigned 48 (fwd (d.posAt a e1).1 (d.posAt a e2).1)

/-- VALUE of a decided transaction (R232, R237). -/
def busValue (d : Device) (m : Mem) (a : Nat) (t : Tx) : Int :=
  let x := t.entry
  let good := decide (t.outcome = 0 ∨ t.outcome = 2 ∨ t.outcome = 9)
  let stored := t.got.take (d.te x 8 0 16)
  match d.te x 0 12 2 with
  | 0 => if good then (d.matchOf m x stored).1 else d.te x 5 16 16 + 1
  | 1 => if good then d.extractOf x stored else -(2 ^ 63)
  | 2 => if good then (if d.teOp x = 0 ∨ d.teOp x = 7 then d.ticksBetween a (t.first.getD t.reqEnd) t.reqEnd else d.ticksBetween a t.reqEnd t.rspStart)
         else 2 ^ 63 - 1
  | _ => t.frames

/-- AUX of a decided transaction in the BUS form (R235). -/
def busAux (d : Device) (m : Mem) (t : Tx) : Nat :=
  let idx := if d.te t.entry 0 12 2 = 0 then
      (match (d.matchOf m t.entry (t.got.take (d.te t.entry 8 0 16))).2 with | some i => min i 4094 | none => 4095) else 4095
  2 ^ 31 + t.outcome % 64 * 2 ^ 24 + idx * 2 ^ 12 + min t.got.length 4095

/-- The record of a bus slot (R235 to R237). Where no frame of the transaction was on the wire the spec gives no POS: it is a
free value (assumption 2). -/
def busRecord (d : Device) (m : Mem) (x : Exec) (s : Slot) (t : Tx) : Device × Slot :=
  let a := ctxAxis x.words
  let (pos, stale) := match t.first with
    | none => (d.freeAt 0 + 2 ^ 32 * (d.freeAt 1 % 2 ^ 16), false)
    | some e => d.posAt a e
  let v := d.busValue m a t
  let mism := (t.outcome ≠ 0 ∧ t.outcome ≠ 1 ∧ t.outcome ≠ 10) ∨ (d.te t.entry 0 12 2 = 0 ∧ 0 < v)
  let flags := (if t.outcome = 1 ∨ t.outcome = 10 then 0x2000 else 0) + (if mism then 0x4000 else 0) + (if stale then 0x800 else 0)
  (d.freeSkip 4, slotRecord x { s with endEdge := some d.edge } v pos (d.slotKind x s) flags (d.busAux m t))

/-- A keepalive that is due is served once no transaction is left (R234). -/
def serveKeep (d : Device) (e : Nat) : Device :=
  let g := d.eng e
  if g.keepDue && g.txs.isEmpty then
    d.setEng e { g with keepDue := false, txs := [Tx.init none 0 (d.fget (aENG e 0x1C) 0 12) d.edge] }
  else d

/-- The decided transaction of engine `e` completes (R233, R238): its response is stored, its slot gets its record, and the next
transaction of the template becomes ready. -/
def completeTx (d : Device) (m : Mem) (e : Nat) : Mem × Device :=
  match d.headTx e with
  | none => (m, d)
  | some t =>
    if t.phase ≠ .decided then (m, d)
    else
      let good := decide (t.outcome = 0 ∨ t.outcome = 2 ∨ t.outcome = 9)
      let m' := if good then m.ddrWrite (d.areaAt (d.te t.entry 7 0 24)) (t.got.take (d.te t.entry 8 0 16)) else m
      let d := d.setEng e { d.eng e with txs := (d.eng e).txs.tail }
      match t.exec with
      | none => (m', d.serveKeep e)
      | some i =>
        match d.execOf i with
        | none => (m', d.serveKeep e)
        | some x =>
          match x.slots[t.slot]? with
          | none => (m', d.serveKeep e)
          | some s =>
            if s.rec_.isSome then (m', d.serveKeep e)
            else
              let (d, s) := d.busRecord m x s t
              let d := (d.setSlot x t.slot s).readyNextTx x (t.slot + 1)
              (m', (d.finish i false).serveKeep e)

end Device

end Sys2Proof.Machine
end

