-- ==== Sys2Proof/Machine/FaultOps.lean ====
section
/-!
DEFINITION. Faults and what they do to measurements: retries (R199 to R201), retirement records (R205, R345), class P decisions on
buses (R115 to R118, R545), lanes (R149, R150, R341) and meters (R110, R341).
-/

namespace Sys2Proof.Machine

namespace Device

/-- The first execution with an unfinished slot that satisfies a test: the context that an event affects (R352). -/
def firstHit (d : Device) (p : Exec → Slot → Bool) : Option Exec := d.execs.find? fun x => x.slots.any fun s => s.rec_.isNone && p x s

/-- An event of class T or P: its entry, always written, with the affected context and its axis, and the FSEQ that it takes (R344,
R352). -/
def faultEntry (d : Device) (c : Cls) (kind idx code action detail : Nat) (who : Option Exec := none) : Device × Nat :=
  let e := { entry c kind idx code detail with action := action }
  let e := match who with
    | some x => { e with ctx := x.ctx, axis := ctxAxis x.words, pos := (d.ax (ctxAxis x.words)).c }
    | none => e
  (d.report e true, d.nextFseq.toNat)

/-- A class T event of a resource is noted for the limit of R336. -/
def noteT (d : Device) (r : Resource) : Device :=
  { d with rec_ := { d.rec_ with recent := (r, d.edge) :: d.rec_.recent.filter fun p => decide (d.edge < p.2 + 204800000) } }

/-- The resource has had more than TLIMIT class T events within the last 10 s, so that its next is of class P (R336). -/
def tooMany (d : Device) (r : Resource) : Bool :=
  decide (d.fget 0x50000 0 8 < (d.rec_.recent.filter fun p => p.1 == r && decide (d.edge < p.2 + 204800000)).length)

/-- What of a slot's flags a new window keeps: COMPLIANCE of an opened bus, REMAPPED and RETRIED; what its old window gathered is discarded
with its measurement (R199). -/
def keptFlags (s : Slot) : Nat := s.flags &&& 0x228

/-- The slot is measured again: its measurement is discarded, and the retry waits for its edge (R199). None where the budget of
R201 is spent: 3 retries, each starting no later than 40,960 Ts after the first fault. `cause` is the event that is of class P should the
retry start too late. -/
def retryOf (d : Device) (s : Slot) (fseq flags : Nat) (cause : Option (Resource × Nat × Nat) := none) : Option Slot :=
  let first := s.firstFault.getD d.edge
  if 3 ≤ s.retries ∨ first + 40960 < d.edge + 64 then none
  else some { s with outs := [], thr := [], retries := s.retries + 1, firstFault := some first, lastFault := d.edge, waits := true,
                     endEdge := none, flags := keptFlags s ||| flags ||| 8, ref := some fseq, fault := cause }

/-- Change the unfinished slots of every execution that satisfy a test, and write a retirement record for each execution so
affected when `rflag` gives its flag (R205, R345). -/
def affect (d : Device) (p : Exec → Slot → Bool) (rflag : Option Nat) (fseq : Nat) (f : Device → Exec → Slot → Slot) : Device :=
  (d.execs.map Exec.id).foldl (fun d i =>
    match d.execOf i with
    | none => d
    | some x =>
      let hit (s : Slot) : Bool := s.rec_.isNone && p x s
      let n := (x.slots.filter hit).length
      if n = 0 then d
      else
        let x := { x with slots := x.slots.map fun s => if hit s then f d x s else s }
        let d := d.setExec x
        let d := match rflag with
          | some fl => d.retireRec x n fl fseq
          | none => d
        d.finish i false) d

/-- Fill a slot as RETIRED with VALUE 0 (R201, R546). -/
def retireSlot (fseq : Nat) (d : Device) (x : Exec) (s : Slot) : Slot := d.fillSlot x { s with ref := some fseq } 0x10

/-! Buses. -/

/-- The segments of physical bus `p` among stuck ones stay open for the rest of service life (R116). -/
def isolateBus (d : Device) (p : Nat) (stuck : List (Fin 34 × Nat)) : Device :=
  d.setMx { d.mx with isolated := ((stuck.filter fun x => x.1.val == p).map fun y => (p, y.2)) ++ d.mx.isolated }

/-- Close on physical bus `q`, which serves logical bus `b` now, the switches and the moves to come of the bus that failed (R117). A bus that
is held open closes none (R116). -/
def closeOn (d : Device) (b q : Nat) (sw : List Switch) (mv : List Move) : Device :=
  if d.isHeldOpen b then d
  else d.setMx { d.mx with closed := d.mx.closed ++ sw.map (fun s => { s with phys := q }),
                           moves := d.mx.moves ++ mv.map fun m => { m with sw := { m.sw with phys := q } } }

/-- The lowest free spare bus (R117, R120). -/
def spareBus (d : Device) : Option Nat := if d.flag 0xA0000 0 then some 32 else if d.flag 0xA0000 1 then some 33 else none

/-- A class P decision on physical bus `p`, which is open (R117, R118, R545); `sw` and `mv` are the switches that were closed on it and the
moves that were to come. -/
def busFails (d : Device) (p code detail : Nat) (sw : List Switch) (mv : List Move) : Device :=
  let d := d.setMx { d.mx with out := p :: d.mx.out }
  match d.logicalOf p with
  | none =>
    let d := if 32 ≤ p then d.fsetB 0xA0000 (p - 32) false else d
    (d.faultEntry .p 0x04 p code 4 detail).1
  | some b =>
    match d.spareBus with
    | some q =>
      let (d, f) := d.faultEntry .p 0x04 p code 5 detail (d.firstHit fun x s => d.dependsOn x.words s b)
      let d := (((d.fsetB 0xA0000 (q - 32) false).closeOn b q sw mv).fset (aMX (0x100 + 4 * b)) 12 6 q).dropHostTaps
      let d := d.event 0xA0004 3
      d.affect (fun x s => d.dependsOn x.words s b) (some 0x20) f fun d x s =>
        match d.retryOf s f 0x20 with
        | some s => s
        | none => retireSlot f d x s
    | none =>
      let (d, f) := d.faultEntry .p 0x04 p code 4 detail (d.firstHit fun x s => d.dependsOn x.words s b)
      let d := d.affect (fun x s => d.dependsOn x.words s b) (some 0x10) f (retireSlot f)
      (d.dropHostTaps.fsetB (aMX (0x100 + 4 * b)) 21 true).event 0xA0004 4

/-- A class P decision on physical bus `p` (R117): fault recovery opens it by R116 first, with the test of its segments, whose outcome no rule
gives (assumption 15). -/
def busClassP (d : Device) (p code detail : Nat) : Device :=
  let on (s : Switch) : Bool := s.phys == p
  let sw := d.mx.closed.filter on
  let mv := d.mx.moves.filter fun m => on m.sw
  let d := d.setMx { d.mx with closed := d.mx.closed.filter (fun s => !on s), moves := d.mx.moves.filter fun m => !on m.sw }
  (d.takeByte.isolateBus p (Config.freeStuck d.freeCtr)).busFails p code detail sw mv

/-- A per-bus open of physical bus `p` (R116): its switches open; segments where a switch still conducts are isolated for good,
and the first such segment is a class P fault of the bus. -/
def perBusOpen (d : Device) (p : Nat) (stuck : List (Fin 34 × Nat)) : Device :=
  let d := d.openBus p
  match stuck.filter fun x => x.1.val == p with
  | [] => d
  | x :: _ => (d.isolateBus p stuck).busFails p 0x09 x.2 [] []

/-! Lanes. -/

/-- The logical lane that a physical lane serves (R123, R149). -/
def laneServed (d : Device) (m : Nat) : Option Nat :=
  if d.laneOut.contains m then none
  else (List.range 64).find? fun l => d.fget (0x50200 + 4 * l) 0 7 == m && !d.flag (0x50200 + 4 * l) 8

/-- The lowest free spare lane (R341, R356). -/
def spareLane (d : Device) : Option Nat := if d.flag 0x50054 0 then some 64 else if d.flag 0x50054 1 then some 65 else none

/-- A slot of a channel of logical lane `l`. -/
def onLane (l : Nat) (s : Slot) : Bool :=
  match s.kind with
  | .chan n => n / 16 == l
  | _ => false

/-- The channels of a lane. -/
def laneChans (l : Nat) : List Nat := (List.range 16).map fun i => 16 * l + i

/-- A class P decision on physical lane `m` (R149, R150, R341): a spare is chosen and takes over at LANE_SPARE_TAKEOVER, or the
channels go to threshold-only operation. -/
def laneClassP (d : Device) (m code detail : Nat) : Device :=
  match d.laneServed m with
  | none =>
    let d := { d with laneOut := m :: d.laneOut }
    let d := if 64 ≤ m then d.fsetB 0x50054 (m - 64) false else d
    (d.faultEntry .p 0x03 m code 4 detail).1
  | some l =>
    let d := { d with laneOut := m :: d.laneOut }
    match d.spareLane with
    | some q =>
      let (d, f) := d.faultEntry .p 0x03 m code 5 detail (d.firstHit fun _ s => onLane l s)
      let d := { d with lanePend := tabPut l q d.lanePend }.fsetB 0x50054 (q - 64) false
      d.affect (fun _ s => onLane l s) (some 0x20) f fun _ x s =>
        { s with flags := s.flags ||| (if ctxDet x.words ≤ 8 then 0x800 else 0), ref := some f }
    | none =>
      let (d, f) := d.faultEntry .p 0x03 m code 4 detail (d.firstHit fun _ s => onLane l s)
      let d := (d.fsetB (0x50200 + 4 * l) 8 true)
      let d := (laneChans l).foldl (fun d n =>
        ((d.fsetB (aFILT n 4) 10 true).fsetB (aFILT n 4) 8 false).fsetB (aFILT n 4) 9 false) d
      d.affect (fun x s => onLane l s && decide (ctxDet x.words ≤ 8)) (some 0x10) f (retireSlot f)

/-- The spare takes over logical lane `l` at the present edge (R149): its running chains restart, its channels and their unfinished slots are
REMAPPED. Slots that began since the decision lost outputs. -/
def laneTakeover (d : Device) (l : Nat) : Device :=
  if (tabKeys d.lanePend).contains l then
    let q := tabGet (fun _ => 0) d.lanePend l
    let d := { d with lanePend := tabDrop l d.lanePend }
    let d := (d.fset (0x50200 + 4 * l) 0 7 q).fsetB (0x50200 + 4 * l) 9 true
    let mark (x : Exec) (s : Slot) : Slot :=
      if onLane l s && s.rec_.isNone then { s with flags := s.flags ||| (if ctxDet x.words ≤ 8 then 0x820 else 0x20) } else s
    let d := { d with execs := d.execs.map fun x => { x with slots := x.slots.map (mark x) } }
    (laneChans l).foldl (fun d n =>
      let d := d.fsetB (aFILT n 4) 11 true
      if d.chainRuns n then
        let d := d.startChain n d.edge
        d.setChain n { d.chain n with subst := true }
      else d) d
  else d

/-! Meters. -/

/-- A class P decision on meter `r` (R110, R341): its port switches open, no owner holds it, its chain stops, its slots are RETIRED. -/
def rmuClassP (d : Device) (r code detail : Nat) : Device :=
  if d.flag (aRMU r 0x14) 3 then d
  else
    let (d, f) := d.faultEntry .p 0x05 r code 4 detail (d.firstHit fun _ s => s.kind == .rmu r)
    let d := (d.fsetB (aRMU r 0x14) 3 true).fsetB 0x50300 r true
    let port (s : Switch) : Bool := decide (1024 + 4 * r ≤ s.node ∧ s.node < 1028 + 4 * r)
    let d := d.setMx { d.mx with closed := d.mx.closed.filter (fun s => !port s), moves := d.mx.moves.filter fun m => !port m.sw }
    let d := ((d.setOwner (resRmu r) .free).fsetB 0xA0028 r false).stopRmuChain r
    let d := { d with rmu := tabSet (fun _ => Rmu.init) r Rmu.init d.rmu }.fsetB (aRMU r 0x14) 0 false
    d.affect (fun _ s => s.kind == .rmu r) (some 0x10) f (retireSlot f)

end Device

end Sys2Proof.Machine
end

