-- ==== Sys2Proof/Machine/SliceOps.lean ====
section
/-!
DEFINITION. Slices: handovers between the slices of a course (R78 to R80), the end of a calibration run (R24, R29, R319), and class P
decisions on slices and cells (R338 to R340, R547).
-/

namespace Sys2Proof.Machine

/-- A register of the calibration set of slice `s` = 33c + k (R330). -/
def aCAL (s o : Nat) : Nat := if s % 33 = 32 then aCALSP (s / 33) o else aCALCH (32 * (s / 33) + s % 33) o

namespace Device

/-- Replace the Tuning engine. -/
def setCal (d : Device) (k : Cal) : Device := { d with cal := k }

/-! Handovers (R78 to R80). -/

/-- Begin the preparation of a handover on course `c` (R78). It waits behind one in progress, and for the end of HOLD or SAFE. The hand-back of
a slice in an idle gap waits behind none (R29). -/
def beginHand (d : Device) (c : Nat) (h : Handover) : Device :=
  let x := d.crs c
  let h' := { h with edge := d.edge + prepTime (d.rd (aCH h.chan 0)) (d.rd (aCH h.chan 4)), paused := none }
  if d.capo ≠ 0 ∨ (x.hand.isSome ∧ !h.gap) then d.setCrs c { x with next := x.next ++ [h] }
  else if h.gap then d.setCrs c { x with backs := x.backs ++ [h'] }
  else d.setCrs c { x with hand := some h' }

/-- Begin the next handover that waits on course `c`, and every hand-back of an idle gap that waits. -/
def nextHand (d : Device) (c : Nat) : Device :=
  if d.capo ≠ 0 then d
  else
    let x := d.crs c
    let gaps := x.next.filter Handover.gap
    let d := gaps.foldl (fun d h => d.beginHand c h) (d.setCrs c { x with next := x.next.filter fun h => !h.gap })
    let x := d.crs c
    match x.hand, x.next with
    | none, h :: r => (d.setCrs c { x with next := r }).beginHand c h
    | _, _ => d

/-- A run that committed a range is counted at its end: CAL_COUNT and CAL_LAST_TIME of the channel, and those of a spare (R325). -/
def countCal (d : Device) (s : Nat) (n : Option Nat) : Device :=
  let note (d : Device) (a : Nat → Nat) : Device := (d.bump (a 0x10) 0 32).wr (a 0x14) (d.rd 0x60018)
  let d := match n with
    | some n => note d (aCALCH n)
    | none => d
  if s % 33 = 32 then note d (aCAL s) else d

/-- A running chain of channel `n` restarts when its slice is reconnected after an idle gap (R316). -/
def reconnect (d : Device) (n : Nat) : Device := if d.chainRuns n then d.startChain n d.edge else d

/-- The pin of channel `n` stays remapped (R79, R339). -/
def markRemapped (d : Device) (n : Nat) : Device := (d.fsetB (aCH n 0x38) 14 true).fsetB (0x50180 + 4 * (n / 32)) (n % 32) true

/-- Engine `e` is enabled and names pin `n`. -/
def namesPin (d : Device) (e n : Nat) : Bool :=
  d.flag (aENG e 0) 0 && (decide (d.fget (aENG e 4) 0 10 = n) || decide (d.fget (aENG e 4) 16 10 = n))

/-- Engines that have a frame of their transaction on a pin's wire (R240). -/
def frameOn (d : Device) (n : Nat) : List Nat :=
  (tabKeys d.engines).filter fun e => d.namesPin e n && (d.eng e).txs.head?.any fun t => decide (t.phase = .sending ∨ t.phase = .setting)

/-- Engines with a transaction under way that name a pin: they are not free (R242). -/
def onWire (d : Device) (n : Nat) : List Nat :=
  (tabKeys d.engines).filter fun e =>
    d.namesPin e n &&
    (match (d.eng e).txs.head? with
     | some t => t.begun.isSome && decide (t.phase ≠ .decided)
     | none => false)

/-- What follows the handover edge of `h` (R78, R79, R315, R316). -/
def handed (d : Device) (c : Nat) (h : Handover) : Device :=
  let n := h.chan
  match h.kind with
  | .remap =>
    let d := d.markRemapped n
    let upd (s : Slot) : Slot :=
      if s.kind = .chan n ∧ s.remeasure ∧ s.rec_.isNone then { s with lastFault := d.edge } else s
    { d with execs := d.execs.map fun x => { x with slots := x.slots.map upd } }
  | .cal =>
    match d.cal.run with
    | some r => d.setCal { d.cal with run := some { r with start := some (d.edge + 64) } }
    | none => d
  | .back =>
    let x := d.crs c
    let d := if x.spareFor = some n ∧ x.spareRemap = false then d.setCrs c { x with spareFor := none } else d
    let d := if h.commit then d.countCal (33 * c + h.toSlice) (some n) else d
    if h.gap then (d.setCrs c { d.crs c with joined := some (n, d.edge) }).reconnect n else d

/-- The handover edge of `h` is at hand: it puts the pin on its slice, unless it waits (R78). The first component says that it has come; the
handover goes on with the second. It waits for a bridge that runs at it, one that begins at it too (R80), for the end of HOLD (R80) and, when the Tuning engine moves the
pin, for a frame on its wire (R242). -/
def handNow (d : Device) (h : Handover) : Bool × Handover :=
  let n := h.chan
  if d.edge < h.edge ∨ d.capo ≠ 0 then (false, h)
  else if decide ((d.ch n).bridgeStart ≤ d.edge) && decide (d.edge < (d.ch n).bridgeEnd) then (false, { h with edge := (d.ch n).bridgeEnd })
  else (decide (h.kind = .remap) || (d.onWire n).isEmpty, h)

/-- The pin of `h` is on its slice (R78). -/
def handDone (d : Device) (c : Nat) (h : Handover) : Device :=
  let n := h.chan
  ((d.fset (aCH n 0x38) 0 6 h.toSlice).setCh n { flagWindow (d.ch n) d.edge (d.edge + 1) with holdUntil := d.edge + 1 }).handed c h

/-- The handover edges of course `c`: of the handover in progress, and of the hand-backs of idle gaps. -/
def handover (d : Device) (c : Nat) : Device :=
  let d := match (d.crs c).hand with
    | none => d
    | some h =>
      let (now, h) := d.handNow h
      if now then ((d.setCrs c { d.crs c with hand := none }).handDone c h).nextHand c else d.setCrs c { d.crs c with hand := some h }
  (d.crs c).backs.foldl (fun d h =>
    let (now, h') := d.handNow h
    if now then (d.setCrs c { d.crs c with backs := (d.crs c).backs.filter fun y => y.chan != h.chan }).handDone c h'
    else d.setCrs c { d.crs c with backs := (d.crs c).backs.map fun y => if y.chan = h.chan then h' else y }) d

/-- HOLD pauses every preparation (R80). -/
def pauseHands (d : Device) : Device :=
  let pause (h : Handover) : Handover := { h with paused := some (h.edge - d.edge) }
  { d with course := d.course.map fun p => (p.1, { p.2 with hand := p.2.hand.map pause, backs := p.2.backs.map pause }) }

/-- HOLD or SAFE has ended: paused preparations resume, and those that waited begin (R80, R319, R547). -/
def resumeHands (d : Device) : Device :=
  let resume (h : Handover) : Handover :=
    match h.paused with
    | some k => { h with edge := d.edge + k, paused := none }
    | none => h
  let d := { d with course := d.course.map fun p => (p.1, { p.2 with hand := p.2.hand.map resume, backs := p.2.backs.map resume }) }
  (tabKeys d.course).foldl nextHand d

/-- SAFE abandons every preparation (R70): a pin keeps its slice; a remap and a hand back run afresh once SAFE has ended (R319, R547); a
slice in an idle gap is reconnected at once. -/
def safeHands (d : Device) : Device :=
  (tabKeys d.course).foldl (fun d c =>
    let x := d.crs c
    let hs := x.hand.toList ++ x.backs ++ x.next
    let d := d.setCrs c { x with hand := none, backs := [], next := hs.filter fun h => !h.gap && decide (h.kind ≠ .cal) }
    (hs.filter Handover.gap).foldl (fun d h =>
      let d := if h.commit then d.countCal (33 * c + h.toSlice) (some h.chan) else d
      d.reconnect h.chan) d) d

/-! The end of a calibration run. -/

/-- The Tuning engine gives its claims up (R100): its switches open, and a bus that over-current opened while it held the bus is free (R115). -/
def freeTuning (d : Device) : Device :=
  let mine (r : Nat) : Bool := decide (d.owner r = .tuning)
  let d := (List.range 32).foldl (fun d b => if mine b && decide (d.busOpen b = .overcurrent) then d.holdOpen b .no else d) d
  d.setMx { d.mx with closed := d.mx.closed.filter (fun s => !(decide (s.node < 1024) && mine (resTaps s.node))),
                      claims := d.mx.claims.filter fun p => decide (p.2 ≠ Owner.tuning) }

/-- No run is in progress; its predicted dissipation no longer counts (R26). -/
def clearRun (d : Device) : Device :=
  (({ d with cal := { d.cal with run := none }, calP := 0 }.freeTuning).fsetB 0x60004 4 false).wr 0x60020 0

/-- The slice of a run returns to its pin (R315, R316), or its run is counted. -/
def handBack (d : Device) (r : CalRun) : Device :=
  let c := r.req.target / 33
  let k := r.req.target % 33
  let n := 32 * c + k
  match r.via with
  | .spare =>
    let x := d.crs c
    match x.hand with
    | some h => if h.kind = .cal then (d.setCrs c { x with hand := none, spareFor := none }).nextHand c else d
    | none => d.beginHand c ⟨n, k, .back, 0, none, r.committed, false⟩
  | .gap _ =>
    let n := if k = 32 then (d.crs c).spareFor.getD 0 else n
    if d.capo = 2 then
      (if r.committed then d.countCal r.req.target (some n) else d).reconnect n
    else d.beginHand c ⟨n, k, .back, 0, none, r.committed, true⟩
  | .spareFree => if r.committed then d.countCal r.req.target none else d
  | .none => d

/-- What is to be calibrated again after a run has ended early (R24, R319). -/
def restOf (r : CalRun) : List CalReq :=
  if 3 ≤ r.req.op then [r.req]
  else r.left.map fun k => ⟨if r.req.op = 0 then 1 else r.req.op, r.req.target, k⟩

/-- A run ends without committing the range in progress (R24, R29, R100, R319): CAL_EVENT.ENDED; unless `drop`, what is left is scheduled
at the head of item 3 of R318. -/
def endCal (d : Device) (drop : Bool) : Device :=
  match d.cal.run with
  | none => d
  | some r =>
    let d := d.clearRun.event 0x60008 5
    let d := if drop then d else d.setCal { d.cal with again := restOf r ++ d.cal.again }
    d.handBack r

/-! Class P decisions on slices and cells (R339, R340). -/

/-- Channel `n` is retired (R340); its slots are filled RETIRED and refer to entry `f`. -/
def retireChannel (d : Device) (n f : Nat) : Device :=
  let d := ((d.fsetB (aCH n 0x38) 15 true).fsetB (0x50100 + 4 * (n / 32)) (n % 32) true).fset (aCH n 0) 0 3 0
  let d := d.setCh n { (d.ch n).abandon.halt with powered := false, clampSince := none }
  let d := (d.fsetB (aCH n 0x38) 8 false).fsetB (aCH n 0x38) 9 false
  let x := d.crs (n / 32)
  let d := (d.setCrs (n / 32) { x with hand := x.hand.filter (fun h => h.chan != n), backs := x.backs.filter (fun h => h.chan != n),
                                        next := x.next.filter fun h => h.chan != n }).nextHand (n / 32)
  d.affect (fun _ s => s.kind == .chan n) (some 0x10) f (retireSlot f)

/-- The spare of channel `n`'s course takes its pin for good (R339): the spare is reserved, the unfinished slots of the channel are measured
once more after the handover (R201). -/
def remapTo (d : Device) (n f : Nat) : Device :=
  let c := n / 32
  let d := (d.setCrs c { d.crs c with spareFor := some n, spareRemap := true }).fsetB 0x50050 c false
  let d := d.affect (fun _ s => s.kind == .chan n) (some 0x20) f fun _ _ s =>
    { s with outs := [], thr := [], flags := keptFlags s ||| 0x28, waits := true, remeasure := true, endEdge := none, ref := some f }
  d.beginHand c ⟨n, 32, .remap, 0, none, false, false⟩

/-- The run in progress calibrates slice `s`. -/
def calibrates (d : Device) (s : Nat) : Bool :=
  match d.cal.run with
  | some r => decide (r.req.op ≤ 2) && r.req.target == s
  | none => false

/-- The slice under calibration has failed while the spare carries its pin, or prepares to (R24): the run ends, and the arrangement becomes a
remap. -/
def keepSpare (d : Device) (n f : Nat) : Device :=
  let c := n / 32
  let x := d.crs c
  let rest := match d.cal.run with
    | some r => if d.calibrates (33 * c + n % 32) then restOf r else []
    | none => []
  let d := if rest.isEmpty then d else (d.clearRun.event 0x60008 5)
  let d := d.setCal { d.cal with again := rest ++ d.cal.again }
  let d := d.fsetB 0x50050 c false
  let x := { x with spareRemap := true, backs := x.backs.filter (fun h => h.chan != n), next := x.next.filter fun h => h.chan != n }
  if d.fget (aCH n 0x38) 0 6 = 32 then
    let d := (d.setCrs c { x with hand := x.hand.filter fun h => h.chan != n }).markRemapped n
    d.affect (fun _ s => s.kind == .chan n) (some 0x20) f fun _ _ s => { s with flags := s.flags ||| 0x20, ref := some f }
  else
    let d := d.setCrs c { x with hand := x.hand.map fun h => if h.chan = n then { h with kind := .remap } else h }
    d.affect (fun _ s => s.kind == .chan n) (some 0x20) f fun _ _ s =>
      { s with outs := [], thr := [], flags := keptFlags s ||| 0x28, waits := true, remeasure := true, endEdge := none, ref := some f }

/-- A class P decision on slice `s` = 33c + k (R339). A slice that is out of service already has no further effect. -/
def sliceClassP (d : Device) (s code detail : Nat) : Device :=
  let c := s / 33
  let k := s % 33
  let n := 32 * c + k
  let x := d.crs c
  let onChan (m : Nat) (_ : Exec) (t : Slot) : Bool := t.kind == .chan m
  if k = 32 then
    if x.spareRetired then d
    else
      let retire (d : Device) : Device := (d.setCrs c { d.crs c with spareRetired := true }).fsetB 0x50050 c false
      match x.spareFor with
      | some m =>
        if x.spareRemap then
          let (d, f) := d.faultEntry .p 0x01 s code 4 detail (d.firstHit (onChan m))
          (if d.calibrates s then retire (d.clearRun.event 0x60008 5) else retire d).retireChannel m f
        else
          let (d, _) := d.faultEntry .p 0x01 s code 4 detail
          retire (if d.calibrates (33 * c + m % 32) then d.endCal false else d)
      | none =>
        let (d, _) := d.faultEntry .p 0x01 s code 4 detail
        retire (if d.calibrates s then d.endCal true else d)
  else if x.failed.contains k || d.retired n then d
  else
    let spareGone := x.spareRetired || x.spareRemap
    let mine := decide (x.spareFor = some n)
    let (d, f) := d.faultEntry .p 0x01 s code (if spareGone then 4 else 3) detail (d.firstHit (onChan n))
    let d := d.setCrs c { x with failed := k :: x.failed }
    let d := if d.calibrates s && !mine then d.clearRun.event 0x60008 5 else d
    if spareGone then d.retireChannel n f
    else if mine then d.keepSpare n f
    else match x.spareFor with
      | some m => (if d.calibrates (33 * c + m % 32) then d.endCal false else d).remapTo n f
      | none => (if d.calibrates (33 * c + 32) then d.endCal false else d).remapTo n f

/-- A class P decision on the cell of channel `n` (R339): the channel is retired, the spare is not used. A calibration of its slice ends
(R24). -/
def cellClassP (d : Device) (n code detail : Nat) : Device :=
  if d.retired n then d
  else
    let (d, f) := d.faultEntry .p 0x02 n code 4 detail (d.firstHit fun _ s => s.kind == .chan n)
    let d := if d.calibrates (d.sliceOf n) || d.calibrates (33 * (n / 32) + n % 32) then d.clearRun.event 0x60008 5 else d
    let x := d.crs (n / 32)
    let d := if x.spareFor = some n ∧ x.spareRemap = false then d.setCrs (n / 32) { x with spareFor := none } else d
    d.retireChannel n f

/-- Slots that wait for the handover of a remap are measured once more from the first edge after it (R201); their chains restart. -/
def remeasureDue (d : Device) : Device :=
  (d.execs.flatMap fun x => (x.slots.mapIdx fun i s => (x.id, i, s)).filter fun p => p.2.2.waits && p.2.2.remeasure && p.2.2.rec_.isNone).foldl
    (fun d p => match d.execOf p.1, p.2.2.kind with
      | some x, .chan n =>
        let s := p.2.2
        if d.flag (aCH n 0x38) 14 ∧ d.fget (aCH n 0x38) 0 6 = 32 ∧ s.lastFault < d.edge then
          (d.setSlot x p.2.1 { s with waits := false, remeasure := false, start := (d.ax (ctxAxis x.words)).c }).startChain n d.edge
        else d
      | _, _ => d) d

end Device

end Sys2Proof.Machine
end

