-- ==== Sys2Proof/Machine/CalOps.lean ====
section
/-!
DEFINITION. Operations of the Tuning engine: the correction model (R306), user values and their ranges (R332), commits (R311, R314, R320), what a
calibration can take and how it starts (R305, R315 to R318), the user calibration store (R326 to R329).
-/

namespace Sys2Proof.Machine

/-- Key of a calibration value: slice, range, path (0 sense, 1 force), item (R332). -/
def calKey (s r path item : Nat) : Nat := ((8 * s + r) * 2 + path) * 16 + item

/-- Valid range of the user value of an item (R332). -/
def itemLim (path item : Nat) : Int × Int :=
  if item = 0 then (-4294967, 4294967)
  else if item = 1 then (if path = 0 then (-128000, 128000) else (-32000, 32000))
  else (-32768, 32767)

/-- A value lies in the valid range of its item. -/
def itemOk (path item : Nat) (v : Int) : Bool := decide ((itemLim path item).1 ≤ v ∧ v ≤ (itemLim path item).2)

/-- Every delta of a fit lies in its valid range (R311). -/
def fitOk (path : Nat) (f : Fit) : Bool :=
  itemOk path 0 f.gain && itemOk path 1 f.offset && f.lin.all fun v => itemOk path 2 v

/-- A quotient of integers rounded to nearest, ties toward plus infinity. -/
def roundQ (a b : Int) : Int := if b < 0 then roundDiv (-a) b.natAbs else roundDiv a b.natAbs

/-- `step` times 256 times N(x) of R306, where the points of the path are `step` apart: 125,000 sense LSB or 31,250 force LSB. -/
def linTerm (l : Nat → Int) (step : Nat) (x : Int) : Int :=
  let p0 : Int := -(7 * step / 2 : Nat)
  let k := if x < p0 then 0 else ((x - p0).toNat / step)
  if x ≤ p0 then l 0 * step
  else if 7 ≤ k then l 7 * step
  else l k * step + (l (k + 1) - l k) * (x - (p0 + k * step))

/-- The predicted dissipation of a calibration in mW by range (R317). -/
def calPred (r : Nat) : Nat := [67, 76, 124, 1, 1, 7, 64, 800].getD r 0

/-- One second in Ts (R5). -/
def secTs : Nat := 20480000

/-- Two ordered requests: due ranges are served oldest commit first, then by slice number (R318). -/
def insertDue (key : CalReq → Nat × Nat) (q : CalReq) : List CalReq → List CalReq
  | [] => [q]
  | y :: r =>
    let before := decide ((key q).1 < (key y).1) || (decide ((key q).1 = (key y).1) && decide ((key q).2 < (key y).2))
    if before then q :: y :: r else y :: insertDue key q r

namespace Device

/-! Values (R302, R306, R308). -/

/-- The user value of a key. -/
def userVal (d : Device) (k : Nat) : Int := tabGet (fun _ => 0) d.cal.user k

/-- The user value in force for the sample in progress (R332). -/
def userNow (d : Device) (k : Nat) : Int := tabGet (fun _ => 0) (d.cal.old.getD d.cal.user) k

/-- The factory value of a key (R308). -/
def factVal (d : Device) (k : Nat) : Int := tabGet (fun _ => 0) d.cal.factory k

/-- TCAL of a range of a slice in 1/16 °C: that of its latest commit, else the factory's (R306, R320). -/
def tcalOf (d : Device) (s r path : Nat) : Int :=
  (tabGet (fun _ => none) d.cal.tcal (calKey s r path 12)).getD (d.factVal (calKey s r path 12))

/-- The temperature that slice `s` applies, in 1/16 °C (R307). -/
def tempOf (d : Device) (s : Nat) : Int := d.cal.temps.getD (s / 33 / 2) 0

/-- The gain of R306 without its temperature term, as a numerator over 2^62. -/
def gainOf (d : Device) (s r path : Nat) : Int :=
  (2 ^ 31 + d.factVal (calKey s r path 0)) * (2 ^ 31 + d.userNow (calKey s r path 0))

/-- Factory and user value of an item together. -/
def bothVal (d : Device) (s r path item : Nat) : Int := d.factVal (calKey s r path item) + d.userNow (calKey s r path item)

/-- 4,096 times the offset O of R306. -/
def offset4096 (d : Device) (s r path : Nat) : Int :=
  16 * d.bothVal s r path 1 + d.bothVal s r path 11 * (d.tempOf s - d.tcalOf s r path)

/-- The temperature factor of the gain, as a numerator over 16 times 10^8. -/
def tempGain (d : Device) (s r path : Nat) : Int := 1600000000 + d.bothVal s r path 10 * (d.tempOf s - d.tcalOf s r path)

/-- The calibrated sample y of a raw sense value on range `r` of slice `s` (R306). -/
def senseCorrect (d : Device) (s r : Nat) (x : Int) : Int :=
  let lin := linTerm (fun k => d.bothVal s r 0 (2 + k)) 125000 x
  let num := x * 512000000 - d.offset4096 s r 0 * 125000 - lin * 16
  roundDiv (d.gainOf s r 0 * d.tempGain s r 0 * num) (2 ^ 62 * 1600000000 * 512000000)

/-- The DAC code of a force code on voltage range `r` of slice `s` (R306). -/
def forceCorrect (d : Device) (s r : Nat) (code : Int) : Int :=
  let lin := linTerm (fun k => d.bothVal s r 1 (2 + k)) 31250 code
  let g := d.gainOf s r 1 * d.tempGain s r 1
  roundQ (code * (2 ^ 62 * 1600000000) * 128000000 + (d.offset4096 s r 1 * 31250 + lin * 16) * g) (g * 128000000)

/-- Set a user value. -/
def setUser (d : Device) (k : Nat) (v : Int) : Device := d.setCal { d.cal with user := tabSet (fun _ => 0) k v d.cal.user }

/-- Set the quality figure of a range of a slice (R324). -/
def setQual (d : Device) (s r q : Nat) : Device := d.fset (aCAL s (4 * (r / 2))) (16 * (r % 2)) 16 q

/-- Values have changed since the last save (R327). -/
def dirty (d : Device) : Device :=
  if d.flag 0x60004 3 then d else (d.fsetB 0x60004 3 true).setCal { d.cal with dirtySince := some d.edge }

/-! Commits. -/

/-- The commits of a range, newest first. -/
def marksOf (d : Device) (s r : Nat) : List CalMark := tabGet (fun _ => []) d.cal.marks (8 * s + r)

/-- The time of the last commit of a range; 0 never. -/
def lastCommit (d : Device) (s r : Nat) : Nat := ((d.marksOf s r).head?.map CalMark.time).getD 0

/-- The temperature of the last commit of a range; TCAL where there is none. -/
def lastTemp (d : Device) (s r : Nat) : Int := ((d.marksOf s r).head?.map CalMark.temp).getD (d.tcalOf s r 0)

/-- A write of CAL_EPOCH: it counts on from the value written (R325). -/
def epochWrite (d : Device) (v : Word) : Device := { d.wr 0x60018 v with cal := { d.cal with epochSet := true } }

/-- One second has passed since the latest: CAL_EPOCH counts once it has been written, and reads zero until then (R325). -/
def second (d : Device) : Device :=
  if d.edge < d.cal.tickAt + secTs then d
  else
    let d := { d with cal := { d.cal with seconds := d.cal.seconds + 1, tickAt := d.cal.tickAt + secTs } }
    if d.cal.epochSet then d.bump 0x60018 0 32 else d

/-- The paths of a range: sense, and force on ranges 0 to 2 (R302). -/
def pathsOf (r : Nat) : List Nat := if r < 3 then [0, 1] else [0]

/-- The temperature deltas that two commits give (R320): user TCG and TCO of a path, `old` the earlier commit. -/
def tempDeltas (d : Device) (s r path : Nat) (old new : CalMark) : Int × Int :=
  let dt := old.temp - new.temp
  (roundQ ((old.gains.getD path 0 - new.gains.getD path 0) * 1600000000) (new.gains.getD path 0 * dt) - d.factVal (calKey s r path 10),
   roundQ ((old.offsets.getD path 0 - new.offsets.getD path 0) * 16) dt - d.factVal (calKey s r path 11))

/-- Put a fit into the user values of a path. -/
def putFit (d : Device) (s r path : Nat) (f : Fit) : Device :=
  let d := (d.setUser (calKey s r path 0) f.gain).setUser (calKey s r path 1) f.offset
  (List.range 8).foldl (fun d k => d.setUser (calKey s r path (2 + k)) (f.lin.getD k 0)) d

/-- With the user values that the next edge brings in force (R332). -/
def settledUser (d : Device) : Device := d.setCal { d.cal with old := none }

/-- The values of a range after a full calibration (R311, R320); none where a delta lies outside its valid range. -/
def fullCommit (d : Device) (s r : Nat) (sense force : Fit) (q : Nat) : Option Device :=
  if !fitOk 0 sense || (decide (r < 3) && !fitOk 1 force) then none
  else
    let d := d.putFit s r 0 sense
    let d := if r < 3 then d.putFit s r 1 force else d
    let t := d.tempOf s
    let n := d.settledUser
    let new : CalMark := ⟨d.cal.seconds, t, [0, 1].map fun p => n.gainOf s r p, [0, 1].map fun p => n.bothVal s r p 1, false⟩
    let keep := (d.marksOf s r).filter fun m => decide (new.time ≤ m.time + 604800)
    let pair := keep.find? fun m => !m.quick && decide (160 ≤ (m.temp - t).natAbs)
    let ds := (pathsOf r).map fun p => (p, pair.map fun m => d.tempDeltas s r p m new)
    if ds.any fun x => match x.2 with
        | some y => !itemOk x.1 10 y.1 || !itemOk x.1 11 y.2
        | none => false then none
    else
      let d := ds.foldl (fun d x => match x.2 with
        | some y => (d.setUser (calKey s r x.1 10) y.1).setUser (calKey s r x.1 11) y.2
        | none => d) d
      let d := (pathsOf r).foldl (fun d p => d.setCal { d.cal with tcal := tabSet (fun _ => none) (calKey s r p 12) (some t) d.cal.tcal }) d
      some ((d.setCal { d.cal with marks := tabSet (fun _ => []) (8 * s + r) (new :: keep) d.cal.marks }).setQual s r (min q 0xFFFE))

/-- The values of a range after a quick offset calibration (R314): only its offsets change. Its time counts as that of a commit (R318). -/
def quickCommit (d : Device) (s r : Nat) (sense force : Fit) : Option Device :=
  if !itemOk 0 1 sense.offset || (decide (r < 3) && !itemOk 1 1 force.offset) then none
  else
    let new : CalMark := ⟨d.cal.seconds, d.tempOf s, [], [], true⟩
    let d := d.setCal { d.cal with marks := tabSet (fun _ => []) (8 * s + r) (new :: (d.marksOf s r).filter fun m => !m.quick) d.cal.marks }
    let d := d.setUser (calKey s r 0 1) sense.offset
    some (if r < 3 then d.setUser (calKey s r 1 1) force.offset else d)

/-! What a calibration can take (R315, R316, R242). -/

/-- Until when channel `n` is idle: none while a context uses it, or may use it at an edge that is not known; `some none` without an
end (R29, R316). DESIGN CHOICE: a context that waits for its trigger or for a verdict is not foreseen. -/
def idleUntil (d : Device) (n : Nat) : Option (Option Nat) :=
  if d.execs.any fun x => x.verdict.isNone && (x.setups.any fun st => st.chan == n) then none
  else
    (tabKeys d.lists).foldl (fun (acc : Option (Option Nat)) l =>
      match acc, (d.lst l).pend with
      | some u, some p =>
        if d.lstState l ≠ 2 ∨ p.eligible.isNone then acc
        else if !p.fetched then none
        else if !(p.setups.any fun st => st.chan == n) then acc
        else
          let a := ctxAxis (d.ctxWords p.ctx)
          if p.due.isSome ∨ d.axSrc a ≠ 1 then none
          else
            let e := d.edge + fwd (d.ax a).c (d.pendStart l p)
            some (some (match u with
              | some v => min v e
              | none => e))
      | _, _ => acc) (some none)

/-- Channel `n` can be calibrated in an idle gap of at least `len` Ts and the preparation of its return (R29, R316). -/
def gapVia (d : Device) (n len : Nat) : Option CalVia :=
  let rule := d.fget 0x6000C 8 2
  if rule = 0 ∨ (rule = 1 ∧ drivesPin (d.rd (aCH n 0))) ∨ !(d.onWire n).isEmpty then none
  else match d.idleUntil n with
    | none => none
    | some none => some (.gap none)
    | some (some e) => if d.edge + len + prepTime (d.rd (aCH n 0)) (d.rd (aCH n 4)) ≤ e then some (.gap (some e)) else none

/-- How slice `s` can be taken off its pin now for a calibration of `len` Ts (R315, R316). -/
def takeSlice (d : Device) (s len : Nat) : Option CalVia :=
  let c := s / 33
  let k := s % 33
  let n := 32 * c + k
  let x := d.crs c
  if k = 32 then
    if x.spareRetired ∨ x.hand.isSome then none
    else match x.spareFor with
      | none => some .spareFree
      | some m => if x.spareRemap ∧ d.fget (aCH m 0x38) 0 6 = 32 ∧ !d.retired m then d.gapVia m len else none
  else if x.failed.contains k ∨ d.retired n ∨ d.fget (aCH n 0x38) 0 6 ≠ k ∨ ((x.hand.toList ++ x.backs).any fun h => h.chan == n) then none
  else if x.spareFor.isNone ∧ !x.spareRetired ∧ x.hand.isNone then (if (d.onWire n).isEmpty then some .spare else none)
  else d.gapVia n len

/-- The duration of one range of an operation in Ts (R309, R314). -/
def rangeTime (op : Nat) : Nat := if op = 2 then 16384 else 65536

/-- The ranges of a request. -/
def rangesOf (q : CalReq) : List Nat :=
  if q.op = 0 then List.range 8 else if q.op ≤ 2 then [q.range] else if q.op = 3 then List.range 34 else List.range 23

/-- The governor has headroom for a calibration of range `r` (R26, R317). -/
def calFits (d : Device) (r : Nat) : Bool := decide ({ d with calP := calPred r }.committed ≤ d.ceiling)

/-- Physical bus `p` and pin `n` can be claimed for one tap (R100, R321). -/
def tapFree (d : Device) (n p : Nat) : Bool :=
  decide (d.owner (resTaps n) = .free) &&
  (match d.logicalOf p with
   | some b => decide (d.owner (resBus b) = .free) && !d.isHeldOpen b
   | none => true)

/-- How a request can be taken now, if it can. -/
def canTake (d : Device) (q : CalReq) : Option CalVia :=
  if q.op ≤ 2 then
    if d.calFits ((rangesOf q).headD 0) then d.takeSlice q.target ((rangesOf q).length * rangeTime q.op) else none
  else if q.op = 3 then (if (List.range 34).any fun p => d.tapFree q.target p then some .none else none)
  else if decide (d.owner (resRmu q.target) = .free) && !d.flag (aRMU q.target 0x14) 3 then some .none else none

/-- The first request that can be taken, in the order of R318. -/
def pickCal (d : Device) : List CalReq → Option (CalReq × CalVia)
  | [] => none
  | q :: r =>
    match d.canTake q with
    | some v => some (q, v)
    | none => d.pickCal r

/-- Remove the first occurrence of a request. -/
def dropReq (d : Device) (q : CalReq) : Device :=
  let k := d.cal
  if k.boot.contains q then d.setCal { k with boot := k.boot.erase q }
  else if k.reqs.contains q then (d.setCal { k with reqs := k.reqs.erase q }).fset 0x60004 8 7 (k.reqs.erase q).length
  else if k.auto.contains q then d.setCal { k with auto := k.auto.erase q }
  else d.setCal { k with again := k.again.erase q }

/-- CAL_CUR of a run whose first step has begun: the phase that it starts with (R331). -/
def noteCur (d : Device) (r : CalRun) : Device :=
  let i := r.left.headD 0
  if r.req.op ≤ 2 then d.wr 0x60020 (BitVec.ofNat 32 (r.req.target + i * 2 ^ 12 + 2 ^ 16))
  else d.wr 0x60020 (BitVec.ofNat 32 ((if r.req.op = 3 then 5 else 6) * 2 ^ 16))

/-- The reference is outside its limits (R305). -/
def noRef (d : Device) : Device := ((d.fsetB 0x60004 5 true).event 0x60008 8).notice 0x0A 0 0x33 0

/-- The next step of the run begins at the present edge when it can: a range with headroom, a tap with its claims, which closes (R100), a meter range (R305, R317,
R321, R322). -/
def beginStep (d : Device) (refOk : Bool) : Device :=
  match d.cal.run with
  | none => d
  | some r =>
    if !refOk then d.noRef
    else
      let d := d.fsetB 0x60004 5 false
      let i := r.left.headD 0
      if r.req.op ≤ 2 then
        if d.calFits i then
          let r := { r with start := some d.edge }
          ({ d with calP := calPred i }.setCal { d.cal with run := some r }).noteCur r
        else { d with calP := 0 }
      else if r.req.op = 3 then
        match r.left.find? fun p => d.tapFree r.req.target p with
        | none => d
        | some p =>
          let r := { r with left := p :: r.left.erase p, start := some d.edge }
          let d := (d.setOwner (resTaps r.req.target) .tuning).setCal { d.cal with run := some r }
          let d := d.setMx { d.mx with closed := closeIn d.mx.closed ⟨r.req.target, p, false⟩ }
          (match d.logicalOf p with
           | some b => d.setOwner (resBus b) .tuning
           | none => d).noteCur r
      else
        let r := { r with start := some d.edge }
        ((d.setOwner (resRmu r.req.target) .tuning).setCal { d.cal with run := some r }).noteCur r

/-- A request is taken (R315, R316, R321, R322). -/
def takeReq (d : Device) (q : CalReq) (v : CalVia) : Device :=
  let r : CalRun := ⟨q, rangesOf q, v, none, false⟩
  let d := ((d.dropReq q).setCal { (d.dropReq q).cal with run := some r }).fsetB 0x60004 4 true
  match v with
  | .spare =>
    let c := q.target / 33
    let n := 32 * c + q.target % 33
    let d := { d with calP := calPred (r.left.headD 0) }.setCrs c { d.crs c with spareFor := some n }
    (d.beginHand c ⟨n, 32, .cal, 0, none, false, false⟩).noteCur r
  | _ => d.beginStep true

/-- The Tuning engine takes waiting work (R305, R318): the first request that can be taken, or the next step of a run that waits. -/
def calStart (d : Device) (refOk : Bool) : Device :=
  if d.flag 0x60000 0 = false ∨ d.capo ≠ 0 then d
  else match d.cal.run with
    | some r =>
      let handing : Bool := match r.via with
        | .spare => decide (d.fget (aCH (32 * (r.req.target / 33) + r.req.target % 33) 0x38) 0 6 ≠ 32)
        | _ => false
      if r.start.isSome || handing then d else d.beginStep refOk
    | none =>
      match d.pickCal (d.cal.boot ++ d.cal.reqs ++ (if d.flag 0x60000 1 then d.cal.auto else []) ++ d.cal.again) with
      | none => d
      | some (q, v) => if refOk then (d.fsetB 0x60004 5 false).takeReq q v else d.noRef

/-- The present step of the run is over: the next begins, or the run ends (R309, R315, R321, R322). -/
def nextStep (d : Device) (refOk : Bool) : Device :=
  match d.cal.run with
  | none => d
  | some r =>
    let d := { d with calP := 0 }.freeTuning
    match r.left.tail with
    | [] => (d.clearRun).handBack r
    | rest => (d.setCal { d.cal with run := some { r with left := rest, start := none } }).beginStep refOk

/-- A context that is due needs what the Tuning engine holds: the calibration ends (R29, R100, R319). -/
def yieldCal (d : Device) (p : Pend) : Device :=
  let chans := setupChans p.setups
  let gap : Bool := match d.cal.run with
    | some r => (match r.via with
      | .gap _ => chans.any fun n => r.req.target == d.sliceOf n
      | _ => false)
    | none => false
  if gap || (d.needs (d.ctxWords p.ctx) p.setups).any (fun r => decide (d.owner r = .tuning)) then d.endCal false else d

/-! The user calibration store (R326 to R329). -/

/-- A register of the calibration sets that the store keeps: quality figures and marks. -/
def calStored (a : Nat) : Bool :=
  ((0x64000 ≤ a && decide (a < 0x64400)) || (0x68000 ≤ a && decide (a < 0x70000))) && [0, 4, 8, 0xC, 0x18].contains (a % 0x20)

/-- First byte of a copy in flash: A, then B (R326). -/
def copyBase (b : Bool) : Nat := if b then 0x0F500000 else 0x0F100000

/-- The values in use as a copy with a sequence number. -/
def snapshot (d : Device) (seq : Word) : CalCopy :=
  .valid seq d.cal.user d.cal.tcal (d.regs.filter fun p => calStored p.1) d.cal.marks d.cal.taps d.cal.rmuQ d.cal.rmuVals d.cal.rmuUncal

/-- Replace a copy. -/
def setCopy (d : Device) (b : Bool) (x : CalCopy) : Device :=
  d.setCal (if b then { d.cal with copyB := x } else { d.cal with copyA := x })

/-- Erase the bytes of a copy. -/
def eraseCopy (m : Mem) (b : Bool) : Mem :=
  { m with flash := m.flash.filter fun p => decide (p.1 < copyBase b) || decide (copyBase b + 0x400000 ≤ p.1) }

/-- The commit marker (R326). -/
def markerBytes (seq : Word) : List Byte :=
  leBytes 4 seq.toNat ++ leBytes 4 (2 ^ 32 - 1 - seq.toNat) ++ leBytes 4 0x5A5AA5A5 ++ leBytes 4 0x5A5AA5A5

/-- The user values of slice `s` as a record of 512 bytes (R326): which byte holds which value is not stated (assumption 88). -/
def sliceRecord (d : Device) (s : Nat) : List Byte :=
  let vals : List Int := (List.range 8).flatMap fun r => [0, 1].flatMap fun p =>
    d.tcalOf s r p :: (List.range 12).map fun i => d.userVal (calKey s r p i)
  let ranges : List Int := (List.range 8).flatMap fun r =>
    [((d.fget (aCAL s (4 * (r / 2))) (16 * (r % 2)) 16 : Nat) : Int), if d.flag (aCAL s 0x18) r then 1 else 0, (d.lastCommit s r : Nat)]
  (List.range 512).map fun i => (Config.calRecord (vals ++ ranges)).getD i 0

/-- The RMU records, 1,024 bytes (R326), likewise. -/
def rmuRecords (d : Device) : List Byte :=
  let vals : List Int := (List.range 128).flatMap fun k =>
    let v := tabGet (fun _ => (0, 0)) d.cal.rmuVals k
    [v.1, v.2, ((tabGet (fun _ => 0xFFFF) d.cal.rmuQ k : Nat) : Int), if d.cal.rmuUncal.contains k then 1 else 0]
  (List.range 1024).map fun i => (Config.calRecord vals).getD i 0

/-- The tap table, pin-major, 16 bits each (R326). -/
def tapTable (d : Device) : List Byte := (List.range 34816).flatMap fun k => leBytes 2 (tabGet (fun _ => 0xFFFF) d.cal.taps k)

/-- The body of a copy of the values in use (R326). -/
def storeBody (d : Device) : List Byte := (List.range 1056).flatMap d.sliceRecord ++ d.tapTable ++ d.rmuRecords

/-- The header of a copy, 64 bytes (R326): MAGIC, FORMAT, SEQ, LENGTH and the CRC-32C over them and the body, in this order (assumption 88). -/
def storeHead (seq : Word) (body : List Byte) : List Byte :=
  let h := leBytes 4 0x43414C55 ++ leBytes 4 1 ++ leBytes 4 seq.toNat ++ leBytes 4 body.length
  h ++ leBytes 4 (crc32c (h ++ body)) ++ List.replicate 44 0

/-- Save the values in use (R327): into the copy that is not active, which becomes the active one; `ok` says that a readback matched. -/
def saveCal (d : Device) (m : Mem) (ok : Bool) : Mem × Device :=
  let b := !d.flag 0x60004 2
  let seq := d.rd 0x6001C + 1
  let m := eraseCopy m b
  if ok then
    let d := ((d.setCopy b (d.snapshot seq)).wr 0x6001C seq).fsetB 0x60004 2 b
    let m := (m.flashWrite (copyBase b + 0x40) d.storeBody).flashWrite (copyBase b) (storeHead seq d.storeBody)
    (m.flashWrite (copyBase b + 0x3FF000) (markerBytes seq),
     (((d.fsetB 0x60004 3 false).setCal { d.cal with dirtySince := none }).event 0x60008 6))
  else (m, ((d.setCopy b .bad).event 0x60008 7).notice 0x0A 0 0x3A 0)

/-- SEQ of a copy, when it is valid. -/
def copySeq : CalCopy → Option Word
  | .valid s _ _ _ _ _ _ _ _ => some s
  | _ => none

/-- Put a copy's values in use. -/
def loadCopy (d : Device) (x : CalCopy) : Device :=
  match x with
  | .valid seq user tcal words marks taps rmuQ rmuVals rmuUncal =>
    let d := d.setCal { d.cal with user := user, tcal := tcal, marks := marks, taps := taps, rmuQ := rmuQ, rmuVals := rmuVals, rmuUncal := rmuUncal }
    ((words.filter fun p => calStored p.1).foldl (fun d p => d.wr p.1 p.2) d).wr 0x6001C seq
  | _ => d

/-- The start-up step for user calibration (R328): the valid copy with the newer SEQ. -/
def applyUserCal (d : Device) : Device :=
  let a := d.cal.copyA
  let b := d.cal.copyB
  let erased (x : CalCopy) : Bool := decide (x = .erased)
  match copySeq a, copySeq b with
  | none, none => d.fset 0x60004 0 2 2
  | some _, none => ((d.loadCopy a).fset 0x60004 0 2 (if erased b then 0 else 1)).fsetB 0x60004 2 false
  | none, some _ => ((d.loadCopy b).fset 0x60004 0 2 (if erased a then 0 else 1)).fsetB 0x60004 2 true
  | some s, some t =>
    let newerB := decide ((t - s).toNat < 2 ^ 31)
    ((d.loadCopy (if newerB then b else a)).fset 0x60004 0 2 0).fsetB 0x60004 2 newerB

end Device

end Sys2Proof.Machine
end

