-- ==== Sys2Proof/Machine/KeyOps.lean ====
section
/-!
DEFINITION. The keys that the device trusts and holds (R435, R437, R442): key-hash slots, root keys.
-/

namespace Sys2Proof.Machine

namespace Device

/-- Key slot `k` accepts signatures: it is programmed and not revoked (R442). -/
def slotGood (d : Device) (k : Nat) : Bool := decide (k < 3) && d.flag 0x3000C k && !d.flag 0x3000C (4 + k)

/-- A public key is the one whose hash slot `k` holds (R442). -/
def keyKnown (d : Device) (k : Nat) (key : List Byte) : Bool := sha512 key == tabGet (fun _ => []) d.sys.sec.hashes k

/-- A signature is accepted (R442): `verified` says that it verifies under the key it carries. -/
def sigGood (d : Device) (k : Nat) (key : List Byte) (verified : Bool) : Bool := d.slotGood k && d.keyKnown k key && verified

/-- The root key that KEYSRC names (R435): the eFuse key, or the BBRAM key. -/
def rootKey (d : Device) (src : Nat) : Option (List Byte) := if src = 0 then d.sys.sec.fkey else d.sys.sec.bbKey

end Device

end Sys2Proof.Machine
end

