-- ==== Sys2Proof/Machine/Fabric.lean ====
section
/-!
DEFINITION. The Fret commands (R273, R276, R280 to R297): load requests, the image cache, loads and their failures, release, retries, the
scrubber, the host windows.
-/

namespace Sys2Proof.Machine

namespace Device

/-- Replace the loader. -/
def setLoader (d : Device) (l : Loader) : Device := { d with loader := l }

/-- Set FABCFG_FSTAT.STATE (R300). -/
def setFretState (d : Device) (f s : Nat) : Device := d.fset (aFRET f 0) 0 3 s

/-! The cache (R280). -/

/-- An image is pinned while some Fret holds it. -/
def pinned (d : Device) (k : Nat) : Bool := d.frets.any fun x => x.2.content == k && decide (k ≠ 0)

/-- Key of the content of region `r`. -/
def regionKey (r : Nat) : Nat := r + 1

/-- Key of the base content of Fret `f`. -/
def baseKey (f : Nat) : Nat := 257 + f

/-- Key of what a request loads; region 255 is the base content of its Fret, which QUIET reloads (R405). -/
def reqKey (r : FretReq) : Nat := if r.region = 255 then baseKey r.fret else regionKey r.region

/-- FABCFG_CACHEUSE in MiB, rounded up (R299). -/
def noteCache (d : Device) : Device :=
  let total (es : List CacheEnt) : Nat := ceilDiv ((es.map fun e => e.img.bytes).sum) (2 ^ 20)
  (d.fset 0xE0018 0 13 (total d.loader.cache)).fset 0xE0018 16 13 (total (d.loader.cache.filter fun e => d.pinned e.key))

/-- The image used least recently among those not pinned. -/
def lruOf (d : Device) (es : List CacheEnt) : Option CacheEnt :=
  es.foldl (fun b e => if d.pinned e.key then b else match b with
    | some x => if e.used < x.used then some e else b
    | none => some e) none

/-- Evict unpinned images, least recently used first, until `n` bytes fit (R280). -/
def evict (d : Device) (n : Nat) : Nat → List CacheEnt → List CacheEnt
  | 0, es => es
  | k + 1, es =>
    if (es.map fun e => e.img.bytes).sum + n ≤ d.fget 0xE0014 0 13 * 2 ^ 20 then es
    else match d.lruOf es with
      | some x => d.evict n k (es.filter fun e => e.key != x.key)
      | none => es

/-- Place an image in the cache. -/
def cachePut (d : Device) (k : Nat) (x : RegionImg) : Device :=
  let es := d.loader.cache.filter fun e => e.key != k
  let es := d.evict x.bytes es.length es
  (d.setLoader { d.loader with cache := es ++ [⟨k, x, d.loader.uses⟩], uses := d.loader.uses + 1 }).noteCache

/-- Remove an image from the cache. -/
def cacheDrop (d : Device) (k : Nat) : Device :=
  (d.setLoader { d.loader with cache := d.loader.cache.filter fun e => e.key != k }).noteCache

/-- The image of key `k` in the cache. -/
def cachedImg (d : Device) (k : Nat) : Option RegionImg := (d.loader.cache.find? fun e => e.key == k).map CacheEnt.img

/-- The image is in the cache. -/
def cached (d : Device) (k : Nat) : Bool := (d.cachedImg k).isSome

/-- Note the use of a cached image. -/
def cacheUse (d : Device) (k : Nat) : Device :=
  d.setLoader { d.loader with cache := d.loader.cache.map fun e => if e.key = k then { e with used := d.loader.uses } else e,
                              uses := d.loader.uses + 1 }

/-! Configuration frames (R270, R277, R278). -/

/-- The bytes of frame `a` as it was written; a frame that nothing has written is blank. -/
def frameBytes (d : Device) (a : Nat) : List Byte :=
  match tabGet (fun _ => none) d.frames a with
  | some bs => bs
  | none => (List.range frameLen).map (Config.blankFrame a)

/-- The CRC-32C that the shell keeps of a frame as it was written (R277). -/
def frameCrc (d : Device) (a : Nat) : Nat := crc32c (d.frameBytes a)

/-- Write a frame, or leave it blank. -/
def writeFrame (d : Device) (x : Nat × Option (List Byte)) : Device := { d with frames := tabSet (fun _ => none) x.1 x.2 d.frames }

/-- CRC-32C of the frames of a window, or of all of them, in ascending address order (R278, R417). -/
def framesCrc (d : Device) (from_ n : Nat) : Nat := crc32c ((List.range n).flatMap fun j => d.frameBytes (from_ + j))

/-! Requests (R281). -/

/-- FABCFG_STATUS and the PEND fields follow the loader (R299, R300). -/
def noteLoader (d : Device) : Device :=
  let l := d.loader
  let st := match l.cur with
    | none => 0
    | some r => if !l.isolated then 1 else if d.fretState r.fret = 2 then 3 else 2
  let d := ((d.fset 0xE0000 0 2 st).fset 0xE0000 8 6 ((l.cur.map FretReq.fret).getD 0)).fset 0xE0000 16 6 l.queue.length
  (List.range 48).foldl (fun d f =>
    match l.queue.find? fun r => r.fret == f with
    | some r => (d.fsetB (aFRET f 0) 24 true).fset (aFRET f 0) 16 8 r.region
    | none => d.fsetB (aFRET f 0) 24 false) d

/-- The loader takes the next request when it has none; under HOLD requests wait (R281, R296). A repeat reads from flash again (R289). -/
def loaderNext (d : Device) : Device :=
  if d.loader.cur.isSome ∨ d.capo = 1 then d.noteLoader
  else match d.loader.queue with
    | [] => d.noteLoader
    | r :: rest =>
      let d := d.setLoader { d.loader with queue := rest, cur := some r, isolated := false, since := d.edge }
      (if r.op = 0 ∧ r.again then d.cacheDrop (reqKey r) else d).noteLoader

/-- End the scheduled retry of Fret `f` (R281). -/
def dropRetry (d : Device) (f : Nat) : Device :=
  (d.setFret f { d.fret f with retry := none }).fsetB (aFRET f 0) 25 false

/-- A request joins the queue: a pending one of the same Fret is replaced (R281). -/
def enqueueReq (d : Device) (r : FretReq) : Device :=
  let old := d.loader.queue.any fun x => x.fret == r.fret
  let d := if old then d.event 0xE0004 2 else d
  (d.setLoader { d.loader with queue := (d.loader.queue.filter fun x => x.fret != r.fret) ++ [r] }).loaderNext

/-- The request can be accepted (R281): its Fret is not FAULTED; a region to load is VALID and made for the Fret. -/
def reqOk (d : Device) (r : FretReq) : Bool :=
  decide (d.fretState r.fret ≠ 4) &&
  (decide (r.op ≠ 0) || (d.flag (aCATLG r.region 0) 7 && decide (d.fget (aCATLG r.region 0) 0 6 = r.fret)))

/-- Accept a request: it cancels the Fret's retry, and its attempts are counted afresh (R281, R300). -/
def acceptReq (d : Device) (r : FretReq) : Device := ((d.dropRetry r.fret).fset (aFRET r.fret 4) 0 16 0).enqueueReq r

/-- A write of FABCFG_LOAD (R281, R299). -/
def loadWrite (d : Device) (p : Party) (raw : Word) : Device :=
  let a := 0xE0008
  let (v, hits) := d.cook a raw
  let d := d.reportHits (srcOf p) a a 0 0xFFFF hits
  let r : FretReq := ⟨bitsOf v 0 6, bitsOf v 8 8, bitsOf v 16 2, false, false⟩
  if !bitOf raw 31 then d else if d.reqOk r then d.acceptReq r else d.refuse a

/-! Isolation, load, release (R283 to R286). -/

/-- The levels of the border outputs of Fret `f` now. -/
def borderLevels (d : Device) (f : Nat) : Tab Bool := ((List.range 256).filter fun s => d.border f s).map fun s => (s, true)

/-- Isolation of Fret `f` (R283, R284): its border outputs take their border values and its inputs are cut off. -/
def isolate (d : Device) (f : Nat) : Device :=
  let x := d.fret f
  let held := if x.ran then d.borderLevels f else []
  let d := d.setFret f { x with held := held, bvals := (List.range 16).map fun w => d.rd (aBVAL f w), events := [], cut := true }
  (((d.setFretState f 1).fset (aFRET f 0x18) 0 11 0).setLoader { d.loader with isolated := true, since := d.edge }).noteLoader

/-- The isolation edge of the request in progress (R283): once the image is in the cache, at a sample edge; under HOLD it waits (R296), and for a base
Fret that is not RUNNING yet (R282). The old image
is unpinned at the first frame write (R280). -/
def loaderEdge (d : Device) : Device :=
  match d.loader.cur with
  | some r =>
    if d.loader.isolated then
      (if r.op ≠ 2 ∧ d.fretState r.fret = 1 ∧ d.loader.since + 32 ≤ d.edge ∧ (d.fret r.fret).content ≠ 0 then
        (d.setFret r.fret { d.fret r.fret with content := 0 }).noteCache else d)
    else if d.capo = 1 ∨ d.fretState r.fret = 1 ∨ d.fretState r.fret = 2 ∨ (r.op = 0 ∧ !d.cached (reqKey r)) then d
    else (if r.op = 0 then d.cacheUse (reqKey r) else d).isolate r.fret
  | none => d

/-- The request in progress ends; the next is taken. -/
def loaderDone (d : Device) : Device := (d.setLoader { d.loader with cur := none, isolated := false }).loaderNext

/-- Wait before the next attempt after failure number `n`, in ms (R289). -/
def retryWait (n : Nat) : Nat := if 8 ≤ n then 1000 else 10 * 2 ^ (n - 1)

/-- A load fails (R288, R289): LASTERR, its events, a notice, and a retry from flash. -/
def loadFails (d : Device) (r : FretReq) (code : Nat) : Device :=
  let f := r.fret
  let n := min 65535 (d.fget (aFRET f 4) 0 16 + 1)
  let wait := retryWait n
  let d := (d.fset (aFRET f 4) 0 16 n).fset (aFRET f 4) 28 4 code
  let d := ((d.event 0xE0004 4).fsetB (aFRET f 8) 2 true).notice 0x07 f 0x35 code
  let d := (d.setFret f { d.fret f with retry := some ({ r with again := true }, d.edge + 20480 * wait) }).fsetB (aFRET f 0) 25 true
  d.loaderDone

/-- Fret `f` is EMPTY: its border outputs carry their border values without end (R284, R288). -/
def fretEmpty (d : Device) (f : Nat) : Device := ((d.setFretState f 0).fset (aFRET f 0) 8 8 0xFF).setFret f { d.fret f with content := 0, live := [] }

/-- Reset release of Fret `f` (R286): it receives its inputs; its border outputs follow RELDLY fabric clocks later. -/
def releaseFret (d : Device) (f : Nat) : Device := (d.setFret f { d.fret f with released := d.edge, cut := false, live := [], events := [] }).setFretState f 2

/-- A class P fault of Fret `f` (R294): FAULTED, its requests and retry end, its compare units return to FREE. -/
def fretFault (d : Device) (f : Nat) : Device :=
  let d := (d.report { entry .p 0x07 f 0x11 0 with action := 4 }).setFretState f 4
  let d := ((d.event 0xE0004 7).fsetB (aFRET f 8) 3 true).fsetB (0x50314 + 4 * (f / 32)) (f % 32) true
  let d := d.setFret f { d.fret f with live := [], events := [], content := 0 }
  let d := ((d.fset (aFRET f 0x18) 0 11 0).dropRetry f).setLoader { d.loader with queue := d.loader.queue.filter fun r => r.fret != f }
  let d := (List.range 256).foldl (fun d i =>
    let c := aCMP (i / 64) (i % 64) 8
    if d.fget c 22 3 = 3 ∧ d.fget c 25 6 = f then (d.fset c 22 3 0).fset c 25 6 0 else d) d
  match d.loader.cur with
  | some r => if r.fret = f then d.loaderDone else d.noteLoader
  | none => d.noteLoader

/-- Bytes of the region image library (R411). -/
def libBase : Nat := 0x0C100000

/-- The region image that the segments of a read give (R283, R424, R437 to R441), or LASTERR: 2 for whatever authentication or the digest finds, 3
for a content whose own header fails (R288). Region 255 has no image in the library, so its read fails (DESIGN CHOICE, assumption 86). -/
def regionRead (d : Device) (m : Mem) (r : FretReq) (segs : List (List Byte)) : Except Nat RegionImg :=
  let base := libBase + 4096 * d.fget (aCATLG r.region 4) 0 14
  let h := m.flashRead base 64
  let p := streamP (cut h 20 40)
  let t := p.openAll (d.rootKey p.keysrc) (numAt h 16 4) (cut h 8 8) (fun o n => m.flashRead (base + 64 + o) n) segs
  if 254 < r.region ∨ !regionHdrOk h r.region (d.fget (aCATLG r.region 0) 0 6) (d.fget (aCATLG r.region 8) 0 26) ∨ !t.2 ∨
      sha512 t.1 ≠ regionDigest d.sys.boot.manifest r.region then .error 2
  else match regionOf t.1 r.fret with
    | some x => .ok x
    | none => .error 3

/-- A region image has been read from flash, or could not be (R283, R288). -/
def imageCached (d : Device) (m : Mem) (x : RegionFetch) : Device :=
  match d.loader.cur with
  | none => d
  | some r =>
    if r.op ≠ 0 ∨ d.loader.isolated ∨ d.cached (reqKey r) then d
    else match x with
      | .flashError => d.loadFails r 1
      | .read segs => match d.regionRead m r segs with
        | .ok img => (d.cachePut (reqKey r) img).noteLoader
        | .error code => d.loadFails r code

/-- The frames that the request in progress writes, in order: its image's, or for UNLOAD blank ones (R283). -/
def loadFrames (d : Device) (r : FretReq) : List (Nat × Option (List Byte)) :=
  loadOrder r.fret (if r.op = 0 then ((d.cachedImg (reqKey r)).map RegionImg.frames).getD [] else [])

/-- Write the first `n` frames of the request in progress. -/
def writeFrames (d : Device) (r : FretReq) (n : Nat) : Device := ((d.loadFrames r).take n).foldl writeFrame d

/-- Frames that the request in progress has written by now: from 32 Ts after its isolation, 40 Ts each (R283). -/
def framesDone (d : Device) : Nat := min 256 ((d.edge - d.loader.since - 32) / 40)

/-- The record at which the request in progress fails, with LASTERR (R288). -/
def rejects (d : Device) (r : FretReq) : Option (Nat × Nat) :=
  if r.op = 0 then badRecord r.fret (((d.cachedImg (reqKey r)).map fun x => x.frames.map Prod.fst).getD []) [] 0 else none

/-- The region of a finished load is in force (R283, R300): its window read back with its CRC. -/
def regionLoaded (d : Device) (r : FretReq) : Device :=
  let f := r.fret
  let c := d.rd (aCATLG r.region 0)
  let d := (d.setFret f { d.fret f with content := reqKey r }).noteCache
  let d := d.fset (aFRET f 0) 8 8 r.region
  let d := if r.region = 255 then d else d.wr (aFRET f 0x10) (BitVec.ofNat 32 (bitsOf c 9 1 + bitsOf c 16 10 * 2 ^ 16))
  (((d.event 0xE0004 3).fsetB (aFRET f 8) 1 true).releaseFret f).noteLoader

/-- All frames of the request in progress are written, or one is rejected (R282, R283, R288). Nothing happens before that can be: 40 Ts a frame
from 32 Ts after the isolation, 64 Ts for a RESET. -/
def framesEnd (d : Device) (r : FretReq) : Device :=
  let f := r.fret
  let n := d.framesDone
  if r.op = 2 then (if d.loader.since + 64 ≤ d.edge then (d.releaseFret f).noteLoader else d)
  else match d.rejects r with
    | some (k, code) => if k ≤ n ∧ d.loader.since + 32 ≤ d.edge then ((d.writeFrames r k).fretEmpty f).loadFails r code else d
    | none =>
      if n < 256 then d
      else
        let d := d.writeFrames r 256
        if r.op = 1 then (d.fretEmpty f).loaderDone
        else if some (d.framesCrc (256 * f) 256) = (d.cachedImg (reqKey r)).map RegionImg.wcrc then d.regionLoaded r
        else (d.fretEmpty f).loadFails r 7

/-- The frames of the request in progress are written, or the load failed (R282, R283, R288, R294). -/
def loadComplete (d : Device) (x : RegionWrite) : Device :=
  match d.loader.cur with
  | none => d
  | some r =>
    if d.loader.isolated = false then
      (if x = .cacheCrc ∧ r.op = 0 ∧ d.cached (reqKey r) then (d.cacheDrop (reqKey r)).loadFails r 4 else d)
    else if d.fretState r.fret ≠ 1 ∨ !d.fabricOn then d
    else match x with
      | .ok => d.framesEnd r
      | .frameWriteFailed =>
        let n := match d.rejects r with
          | some (k, _) => min k d.framesDone
          | none => d.framesDone
        if r.op = 2 ∨ n = 0 then d else (d.writeFrames r n).fretFault r.fret
      | .cacheCrc => d

/-- RELDLY fabric clocks after its release Fret `f` is RUNNING with its border outputs live (R286). -/
def borderConnect (d : Device) (f : Nat) : Device :=
  if d.fabricOn ∧ d.fretState f = 2 ∧ 20480 * d.fget (aFRET f 0x10) 16 10 ≤ (d.edge - (d.fret f).released) * d.fabricKhz then
    let d := (d.setFretState f 3).setFret f { d.fret f with ran := true }
    match d.loader.cur with
    | some r => if r.fret = f ∧ d.loader.isolated then d.loaderDone else d
    | none => d
  else d

/-- An edge at which the fabric clock stands still (R297): what counts its clocks waits, a RELDLY and the reset of a RESET. -/
def slipFrets (d : Device) : Device :=
  let d := ((List.range 48).filter fun f => decide (d.fretState f = 2)).foldl (fun d f => d.setFret f { d.fret f with released := (d.fret f).released + 1 }) d
  match d.loader.cur with
  | some r => if d.loader.isolated ∧ r.op = 2 then d.setLoader { d.loader with since := d.loader.since + 1 } else d
  | none => d

/-- The wait of Fret `f` after a failed load is over: firmware repeats the request (R289); under HOLD it waits (R296). -/
def regionRetry (d : Device) (f : Nat) : Device :=
  match (d.fret f).retry with
  | some (r, e) => if e ≤ d.edge ∧ d.capo ≠ 1 ∧ d.fretState f ≠ 4 then (d.dropRetry f).enqueueReq r else d
  | none => d

/-! The scrubber (R290 to R293). -/

/-- A RESET after an essential upset goes ahead of every queued request (R293). -/
def upsetReset (d : Device) (f : Nat) : Device :=
  if d.flag (aFRET f 0x10) 0 then (d.setLoader { d.loader with queue := ⟨f, 0, 2, false, true⟩ :: d.loader.queue }).loaderNext else d

/-- An upset in Fret `f` was repaired (R292). Past the limit of R336 an essential one is of class P. -/
def upset (d : Device) (f : Nat) (essential : Bool) : Device :=
  let r : Resource := .fret (Fin.ofNat 48 f)
  if essential then
    let d := (d.bump (aFRET f 0xC) 16 16).fsetB (aFRET f 8) 0 true
    if d.tooMany r then d.fretFault f else (((d.report { entry .t 0x07 f 0x10 0 with action := 9 }).noteT r)).upsetReset f
  else d.bump (aFRET f 0xC) 0 16

/-- The image of what Fret `f` holds, with its essential map (R280, R291). -/
def contentImg (d : Device) (f : Nat) : Option RegionImg := d.cachedImg (d.fret f).content

/-- An error in local frame `j` of Fret `f` is essential (R291): one bit by its bit of the map, more by the frame's summary bit; without a map every
bit is essential (R278). -/
def essential (d : Device) (f j : Nat) (x : FrameCheck) : Bool :=
  match d.contentImg f, x with
  | some m, .single b => m.bitEssential j b
  | some m, _ => m.frameEssential j
  | none, _ => true

/-- The scrubber reads its next frame (R290, R291), 20 Ts or more after the one before; at the end of a pass FABCFG_SCRUB follows (R296). -/
def scrubStep (d : Device) (x : FrameCheck) : Device :=
  if !d.fabricOn ∨ d.edge < d.scrub.last + 20 then d
  else
    let n := d.scrub.next
    let f := n / 256
    let looks := d.fretLive f
    let good := d.scrub.good && (!looks || decide (x ≠ .multi ∧ x ≠ .stubborn))
    let d := if !looks then d else match x with
      | .clean => d
      | .single b => d.upset f (d.essential f (n % 256) (.single b))
      | .multi => d.upset f (d.essential f (n % 256) .multi)
      | .stubborn => d.fretFault f
    if n + 1 < 12288 then { d with scrub := ⟨n + 1, d.edge, good⟩ }
    else ({ d with scrub := ⟨0, d.edge, true⟩ }.bump 0xE000C 0 16).fsetB 0xE000C 16 good

/-! Windows and border outputs (R273, R276). -/

/-- The window of Fret `f` reaches its design, which answers only while its clock runs (R276, R297). -/
def windowOpen (d : Device) (f : Nat) : Bool := decide (d.fretState f = 3) && d.writesOn && d.fabricOn

/-- A host access to the window of Fret `f` (R276, R471): a read answers what the design gives, or zero. -/
def windowAccess (d : Device) (f : Nat) (op : WindowOp) : Device :=
  match op with
  | .write _ be _ => if be ≠ 15 then d.badWrite else if d.windowOpen f then d else d.event 0xE0004 6
  | .read _ v => if d.windowOpen f then { d with answer := leBytes 4 v.toNat } else { d.event 0xE0004 6 with answer := leBytes 4 0 }

/-- The design has not answered within 1,024 fabric clocks (R276). -/
def windowTimeout (d : Device) : Device := { d.event 0xE0004 6 with answer := leBytes 4 0 }

/-- The design of Fret `f` changes border output `sig` (R273); in reset and without a clock it changes nothing (R297). -/
def borderChange (d : Device) (f sig : Nat) (level : Bool) : Device :=
  if d.fretLive f ∧ d.fabricOn then d.setFret f { d.fret f with live := tabSet (fun _ => false) sig level (d.fret f).live } else d

end Device

/-- FRET_LOAD (R281): a write of FABCFG_LOAD with OP LOAD. -/
def execFretLoad (w : Wr) (s : State) : Host.Outcome State Fault Refusal :=
  .next (s.onDev fun d => d.write w 0xE0008 fun d => d.loadWrite w.by_ (setBits w.data 16 2 0))

/-- FRET_UNLOAD (R281): a write of FABCFG_LOAD with OP UNLOAD. -/
def execFretUnload (w : Wr) (s : State) : Host.Outcome State Fault Refusal :=
  .next (s.onDev fun d => d.write w 0xE0008 fun d => d.loadWrite w.by_ (setBits w.data 16 2 1))

/-- FRET_RESET (R282): a write of FABCFG_LOAD with OP RESET, or the reserved code that is clamped to it (R13). -/
def execFretReset (w : Wr) (s : State) : Host.Outcome State Fault Refusal :=
  .next (s.onDev fun d => d.write w 0xE0008 fun d => d.loadWrite w.by_ (setBits w.data 17 1 1))

/-- REGION_IMAGE_CACHED (R283). -/
def execRegionImageCached (r : RegionFetch) (s : State) : Host.Outcome State Fault Refusal := .next (s.onRead fun d m => d.imageCached m r)

/-- REGION_LOAD_COMPLETE (R283). -/
def execRegionLoadComplete (r : RegionWrite) (s : State) : Host.Outcome State Fault Refusal := .next (s.onDev fun d => d.loadComplete r)

/-- FRET_BORDER_CONNECT (R286). -/
def execFretBorderConnect (f : Fin 48) (s : State) : Host.Outcome State Fault Refusal := .next (s.onDev fun d => d.borderConnect f)

/-- REGION_RETRY (R289). -/
def execRegionRetry (f : Fin 48) (s : State) : Host.Outcome State Fault Refusal := .next (s.onDev fun d => d.regionRetry f)

/-- SCRUB_FRAME (R290). -/
def execScrubFrame (r : FrameCheck) (s : State) : Host.Outcome State Fault Refusal := .next (s.onDev fun d => d.scrubStep r)

/-- FRET_WINDOW_ACCESS (R276). -/
def execFretWindowAccess (f : Fin 48) (op : WindowOp) (s : State) : Host.Outcome State Fault Refusal :=
  .next (s.onDev fun d => d.windowAccess f op)

/-- FRET_WINDOW_TIMEOUT (R276). `f` names the Fret whose design did not answer. -/
def execFretWindowTimeout (f : Fin 48) (s : State) : Host.Outcome State Fault Refusal :=
  .next (s.onDev fun d => if d.windowOpen f then d.windowTimeout else d)

/-- BORDER_OUTPUT_CHANGE (R273). -/
def execBorderOutputChange (f : Fin 48) (sig : Fin 256) (level : Bool) (s : State) : Host.Outcome State Fault Refusal :=
  .next (s.onDev fun d => d.borderChange f sig level)

end Sys2Proof.Machine
end

