-- ==== Sys2Proof/Machine/Recovery.lean ====
section
/-!
DEFINITION. Fault recovery (R334 to R345): detectors, retries and retests, class P decisions, slice handovers (R78), the event log (R354).
-/

namespace Sys2Proof.Machine

/-- SRCKIND and SRCIDX of a resource (R353). -/
def resSrc : Resource → Nat × Nat
  | .slice i => (1, i)
  | .cell n => (2, n)
  | .lane m => (3, m)
  | .bus p => (4, p)
  | .rmu r => (5, r)
  | .engine e => (6, e)
  | .fret f => (7, f)

namespace Device

/-! Engines (R240, R241). -/

/-- Executions with a bus slot to be done and no transaction of theirs on any engine: the next one becomes ready (R233). -/
def readyStalled (d : Device) : Device :=
  (d.execs.map Exec.id).foldl (fun d i =>
    match d.execOf i with
    | none => d
    | some x =>
      let isBus (s : Slot) : Bool := match s.kind with
        | .bus _ _ => s.rec_.isNone
        | _ => false
      if (d.engines.any fun g => g.2.txs.any fun t => t.exec == some i) || (x.slots.any fun s => isBus s && s.waits) then d
      else d.readyNextTx x 0) d

/-- A class P fault of engine `e` (R241): FAULTED; every slot of its transactions is RETIRED. -/
def engineClassP (d : Device) (e code detail : Nat) : Device :=
  if (d.eng e).faulted then d
  else
    let mine (_ : Exec) (s : Slot) : Bool := match s.kind with
      | .bus _ g => g == e
      | _ => false
    let (d, f) := d.faultEntry .p 0x06 e code 4 detail (d.firstHit mine)
    let d := d.clearEng e
    let d := (d.setEng e { d.eng e with faulted := true }).event (aENG e 0x24) 5
    let d := d.fsetB (0x50304 + 4 * (e / 32)) (e % 32) true
    (d.affect mine (some 0x10) f (retireSlot f)).readyStalled

/-- The slot of the transaction under way on engine `e`: its execution, index and entry. -/
def txSlot (d : Device) (e : Nat) : Option (Exec × Nat × Slot × Tx) :=
  match d.headTx e with
  | some t =>
    if t.begun.isSome ∧ t.phase ≠ .decided then
      (match t.exec with
       | some i => (match d.execOf i with
         | some x => (x.slots[t.slot]?).map fun s => (x, t.slot, s, t)
         | none => none)
       | none => none)
    else none
  | none => none

/-- A class T event on an engine whose transaction is under way (R240): the slot is retried, or the transaction ends ABORTED where NORETRY is
one. An EN_HAND event is of class T only: past the budget of R201 its transaction ends ABORTED too. -/
def engineClassT (d : Device) (e code detail : Nat) : Device :=
  match d.txSlot e with
  | none => d
  | some (x, i, s, t) =>
    let noRetry := d.flag (aTE t.entry 0) 7
    let hand := decide (code = 0x0F)
    if !hand && (d.tooMany (.engine (Fin.ofNat 120 e)) || (!noRetry && (d.retryOf s 0 0).isNone)) then d.engineClassP e code detail
    else
      let again := !noRetry && (d.retryOf s 0 0).isSome
      let (d, f) := d.faultEntry .t 0x06 e code (if again then 1 else 0) detail (some x)
      let d := (if hand then d else d.noteT (.engine (Fin.ofNat 120 e))).event (aENG e 0x24) 5
      match (if again then d.retryOf s f 0 (some (.engine (Fin.ofNat 120 e), code, detail)) else none) with
      | some s =>
        let d := d.cutWave e
        ((d.setEng e { d.eng e with txs := (d.eng e).txs.tail }).setSlot x i s).serveKeep e
      | none => ((d.setSlot x i { s with ref := some f }).cutWave e).decide_ e t 10

/-! Classes (R334 to R336). -/

/-- A class P decision on a resource (R338 to R341). -/
def classP (d : Device) (r : Resource) (code detail : Nat) : Device :=
  match r with
  | .slice i => d.sliceClassP i code detail
  | .cell n => d.cellClassP n code detail
  | .lane m => d.laneClassP m code detail
  | .bus p => d.busClassP p code detail
  | .rmu m => d.rmuClassP m code detail
  | .engine e => d.engineClassP e code detail
  | .fret f => d.fretFault f

/-- A retry that waits would start later than 40,960 Ts after the slot's first fault (R201): its event is of class P, and one of EN_HAND ends its
transaction ABORTED (R240). -/
def lateRetry (d : Device) (x : Exec) (i : Nat) (s : Slot) : Device :=
  match s.fault, s.kind with
  | some (.engine _, 0x0F, _), .bus e g =>
    let d := (d.setSlot x i { s with waits := false }).queueTx x.id i e g
    let over_ (t : Tx) : Tx :=
      if t.exec == some x.id && t.slot == i then { t with phase := .decided, outcome := 10, decidedAt := d.edge } else t
    d.setEng g { d.eng g with txs := (d.eng g).txs.map over_ }
  | some (r, code, detail), _ => d.classP r code detail
  | none, _ => (d.setSlot x i (retireSlot (s.ref.getD 0) d x s)).finish x.id false

/-- Events that are of class P at once (R337). -/
def atOnceP (code : Nat) : Bool := [0x04, 0x09, 0x0A, 0x0D, 0x11].contains code

/-- The resource is out of service: nothing fires on it any more. -/
def outOfService (d : Device) (r : Resource) : Bool :=
  match r with
  | .slice i => if i.val % 33 = 32 then (d.crs (i.val / 33)).spareRetired else (d.crs (i.val / 33)).failed.contains (i.val % 33)
  | .cell n => d.retired n
  | .lane m => d.laneOut.contains m.val
  | .bus p => d.mx.out.contains p.val
  | .rmu r => d.flag (aRMU r 0x14) 3
  | .engine e => (d.eng e).faulted
  | .fret f => decide (d.fretState f = 4)

/-- A class T event on slots: its entry, and a retry of each (R199, R335). -/
def retrySlots (d : Device) (x : Detect) (p : Exec → Slot → Bool) : Device :=
  let code := x.code.toNat
  let spent := d.execs.any fun e => e.slots.any fun s => s.rec_.isNone && p e s && (d.retryOf s 0 0).isNone
  if d.tooMany x.res || spent then d.classP x.res code x.detail.toNat
  else
    let (k, i) := resSrc x.res
    let (d, f) := d.faultEntry .t k i code 1 x.detail.toNat (d.firstHit p)
    (d.noteT x.res).affect p none f fun d _ s => (d.retryOf s f 0 (some (x.res, code, x.detail.toNat))).getD s

/-- A condition is present that R337 excludes for a detector: an out-of-range sample for SL_MOD, a clamp that acts or a RANGING window for
CL_LOOP. -/
def excluded (d : Device) (r : Resource) (code : Nat) : Bool :=
  match r with
  | .slice i => decide (code = 1) && allChans.any fun n => d.sliceOf n == i.val && d.flag (aCH n 0x44) 25
  | .cell n => decide (code = 5) && ((d.ch n).clampSince.isSome || decide ((d.ch n).flagStart ≤ d.edge ∧ d.edge < (d.ch n).flagEnd))
  | _ => false

/-- A detector fires (R335): on slots that use its resource the retry decides; else the resource is retested. -/
def detected (d : Device) (x : Detect) : Device :=
  let code := x.code.toNat
  if d.outOfService x.res || d.excluded x.res code then d
  else if atOnceP code then d.classP x.res code x.detail.toNat
  else match x.res with
    | .engine e =>
      if (d.txSlot e).isSome then d.engineClassT e code x.detail.toNat
      else if d.rec_.retests.any fun t => t.res == x.res then d
      else { d with rec_ := { d.rec_ with retests := ⟨x.res, code, d.edge, x.detail.toNat, 0⟩ :: d.rec_.retests } }
    | _ =>
      let p (e : Exec) (s : Slot) : Bool := d.servesSlot x.res e.words s
      if (d.firstHit p).isSome then d.retrySlots x p
      else if d.rec_.retests.any fun t => t.res == x.res then d
      else { d with rec_ := { d.rec_ with retests := ⟨x.res, code, d.edge, x.detail.toNat, 0⟩ :: d.rec_.retests } }

/-- A self-test of a resource under retest ends (R335): passed, the event is of class T; the third failure, or one after which a further test
would be too late, makes it class P. A slot that has started on the resource since the event counts a failure against its own budget. -/
def retested (d : Device) (r : Resource) (pass : Bool) : Device :=
  match d.rec_.retests.find? fun t => t.res == r with
  | none => d
  | some t =>
    if d.edge < t.edge + 64 then d
    else if t.edge + 40960 < d.edge then ({ d with rec_ := { d.rec_ with retests := d.rec_.retests.filter fun y => y.res != r } }).classP r t.code t.detail
    else
      let drop := { d with rec_ := { d.rec_ with retests := d.rec_.retests.filter fun y => y.res != r } }
      if pass then
        if d.tooMany r then drop.classP r t.code t.detail
        else ((drop.faultEntry .t (resSrc r).1 (resSrc r).2 t.code 2 t.detail).1).noteT r
      else if 2 ≤ t.fails ∨ t.edge + 40960 ≤ d.edge then drop.classP r t.code t.detail
      else
        let count (x : Exec) (s : Slot) : Slot :=
          if s.rec_.isNone && decide (t.edge ≤ x.startEdge) && d.servesSlot r x.words s then
            { s with retries := s.retries + 1, firstFault := some (s.firstFault.getD t.edge) }
          else s
        { d with execs := d.execs.map fun x => { x with slots := x.slots.map (count x) },
                 rec_ := { d.rec_ with retests := d.rec_.retests.map fun y => if y.res = r then { y with fails := y.fails + 1 } else y } }

/-- The handover of course `c` (R78); the handover of a remap while a frame is on its pin's wire is a class T event of the engine (R240). -/
def sliceMove (d : Device) (c : Nat) : Device :=
  match (d.crs c).hand with
  | none => d.handover c
  | some h =>
    let d' := d.handover c
    if h.kind = .remap ∧ (d.handNow h).1 then
      (d.frameOn h.chan).foldl (fun d e => d.engineClassT e 0x0F 0) d'
    else d'

/-! The event log (R354, R430). -/

/-- Write items into the log, erasing a sector before its first entry. -/
def logItems : List LogItem → Mem → Device → Mem × Device
  | [], m, d => (m, d)
  | x :: r, m, d =>
    let sec := d.fget 0x50030 0 11
    let base := 0x0FB00000 + 4096 * sec
    let m := if d.logIdx = 0 then { m with flash := m.flash.filter fun p => decide (p.1 < base) || decide (base + 4096 ≤ p.1) } else m
    let m := m.flashWrite (base + 32 * d.logIdx) x.bytes
    let d := { d with logSeq := match x with
      | .fault e => some e.fseq
      | .clamp _ => d.logSeq }
    let d := if d.logIdx + 1 < 128 then { d with logIdx := d.logIdx + 1 }
      else { d with logIdx := 0 }.fset 0x50030 0 11 (if sec + 1 < 1280 then sec + 1 else 0)
    logItems r m d

/-- The copying of one second: at most 64 entries; the excess is counted in FAULT_LOG.DROPS (R354). -/
def logCopy (d : Device) (m : Mem) : Mem × Device :=
  let early := match d.logAt with
    | some e => decide (d.edge < e + 20480000)
    | none => false
  if early || d.logQ.isEmpty then (m, d)
  else
    let excess := d.logQ.length - 64
    let (m, d) := logItems (d.logQ.take 64) m { d with logAt := some d.edge, logQ := [] }
    (m, if excess = 0 then d else (d.bumpBy 0x50030 16 16 excess).event 0x50004 4)

end Device

/-- SLICE_HANDOVER (R78). -/
def execSliceHandover (c : Fin 32) (s : State) : Host.Outcome State Fault Refusal := .next (s.onDdr fun d => d.sliceMove c)

/-- FAULT_DETECTED (R335). -/
def execFaultDetected (x : Detect) (s : State) : Host.Outcome State Fault Refusal := .next (s.onDdr fun d => d.detected x)

/-- DEVICE_RETEST (R335). -/
def execDeviceRetest (r : Resource) (pass : Bool) (s : State) : Host.Outcome State Fault Refusal := .next (s.onDdr fun d => d.retested r pass)

/-- EVENT_LOG_COPY (R354). -/
def execEventLogCopy (s : State) : Host.Outcome State Fault Refusal := .next (s.onMem fun m d => d.logCopy m)

end Sys2Proof.Machine
end

