-- ==== Sys2Proof/Machine/Lists.lean ====
section
/-!
DEFINITION. The commands of step lists, contexts and result queues (R186 to R210).
-/

namespace Sys2Proof.Machine

namespace Device

/-! Lists. -/

/-- Arm a list that is IDLE or STOPPED (R194). -/
def armIfAtRest (d : Device) (l : Nat) : Device := if d.lstState l = 0 ∨ d.lstState l = 3 then d.armList l true else d

/-- The step engine is armed: every list with EN one that is IDLE or STOPPED becomes ARMED (R194). -/
def armEngine (d : Device) : Device :=
  let d := (d.fsetB 0x80000 0 true).fsetB 0x80004 16 true
  ((List.range 256).filter fun l => d.flag (aLIST l 0) 31).foldl armIfAtRest d

/-- A GO of STEP_START for list `l` (R192). -/
def startGo (d : Device) (l : Nat) : Device :=
  if d.lstTrig l = 0 ∨ d.lstTrig l = 6 then d.trigger l else d.refuse 0x80020

/-- Contexts reached from those of `todo` through NEXT, and through FAILARG where ONFAIL goes there, at most `n` more of them (R191, R198). -/
def ctxsFrom (d : Device) : Nat → List Nat → List Nat → List Nat
  | 0, _, seen => seen
  | _, [], seen => seen
  | n + 1, c :: todo, seen =>
    if seen.contains c then d.ctxsFrom n todo seen
    else
      let ws := d.ctxWords c
      d.ctxsFrom n ((ctxNext ws).toList ++ (if ctxOnfail ws = 1 then [ctxFailarg ws] else []) ++ todo) (c :: seen)

/-- Engines that transactions of list `l` run on: those that the templates of its contexts name (R228, R244). -/
def listEngines (d : Device) (l : Nat) : List Nat :=
  (d.ctxsFrom 32768 [d.fget (aLIST l 0) 0 14] []).flatMap fun c => (d.tplSlots (ctxTpl (d.ctxWords c))).filterMap fun k => match k with
    | .bus _ g => some g
    | _ => none

/-- HALTED engines of lists that have just been armed leave that state (R244). -/
def unhaltLists (d : Device) (ls : List Nat) : Device :=
  let halted := (tabKeys d.engines).filter fun e => (d.eng e).halted
  if halted.isEmpty then d
  else
    let es := ls.flatMap d.listEngines
    (halted.filter es.contains).foldl unhaltEng d

/-- Stop list `l`: no further context starts (R194, R195). -/
def stopList (d : Device) (l : Nat) : Device := (d.dropPend l).setLstState l 3

/-- The context of list `l` cannot be read: it does not start, its list is STOPPED (R187). `idx` is the store of R353. -/
def eccStop (d : Device) (l ctx idx : Nat) : Device :=
  let d := (d.report { entry .t 0x0B idx 0x12 0 with ctx := ctx } true).event 0x80008 4
  d.stopList l

/-- A write of STEP_START (R192, R194). Lists that it arms again take the engines out of HALTED (R244). `ecc` says that the context which an
arming makes pending cannot be read (R187). -/
def startWrite (d : Device) (raw : Word) (ecc : Bool) : Device :=
  let l := bitsOf raw 0 8
  let arms := bitOf raw 30 && decide (d.lstState l = 0 ∨ d.lstState l = 3)
  let d := if arms then (d.armIfAtRest l).unhaltLists [l] else d
  let d := match ecc && arms, (d.lst l).pend with
    | true, some p => d.eccStop l p.ctx 0
    | _, _ => d
  if bitOf raw 31 then d.startGo l else d

/-- DETAIL of a LISTABORT notice (R195). -/
def writerCode (p : Party) : Nat :=
  match p with
  | .host => 0
  | .firmware => 1
  | .shell _ => 2

/-- A write of STEP_STOP; with ABORT the active context ends at the next sample edge (R195). -/
def stopWrite (d : Device) (p : Party) (raw : Word) : Device :=
  let l := bitsOf raw 0 8
  if !bitOf raw 31 then d
  else
    let d := d.stopList l
    match d.activeOf l with
    | some x => if bitOf raw 30 then d.setLst l { d.lst l with abort := some (x.id, writerCode p) } else d
    | none => d

/-- The sample edge after a STEP_STOP with ABORT: the context of list `l` ends under steps 1 and 2 of R34, with a LISTABORT notice (R195). -/
def abortList (d : Device) (l : Nat) : Device :=
  match (d.lst l).abort with
  | none => d
  | some (i, code) =>
    let d := d.setLst l { d.lst l with abort := none }
    match d.execOf i with
    | none => d
    | some x =>
      if x.active then
        let f := d.nextFseq.toNat
        let a := ctxAxis x.words
        (d.report { entry .notice 0x0D l 0x3B code with pos := (d.ax a).c, axis := a, ctx := x.ctx }).endExec x f 0
      else d

/-- The lists with an ABORT to carry out at this edge. -/
def abortLists (d : Device) : Device := (tabKeys d.lists).foldl abortList d

/-- A write of STEP_CTL (R194, R209). -/
def stepCtl (d : Device) (raw : Word) : Device :=
  if bitOf raw 0 then (if d.armed then d else d.armEngine)
  else (d.fsetB 0x80000 0 false).fsetB 0x80004 16 false

/-- A write of STEP_LDESC with EN zero: the list is IDLE once its active context has completed (R194); a change of the other fields is
refused while the list is ARMED or RUNNING (R12). -/
def disableList (d : Device) (l : Nat) (p : Party) (raw : Word) : Device :=
  let a := aLIST l 0
  let busy := decide (d.lstState l = 1 ∨ d.lstState l = 2)
  if busy && d.reachesRws a raw then d.refuse a
  else
    let d := (d.putCooked p a raw).dropPend l
    if d.execs.any fun x => x.list == l && x.verdict.isNone then d.setLst l { d.lst l with ending := 2 }
    else d.setLstState l 0

/-- The pad of the trigger pin of list `l` rises at the present edge (R191). -/
def pinTrigger (d : Device) (l : Nat) : Device :=
  let c := d.ch (d.lstArg l % 1024)
  if d.lstTrig l = 3 ∧ c.pad ∧ !c.prevPad then d.trigger l else d

/-! Setup records (R188, R189). -/

/-- One field of a setup record with a range: its word, bits, and range. -/
structure SetupFld where
  word : Nat
  lo : Nat
  width : Nat
  lim : Lim

/-- The fields of R188 that a clamp can change. -/
def setupFlds : List SetupFld :=
  [⟨0, 25, 2, .rng 0 2⟩, ⟨1, 0, 3, .rng 0 6⟩, ⟨1, 5, 2, .rng 0 2⟩, ⟨1, 8, 3, .rng 0 4⟩, ⟨2, 0, 18, .srng (-125000) 125000⟩,
   ⟨3, 0, 16, .rng 500 50000⟩, ⟨3, 16, 16, .rng 500 50000⟩]

/-- One word of a setup record. -/
def setupWord (s : Setup) (i : Nat) : Word := match i with | 0 => s.w0 | 1 => s.w1 | 2 => s.w2 | _ => s.w3

/-- Replace one word of a setup record. -/
def setSetupWord (s : Setup) (i : Nat) (w : Word) : Setup :=
  match i with
  | 0 => { s with w0 := w }
  | 1 => { s with w1 := w }
  | 2 => { s with w2 := w }
  | _ => { s with w3 := w }

/-- Clamp one field of record `idx`, with its entry and notice (R189, R429, R430). -/
def clampSetupFld (ctx idx : Nat) (ds : Device × Setup) (f : SetupFld) : Device × Setup :=
  let w := setupWord ds.2 f.word
  let x := bitsOf w f.lo f.width
  let y := f.lim.clamp f.width x
  if x = y then ds
  else
    let ext (v : Nat) : Int := if f.lim.signed then toSigned f.width v else v
    ((ds.1.reportClamp .setup none 0x08 ctx f.width idx (32 * f.word + f.lo) (ext x) (ext y)).event 0x80008 0,
     setSetupWord ds.2 f.word (setBits w f.lo f.width y))

/-- A record as it lies in the pool. -/
def readSetup (m : Mem) (addr : Nat) : Setup :=
  let w (i : Nat) : Word := BitVec.ofNat 32 (leNat (m.ddrRead (addr + 4 * i) 4))
  ⟨w 0, w 1, w 2, w 3⟩

/-- Fetch and clamp `n` records from pool index `idx` (R189). -/
def fetchSetups (m : Mem) (ctx : Nat) : Nat → Nat → Device → Device × List Setup
  | 0, _, d => (d, [])
  | n + 1, idx, d =>
    let (d, s) := setupFlds.foldl (clampSetupFld ctx idx) (d, readSetup m ((d.rd 0x80030).toNat * 16 + 16 * idx))
    let (d, r) := fetchSetups m ctx n (idx + 1) d
    (d, s :: r)

/-- The fetch of a pending context's setup records is complete (R189), or met an uncorrectable error at one of them (R457) or in the context itself (R187). -/
def fetchDone (d : Device) (m : Mem) (l : Nat) (ecc : Option FetchErr) : Device :=
  match (d.lst l).pend with
  | none => d
  | some p =>
    if p.fetched then d
    else
      let ws := d.ctxWords p.ctx
      match ecc with
      | some .context => d.eccStop l p.ctx 0
      | some (.setup i) =>
        let addr := (d.rd 0x80030).toNat + ctxF ws 5 0 20 + i
        (((d.bump 0xC000C 0 32).wr 0xC0010 (BitVec.ofNat 32 addr)).event 0xC0004 1).eccStop l p.ctx 1
      | none =>
        let (d, ss) := fetchSetups m p.ctx (ctxF ws 6 0 11) (ctxF ws 5 0 20) d
        d.setLst l { d.lst l with pend := some { p with fetched := true, setups := ss } }

/-! Start, close, completion (R196). -/

/-- The pending context of list `l` is due and eligible, and the engine may start it. -/
def candidate (d : Device) (l : Nat) : Bool :=
  d.armed && decide (d.capo = 0) && decide (d.lstState l = 2) &&
  (match (d.lst l).pend with
   | some p => p.due.isSome && p.eligible.isSome
   | none => false)

/-- The order in which contexts start at one edge: by due edge, then by ID (R196). -/
def startsBefore (p q : Pend) : Bool :=
  decide (p.due.getD 0 < q.due.getD 0) || (decide (p.due = q.due) && decide (p.ctx < q.ctx))

/-- Another list has a context that can start at this edge and comes before `p` (R196). -/
def passedBy (d : Device) (l : Nat) (p : Pend) : Bool :=
  (tabKeys d.lists).any fun k => decide (k ≠ l) && d.candidate k &&
    (match (d.lst k).pend with
     | some q => startsBefore q p && decide (d.startCauses k q = 0)
     | none => false)

/-- The pending context of list `l` starts if every condition of R196 holds; else the Tuning engine gives up what it needs (R29, R100). A context
that cannot be read stops its list (R187). Contexts start only while Capo is NONE (R33, R94). -/
def tryStart (d : Device) (l : Nat) (ecc : Bool) : Device :=
  match (d.lst l).pend with
  | none => d
  | some p =>
    if d.candidate l = false then d
    else if ecc then d.eccStop l p.ctx 0
    else if d.passedBy l p then d
    else
      if d.startCauses l p = 0 then d.startCtx l p else d.yieldCal p

/-- The pending context of list `l` has waited over the edge that ends now: the causes of its wait are noted (R209), and the Tuning engine gives
up what it needs (R29, R100). -/
def noteWait (d : Device) (l : Nat) : Device :=
  match (d.lst l).pend with
  | none => d
  | some p =>
    if d.candidate l = false then d
    else
      let c := d.startCauses l p
      if c = 0 then d else (d.setLst l { d.lst l with pend := some { p with causes := p.causes ||| c } }).yieldCal p

/-- Every list's wait over the edge that ends. -/
def noteWaits (d : Device) : Device := (tabKeys d.lists).foldl noteWait d

/-- The axis has reached the end of a slot's latest window, and no retry or re-measurement waits (R196, R200). -/
def slotPast (d : Device) (x : Exec) (s : Slot) : Bool :=
  s.fill || (!s.waits && reachedPos (d.ax (ctxAxis x.words)).c ((s.start + ctxLen x.words) % posMod))

/-- The close edge of the active context of list `l` (R196, R198, R200). -/
def closeCtx (d : Device) (l : Nat) : Device :=
  match d.activeOf l with
  | none => d
  | some x =>
    if reachedPos (d.ax (ctxAxis x.words)).c ((x.start + ctxLen x.words) % posMod) && x.slots.all (d.slotPast x) then
      let d := d.endActive x 1
      let d := if decide (d.lstState l = 2) && decide (ctxOnfail x.words = 0 ∨ ctxOnfail x.words = 3) && (ctxNext x.words).isSome then
          d.makeEligible l else d
      d.finish x.id false
    else d

/-- Slot `i` of execution `x` can complete: a channel slot round(G) + 1 Ts after its window's end, a meter's slot once its chain has
passed the window (R196). -/
def slotReady (d : Device) (s : Slot) : Bool :=
  s.rec_.isNone && !s.waits &&
  (match s.kind, s.endEdge with
   | .chan n, some e => decide (e + (d.fget (aFILT n 0xC) 0 30 + 128) / 256 + 1 ≤ d.edge)
   | .rmu _, some _ => true
   | _, _ => false)

/-- A channel or meter slot of the oldest execution of list `l` in which it can complete gets its record (R196). Under HOLD no record
is written but those of R34 (R33). -/
def completeSlot (d : Device) (l i : Nat) : Device :=
  if d.capo = 1 then d
  else
    match d.execs.find? fun x => x.list == l && ((x.slots[i]?.map d.slotReady).getD false) with
    | none => d
    | some x =>
      match x.slots[i]? with
      | none => d
      | some s =>
        let s := match s.kind with
          | .chan n => d.chanRecord x s n
          | .rmu r => d.rmuRecord x s r
          | .bus _ _ => s
        (d.setSlot x i s).finish x.id false

/-! Retries (R199). -/

/-- The retry of slot `i` begins at the present edge: its chain restarts, its meter converts anew, or its transaction is sent
again (R199); STEP_EVENT.RETRY is set. -/
def beginRetry (d : Device) (x : Exec) (i : Nat) (s : Slot) : Device :=
  let d := d.setSlot x i { s with waits := false, start := (d.ax (ctxAxis x.words)).c, outs := [], thr := [], endEdge := none }
  let d := d.event 0x80008 3
  match s.kind with
  | .chan n => d.startChain n d.edge
  | .rmu r => (d.startRmuChain r d.edge).startConv r false (ctxAxis x.words)
  | .bus e g => d.queueTx x.id i e g

/-- The retry edge of slot `i` of an execution of list `l` (R199): at least 64 Ts after the fault. One later than 40,960 Ts after the first fault
exceeds the slot's budget (R201). -/
def retrySlot (d : Device) (l i : Nat) : Device :=
  let ok (s : Slot) : Bool := s.waits && !s.remeasure && decide (s.lastFault + 64 ≤ d.edge)
  match d.execs.find? fun x => x.list == l && ((x.slots[i]?.map ok).getD false) with
  | none => d
  | some x =>
    match x.slots[i]? with
    | some s => if s.firstFault.getD d.edge + 40960 < d.edge then d.lateRetry x i s else d.beginRetry x i s
    | none => d

/-! Queues (R206 to R210). -/

/-- Write committed records to the ring of queue `q` from sequence number `seq` on (R206). -/
def writeRing (d : Device) (q : Nat) : Nat → List (ResRec × Bool) → Mem → Mem
  | _, [], m => m
  | seq, r :: rest, m =>
    let base := bitsOf (d.rd (aRESQ q 0)) 12 20 * 4096 + d.fget (aRESQ q 4) 0 4 * 2 ^ 32
    d.writeRing q ((seq + 1) % 2 ^ 32) rest (m.ddrWrite (base + 32 * (seq % 2 ^ d.fget (aRESQ q 8) 0 5)) (r.1.bytes seq))

/-- The result writer makes the committed records of queue `q` visible: RESQ_WRSEQ passes them, and the space that they held is given
up as used by the ring (R206, R208). -/
def advanceWrseq (d : Device) (m : Mem) (q : Nat) : Mem × Device :=
  let x := d.que q
  let n := x.done.length
  let k := (x.done.filter fun r => r.2).length
  let m := d.writeRing q (d.rd (aRESQ q 0x10)).toNat x.done m
  let d := (d.setQue q { x with done := [], ret := x.ret - k }).bumpBy (aRESQ q 0x10) 0 32 n
  let d := d.fset (aRESQ q 0x18) 0 25 (d.fget (aRESQ q 0x18) 0 25 - n)
  (m, d.fsetB (aRESQ q 0x20) 1 (decide (0 < x.ret - k)))

end Device

/-- STEP_START_ARM (R194): a write of STEP_START whose ARM bit is one. -/
def execStepStartArm (w : ArmWr) (s : State) : Host.Outcome State Fault Refusal :=
  .next (s.onDev fun d => d.write w.wr 0x80020 fun d => d.startWrite (setBits w.wr.data 30 1 1) w.ecc)

/-- STEP_START_GO (R192): a write of STEP_START whose GO bit is one and whose ARM bit is zero. -/
def execStepStartGo (w : Wr) (s : State) : Host.Outcome State Fault Refusal :=
  .next (s.onDev fun d => d.write w 0x80020 fun d => d.startWrite (setBits (setBits w.data 31 1 1) 30 1 0) false)

/-- STEP_STOP (R195): a write of STEP_STOP whose ABORT bit is zero. -/
def execStepStop (w : Wr) (s : State) : Host.Outcome State Fault Refusal :=
  .next (s.onDdr fun d => d.write w 0x80024 fun d => d.stopWrite w.by_ (setBits w.data 30 1 0))

/-- STEP_STOP_ABORT (R195): a write of STEP_STOP whose ABORT bit is one. -/
def execStepStopAbort (w : Wr) (s : State) : Host.Outcome State Fault Refusal :=
  .next (s.onDdr fun d => d.write w 0x80024 fun d => d.stopWrite w.by_ (setBits w.data 30 1 1))

/-- STEP_CTL_WRITE (R209). -/
def execStepCtlWrite (w : Wr) (s : State) : Host.Outcome State Fault Refusal :=
  .next (s.onDev fun d => d.write w 0x80000 fun d => d.stepCtl w.data)

/-- LIST_DISABLE (R194): a write of STEP_LDESC whose EN bit is zero. -/
def execListDisable (l : Fin 256) (w : Wr) (s : State) : Host.Outcome State Fault Refusal :=
  .next (s.onDev fun d => d.write w (aLIST l 0) fun d => d.disableList l w.by_ (setBits w.data 31 1 0))

/-- PIN_TRIGGER (R191). -/
def execPinTrigger (l : Fin 256) (s : State) : Host.Outcome State Fault Refusal := .next (s.onDev fun d => d.pinTrigger l)

/-- SETUP_FETCH_DONE (R189). -/
def execSetupFetchDone (l : Fin 256) (ecc : Option FetchErr) (s : State) : Host.Outcome State Fault Refusal :=
  .next (s.onRead fun d m => d.fetchDone m l ecc)

/-- CONTEXT_START (R196). -/
def execContextStart (l : Fin 256) (ecc : Bool) (s : State) : Host.Outcome State Fault Refusal :=
  .next (s.onDdr fun d => d.tryStart l ecc)

/-- CONTEXT_CLOSE (R196). -/
def execContextClose (l : Fin 256) (s : State) : Host.Outcome State Fault Refusal := .next (s.onDdr fun d => d.closeCtx l)

/-- SLOT_COMPLETE (R196). -/
def execSlotComplete (l : Fin 256) (i : Nat) (s : State) : Host.Outcome State Fault Refusal :=
  .next (s.onDev fun d => d.completeSlot l i)

/-- RESQ_WRSEQ_ADVANCE (R208). -/
def execResqWrseqAdvance (q : Fin 16) (s : State) : Host.Outcome State Fault Refusal :=
  .next (s.onMem fun m d => d.advanceWrseq m q)

/-- SLOT_RETRY (R199). -/
def execSlotRetry (l : Fin 256) (i : Nat) (s : State) : Host.Outcome State Fault Refusal := .next (s.onDdr fun d => d.retrySlot l i)

/-- RESQ_RDSEQ_WRITE (R210): a consumer's pointer, kept within the ring (R13). -/
def execResqRdseqWrite (q : Fin 16) (w : Wr) (s : State) : Host.Outcome State Fault Refusal :=
  .next (s.onDev fun d => d.write w (aRESQ q 0x14) fun d => d.putCooked w.by_ (aRESQ q 0x14) w.data)

end Sys2Proof.Machine
end

