-- ==== Sys2Proof/Machine/CapoOps.lean ====
section
/-!
DEFINITION. Capo (R33 to R35, R69, R94, R202, R244, R346 to R350, R492): causes, entry into SAFE and HOLD, propagation, release; and the
start of a warm start (R34, R399).
-/

namespace Sys2Proof.Machine

namespace Device

/-- Replace Capo's own state. -/
def setCapoSt (d : Device) (c : CapoSt) : Device := { d with sys := { d.sys with capo := c } }

/-- A SAFE cause is present (R346): bits 0 to 8 of CAPO_ACTIVE. -/
def safeCaused (d : Device) : Bool := decide (d.fget 0x40008 0 9 ≠ 0)

/-- A SAFE cause other than CHORD and CAPON is present (R350). -/
def ownCaused (d : Device) : Bool := decide (d.fget 0x40008 0 4 ≠ 0) || decide (d.fget 0x40008 5 3 ≠ 0)

/-- The device pulls CAPO_N low, open-drain (R350). -/
def pullsCapoN (d : Device) : Bool := d.ownCaused && d.flag 0x4000C 5

/-- A READY reference is active and the root PLL is locked (R348). -/
def clocked (d : Device) : Bool := d.flag 0x10000 (d.fget 0x10000 12 1) && d.flag 0x10000 2

/-- Firmware runs (R348, R351): no warm start is under way and the supervisor is not held in reset. -/
def firmwareRuns (d : Device) : Bool := d.sys.warm.isNone && decide (d.fget 0x50010 0 2 ≠ 3)

/-- The conditions of R348. -/
def mayRelease (d : Device) : Bool := !d.safeCaused && d.clocked && d.firmwareRuns

/-- CAPO_STATE.RELPEND and the edge from which the conditions of R348 hold. -/
def noteRel (d : Device) : Device :=
  let ok := decide (d.capo = 2) && d.mayRelease
  (d.setCapoSt { d.sys.capo with ready := if ok then some (d.sys.capo.ready.getD d.edge) else none }).fsetB 0x40000 2 ok

/-- Capo messages of this device follow its own causes (R350, R492): ASSERT with the first, WITHDRAW with the end of the last. -/
def noteOwn (d : Device) : Device :=
  let c := d.sys.capo
  if d.ownCaused then
    if !c.asserting && d.flag 0x4000C 2 && decide (d.chordId ≠ 2047) then
      (d.setCapoSt { c with asserting := true, sentAt := d.edge }).sendMsg (.capo d.chordId true)
    else d
  else if c.asserting then (d.setCapoSt { c with asserting := false }).sendMsg (.capo d.chordId false) else d

/-! SAFE. -/

/-- Slots of bus transactions of a closed execution that have no record end with SAFE (R244). -/
def endBusSlots (d : Device) (x : Exec) (f : Nat) : Device :=
  let fillOne (i : Nat) (s : Slot) : Slot :=
    match s.kind with
    | .bus _ _ => if s.rec_.isSome then s else d.fillSlot x { s with ref := some f } (0x800 ||| (if d.inFlight x i then 0x2000 else 0))
    | _ => s
  ((d.setExec { x with slots := x.slots.mapIdx fillOne }).dropTxs x.id).finish x.id true

/-- What SAFE does to one execution (R202, R244): an active one ends; one that a warm start has ended waits for its own entry. -/
def safeExec (f : Nat) (d : Device) (i : Nat) : Device :=
  match d.execOf i with
  | none => d
  | some x =>
    if x.active then d.endExec x f 0
    else if (match d.sys.warm with | some w => w.ended.any fun p => p.1 == i | none => false) then d
    else if x.slots.any fun s => s.rec_.isNone && (match s.kind with | .bus _ _ => true | _ => false) then d.endBusSlots x f
    else d

/-- Every list that is ARMED or RUNNING is STOPPED, and remembered (R202, R349). -/
def safeLists (d : Device) : Device :=
  let ls := (List.range 256).filter fun l => decide (d.lstState l = 1 ∨ d.lstState l = 2)
  let d := d.setCapoSt { d.sys.capo with lists := ls }
  ls.foldl (fun d l => (d.dropPend l).setLstState l 3) d

/-- Every enabled engine is HALTED with nothing to serve (R244). -/
def haltEngines (d : Device) : Device :=
  ((List.range 120).filter fun e => d.flag (aENG e 0) 0).foldl (fun d e =>
    let d := d.clearEng e
    d.setEng e { d.eng e with halted := true }) d

/-- Conversions of meters end (R94). -/
def stopMeters (d : Device) : Device :=
  (List.range 4).foldl (fun d r =>
    { d with rmu := tabSet (fun _ => Rmu.init) r Rmu.init d.rmu }.fsetB (aRMU r 0x14) 0 false) d

/-- The notice of a Capo change, and CAPO_LASTSEQ (R352, R355). -/
def capoNotice (d : Device) (code action : Nat) : Device :=
  let f := d.nextFseq
  (d.report { entry .notice 0x09 0 code (d.rd 0x40004).toNat with action := action }).wr 0x4001C f

/-- Capo enters SAFE (R35, R69, R94, R202, R244): CAPOTRIP is the entry that the fills refer to. In QUIET the pins stay OFF (R406). -/
def enterSafe (d : Device) : Device :=
  let f := d.nextFseq.toNat
  let d := ({ d with heldIn := none }.fset 0x40000 0 2 2).bump 0x40018 0 16
  let d := d.capoNotice 0x36 6
  let d := if d.quiet then d else d.forChans allChans safeChan
  let d := (d.execs.map Exec.id).foldl (safeExec f) d
  ((d.safeLists.haltEngines.stopMeters.safeMatrix).safeHands).endCal false

/-- SAFE cause `i` is present (R346, R347). -/
def tripSafe (d : Device) (i : Nat) : Device :=
  let d := (d.event 0x40004 i).fsetB 0x40008 i true
  let d := if d.capo = 2 then d else d.enterSafe
  d.noteOwn.noteRel

/-- Cause `i` is no longer present. -/
def causeGone (d : Device) (i : Nat) : Device := ((d.fsetB 0x40008 i false).noteOwn).noteRel

/-! Release (R348, R349). -/

/-- Lists that SAFE stopped and that are STOPPED still become ARMED, and engines leave HALTED (R202, R244). -/
def rearmAfter (d : Device) : Device :=
  let ls := d.sys.capo.lists.filter fun l => decide (d.lstState l = 3) && d.armed
  (ls.foldl armIfAtRest d).unhaltLists ls

/-- The release edge (R349, R547). -/
def releaseCapo (d : Device) : Device :=
  let d := (d.fset 0x40000 0 3 0).capoNotice 0x37 8
  let d := if d.flag 0x4000C 1 then d.rearmAfter else d
  (d.setCapoSt { d.sys.capo with lists := [], ready := none }).resumeHands

/-! The CHORD cause (R346, R492, R493). -/

/-- A member of a tree: not the root, with an ID. -/
def isMember (d : Device) : Bool := decide (d.chordState ≠ 6) && decide (d.chordId ≠ 2047)

/-- The CHORD cause should be present. -/
def chordCause (d : Device) : Bool :=
  d.flag 0x4000C 3 &&
  (!d.link.origins.isEmpty || (d.flag 0xB0008 16 && d.isMember && decide (d.fget (aPORT 0 0) 0 2 = 0)))

/-- CAPO_ACTIVE.CHORD follows the set of origins and the UP port. -/
def noteChord (d : Device) : Device :=
  let on := d.flag 0x40008 8
  if d.chordCause then (if on then d else d.tripSafe 8) else if on then d.causeGone 8 else d

/-! HOLD and the start of a warm start (R33, R34, R243, R346, R399). -/

/-- An execution has a transaction under way. -/
def onTheWire (d : Device) (x : Exec) : Bool := (List.range x.slots.length).any fun i => d.inFlight x i

/-- Engines end what is under way (R243); keepalives that wait go on later. -/
def holdEngines (d : Device) (xs : List Nat) : Device :=
  let d := (tabKeys d.engines).foldl cutWave d
  let d := xs.foldl dropTxs d
  (tabKeys d.engines).foldl (fun d e =>
    d.setEng e { d.eng e with txs := (d.eng e).txs.filter fun t => t.exec.isSome || t.begun.isNone }) d

/-- Capo enters HOLD, unless it is in SAFE (R347). -/
def enterHold (d : Device) : Device :=
  let d := (d.event 0x40004 9).fsetB 0x40008 9 true
  if d.capo = 0 then
    let d := ((d.holdInputs.fset 0x40000 0 2 1).bump 0x40018 16 16).capoNotice 0x36 7
    d.pauseHands
  else d

/-- Contexts that a warm start ends now, with whether each has a transaction under way (R34, R243). -/
def warmEnds (d : Device) : List (Nat × Bool) :=
  (d.execs.filter fun x => x.active || d.onTheWire x).map fun x => (x.id, d.onTheWire x)

/-- A warm start begins (R33, R34, R399): contexts end at this moment; a calibration ends (R319); a patch verification ends ABORTED
(R448). -/
def beginWarm (d : Device) (cause : Nat) : Device :=
  let more := match d.sys.warm with | some w => w.ended | none => []
  let phase := match d.sys.warm with | some w => w.phase | none => d.fget 0x20000 0 5
  let new := d.warmEnds
  let d := d.enterHold
  let d := new.foldl (fun d p => match d.execOf p.1 with
    | some x => if x.active then (d.stopConvs x).endActive x 3 else d
    | none => d) d
  let d := (d.holdEngines (new.map Prod.fst)).endCal false
  let d := { d with sys := { d.sys with warm := some ⟨cause, phase, more ++ new⟩ } }
  let d := match d.sys.sec.task with
    | some (.patch _) =>
      let d := { d with sys := { d.sys with sec := { d.sys.sec with task := none } } }
      ((((d.fsetB 0x30000 0 false).fsetB 0x30000 1 true).fset 0x30000 2 4 8).event 0x30004 0).noticeRefused 0x30008
    | _ => d
  let d := ((d.fset 0x20000 0 5 11).fset 0x20000 5 2 1).bump 0x20030 0 16
  (d.fsetB 0x80004 16 false).setCapoSt { d.sys.capo with rearmed := false, kicked := false, wdFrom := d.edge, ready := none } |>.noteRel

end Device

end Sys2Proof.Machine
end

