-- ==== Sys2Proof/Machine/ClkOps.lean ====
section
/-!
DEFINITION. The references, the root PLL and the gated domains (R359 to R375), and the alignment of the link that they carry (R377, R488).
-/

namespace Sys2Proof.Machine

namespace Device

/-- Replace the state of the references. -/
def setClk (d : Device) (c : ClkSt) : Device := { d with sys := { d.sys with clk := c } }

/-- The active reference: false REFA, true REFB (R363). -/
def activeRef (d : Device) : Bool := d.flag 0x10000 12

/-- Bit of a reference. -/
def refBit (b : Bool) : Nat := if b then 1 else 0

/-- READY flag of a reference. -/
def refReady (d : Device) (b : Bool) : Bool := d.flag 0x10000 (refBit b)

/-- Count of a reference (R359). -/
def refCount (d : Device) (b : Bool) : Nat := d.fget (0x10014 + 4 * refBit b) 0 14

/-- A reference has become active: the start-up has passed reference detection (R383). -/
def hasActive (d : Device) : Bool := decide (2 ≤ d.fget 0x20000 0 5)

/-- The READY flags follow R361. -/
def noteReady (d : Device) : Device :=
  let full (b : Bool) : Bool := decide (d.refCount b = 8192)
  let a := d.activeRef
  if d.hasActive then
    (d.fsetB 0x10000 (refBit a) (full a)).fsetB 0x10000 (refBit (!a)) (full (!a) && (!full a || d.sys.clk.winOk))
  else (d.fsetB 0x10000 0 (full false)).fsetB 0x10000 1 (full true)

/-- Set a count (R359). -/
def setRefCount (d : Device) (b : Bool) (n : Nat) : Device := d.fset (0x10014 + 4 * refBit b) 0 14 n

/-! Alignment of the link (R377, R488). -/

/-- The device leaves ALIGNED (R488): its CHORD axes lose their source (R174, R175). -/
def unalign (d : Device) (st : Nat) : Device :=
  if d.chordState = 4 then
    let d := (d.fset 0xB0000 0 3 st).event 0xB0004 1
    let d := d.setLink { d.link with inRow := 0, outRow := 0 }
    (List.range 4).foldl (fun d a => if d.axSrc a = 5 ∧ d.axState a = 2 then d.loseAxis a else d) d
  else d

/-! Switching (R368 to R371). -/

/-- The stop detector forces a handover from a clock that makes no edge (R368). -/
def forced (d : Device) : Device := (d.event 0x10004 5).bump 0x10020 16 16

/-- The input multiplexer selects the other reference (R363, R368): the windows of R360 judge the other one from now on. -/
def selectRef (d : Device) (b : Bool) : Device :=
  let d := if d.refReady (!b) then d else d.forced
  let d := (d.fsetB 0x10000 12 b).fsetB 0x1001C 16 false
  let d := if b then d else d.unalign 2
  d.setClk { d.sys.clk with winOk := false, winAfter := false }

/-- A switch after a failure of the active reference is requested (R369, R370, R375). -/
def requestSwitch (d : Device) (b : Bool) : Device :=
  if d.refReady b then
    let d := d.selectRef b
    d.setClk { d.sys.clk with switching := some b }
  else d.refuse 0x10010

/-- Under FAILOVER AUTO firmware requests the switch to the other reference when it has become READY (R372). -/
def failover (d : Device) : Device :=
  let b := !d.activeRef
  if d.sys.clk.lossAt.isSome ∧ d.sys.clk.switching = none ∧ d.flag 0x10008 0 = false ∧ d.refReady b then d.requestSwitch b else d

/-- A CLK_CMD with GO (R369 to R371). -/
def clkCmd (d : Device) (raw : Word) : Device :=
  let b := bitOf raw 0
  if b = d.activeRef then d
  else if d.sys.clk.lossAt.isSome then d.requestSwitch b
  else if d.refReady b then (d.selectRef b).fsetB 0x10000 15 true
  else d.refuse 0x10010

/-- A switch is complete: it is counted (R370, R382). -/
def switched (d : Device) : Device := (d.event 0x10004 4).bump 0x10020 0 16

/-- The end of a hitless move (R371). -/
def slewEnd (d : Device) : Device := if d.flag 0x10000 15 then (d.fsetB 0x10000 15 false).switched else d

/-- Running chains restart, and threshold units reload, when the gated domains do (R152). -/
def restartChains (d : Device) : Device :=
  let d := (tabKeys d.thrs).foldl (fun d n => d.loadThr n d.edge) d
  let d := (allChans.filter d.chainRuns).foldl (fun d n => d.startChain n d.edge) d
  ((List.range 4).filter d.rmuChainRuns).foldl (fun d r => d.startRmuChain r d.edge) d

/-- RELEASE_OUTPUTS (R147, R158): every threshold unit loads, chains whose RUN is one start. -/
def startLoaded (d : Device) : Device :=
  let d := allChans.foldl (fun d n => if d.flag (aFILT n 0) 31 then d.startChain n d.edge else d.loadThr n d.edge) d
  ((List.range 4).filter fun r => d.flag (aRMUF r 0) 31).foldl (fun d r => d.startRmuChain r d.edge) d

/-- The gated domains restart together at one edge (R373), where chains restart and axes resume (R152, R166). In QUIET they stay stopped (R403). -/
def ungate (d : Device) : Device := if d.flag 0x10000 14 ∧ !d.quiet then (List.range 4).foldl axisReturns (d.fsetB 0x10000 14 false).restartChains else d

/-- The root PLL has locked to the reference that the multiplexer selected (R370). -/
def switchDone (d : Device) : Device :=
  if d.sys.clk.switching.isSome then
    let d := (d.fsetB 0x10000 2 true).fsetB 0x10000 13 false
    let d := (d.setClk { d.sys.clk with switching := none, lossAt := none }).switched
    ((d.noteReady).causeGone 1).ungate
  else d

/-- A load past isolation is abandoned when the fabric clock stops (R288, R297); a RESET, which writes no frame, waits for the clock (DESIGN CHOICE,
assumption 86). -/
def abandonLoad (d : Device) : Device :=
  match d.loader.cur with
  | some r =>
    if d.loader.isolated ∧ d.fretState r.fret = 1 ∧ r.op ≠ 2 then ((d.writeFrames r d.framesDone).fretEmpty r.fret).loadFails r 8 else d
  | none => d

/-- The load of a base slot begins again once the switch completes (R386); what it clamped goes as for a slot that fails (DESIGN CHOICE, assumption
86). -/
def restartSlot (d : Device) : Device :=
  match d.sys.boot.system with
  | some _ =>
    let n := { d with clampRep := [] }.fset 0x20040 0 11 0
    { n with sys := { n.sys with boot := { n.sys.boot with system := none } } }
  | none => d

/-- 1 ms after the loss the gated domains stop (R373): capture runs end (R464), a calibration ends (R319), a load is abandoned (R297). -/
def gateStop (d : Device) : Device :=
  match d.sys.clk.lossAt with
  | some e =>
    if e + 20480 ≤ d.edge ∧ d.flag 0x10000 14 = false then
      let d := (d.fsetB 0x10000 14 true).event 0x10004 8
      (((d.endRuns (fun _ => true) 5).endCal false).abandonLoad).restartSlot
    else d
  | none => d

/-! Judging (R359, R360). -/

/-- The first reference to complete its count becomes active (R383 step 2, R376). -/
def tryActive (d : Device) : Device :=
  if d.fget 0x20000 0 5 = 1 then
    if d.refCount false = 8192 ∨ d.refCount true = 8192 then
      let b := decide (d.refCount false ≠ 8192)
      (((d.fset 0x20000 0 5 2).fset 0x20000 13 3 0).fsetB 0x10000 12 b).setClk { d.sys.clk with winOk := false, winAfter := false }
    else d
  else d

/-- The count of a reference is complete (R359, R361). -/
def countDone (d : Device) (b : Bool) : Device :=
  let d := d.setRefCount b 8192
  let d := if b = d.activeRef ∧ d.hasActive then d else d.setClk { d.sys.clk with winOk := false, winAfter := false }
  (d.tryActive.noteReady).noteRel.failover

/-- A READY flag and what hangs on its reference fall with a missing edge (R359, R361): the PCIe PHY is locked to REFA. -/
def refGone (d : Device) (b : Bool) : Device :=
  let d := (d.setRefCount b 0).noteReady
  (if b then d else d.fsetB 0x10000 5 false).noteRel

/-- A gap of 40 ns on a reference that is not in use, or that has failed already (R359). -/
def missingEdge (d : Device) (b : Bool) : Device :=
  if d.hasActive ∧ b = d.activeRef ∧ d.sys.clk.lossAt = none then d
  else if d.sys.clk.switching = some b then d
  else d.refGone b

/-- The active reference fails (R364, R372). Before the domains run from the root PLL the start-up begins again at reference detection
(R376). -/
def activeLoss (d : Device) : Device :=
  let b := d.activeRef
  let c := d.sys.clk
  if d.hasActive = false ∨ (c.lossAt.isSome ∧ c.switching = none) then d
  else if d.flag 0x10000 16 = false then
    if d.failedState then d.refGone b
    else ((((d.fset 0x20000 0 5 1).fset 0x20000 13 3 1).refGone b).tryActive).noteReady
  else
    let d := d.tripSafe 1
    let d := (if d.flag 0x10000 2 then (d.fsetB 0x10000 2 false).event 0x10004 9 else d).fsetB 0x10000 13 true
    let d := (d.fsetB 0x10000 15 false).event 0x10004 (refBit b)
    let d := d.setClk { d.sys.clk with lossAt := some (c.lossAt.getD d.edge), switching := none }
    let d := d.refGone b
    if d.flag 0x10008 0 then d else d.requestSwitch (!b)

/-- A window of R360 ends: `n` cycles of the other reference in 65,536 cycles of the active one. -/
def windowEnd (d : Device) (n : Nat) : Device :=
  let a := d.activeRef
  if d.hasActive ∧ d.refReady a then
    let o := !a
    let scale := if a then 100 else 1
    let nominal : Int := if a then 4194304 else 102400
    let diff : Int := scale * n - nominal
    let ppm := clampInt (-32767) 32767 (roundDiv (diff * 1000000) nominal.toNat)
    let d := (d.fset 0x1001C 0 16 (ofSigned 16 ppm)).fsetB 0x1001C 16 true
    if decide (diff.natAbs * 1000 ≤ nominal.toNat) then
      let ok := decide (d.refCount o = 8192) && d.sys.clk.winAfter
      let d := d.setClk { d.sys.clk with winOk := ok, winAfter := decide (d.refCount o = 8192) }
      d.noteReady.failover
    else
      let d := (d.setRefCount o 0).event 0x10004 (2 + refBit o)
      (d.setClk { d.sys.clk with winOk := false, winAfter := false }).noteReady
  else d

end Device

end Sys2Proof.Machine
end

