-- ==== Sys2Proof/Machine/Clock.lean ====
section
/-!
DEFINITION. The commands of the clocks: references, switches, the fabric clock, the clock outputs (R357 to R382).
-/

namespace Sys2Proof.Machine

namespace Device

/-- Some Fret is LOADING, RELEASING or RUNNING: the fabric runs (R367). -/
def fabricRuns (d : Device) : Bool := decide (d.busyFrets ≠ 0)

/-- A write of CLK_CFG or CLK_FABFREQ (R367): refused while the fabric runs when it changes the fabric clock. FREE mode needs the fabric
PLL locked at the new setting; ALIGNED mode stops it. -/
def fabricClock (d : Device) (a : Nat) (p : Party) (raw : Word) : Device :=
  if d.fabricRuns && d.reachesRws a raw then d.refuse a
  else
    let m := d.flag 0x10008 1
    let f := d.rd 0x1000C
    let k := d.fabricKhz
    let d := d.putCooked p a raw
    if d.flag 0x10008 1 then
      (if m = false ∨ f ≠ d.rd 0x1000C then (d.fsetB 0x10000 3 false).setClk { d.sys.clk with fabOld := k } else d)
    else d.fsetB 0x10000 3 false

/-- The fabric PLL locks (R361): the fabric domain switches to it (R367, R368); where the old clock stands still the switch is forced. -/
def fabLock (d : Device) : Device :=
  if d.flag 0x10008 1 ∧ d.flag 0x10000 3 = false then
    let d := d.fsetB 0x10000 3 true
    if d.flag 0x10000 14 then d.forced else d
  else d

/-! Clock outputs (R378, R379). -/

/-- A register of clock output `n`. -/
def aOUT (n o : Nat) : Nat := 0x10040 + 0x10 * n + o

/-- The spread of an output keeps its sweep within 1,000 Hz to 200,000,000 Hz with depth `k` (R379). -/
def sweepOk (mode freq k : Nat) : Bool :=
  match mode with
  | 0 => true
  | 1 => decide (800000 ≤ freq * (800 - k))
  | _ => decide (1600000 ≤ freq * (1600 - k)) && decide (freq * (1600 + k) ≤ 320000000000)

/-- The largest depth up to `k` that keeps the sweep inside. -/
def depthFit (mode freq : Nat) : Nat → Nat
  | 0 => 0
  | k + 1 => if sweepOk mode freq (k + 1) then k + 1 else depthFit mode freq k

/-- SSDEPTH is clamped so that the sweep stays inside, with its entry (R379); `src`, `recd` and `word` locate it. -/
def spreadClamp (d : Device) (n : Nat) (src : ClampSrc) (recd word : Nat) : Device :=
  let a := aOUT n 4
  let k := d.fget a 8 6
  let y := depthFit (d.fget a 0 2) (d.fget (aOUT n 0) 0 28) k
  if y = k then d else ((d.fset a 8 6 y).reportClamp src (some a) 0 0xFFFF 6 recd (32 * word + 8) k y).event 0x10004 7

/-- What a clock output carries (R378 to R380): low, or its frequency in Hz with SSMODE, SSDEPTH and SSRATE. -/
inductive ClkOut where
  | low
  | runs (freq mode depth rate : Nat)
deriving DecidableEq, Repr

/-- The ball of clock output `n`: it runs while enabled and locked, but with the gated domains (R373), not in the failed state (R395), and under Capo
SAFE only with CAPOSTOP zero (R380). -/
def clkOut (d : Device) (n : Nat) : ClkOut :=
  let ss := d.rd (aOUT n 4)
  if d.flag (aOUT n 8) 0 ∧ d.flag 0x10000 (6 + n) ∧ d.fabricOn ∧ !d.failedState ∧ (d.capo ≠ 2 ∨ !d.flag (aOUT n 8) 1) then
    .runs (d.fget (aOUT n 0) 0 28) (bitsOf ss 0 2) (bitsOf ss 8 6) (bitsOf ss 16 7)
  else .low

/-- A write of a register of output `n` (R378, R379): at a change of its frequency or spread the synthesiser may relock, which a free bit
says; at its start it locks (assumption 12). A synthesiser that relocks is READY again at CLKOUT_RELOCK. -/
def outWrite (d : Device) (n o : Nat) (p : Party) (raw : Word) : Device :=
  let old := (d.rd (aOUT n 0), d.rd (aOUT n 4))
  let on := d.flag (aOUT n 8) 0
  let d := (d.putCooked p (aOUT n o) raw).spreadClamp n (srcOf p) (aOUT n 4) 0
  let relocks := (Config.freeByte d.freeCtr).toNat % 2 = 1
  let d := if on ≠ d.flag (aOUT n 8) 0 ∨ ((d.rd (aOUT n 0), d.rd (aOUT n 4)) ≠ old ∧ relocks) then d.fsetB 0x10000 (6 + n) false else d
  d.takeByte

end Device

/-- REF_COUNT_COMPLETE (R359): REFB when `b`, else REFA. -/
def execRefCountComplete (b : Bool) (s : State) : Host.Outcome State Fault Refusal := .next (s.onDdr fun d => d.countDone b)

/-- REF_MISSING_EDGE (R359). -/
def execRefMissingEdge (b : Bool) (s : State) : Host.Outcome State Fault Refusal := .next (s.onDev fun d => d.missingEdge b)

/-- ACTIVE_REF_LOSS (R372). -/
def execActiveRefLoss (s : State) : Host.Outcome State Fault Refusal := .next (s.onDdr fun d => d.activeLoss)

/-- REF_WINDOW_END (R360). -/
def execRefWindowEnd (count : Nat) (s : State) : Host.Outcome State Fault Refusal := .next (s.onDdr fun d => d.windowEnd count)

/-- REF_SWITCH_COMPLETE (R370). -/
def execRefSwitchComplete (s : State) : Host.Outcome State Fault Refusal := .next (s.onDdr fun d => d.switchDone)

/-- GATED_DOMAINS_STOP (R373). -/
def execGatedDomainsStop (s : State) : Host.Outcome State Fault Refusal := .next (s.onDdr fun d => d.gateStop)

/-- CLK_CMD_SWITCH (R369): a write of CLK_CMD whose GO bit is one. -/
def execClkCmdSwitch (w : Wr) (s : State) : Host.Outcome State Fault Refusal :=
  .next (s.onDdr fun d => d.write w 0x10010 fun d => d.clkCmd (setBits w.data 31 1 1))

/-- HITLESS_SLEW_END (R371). -/
def execHitlessSlewEnd (s : State) : Host.Outcome State Fault Refusal := .next (s.onDev fun d => d.slewEnd)

/-- FABRIC_CLOCK_WRITE (R367): a write of CLK_CFG or CLK_FABFREQ. -/
def execFabricClockWrite (r : Fin 2) (w : Wr) (s : State) : Host.Outcome State Fault Refusal :=
  .next (s.onDev fun d => d.write w (0x10008 + 4 * r) fun d => d.fabricClock (0x10008 + 4 * r) w.by_ w.data)

/-- FAB_PLL_LOCK (R367). -/
def execFabPllLock (s : State) : Host.Outcome State Fault Refusal := .next (s.onDev fun d => d.fabLock)

/-- CLKOUT_WRITE (R378): a write of CLK_OUTFREQ, CLK_OUTSS or CLK_OUTCTL. -/
def execClkoutWrite (n : Fin 4) (r : Fin 3) (w : Wr) (s : State) : Host.Outcome State Fault Refusal :=
  .next (s.onDev fun d => d.write w (Device.aOUT n (4 * r)) fun d => d.outWrite n (4 * r) w.by_ w.data)

/-- CLKOUT_RELOCK (R378): the synthesiser of an enabled output is locked; it stands still with the gated domains (R373). -/
def execClkoutRelock (n : Fin 4) (s : State) : Host.Outcome State Fault Refusal :=
  .next (s.onDev fun d => if d.flag (Device.aOUT n 8) 0 ∧ d.fabricOn then d.fsetB 0x10000 (6 + n) true else d)

end Sys2Proof.Machine
end

