-- ==== Sys2Proof/Machine/Matrix.lean ====
section
/-!
DEFINITION. The matrix and meter commands (R91 to R99, R106 to R118).
-/

namespace Sys2Proof.Machine

namespace Device

/-- The host holds the resources of a switch: its bus, and for a port node the port's resource; for a pin, no other owner holds its
tap set (R97, R98). -/
def hostHolds (d : Device) (node bus : Nat) : Bool :=
  decide (d.owner (resBus bus) = .host) &&
  (match resOfNode node with
   | none => true
   | some r => if node < 1024 then decide (d.owner r = .host ∨ d.owner r = .free) else decide (d.owner r = .host))

/-- A switch between a node and the physical bus of a logical one is closed. -/
def isClosed (d : Device) (node bus : Nat) : Bool := d.mx.closed.any fun s => s.node == node && s.phys == d.phys bus

/-- A close commanded by the host (R93, R97, R98, R77); `a` is MATRIX_CMD. A command that closes nothing, of NONE (R89) or of a switch that is
closed, changes nothing and is not reported. -/
def hostClose (d : Device) (node bus : Nat) : Device :=
  let a := 0xA0010
  let sw : Switch := ⟨node, d.phys bus, true⟩
  if 1320 ≤ node then d
  else if !d.hostHolds node bus then d.refuse a
  else if d.isClosed node bus then d
  else if d.isHeldOpen bus || d.busRetired bus || decide (d.capo = 2) then d.refuse a
  else if !d.mayClose sw then d.refuse a
  else
    let d' := d.setMx { d.mx with closed := closeIn d.mx.closed sw }
    if d.govRefuses d' then d.refuse a
    else if node < 1024 then d'.setOwner (resTaps node) .host else d'

/-- An open commanded by the host (R93, R97, R98): the pin's tap set is freed with the last tap that the host closed. -/
def hostOpen (d : Device) (node bus : Nat) : Device :=
  if 1320 ≤ node then d
  else if !d.hostHolds node bus then d.refuse 0xA0010
  else if d.isClosed node bus then (d.setMx { d.mx with closed := openIn d.mx.closed node (d.phys bus) }).dropHostTaps
  else d

/-- Node and bus of a MATRIX_CMD after its clamps, which are reported (R13). -/
def cmdFields (d : Device) (p : Party) (raw : Word) : Device × Nat × Nat :=
  let (v, hits) := d.cook 0xA0010 raw
  (d.reportHits (srcOf p) 0xA0010 0xA0010 0 0xFFFF hits, bitsOf v 0 12, bitsOf v 12 5)

/-- HOLD holds a command of the matrix back (R94). -/
def holdCmd (d : Device) (c : HeldCmd) : Device := d.setMx { d.mx with heldCmds := d.mx.heldCmds ++ [c] }

/-- A MATRIX_CMD; under HOLD it is held until HOLD ends (R94). -/
def matrixCmd (d : Device) (p : Party) (raw : Word) (close : Bool) : Device :=
  let (d, node, bus) := d.cmdFields p raw
  if d.capo = 1 then d.holdCmd (.move node bus close)
  else if close then d.hostClose node bus else d.hostOpen node bus

/-- The switches of a resource that the host claims: those of a bus, or those of the nodes of another resource. -/
def onRes (d : Device) (r : Nat) (s : Switch) : Bool := if r < 32 then s.phys == d.phys r else resOfNode s.node == some r

/-- The host has switches closed on resource `r`. -/
def hostUses (d : Device) (r : Nat) : Bool := d.mx.closed.any fun s => s.host && d.onRes r s

/-- The host gives resource `r` up (R97, R98, R115): its switches open, the resource is free. -/
def letGo (d : Device) (r : Nat) : Device :=
  let d := (d.setMx { d.mx with closed := d.mx.closed.filter fun s => !(s.host && d.onRes r s) }).setOwner r .free
  let d := d.dropHostTaps
  if decide (r < 32) && decide (d.busOpen r = OpenWhy.overcurrent) then d.holdOpen r .no else d

/-- One bit of a claim register (R97, R98) for resource `r`. The second component says that the bit was refused. Under HOLD the clear of a
bit that would open switches is held, and the claim with it (R94). -/
def claimBit (d : Device) (r : Nat) (want : Bool) : Device × Bool :=
  match d.owner r with
  | .host =>
    if want then (d, false)
    else if d.capo = 1 ∧ d.hostUses r then (d.holdCmd (.letGo r), false)
    else (d.letGo r, false)
  | .free =>
    if !want then (d, false)
    else if decide (r < 32) && d.isHeldOpen r then (d, true)
    else if decide (200 ≤ r ∧ r < 204) && d.flag (aRMU (r - 200) 0x14) 3 then (d, true)
    else (d.setOwner r .host, false)
  | _ => (d, want)

/-- The claim register holds the bits that the host holds now. -/
def noteClaims (d : Device) (a : Nat) (bits : List (Nat × Nat)) : Device :=
  d.wr a (BitVec.ofNat 32 ((bits.filter fun b => decide (d.owner b.2 = .host)).foldl (fun v b => v + 2 ^ b.1) 0))

/-- A write of a claim register whose bits name resources: a refused bit is reported, the others take effect (R97, R98). -/
def claimWrite (d : Device) (a : Nat) (bits : List (Nat × Nat)) (raw : Word) : Device :=
  let (d, bad) := bits.foldl (fun (acc : Device × Bool) b =>
    let (d, r) := acc.1.claimBit b.2 (bitOf raw b.1)
    (d, acc.2 || r)) (d, false)
  let d := d.noteClaims a bits
  if bad then d.refuse a else d

/-- Bits and resources of the claim registers: MATRIX_HOSTCAT0, MATRIX_HOSTCAT1, MATRIX_HOSTDEV (R98). -/
def claimBits (r : Nat) : List (Nat × Nat) :=
  match r with
  | 0 => (List.range 32).map fun i => (i, resCat i)
  | 1 => (List.range 32).map fun i => (i, resCat (32 + i))
  | _ => (List.range 4).map (fun i => (i, resRmu i)) ++ (List.range 8).map (fun i => (8 + i, resXio i)) ++
         (List.range 8).map (fun i => (16 + i, resGuard i))

/-- The bits of MATRIX_HOSTBUS (R97). -/
def busBits : List (Nat × Nat) := (List.range 32).map fun b => (b, resBus b)

/-- A write of MATRIX_HOSTBUS (R97). -/
def hostBusWrite (d : Device) (raw : Word) : Device := d.claimWrite 0xA0014 busBits raw

/-- The claim registers hold what the host holds (R97, R98). -/
def noteAllClaims (d : Device) : Device :=
  (List.range 3).foldl (fun d r => d.noteClaims (0xA0020 + 4 * r) (claimBits r)) (d.noteClaims 0xA0014 busBits)

/-- A per-bus open that the host starts (R116): logical bus `b` opens and is held open. -/
def openHeld (d : Device) (b : Nat) (stuck : List (Fin 34 × Nat)) : Device :=
  ((d.holdOpen b .host).fset 0xA0018 b 1 1).perBusOpen (d.phys b) stuck

/-- The release of a per-bus open that the host started (R116, R120); its switches stay open. A bus that nobody claims is then free. -/
def relHeld (d : Device) (b : Nat) (stuck : List (Fin 34 × Nat)) : Device :=
  if d.busOpen b = .host then ((d.holdOpen b .no).fset 0xA0018 b 1 0).perBusOpen (d.phys b) stuck else d

/-- A write of MATRIX_BUSOPEN (R116); under HOLD each bit is held (R94). -/
def busOpenWrite (d : Device) (raw : Word) (stuck : List (Fin 34 × Nat)) : Device :=
  (onesOf 32 raw.toNat).foldl (fun d b => if d.capo = 1 then d.holdCmd (.open_ b) else d.openHeld b stuck) d

/-- A write of MATRIX_BUSREL (R116, R120). It follows a per-bus open that HOLD holds back. -/
def busRelWrite (d : Device) (raw : Word) (stuck : List (Fin 34 × Nat)) : Device :=
  (onesOf 32 raw.toNat).foldl (fun d b =>
    if d.mx.heldCmds.contains (.open_ b) then d.holdCmd (.rel b) else d.relHeld b stuck) d

/-- A command that HOLD held back is carried out (R94); what the test of R116 finds then is free (assumption 15). -/
def runHeld (d : Device) (c : HeldCmd) : Device :=
  match c with
  | .move node bus close => if close then d.hostClose node bus else d.hostOpen node bus
  | .letGo r => if d.owner r = .host then d.letGo r else d
  | .open_ b => d.takeByte.openHeld b (Config.freeStuck d.freeCtr)
  | .rel b => d.takeByte.relHeld b (Config.freeStuck d.freeCtr)

/-- HOLD has ended: the commands that it held are carried out in order (R94). -/
def runHeldCmds (d : Device) : Device :=
  if d.mx.heldCmds.isEmpty then d else (d.mx.heldCmds.foldl runHeld (d.setMx { d.mx with heldCmds := [] })).noteAllClaims

/-- Descriptors that cover entry `j` (R91). -/
def covering (d : Device) (j : Nat) : List Nat :=
  ((tabKeys d.regs).filterMap fun a =>
    if 0xA4004 ≤ a ∧ a < 0xA8000 ∧ a % 4 = 0 then some ((a - 0xA4000) / 4) else none).filter fun i =>
      let s := d.fget (aMX (0x4000 + 4 * i)) 0 13
      let n := d.fget (aMX (0x4000 + 4 * i)) 16 7
      decide (s ≤ j ∧ j < s + n)

/-- A descriptor is named by an active context: its block runs (R120). -/
def descBusy (d : Device) (i : Nat) : Bool := d.actives.any fun x => ctxMlist x.words == i

/-- A write of a connection-list entry (R91, R120). -/
def lentWrite (d : Device) (j : Nat) (p : Party) (raw : Word) : Device :=
  let a := aMX (0x8000 + 4 * j)
  let lists := d.covering j
  if (lists.any fun i => d.descBusy i) && d.reachesRws a raw then d.refuse a
  else
    let d' := d.putCooked p a raw
    if lists.any fun i => listFits (d.listOf i) && !listFits (d'.listOf i) then d.refuse a else d'

/-- A write of one to RMU_CMD.START (R99). -/
def rmuStart (d : Device) (r : Nat) : Device :=
  if d.owner (resRmu r) = .host ∧ d.flag (aRMU r 0x14) 0 = false then d.startConv r true 0 else d.refuse (aRMU r 0x1C)

/-! Readings (R104, R109, R151). -/

/-- How the ports of a meter connect (R105): between which ports the voltage or current is measured, and between which the test current
flows. `agnd` stands for LO where LOREF is one. -/
inductive MeterPort where
  | hi
  | lo
  | shi
  | slo
  | agnd
deriving DecidableEq, Repr

/-- The connection of function `func` with LOREF (R105): the measured pair, and the pair of the test current. -/
def meterPorts (func : Nat) (loref : Bool) : (MeterPort × MeterPort) × Option (MeterPort × MeterPort) :=
  let low := if loref then MeterPort.agnd else MeterPort.lo
  match func with
  | 0 => ((.hi, low), none)
  | 1 => ((.hi, low), none)
  | 2 => ((.hi, .lo), some (.hi, .lo))
  | _ => ((.shi, .slo), some (.hi, .lo))

/-- The test-current source is in use (R105): in the resistance functions only. -/
def sourcesCurrent (d : Device) (r : Nat) : Bool := (meterPorts (d.fget (aRMU r 0) 0 2) (d.flag (aRMU r 0) 9)).2.isSome

/-- The edge of the centre of a conversion's window, rounded down (R109). -/
def convCentre (c : Conv) : Nat := (c.openAt.getD c.start + c.shutAt.getD c.start) / 2

/-- The window of a conversion, and the zero window of AZERO, have passed at the present edge (R106 to R109). -/
def convDone (d : Device) (c : Conv) : Bool :=
  (match c.shutAt with | some e => decide (e ≤ d.edge) | none => false) && (match c.zeroAt with | some e => decide (e ≤ d.edge) | none => false)

/-- An output of the chain of meter `r` reaches the slots that measure on it (R141, R151, R196): within a slot's window it counts;
at or past its end it ends the window. Under HOLD measurement pauses (R33). -/
def rmuOutput (d : Device) (r : Nat) (o : ChainOut) (centre : Nat) : Device :=
  if d.capo = 1 then d
  else { d with execs := d.execs.map fun x =>
      { x with slots := x.slots.map fun s =>
          if s.kind = .rmu r ∧ s.rec_.isNone ∧ s.waits = false ∧ s.endEdge.isNone then
            let (p, stale) := d.posAt (ctxAxis x.words) centre
            let off := fwd s.start p
            if off < ctxLen x.words then { s with outs := s.outs ++ [⟨o, p, false⟩], flags := s.flags ||| (if stale then 0x800 else 0) }
            else if off < 2 ^ 47 then { s with endEdge := some d.edge } else s
          else s } }

/-- A reading enters the chain of meter `r` (R151). -/
def rmuFeed (d : Device) (r : Nat) (x : Raw) : Device :=
  if d.rmuChainRuns r then
    let p := d.profile (d.fget (aRMUF r 0) 0 8)
    let c := d.chain (1024 + r)
    let span := (p.tapT - 1) + (if p.biqJ = 0 then 0 else p.dspan * p.decM) + 1
    let back := ((delay256 p.readingDelay).1 + 128) / 256
    let c := { c with group := c.group ++ [x], marks := (x :: c.marks).take span, centres := (x.edge :: c.centres).take (back + 1),
                      used := c.used + 1 }
    if c.group.length < p.decM then d.setChain (1024 + r) c
    else
      let (v, sat, c') := runReadings p (c.group.map Raw.code) c
      let c' := { c' with group := [] }
      if c'.used < span then d.setChain (1024 + r) c'
      else
        let o : ChainOut := ⟨v, x.edge, c'.marks.foldl (fun f y => f ||| y.flags) 0, sat, some 0, 0, []⟩
        let d := (d.setChain (1024 + r) { c' with lastVal := v, lastFlags := o.flags }).fset (aRMUF r 8) 0 2 sat
        (d.fsetB (aRMUF r 8) 9 false).rmuOutput r o ((c'.centres[back]?).getD (c'.centres.getLastD x.edge))
  else d

/-- An execution has a slot on meter `r` whose window has not ended (R196). -/
def measuresOn (r : Nat) (x : Exec) : Bool :=
  x.slots.any fun s => s.kind == .rmu r && s.rec_.isNone && !s.waits && s.endEdge.isNone

/-- A conversion of meter `r` ends (R99, R104, R105, R109, R151) once its windows have passed: with AZERO the zero reading is subtracted. A
context's meter starts the next one at once until its slot has passed its window. Under HOLD measurement pauses (R33). -/
def convEnd (d : Device) (r : Nat) (m : RmuMeas) : Device :=
  match (d.meter r).conv with
  | none => d
  | some c =>
    if !d.convDone c || decide (d.capo = 1) then d
    else
      let given := if d.flag (aRMU r 0) 8 then m.raw - m.zero else m.raw
      let v := clampInt (-8388607) 8388607 given
      let beyond := decide (v ≠ given)
      let compl := m.compliance && d.sourcesCurrent r
      let d := d.setMeter r Rmu.init
      let d := ((d.fsetB (aRMU r 0x14) 0 false).fsetB (aRMU r 0x14) 2 beyond).fset (aRMU r 0x18) 0 24 (ofSigned 24 v)
      let d := if compl then d.report { entry .d 0x05 r 0x26 0 with pos := (d.ax c.axis).c, axis := c.axis } else d
      let flags := (if beyond then 2 else 0) + (if compl then 4 else 0) + (if c.noline then 16 else 0)
      let d := d.rmuFeed r ⟨convCentre c, v, flags, 0⟩
      if c.byHost then d.event 0xA0004 5
      else
        match d.execs.find? (measuresOn r) with
        | some x => d.startConv r false (ctxAxis x.words)
        | none => d

/-- A write of DEV_RMUFCTL whose RUN bit is `run` (R135, R136, R151): refused while a context claims the chain, or when it would
change PROF while the chain runs (R12). -/
def rmufControl (d : Device) (r : Nat) (p : Party) (raw : Word) : Device :=
  let a := aRMUF r 0
  if (d.execs.any fun x => x.verdict.isNone && x.slots.any fun s => s.kind == .rmu r) then (d.event 0x200 8).noticeRefused a
  else if d.flag a 31 && d.reachesRws a raw then (d.event 0x200 8).noticeRefused a
  else
    let was := d.flag a 31
    let d := (d.putCooked p a raw).fsetB a 31 was
    if bitOf raw 31 then (if was then d else d.startRmuChain r d.nextEdge)
    else if was then d.stopRmuChain r else d

/-! Over-current and claims. -/

/-- COMPLIANCE on the unfinished slots of execution `i` that depend on logical bus `b` (R115, R544). -/
def flagBus (d : Device) (i b : Nat) : Device :=
  let slot (x : Exec) (s : Slot) : Slot :=
    if s.rec_.isNone && d.dependsOn x.words s b then { s with flags := s.flags ||| 0x200 } else s
  { d with execs := d.execs.map fun x => if x.id = i then { x with slots := x.slots.map (slot x) } else x }

/-- The current through a switch of physical bus `p` exceeded 60 mA for 1 µs (R115). -/
def overcurrent (d : Device) (p : Nat) (stuck : List (Fin 34 × Nat)) : Device :=
  let d := (d.event 0xA0004 2).report (entry .d 0x04 p 0x22 0)
  match d.logicalOf p with
  | none => d.perBusOpen p stuck
  | some b =>
    let d : Device := match d.owner b with
      | .ctx i _ => d.flagBus i b
      | _ => d
    let d := if d.owner b = .free ∨ d.busOpen b ≠ .no then d else d.holdOpen b .overcurrent
    d.perBusOpen p stuck

/-- The claims of ended executions whose switches are open by the present edge are released (R95). Under HOLD no switch moves and none is
(R94). -/
def releaseDue (d : Device) : Device :=
  if d.capo = 1 then d
  else
  let due := d.mx.releases.filter fun r => decide (r.due ≤ d.edge)
  let d := due.foldl (fun d r => d.releaseExec r.exec) (d.flushMoves d.edge)
  d.setMx { d.mx with releases := d.mx.releases.filter fun r => !decide (r.due ≤ d.edge) }

/-- The output of a comparator (R113) from its register word and its source in microvolts. DEDUCED from R147 (assumption 75): it goes high above
THR, low below THR less HYST, and keeps its level between. -/
def cmpLevel (w : Word) (v : TileVolts) (was : Bool) : Bool :=
  let x := match bitsOf w 26 2 with | 0 => v.t0 | 1 => v.amp | _ => v.t1
  let thr := toSigned 16 (bitsOf w 0 16) * 1000
  if thr < x then true else if x < thr - bitsOf w 16 10 * 1000 then false else was

/-- Comparator `k` of tile `t` takes its level; a change is an event for the step engine and for the Frets (R113, R274). -/
def catLevel (d : Device) (t : Nat) (v : TileVolts) (k : Nat) : Device :=
  let was := d.flag (aCAT t 0x14) k
  let level := cmpLevel (d.rd (aCAT t (0xC + 4 * k))) v was
  if level = was then d else (d.fsetB (aCAT t 0x14) k level).fretEvents 1 d.edge level (2 * t + k)

/-- The comparators of a tile are sampled at the present edge (R113), and SAT follows its amplifiers. -/
def catEvent (d : Device) (t : Nat) (v : TileVolts) (sat : Bool) : Device := ((d.fsetB (aCAT t 0x14) 2 sat).catLevel t v 0).catLevel t v 1

end Device

/-- MATRIX_CMD_CLOSE (R93): a MATRIX_CMD whose CLOSE bit is one. -/
def execMatrixCmdClose (w : Wr) (s : State) : Host.Outcome State Fault Refusal :=
  .next (s.onDev fun d => d.write w 0xA0010 fun d => d.matrixCmd w.by_ (setBits w.data 24 1 1) true)

/-- MATRIX_CMD_OPEN (R93): a MATRIX_CMD whose CLOSE bit is zero. -/
def execMatrixCmdOpen (w : Wr) (s : State) : Host.Outcome State Fault Refusal :=
  .next (s.onDev fun d => d.write w 0xA0010 fun d => d.matrixCmd w.by_ (setBits w.data 24 1 0) false)

/-- MATRIX_HOSTBUS_WRITE (R97). -/
def execMatrixHostbusWrite (w : Wr) (s : State) : Host.Outcome State Fault Refusal :=
  .next (s.onDev fun d => d.write w 0xA0014 fun d => d.hostBusWrite w.data)

/-- MATRIX_HOST_CLAIM_WRITE (R98). -/
def execMatrixHostClaimWrite (r : Fin 3) (w : Wr) (s : State) : Host.Outcome State Fault Refusal :=
  .next (s.onDev fun d => d.write w (0xA0020 + 4 * r) fun d =>
    d.claimWrite (0xA0020 + 4 * r) (Device.claimBits r) w.data)

/-- MATRIX_BUSOPEN_WRITE (R116). A stuck switch may end or fill slots, and commit records. -/
def execMatrixBusopenWrite (w : Wr) (stuck : List (Fin 34 × Nat)) (s : State) : Host.Outcome State Fault Refusal :=
  .next (s.onDev fun d => d.write w 0xA0018 fun d => d.busOpenWrite w.data stuck)

/-- MATRIX_BUSREL_WRITE (R116). `stuck` is what the test of R116 finds while the bus is still open. -/
def execMatrixBusrelWrite (w : Wr) (stuck : List (Fin 34 × Nat)) (s : State) : Host.Outcome State Fault Refusal :=
  .next (s.onDev fun d => d.write w 0xA001C fun d => d.busRelWrite w.data stuck)

/-- MATRIX_LENT_WRITE (R91). -/
def execMatrixLentWrite (j : Fin 8192) (w : Wr) (s : State) : Host.Outcome State Fault Refusal :=
  .next (s.onDev fun d => d.write w (aMX (0x8000 + 4 * j)) fun d => d.lentWrite j w.by_ w.data)

/-- RMU_START (R99): a write of one to RMU_CMD.START. -/
def execRmuStart (r : Fin 4) (w : Wr) (s : State) : Host.Outcome State Fault Refusal :=
  .next (s.onDev fun d => d.write w (aRMU r 0x1C) fun d => d.rmuStart r)

/-- RMU_CONVERSION_END (R109). -/
def execRmuConversionEnd (r : Fin 4) (m : RmuMeas) (s : State) : Host.Outcome State Fault Refusal :=
  .next (s.onDev fun d => d.convEnd r m)

/-- RMU_CHAIN_START (R151): a write of DEV_RMUFCTL whose RUN bit is one. -/
def execRmuChainStart (r : Fin 4) (w : Wr) (s : State) : Host.Outcome State Fault Refusal :=
  .next (s.onDev fun d => d.write w (aRMUF r 0) fun d => d.rmufControl r w.by_ (setBits w.data 31 1 1))

/-- RMU_CHAIN_STOP (R151): a write of DEV_RMUFCTL whose RUN bit is zero. -/
def execRmuChainStop (r : Fin 4) (w : Wr) (s : State) : Host.Outcome State Fault Refusal :=
  .next (s.onDev fun d => d.write w (aRMUF r 0) fun d => d.rmufControl r w.by_ (setBits w.data 31 1 0))

/-- BUS_OVERCURRENT (R115). -/
def execBusOvercurrent (p : Fin 34) (stuck : List (Fin 34 × Nat)) (s : State) : Host.Outcome State Fault Refusal :=
  .next (s.onDev fun d => d.overcurrent p stuck)

/-- CLAIM_RELEASE (R95). -/
def execClaimRelease (s : State) : Host.Outcome State Fault Refusal := .next (s.onDev fun d => d.releaseDue)

/-- CAT_COMPARATOR_EVENT (R113). -/
def execCatComparatorEvent (t : Fin 64) (v : TileVolts) (sat : Bool) (s : State) : Host.Outcome State Fault Refusal :=
  .next (s.onDev fun d => d.catEvent t v sat)

end Sys2Proof.Machine
end

