-- ==== Sys2Proof/Machine/ImageOps.lean ====
section
/-!
DEFINITION. Checks that the image load and register writes share (R91, R186, R266, R459), and the load of the sections of a base image into
the registers and DDR5 (R419 to R428).
-/

namespace Sys2Proof.Machine

namespace Device

/-! Checks over several fields. -/

/-- LOLIM of context `c` may not lie above HILIM (R186): one entry for the 64-bit value. -/
def ctxClamp (d : Device) (c : Nat) (src : ClampSrc) (recd word : Nat) : Device :=
  let lim (w : Nat) : Int := toSigned 64 ((d.rd (aCTX c w)).toNat + 2 ^ 32 * (d.rd (aCTX c (w + 1))).toNat)
  if lim 10 < lim 8 then
    let o := lim 8
    let d := (d.wr (aCTX c 8) (d.rd (aCTX c 10))).wr (aCTX c 9) (d.rd (aCTX c 11))
    (d.reportClamp src (some (aCTX c 8)) 0 0xFFFF 64 recd (32 * word) o (lim 10)).event 0x80008 0
  else d

/-- The list of descriptor `i` is shortened to the prefix that keeps within R87 (R91, R428). -/
def listClamp (d : Device) (i : Nat) (src : ClampSrc) (recd : Nat) : Device :=
  let a := aMX (0x4000 + 4 * i)
  let n := d.fget a 16 7
  let k := fitPrefix (d.listOf i) n
  if k = n then d else ((d.fset a 16 7 k).reportClamp src (some a) 0 0xFFFF 7 recd 16 n k).event 0xA0004 0

/-- Two enabled wake slots may not name one pin: EN of the higher is cleared (R266); `recd` is the RECORD of a slot's entry (R429). -/
def wakeClamp (d : Device) (s : Nat) (src : ClampSrc) (recd : Nat → Nat) : Device :=
  let on (k : Nat) : Bool := d.flag (aWAKE k 0) 31
  let pin (k : Nat) : Nat := d.fget (aWAKE k 0) 0 10
  let clear (d : Device) (k : Nat) : Device :=
    ((d.fsetB (aWAKE k 0) 31 false).reportClamp src (some (aWAKE k 0)) 0 0xFFFF 1 (recd k) 31 1 0).event 0x184300 0
  if !on s then d
  else if (List.range s).any fun k => on k && pin k == pin s then clear d s
  else ((List.range 32).filter fun k => decide (s < k) && on k && pin k == pin s).foldl clear d

/-! DDR5 regions (R423, R458, R459): 0 the region cache, 1 the setup pool, 2 the bus data area, 3 to 18 the queues, 19 to 82 the capture
buffers. -/

/-- First byte of a region. -/
def regBase (d : Device) (i : Nat) : Nat :=
  match i with
  | 0 => (d.rd 0xE0010).toNat * 16
  | 1 => (d.rd 0x80030).toNat * 16
  | 2 => (d.rd (aBUS 0x10)).toNat * 16
  | _ =>
    if i < 19 then bitsOf (d.rd (aRESQ (i - 3) 0)) 12 20 * 4096 + d.fget (aRESQ (i - 3) 4) 0 4 * 2 ^ 32
    else d.cbBase (i - 19)

/-- The size field of a region: its register, lowest bit and width. -/
def regSize (i : Nat) : Nat × Nat × Nat :=
  match i with
  | 0 => (0xE0014, 0, 13)
  | 1 => (0x80034, 0, 21)
  | 2 => (aBUS 0x14, 0, 25)
  | _ => if i < 19 then (aRESQ (i - 3) 8, 0, 5) else (aCB (i - 19) 4, 0, 24)

/-- The least size that is not void. -/
def regMin (i : Nat) : Nat := if i = 0 then 96 else if i < 3 then 1 else if i < 19 then 12 else 1

/-- Length in bytes of a region of size `v`. -/
def regBytes (i v : Nat) : Nat :=
  if v = 0 then 0
  else match i with
    | 0 => v * 2 ^ 20
    | 1 => v * 16
    | 2 => v * 8
    | _ => if i < 19 then 2 ^ v * 32 else v * 4096

/-- Size of region `i` as its field holds it. -/
def regVal (d : Device) (i : Nat) : Nat := d.fget (regSize i).1 (regSize i).2.1 (regSize i).2.2

/-- The byte after the last of region `i`. -/
def regEnd (d : Device) (i : Nat) : Nat := d.regBase i + regBytes i (d.regVal i)

/-- Installed bytes of DDR5 (R455). -/
def ddrBytes (d : Device) : Nat := d.fget 0xC0000 8 7 * 2 ^ 30

/-- The largest size up to `v` whose region fits into `room` bytes. -/
def fitSize (i room : Nat) : Nat → Nat
  | 0 => 0
  | v + 1 =>
    match i with
    | 0 => min (v + 1) (room / 2 ^ 20)
    | 1 => min (v + 1) (room / 16)
    | 2 => min (v + 1) (room / 8)
    | _ =>
      if i < 19 then (if 2 ^ (v + 1) * 32 ≤ room then v + 1 else fitSize i room v)
      else min (v + 1) (room / 4096)

/-- The size that R459 gives region `i`: 0 void. -/
def regFit (d : Device) (i : Nat) : Nat :=
  let b := d.regBase i
  let v := d.regVal i
  let before := (List.range i).filter fun j => decide (d.regBase j < d.regEnd j)
  if d.ddrBytes ≤ b ∨ (before.any fun j => decide (d.regBase j ≤ b ∧ b < d.regEnd j)) then 0
  else
    let lim := before.foldl (fun m j => if b < d.regBase j then min m (d.regBase j) else m) d.ddrBytes
    if b + regBytes i v ≤ lim then v
    else
      let k := fitSize i (lim - b) v
      if k < regMin i then 0 else k

/-- Clear the enable of a void region (R459). -/
def voidRegion (d : Device) (i : Nat) : Device :=
  if i < 3 then d else if i < 19 then d.fsetB (aRESQ (i - 3) 0xC) 0 false else d.fsetB (aCB (i - 19) 4) 31 false

/-- Apply R459 to region `i`; `recd` and `word` locate the size field. -/
def regClamp (d : Device) (i : Nat) (src : ClampSrc) (recd word : Nat) : Device :=
  let v := d.regVal i
  let k := d.regFit i
  let (a, lo, n) := regSize i
  let d := if k = 0 then d.voidRegion i else d
  if k = v then d else ((d.fset a lo n k).reportClamp src (some a) 0 0xFFFF n recd (32 * word + lo) v k).eventClamped a

/-- Region `i` overlaps one declared after it (R460). -/
def overlapsLater (d : Device) (i : Nat) : Bool :=
  (List.range 83).any fun j => decide (i < j) && decide (d.regBase j < d.regEnd j) && decide (d.regBase i < d.regEnd j) &&
    decide (d.regBase j < d.regEnd i)

/-! Loading (R419, R426, R427). -/

/-- The body of a base slot as it is being loaded (R416, R425): its section table, and the plain text decrypted so far. -/
structure Img where
  sects : List SectEnt
  plain : List Byte

/-- The table's entry of a section; none when it is absent (R418). -/
def Img.ent (g : Img) (sect : Nat) : Option SectEnt := g.sects.find? fun e => e.code == sect

/-- The image has the section. -/
def Img.has (g : Img) (sect : Nat) : Bool := (g.ent sect).isSome

/-- A word of a section: record and word within the record, the records of its parts numbered on (R419, R429); zero where the section gives
none (R426). -/
def imgWord (g : Img) (sect recd idx : Nat) : Word :=
  match g.ent sect with
  | some e => BitVec.ofNat 32 (numAt g.plain (e.ofs + recordOfs (sectVar sect) (sectParts sect) recd + 4 * idx) 4)
  | none => 0

/-- Bytes [o, o + n) of a section. -/
def imgBytes (g : Img) (sect o n : Nat) : List Byte :=
  match g.ent sect with
  | some e => cut g.plain (e.ofs + o) n
  | none => []

/-- A field that the image loads: its Reset is "Image" (R9, R419). The register tables hold such a field without a reset value, but where
its valid value nearest to zero depends on other fields or on the kind of engine (assumption 3). -/
def fromImage (f : Fld) : Bool := f.reset.isNone || decide (f.lim = .dyn)

/-- Bring the fields of a word into their ranges, whatever their access type (R419). -/
def imgFlds (d : Device) (a : Nat) (raw : Word) (take : Fld → Bool) : List Fld → Word → List ClampHit → Word × List ClampHit
  | [], v, hits => (v, hits)
  | f :: r, v, hits =>
    if take f then
      let x := bitsOf raw f.lo f.width
      let y := d.applied a raw v f
      let hits := if x = y then hits else hits ++ [⟨f, d.extend64 a raw v f x, d.extend64 a raw v f y⟩]
      imgFlds d a raw take r (setBits v f.lo f.width y) hits
    else imgFlds d a raw take r v hits

/-- Load one word of a record into the register at `a`. An absent section makes no clamp entry (R426). -/
def loadReg (d : Device) (sect : Nat) (here : Bool) (recd word a : Nat) (raw : Word) (take : Fld → Bool := fromImage) : Device :=
  let (v, hits) := d.imgFlds a raw take (regFields a) (d.rd a) []
  let d := d.wr a v
  if here then d.reportHits (.image sect) a recd word 0xFFFF hits else d

/-- Load words `ws` of record `base + r`, for `r` below `n`, into the registers that `addr r w` names. -/
def loadRecs (d : Device) (g : Img) (sect base n : Nat) (ws : List Nat) (addr : Nat → Nat → Nat) (take : Fld → Bool := fromImage) : Device :=
  (List.range n).foldl (fun d r => ws.foldl (fun d w =>
    d.loadReg sect (g.has sect) (base + r) w (addr r w) (imgWord g sect (base + r) w) take) d) d

/-- COUNT of a section's variable part (R418). -/
def varCount (g : Img) (sect : Nat) : Nat := ((g.ent sect).map SectEnt.count).getD 0

/-- The source of a clamp of a field that no register holds. -/
def loadClamp (d : Device) (sect blk width recd fieldpos : Nat) (orig appl : Int) : Device :=
  d.reportClamp (.image sect) none blk 0xFFFF width recd fieldpos orig appl

/-- COUNT of a section within `limit` (R419): the entry names the section table (R429). -/
def countClamp (d : Device) (g : Img) (sect blk limit : Nat) : Device :=
  if limit < varCount g sect then d.loadClamp sect blk 32 0xFFFFFF 32 (varCount g sect) limit else d

/-- The SYSTEM registers by word (R422). -/
def systemRegs : List (Nat × Nat) :=
  [(0, 0x10008), (1, 0x1000C)] ++
  (List.range 4).flatMap (fun n => [(2 + 3 * n, aOUT n 0), (3 + 3 * n, aOUT n 4), (4 + 3 * n, aOUT n 8)]) ++
  [(14, 0x2000C)] ++ ((List.range 4).map fun k => (15 + k, 0x20010 + 4 * k)) ++
  [(19, 0x100), (20, 0x4000C), (21, 0x50000), (22, 0x50008), (23, 0x5002C), (24, 0x60000), (25, 0x6000C), (26, 0x60010), (27, 0x20024),
   (28, 0xB0008), (32, 0xE0010), (33, 0xE0014), (34, 0x80030), (35, 0x80034), (36, aBUS 0x10), (37, aBUS 0x14)] ++
  ((List.range 4).map fun p => (40 + p, aPORT p 8)) ++
  (List.range 16).flatMap (fun q => [(64 + 8 * q, aRESQ q 0), (65 + 8 * q, aRESQ q 4), (66 + 8 * q, aRESQ q 8), (67 + 8 * q, aRESQ q 0xC),
    (68 + 8 * q, aRESQ q 0x24)]) ++
  (List.range 64).flatMap (fun b => [(192 + 4 * b, aCB b 0), (193 + 4 * b, aCB b 4), (194 + 4 * b, aCB b 8)])

/-- The defaults that the image alone has (R422): a zero of TLIMIT, TOL, GOVBUDGET or LEAD. -/
def systemRaw (word : Nat) (raw : Word) : Word :=
  let dflt (n x : Nat) : Word := if bitsOf raw 0 n = 0 then setBits raw 0 n x else raw
  if word = 21 then dflt 8 8 else if word = 25 then dflt 7 5 else if word = 19 then dflt 16 40000 else if word = 28 then dflt 11 128 else raw

/-- The order of the release phases is a permutation (R390). -/
def orderOk (v : Nat) : Bool := (List.range 4).all fun x => (List.range 4).any fun p => (v / 4 ^ p) % 4 == x

/-- The region whose declaration ends with a word of SYSTEM (R423): once its size and enable are loaded. -/
def regionAt (word : Nat) : Option (Nat × Nat) :=
  if word = 33 then some (0, 33) else if word = 35 then some (1, 35) else if word = 37 then some (2, 37)
  else if 64 ≤ word ∧ word < 192 ∧ word % 8 = 3 then some (3 + (word - 64) / 8, word - 1)
  else if 192 ≤ word ∧ word % 4 = 1 then some (19 + (word - 192) / 4, word)
  else none

/-- Load the SYSTEM section (R385, R390, R422, R423). -/
def loadSystem (d : Device) (g : Img) : Device :=
  systemRegs.foldl (fun d wa =>
    let raw := systemRaw wa.1 (imgWord g 0x0E 0 wa.1)
    if wa.1 = 14 then
      let v := bitsOf raw 0 8
      if orderOk v then d.wr 0x2000C (BitVec.ofNat 32 v)
      else (((d.wr 0x2000C 0x78).reportClamp (.image 0x0E) (some 0x2000C) 0 0xFFFF 8 0 (32 * 14) v 0x78)).event 0x20004 5
    else
      let d := d.loadReg 0x0E true 0 wa.1 wa.2 raw
      let d := if 2 ≤ wa.1 ∧ wa.1 < 14 ∧ (wa.1 - 2) % 3 = 1 then d.spreadClamp ((wa.1 - 2) / 3) (.image 0x0E) 0 wa.1 else d
      match regionAt wa.1 with
      | some (i, w) => d.regClamp i (.image 0x0E) 0 w
      | none => d) d

/-- PRESENT of Fret `f` (R420). -/
def baseFret (g : Img) (f : Nat) : Bool := bitOf (imgWord g 2 f 0) 0

/-- Frame record `i` of FABRIC_BASE (R278, R420). -/
def baseFrame (g : Img) (i : Nat) : Nat × List Byte := frameRec (imgBytes g 2 (48 * 512 + 3076 * i) 3076) 0

/-- The registers that Fret record `f` of FABRIC_BASE gives (R420). -/
def loadFret (d : Device) (g : Img) (f : Nat) : Device :=
  let here := g.has 2
  let w0 := imgWord g 2 f 0
  let d := d.wr (aFRET f 0x10) (BitVec.ofNat 32 (bitsOf w0 1 1 + bitsOf w0 16 10 * 2 ^ 16))
  let d := d.loadReg 2 here f 1 (aFRET f 0x14) (imgWord g 2 f 1)
  let d := d.loadReg 2 here f 2 (aFRET f 0x1C) (imgWord g 2 f 2)
  let d := (List.range 16).foldl (fun d w => d.loadReg 2 here f (16 + w) (aBVAL f w) (imgWord g 2 f (16 + w))) d
  (List.range 64).foldl (fun d x => d.loadReg 2 here f (32 + x) (aXIN f x) (imgWord g 2 f (32 + x))) d

/-- The content of the window of Fret `f` as an image, with an essential map (R280, R287). -/
def baseImg (d : Device) (f : Nat) (map : Option (List Byte)) : RegionImg :=
  ⟨f, d.framesCrc (256 * f) 256, ((List.range 256).map fun j => 256 * f + j).map fun a => (a, d.frameBytes a), map⟩

/-- Load FABRIC_BASE (R287, R420): the Fret records, then the frame records that lie in the window of a Fret that is PRESENT, in order, over
blank frames. -/
def loadFabric (d : Device) (g : Img) : Device :=
  let d := (List.range 48).foldl (fun d f => d.loadFret g f) { d with frames := [] }
  let d := d.countClamp g 2 0x0E 12288
  let d := (List.range (min 12288 (varCount g 2))).foldl (fun d i =>
    let x := baseFrame g i
    if x.1 ≤ 12287 ∧ baseFret g (x.1 / 256) then d.writeFrame (x.1, some x.2) else d.loadClamp 2 0x0E 14 (48 + i) 0 x.1 12288) d
  (List.range 48).foldl (fun d f =>
    let d := d.setFret f { Fret.init with bvals := (List.range 16).map fun w => d.rd (aBVAL f w), content := if baseFret g f then baseKey f else 0 }
    if baseFret g f then (d.setFretState f 1).cachePut (baseKey f) (d.baseImg f none) else d) d

/-- Load ANALOG_PERSONALITY (R91, R419). -/
def loadAnalog (d : Device) (g : Img) : Device :=
  let d := (List.range 4095).foldl (fun d i =>
    d.loadReg 3 (g.has 3) (i + 1) 0 (aMX (0x4000 + 4 * (i + 1))) (imgWord g 3 (i + 1) 0)) d
  let d := d.loadRecs g 3 4096 8192 [0] fun j _ => aMX (0x8000 + 4 * j)
  let d := (List.range 4095).foldl (fun d i => d.listClamp (i + 1) (.image 3) (i + 1)) d
  let d := d.loadRecs g 3 12288 64 (List.range 8) fun t w => aCAT t (4 * w)
  let d := d.loadRecs g 3 12352 4 (List.range 16) fun r w => aRMU r (4 * w)
  d.loadRecs g 3 12356 4 [0] fun r _ => aRMUF r 0

/-- The fields that a word of CHANNEL_DEFAULTS gives (R421). -/
def chanTake (names : List String) (f : Fld) : Bool := names.contains f.name

/-- Load CHANNEL_DEFAULTS (R421). CH_VOH is checked before CH_VOL. -/
def loadChannels (d : Device) (g : Img) : Device :=
  let here := g.has 4
  (List.range 1024).foldl (fun d n =>
    let w (i : Nat) : Word := imgWord g 4 n i
    let d := d.loadReg 4 here n 0 (aCH n 0) (w 0) (chanTake ["DDRV", "WKIND"])
    let d := d.loadReg 4 here n 1 (aCH n 0xC) (w 1) (chanTake ["VCLAMP"])
    let d := d.loadReg 4 here n 2 (aCH n 0x10) (w 2)
    let d := d.loadReg 4 here n 3 (aCH n 0x14) (w 3)
    let d := d.loadReg 4 here n 4 (aCH n 0x18) (w 4) (chanTake ["QMODE", "QLEN"])
    let d := (d.fset (aCH n 0x28) 0 18 (ofSigned 18 (-125000))).loadReg 4 here n 5 (aCH n 0x24) (w 5)
    let d := d.loadReg 4 here n 6 (aCH n 0x28) (w 6)
    let d := d.loadReg 4 here n 7 (aCH n 0x2C) (w 7)
    let d := d.loadReg 4 here n 8 (aFILT n 0) (w 8)
    let d := d.loadReg 4 here n 9 (aFILT n 0x20) (w 9)
    let d := d.loadReg 4 here n 10 (aFILT n 0x24) (w 10)
    d.loadReg 4 here n 11 (aFILT n 0x28) (w 11)) d

/-- Load SAFE_TABLE (R266, R419). -/
def loadSafe (d : Device) (g : Img) : Device :=
  let d := d.loadRecs g 5 0 1024 [0, 1] fun n w => aCH n (0x30 + 4 * w)
  (List.range 32).foldl (fun d s =>
    let d := (List.range 2).foldl (fun d w =>
      d.loadReg 5 (g.has 5) (1024 + s) w (aWAKE s (4 * w)) (imgWord g 5 (1024 + s) w)) d
    d.wakeClamp s (.image 5) fun k => 1024 + k) d

/-- Load CONTEXTS (R186, R188, R419): the contexts, then the setup records into the pool, as many as it holds. -/
def loadContexts (d : Device) (g : Img) : Device :=
  let d := (List.range 16384).foldl (fun d c =>
    let d := (List.range 15).foldl (fun d w => d.loadReg 7 (g.has 7) c w (aCTX c w) (imgWord g 7 c w)) d
    d.ctxClamp c (.image 7) c 8) d
  let pool := d.fget 0x80034 0 21
  let d := d.countClamp g 7 0x08 pool
  (List.range (min (varCount g 7) pool)).foldl (fun d i =>
    d.toDdr ((d.rd 0x80030).toNat * 16 + 16 * i)
      ((List.range 4).flatMap fun w => leBytes 4 (imgWord g 7 (16384 + i) w).toNat)) d

/-- Load STEP_LISTS (R182, R184, R419). -/
def loadLists (d : Device) (g : Img) : Device :=
  let d := d.loadRecs g 8 0 256 [0, 1] fun l w => aLIST l (4 * w)
  let d := d.loadRecs g 8 256 4 (List.range 32) fun a w => aPOS a (4 * w)
  (List.range 256).foldl (fun d i =>
    let d := (List.range 4).foldl (fun d w =>
      d.loadReg 8 (g.has 8) (260 + i) w (aCMP (i / 64) (i % 64) (4 * w)) (imgWord g 8 (260 + i) w)) d
    let d := d.setCmpU (i / 64) (i % 64) { CmpUnit.init with value := d.cmpWritten (i / 64) (i % 64) }
    d) d

/-- The cycle of an axis bounds the values of its compare units (R184), once the wheels are loaded. -/
def checkUnits (d : Device) : Device :=
  (List.range 256).foldl (fun d i => d.cmpClamp (i / 64) (i % 64) (.image 8) (260 + i)) d

/-- Load FILTER_PROFILES (R155, R419). A profile's ADEC is in place when R130 is checked on its CTAPS. -/
def loadProfiles (d : Device) (g : Img) : Device :=
  let d := (List.range 256).foldl (fun d p => d.fset (aPROF p 1) 0 13 (clampNat 2 4096 (bitsOf (imgWord g 6 p 1) 0 13))) d
  d.loadRecs g 6 0 256 (List.range 82) aPROF

/-- Load BUS_TEMPLATES (R419). An entry's EXPOFS is in place when R229 is checked on its EXPLEN. -/
def loadBus (d : Device) (g : Img) : Device :=
  let d := d.loadRecs g 0x0A 0 120 (List.range 16) fun e w => aENG e (4 * w)
  let d := (List.range 1024).foldl (fun d t =>
    d.loadReg 0x0A (g.has 0x0A) (121 + t) 0 (aTD (t + 1)) (imgWord g 0x0A (121 + t) 0)) d
  let d := (List.range 4096).foldl (fun d x => d.fset (aTE x 6) 0 24 (bitsOf (imgWord g 0x0A (1145 + x) 6) 0 24)) d
  let d := d.loadRecs g 0x0A 1145 4096 (List.range 16) fun x w => aTE x w
  let area := d.fget (aBUS 0x14) 0 25
  let d := d.countClamp g 0x0A 0x19 area
  (List.range (min (varCount g 0x0A) area)).foldl (fun d i =>
    d.toDdr (d.regBase 2 + 8 * i) ((List.range 2).flatMap fun w => leBytes 4 (imgWord g 0x0A (5241 + i) w).toNat)) d

/-- Load ESSENTIAL_MAP (R420): a map joins the base content of its Fret. A map of a Fret without a base design is ignored; the value that its entry
shows as applied is not stated (assumption 2). Of two maps of one Fret the later stands. -/
def loadMaps (d : Device) (g : Img) : Device :=
  let d := d.countClamp g 0x0B 0x0E 48
  (List.range (min 48 (varCount g 0x0B))).foldl (fun d i =>
    let f := bitsOf (imgWord g 0x0B i 0) 0 6
    let d := if 47 < f then d.loadClamp 0x0B 0x0E 6 i 0 f 47 else d
    if baseFret g (min f 47) then d.cachePut (baseKey (min f 47)) (d.baseImg (min f 47) (some (imgBytes g 0x0B (786496 * i + 32) mapLen)))
    else (d.loadClamp 0x0B 0x0E 6 i 0 f (Config.freeWord d.freeCtr).toNat).takeByte) d

/-- Load PIN_FUNCTIONS (R259, R268, R419). -/
def loadPins (d : Device) (g : Img) : Device :=
  let d := d.loadRecs g 0x0D 0 1024 [0, 1, 2] fun n w => aPIN n (4 * w)
  (List.range 32).foldl (fun d b => d.wr (aBANK 0x4000 b) (imgWord g 0x0D (1024 + b) 0)) d

/-- Load one section. -/
def loadSection (g : Img) (d : Device) (sect : Nat) : Device :=
  match sect with
  | 0x0E => d.loadSystem g
  | 0x02 => d.loadFabric g
  | 0x03 => d.loadAnalog g
  | 0x04 => d.loadChannels g
  | 0x05 => d.loadSafe g
  | 0x06 => d.loadProfiles g
  | 0x07 => d.loadContexts g
  | 0x08 => d.loadLists g
  | 0x09 => (d.loadRecs g 9 0 16 (List.range 32) aWHEEL).checkUnits
  | 0x0A => d.loadBus g
  | 0x0B => d.loadMaps g
  | 0x0C => d.loadRecs g 0x0C 0 255 [0, 1, 2] aCATLG fun _ => true
  | _ => d.loadPins g

/-- The sections after SYSTEM in the order of the load (R418). -/
def sectOrder : List Nat := [0x02, 0x03, 0x04, 0x05, 0x06, 0x07, 0x08, 0x09, 0x0A, 0x0B, 0x0C, 0x0D]

/-- Digests of catalogue entries that are not VALID are zero (R417): known once the catalogue is. -/
def digestsOk (g : Img) (man : List Byte) : Bool :=
  (List.range 255).all fun r => bitOf (imgWord g 0x0C r 0) 7 || zeroAt man (0x800 + 64 * r) 64

/-- What a section fails by before it is loaded, as a code of R409 (R394, R425): a read error, a segment whose tag does not check within it, a
digest that differs. -/
def sectFails (g : Img) (man : List Byte) (bad : Option Nat) (sect : Nat) : Option Nat :=
  match g.ent sect with
  | none => none
  | some e =>
    if bad = some sect then some 5
    else if g.plain.length < e.ofs + e.len ∨ sha512 (cut g.plain e.ofs e.len) ≠ e.digest then some 2
    else if sect = 0x0C ∧ !digestsOk g man then some 2
    else none

/-- Check and load sections in order (R425) until one fails or more than 1,024 clamps are made since `since` (R394): what is loaded, and the code
with the section of the failure. -/
def loadSections (g : Img) (man : List Byte) (bad : Option Nat) (since : Nat) : List Nat → Device → Device × Option (Nat × Nat)
  | [], d => (d, none)
  | s :: r, d =>
    match sectFails g man bad s with
    | some code => (d, some (code, s))
    | none =>
      let d := loadSection g d s
      if 1024 < d.cseq.toNat - since then (d, some (4, s)) else loadSections g man bad since r d

end Device

end Sys2Proof.Machine
end

