-- ==== Sys2Proof/Machine/BootOps.lean ====
section
/-!
DEFINITION. Start-up (R383 to R397), reload and re-arming (R398 to R401), QUIET (R402 to R406), the choice of a patch (R388, R449).
-/

namespace Sys2Proof.Machine

namespace Device

/-- Replace the state of the start-up. -/
def setBoot (d : Device) (b : BootSt) : Device := { d with sys := { d.sys with boot := b } }

/-- Replace the state of the security block. -/
def setSec (d : Device) (x : SecSt) : Device := { d with sys := { d.sys with sec := x } }

/-- `n` fresh free bytes: random numbers, and digests over what the state does not hold (assumption 2). -/
def freeRun (d : Device) (n : Nat) : List Byte × Device :=
  ((List.range n).map fun i => Config.freeByte (d.freeCtr + i), { d with freeCtr := d.freeCtr + n })

/-- BOOT_STATUS.PHASE (R409). -/
def phase (d : Device) : Nat := d.fget 0x20000 0 5

/-- Set BOOT_STATUS.PHASE and WAITON. -/
def setPhase (d : Device) (p wait : Nat) : Device := (d.fset 0x20000 0 5 p).fset 0x20000 13 3 wait

/-- BOOT_STATUS.DONE (R384). -/
def bootDone (d : Device) : Bool := d.flag 0x20000 10

/-! Cold start, step 1 (R383, R397). -/

/-- Installed GiB for the straps (R455): channels, ranks, components and density. -/
def capGib (org : Nat) : Nat :=
  let perRank := if org % 2 = 1 then 2 else 4
  let ranks := if (org / 2) % 2 = 1 then 2 else 1
  let density := [8, 16, 24, 32].getD (org / 4) 8
  2 * ranks * perRank * density / 8

/-- Copy a register from another device. -/
def copyReg (d old : Device) (a : Nat) : Device := d.wr a (old.rd a)

/-- Registers that straps, fuses, the battery-backed key and the event log give (R397, R454). -/
def lastingRegs : List Nat := [0x3000C, 0x30020, 0x30024, 0x30028, 0x3002C]

/-- What a reset leaves (R397): fuses, factory store, battery-backed key, flash and its log, and segments isolated for the rest of service life
(R116); straps are sampled anew from the same balls. -/
def coldReset (d : Device) : Device :=
  let n := { Device.reset with edge := d.edge, freeCtr := d.freeCtr, logIdx := d.logIdx, logAt := d.logAt, logSeq := d.logSeq }
  let n := { n with cal := { Cal.init with factory := d.cal.factory, copyA := d.cal.copyA, copyB := d.cal.copyB, seconds := d.cal.seconds } }
  let s := d.sys.sec
  let n := n.setSec { Sys.init.sec with hashes := s.hashes, fkey := s.fkey, bbKey := s.bbKey, tamper := s.tamper, vbatLoss := s.vbatLoss }
  let n := n.setCapoSt { n.sys.capo with pinLow := d.sys.capo.pinLow }
  let n := n.setMx { n.mx with isolated := d.mx.isolated }
  let n := lastingRegs.foldl (fun n a => n.copyReg d a) n
  let n := (n.fset 0x30010 16 16 (d.fget 0x30010 16 16)).fset 0x30000 6 2 (d.fget 0x30000 6 2)
  let n := (n.fset 0x30000 9 2 (d.fget 0x30000 9 2)).fset 0x50030 0 11 (d.fget 0x50030 0 11)
  ((n.fset 0x10000 17 1 (d.fget 0x10000 17 1)).fset 0xC0000 2 4 (d.fget 0xC0000 2 4)).fset 0xC0000 8 7 (d.fget 0xC0000 8 7)

/-- FSEQ resumes one above the newest entry of the event log, or at 0 (R352). -/
def resumeFseq (d : Device) : Device :=
  let n : Word := match d.logSeq with | some q => q + 1 | none => 0
  (d.wr 0x50020 n).wr 0x50024 n

/-- The latched causes of a cleared BBRAM key are reported (R436). -/
def reportLatches (d : Device) : Device :=
  let d := if d.sys.sec.tamper then d.event 0x30004 2 else d
  let d := if d.sys.sec.vbatLoss then d.event 0x30004 3 else d
  d.setSec { d.sys.sec with tamper := false, vbatLoss := false }

/-- Supply-good (R383 step 1): Capo is SAFE with cause POWERUP from the reset on; reference detection begins. A root is ROOT at once
(R480, R484). -/
def coldBegin (d : Device) : Device :=
  let d := (d.setPhase 1 1).setBoot { d.sys.boot with supplyAt := d.edge }
  let d := (d.resumeFseq.reportLatches)
  let d := if d.flag 0x10000 17 then (d.fset 0xB0000 0 3 6).fset 0xB0000 8 11 0 else d
  d.tryActive.noteReady

/-- SUPPLY_GOOD samples the straps (R455, R511). -/
def supplyGood (d : Device) (st : Straps) : Device :=
  if d.phase = 0 then
    let d := (d.fsetB 0x10000 17 st.root).fset 0xC0000 2 4 st.ddrOrg
    let d := (d.fset 0xC0000 8 7 (capGib st.ddrOrg)).fsetB 0x30000 9 st.tamperN
    (d.fsetB 0x30000 10 st.vbatOk).coldBegin
  else d

/-- PROG_N returns high (R397): a cold start begins again; with a rail out of its window it waits for supply-good. -/
def reprogram (d : Device) : Device :=
  let n := d.coldReset
  if d.phase = 0 ∨ d.flag 0x40008 2 then n else n.coldBegin

/-- After a reset DDR5 and the writes to it are lost (R397). -/
def loseDdr (m : Mem) : Mem := { m with ddr := [] }

/-! The failed state (R395) and the header (R383 steps 3 to 5). -/

/-- The failed state is entered with a code of R409. -/
def failState (d : Device) (code : Nat) : Device :=
  (((d.fset 0x20008 24 4 code).setPhase 12 0).fsetB 0x20000 11 true).tripSafe 7

/-- The boot header, or its copy (R411, R414). -/
def headerAt (m : Mem) (copy : Bool) : List Byte := m.flashRead (if copy then 0x1000 else 0) 4096

/-- A boot header passes step 4 (R414, R415, R442): its fields, and its signature under the key slot it names. -/
def headerPasses (d : Device) (h : List Byte) (verified : Bool) : Bool := headerOk h && d.sigGood (headerSlot h) (pubKey h) verified

/-- Header, signature, root PLL (R383 steps 3 to 5): a header that fails step 4 gives way to its copy, once. The domains run from the root PLL and
the gated domains with them; the flash is in the mode that the header gives (R415). `sigOk` and `copyOk` say which signature verifies. -/
def rootLock (d : Device) (m : Mem) (sigOk copyOk : Bool) : Device :=
  if d.phase ≠ 2 then d
  else
    let first := d.headerPasses (headerAt m false) sigOk
    let d := if first then d else d.event 0x20004 2
    if first || d.headerPasses (headerAt m true) copyOk then
      let d := (d.fsetB 0x20000 9 (!first)).setBoot { d.sys.boot with header := headerAt m (!first) }
      (((d.fsetB 0x10000 2 true).fsetB 0x10000 16 true).fsetB 0x10000 14 false).setPhase 5 0
    else d.failState 6

/-- The load of the base image may go on: not while the root PLL holds over (R386). -/
def loading (d : Device) : Bool := decide (d.phase = 5) && !d.flag 0x10000 13

/-! Step 7 (R385, R394). -/

/-- A slot fails (R394): after slot A the clamp report is emptied and slot B is tried, after slot B the failed state is entered. -/
def slotFails (d : Device) (code sect lost : Nat) : Device :=
  let d := ({ d with clampRep := [] }.wr 0x20040 (BitVec.ofNat 32 (lost * 65536))).setBoot { d.sys.boot with system := none }
  if d.fget 0x20008 0 4 = 0 then ((d.fset 0x20008 0 4 code).fset 0x20008 8 8 sect).event 0x20004 0
  else (((d.fset 0x20008 4 4 code).fset 0x20008 16 8 sect).event 0x20004 1).failState code

/-! Patches (R388, R447 to R449). -/

/-- The first 0x105 bytes of patch copy `k`: its header and PUBKEY (R447). -/
def patchHead (m : Mem) (k : Nat) : List Byte := m.flashRead (patchBase k) 0x105

/-- PSEQ of patch copy `k` as it lies in flash. -/
def copyPseq (m : Mem) (k : Nat) : Nat := numAt (patchHead m k) 8 4

/-- The patch of a cold start (R449): the copy with the higher PSEQ among those whose MAGIC and FORMAT read correctly; of two with one PSEQ copy 0
(DESIGN CHOICE, assumption 86). -/
def patchCopy (m : Mem) : Option Nat :=
  let good (k : Nat) : Bool := patchMarked (patchHead m k)
  if good 0 && (!good 1 || decide (copyPseq m 1 ≤ copyPseq m 0)) then some 0 else if good 1 then some 1 else none

/-- Verify patch copy `k` (R440, R442, R447, R448): the patch, or the result of the command: 4 for its layout or its decryption, 3 for a slot that is
revoked or not programmed, 2 for its signature. -/
def verifyPatch (d : Device) (m : Mem) (k : Nat) (x : PatchIn) : Except Nat Patch :=
  let h := patchHead m k
  let p := patchStream h
  let t := p.openAll (d.rootKey p.keysrc) (patchLen h) (cut h 8 8) (fun o n => m.flashRead (patchBase k + 0x100 + o) n) [x.plain]
  if !patchOk h (d.fget 0x30010 16 16) then .error 4
  else if !d.slotGood (numAt h 0x14 4) then .error 3
  else if !d.sigGood (numAt h 0x14 4) (cut h 0x80 133) x.sigOk then .error 2
  else if !t.2 then .error 4
  else .ok ⟨k, BitVec.ofNat 32 (copyPseq m k), t.1⟩

/-- A patch is active, or none (R447, R454). -/
def usePatch (d : Device) (p : Option Patch) : Device :=
  let d := d.setSec { d.sys.sec with patch := p }
  match p with
  | some x => ((d.fset 0x30010 0 1 x.copy).fsetB 0x30010 1 true).wr 0x30014 x.seq
  | none => ((d.fset 0x30010 0 1 0).fsetB 0x30010 1 false).wr 0x30014 0

/-- The patch at a cold start (R388): one that fails is not activated, and its retry runs. -/
def bootPatch (d : Device) (m : Mem) (x : PatchIn) : Device :=
  match patchCopy m with
  | none => d.usePatch none
  | some k =>
    match d.verifyPatch m k x with
    | .ok p => d.usePatch (some p)
    | .error _ => (((d.usePatch none).event 0x20004 4).event 0x30004 5).fsetB 0x30010 2 true

/-- Begin position `k` of BOOT_ORDER (R389, R391, R392). -/
def atPos (d : Device) (k : Nat) : Device :=
  d.setBoot { d.sys.boot with pos := k, doneAt := none, lockFrom := if k < 4 ∧ d.fget 0x2000C (2 * k) 2 = 0 then some d.edge else none }

/-- A slot is loaded: the patch, the self-test (R342) and Frets whose frames do not hold (R294), then the release phases (R383 steps 7, 8). -/
def slotLoaded (d : Device) (m : Mem) (l : SlotLoad) : Device :=
  let d := d.bootPatch m l.patch
  let d := l.selfTest.foldl (fun d x => d.classP x.res x.code.toNat x.detail.toNat) d
  let d := l.badFrets.foldl (fun d f => if d.fretState f = 1 then d.fretFault f else d) d
  let d := d.fset 0x20000 7 2 (if d.fget 0x20008 0 4 = 0 then 0 else 1)
  let d := (d.setPhase 7 0).setCapoSt { d.sys.capo with wdFrom := d.edge }
  let d := { d with scrub := { d.scrub with last := d.edge } }
  d.atPos 0

/-- The slot that is tried: B once A has failed (R394). -/
def slotB (d : Device) : Bool := decide (d.fget 0x20008 0 4 ≠ 0)

/-- Flash offset of the slot that is tried (R411). -/
def slotBase (d : Device) : Nat := if d.slotB then 0x06100000 else 0x00100000

/-- Used length of the slot that is tried, from the boot header (R414). -/
def slotLen (d : Device) : Nat := numAt d.sys.boot.header (if d.slotB then 0x44 else 0x40) 4

/-- How a manifest fails (R409, R425): a read error, its signature (R442), a rule of R416 to R418. -/
def manifestFails (d : Device) (man : List Byte) (l : SlotLoad) : Option Nat :=
  if l.readError = some 1 then some 5
  else if !d.sigGood (numAt man 0x20 4) (pubKey man) l.sigOk then some 1
  else if !manifestOk man d.slotLen then some 2
  else none

/-- The body of the slot that is tried, as far as its segments stand (R437 to R441). -/
def slotBody (d : Device) (m : Mem) (man : List Byte) (segs : List (List Byte)) : Img :=
  let p := manStream man
  ⟨sectEnts man, (p.openAll (d.rootKey p.keysrc) (bodyPlain man) (cut man 8 8) (fun o n => m.flashRead (d.slotBase + 0x5000 + o) n) segs).1⟩

/-- SYSTEM is applied (R385): the PLLs start. -/
def systemLoaded (d : Device) : Bool := d.sys.boot.system.isSome || decide (6 ≤ d.phase ∧ d.phase ≠ 12)

/-- The sections after SYSTEM, once DDR5 is ready (R385), then step 8 (R383, R394). A CRC mismatch names FABRIC_BASE (DESIGN CHOICE, assumption 86). -/
def loadRest (d : Device) (m : Mem) (man : List Byte) (g : Img) (l : SlotLoad) (since lost : Nat) : Device :=
  if d.flag 0xC0000 0 = false then d
  else
    let (d, broke) := loadSections g man (l.readError.map BitVec.toNat) since sectOrder d
    match broke with
    | some (code, sect) => d.slotFails code sect lost
    | none =>
      if d.framesCrc 0 12288 ≠ numAt man 0x24 4 then d.slotFails 3 2 lost
      else (d.setBoot { d.sys.boot with manifest := man.take 0x4884, system := none }).slotLoaded m l

/-- BASE_IMAGE_LOADED (R383 steps 6 to 8, R385, R394, R425): the manifest, SYSTEM, and with DDR5 ready the other sections; until then the load waits with
SYSTEM applied. -/
def imageLoaded (d : Device) (m : Mem) (l : SlotLoad) : Device :=
  if d.loading = false then d
  else if l.factoryBad then d.failState 7
  else
    let lost := d.fget 0x20040 16 16
    let man := m.flashRead d.slotBase 18688
    match d.manifestFails man l with
    | some code => d.slotFails code 1 lost
    | none =>
      let g := d.slotBody m man l.segs
      match d.sys.boot.system with
      | some (_, since) => d.loadRest m man g l since.toNat lost
      | none =>
        let since := d.cseq
        let (d, broke) := loadSections g man (l.readError.map BitVec.toNat) since.toNat [0x0E] d
        match broke with
        | some (code, sect) => d.slotFails code sect lost
        | none => (d.setBoot { d.sys.boot with system := some (d.edge, since) }).loadRest m man g l since.toNat lost

/-- 100 ms after SYSTEM the load waits for DDR5 (R385). -/
def noteDdrWait (d : Device) : Device :=
  match d.sys.boot.system with
  | some (e, _) => if e + 2048000 ≤ d.edge ∧ d.flag 0xC0000 0 = false then d.fset 0x20000 13 3 2 else d
  | none => d

/-! Step 9 (R389 to R392). -/

/-- The value at position `k` of BOOT_ORDER. -/
def orderVal (d : Device) (k : Nat) : Nat := d.fget 0x2000C (2 * k) 2

/-- Output `n` of CLKOUT is READY or not enabled. -/
def outsReady (d : Device) : Bool := (List.range 4).all fun n => !d.flag (aOUT n 8) 0 || d.flag 0x10000 (6 + n)

/-- 100 ms have passed since WAIT_LOCK began (R392). -/
def lockLate (d : Device) : Bool := match d.sys.boot.lockFrom with | some e => decide (e + 2048000 ≤ d.edge) | none => false

/-- What the phase of value `v` waits for, as BOOT_STATUS.WAITON (R392): none when it can complete. -/
def waitsOn (d : Device) (v : Nat) : Option Nat :=
  match v with
  | 0 =>
    if d.flag 0x10000 4 = false then some 2
    else if d.flag 0x10008 1 ∧ d.flag 0x10000 3 = false then some 3
    else if d.outsReady || d.lockLate then none else some 0
  | 1 => if (d.fsetB 0x40008 0 false).mayRelease then none else some 4
  | _ => none

/-- Load requests for AUTO entries of the catalogue, in region order (R287). -/
def autoLoads (d : Device) : Device :=
  (List.range 255).foldl (fun d r =>
    if d.flag (aCATLG r 0) 8 then
      let q : FretReq := ⟨d.fget (aCATLG r 0) 0 6, r, 0, false, false⟩
      if d.reqOk q then d.acceptReq q else d
    else d) d

/-- RELEASE_OUTPUTS (R67, R68, R158, R389): Capo leaves SAFE, every channel takes its safe-table state, chains with RUN one start. -/
def releaseOutputs (d : Device) : Device :=
  let d := (d.fsetB 0x40008 0 false).releaseCapo
  let d := d.forChans allChans fun d n =>
    let d := d.takeSafe n
    if d.mode n = 0 then d else d.setCh n { d.ch n with powered := true }
  d.startLoaded.noteOwn

/-- The effect of the phase of value `v`. -/
def runPhase (d : Device) (v : Nat) : Device :=
  match v with
  | 0 => if d.outsReady then d else d.event 0x20004 3
  | 1 => d.releaseOutputs
  | 2 => ((List.range 48).filter fun f => decide ((d.fret f).content = baseKey f) && decide (d.fretState f = 1)).foldl releaseFret d
  | _ => d

/-- Requests of the quick calibration that QUICKCAL selects, spares first (R323). -/
def quickReqs (d : Device) : List CalReq :=
  let q := d.fget 0x60010 24 2
  let ranges (s : Nat) : List Nat :=
    if q = 2 then List.range 8
    else if s % 33 = 32 then [2, 7]
    else
      let r := aCH (32 * (s / 33) + s % 33) 4
      [d.fget r 0 2, 3 + d.fget r 4 3]
  let slices := ((List.range 32).map fun c => 33 * c + 32) ++ (List.range 1056).filter fun s => s % 33 ≠ 32
  if q = 0 ∨ d.flag 0x60000 0 = false then [] else slices.flatMap fun s => (ranges s).map fun r => ⟨2, s, r⟩

/-- Steps 10 and 11 (R323, R328, R387). -/
def userCal (d : Device) : Device :=
  let d := d.applyUserCal.setPhase 9 0
  d.setCal { d.cal with boot := d.quickReqs }

/-- Position `k` of BOOT_ORDER and its delay are over (R391). -/
def nextPos (d : Device) (k : Nat) : Device :=
  let d := d.atPos (k + 1)
  if k < 3 then d else d.userCal

/-- The phase at position `k` completes, or waits (R389, R391, R392). -/
def releasePhase (d : Device) (k : Nat) : Device :=
  if d.phase ≠ 7 ∨ d.sys.boot.pos ≠ k ∨ d.sys.boot.doneAt.isSome then d
  else
    let v := d.orderVal k
    match d.waitsOn v with
    | some w => d.fset 0x20000 13 3 w
    | none =>
      let d := ((d.runPhase v).fset 0x20000 13 3 0).fsetB 0x20000 (16 + v) true
      let d := if 2 ≤ v ∧ d.flag 0x20000 18 ∧ d.flag 0x20000 19 then d.autoLoads else d
      if d.fget (0x20010 + 4 * k) 0 10 = 0 then d.nextPos k else d.setBoot { d.sys.boot with doneAt := some d.edge }

/-- The delay of position `k` is over (R391). -/
def delayOver (d : Device) (k : Nat) : Device :=
  match d.sys.boot.doneAt with
  | some e =>
    if d.phase = 7 ∧ d.sys.boot.pos = k ∧ e + 20480 * d.fget (0x20010 + 4 * k) 0 10 ≤ d.edge then d.nextPos k else d
  | none => d

/-! Step 12 (R384). -/

/-- The step engine is armed at the end of a start-up, and enabled engines begin to count on their pins (R258, R384). -/
def finishBoot (d : Device) : Device :=
  if d.phase ≠ 9 ∨ d.sys.boot.pos ≠ 4 ∨ d.cal.boot ≠ [] ∨ d.cal.run.isSome then d
  else
    let d := d.armEngine
    let d := ((List.range 4).filter fun a => d.flag (aPOS a 0) 31).foldl (fun d a =>
      let d := if d.axSrc a = 1 then d.setAx a { d.ax a with c := 0 } else d
      d.startAxis a) d
    let old := d
    let d := (d.setPhase 10 0).fsetB 0x20000 10 true
    let d := ((List.range 120).filter d.engOn).foldl (fun d e => d.pinSwitch old (d.fget (aENG e 4) 0 10)) d
    d.fset 0x2002C 0 20 (min (2 ^ 20 - 1) ((d.edge - d.sys.boot.supplyAt) / 20480))

/-! Reload and the end of a warm start (R399 to R401). -/

/-- Registers that a reload keeps (R400, R401): references, root PLL, trims, link, host interface, Capo and straps. -/
def reloadKeeps (a : Nat) : Bool :=
  decide (a / 0x10000 = 0x04) || decide (a / 0x10000 = 0x0B) || decide (a / 0x10000 = 0x0D) ||
  [0x10000, 0x10004, 0x10014, 0x10018, 0x1001C, 0x10020, 0x30000, 0x30004, 0x30010, 0x3000C, 0x30020, 0x30024, 0x30028, 0x3002C, 0x50030,
   0xC0000].contains a

/-- A warm start becomes a reload (R401): the cold start begins at the base image, with the references, root PLL and trims in use. Debug
access closes (R453); a command of the security block ends (R448). -/
def beginReload (d : Device) : Device :=
  let wc := d.rd 0x20030
  let n := d.coldReset
  let n := { n with regs := n.regs.filter (fun p => !reloadKeeps p.1), cseq := 0, link := d.link, msix := d.msix }
  let n := ((tabKeys d.regs).filter reloadKeeps).foldl (fun n a => n.copyReg d a) n
  let n := ((n.fsetB 0x30000 8 false).fset 0x30010 0 3 0).resumeFseq
  let n := if d.sys.sec.task.isSome then ((((n.fsetB 0x30000 0 false).fsetB 0x30000 1 true).fset 0x30000 2 4 8).event 0x30004 0).noticeRefused 0x30008 else n
  let n := { n with sys := { n.sys with clk := d.sys.clk, jtag := d.sys.jtag, dma := d.sys.dma, flOp := d.sys.flOp, linkLost := d.sys.linkLost, patrol := d.sys.patrol } }
  let n := n.setCapoSt { d.sys.capo with lists := [], ready := none, rearmed := true, kicked := true, wdFrom := d.edge }
  let n := n.setBoot { n.sys.boot with supplyAt := d.sys.boot.supplyAt }
  let n := (n.wr 0x20030 wc).bump 0x20030 16 16
  let n := ((n.setPhase 5 0).fset 0x20000 5 2 2).fset 0x20000 9 1 (d.fget 0x20000 9 1)
  (n.fsetB 0x40008 9 false).tripSafe 0

/-- The executions that a warm start ended get their fills, with the entry of the warm start (R34, R243). -/
def fillEnded (d : Device) (f : Nat) (es : List (Nat × Bool)) : Device :=
  es.foldl (fun d p => match d.execOf p.1 with
    | some x => d.endExec x f (if p.2 then 0x2000 else 0)
    | none => d) d

/-- Switches of the executions that a warm start ended open, and their lists go on (R34, R94). -/
def leaveEnded (d : Device) (xs : List Exec) : Device :=
  xs.foldl (fun d x => (d.closeMatrix x).listFollows x) d

/-- The step engine is armed again and HOLD ends (R34, R94, R347, R399). -/
def finishWarm (d : Device) (w : WarmRun) : Device :=
  let f := d.nextFseq.toNat
  let d := d.notice 0x0A 0 0x30 w.cause
  let xs := w.ended.filterMap fun p => d.execOf p.1
  let d := d.fillEnded f w.ended
  let held := decide (d.capo = 1)
  let d := { d with sys := { d.sys with warm := none } }
  let d := if held then d.fset 0x40000 0 2 0 else d
  let d : Device := (d.fsetB 0x40008 9 false).leaveEnded xs
  let ph := if d.quiet then 13 else w.phase
  let d := if d.quiet ∧ w.phase ≠ 13 then d.setBoot { d.sys.boot with quietPhase := w.phase } else d
  let d := (d.fsetB 0x80004 16 (d.flag 0x80000 0 && decide (ph = 10))).fset 0x20000 0 5 ph
  let k := d.sys.capo.kicked
  let d := d.setCapoSt { d.sys.capo with rearmed := true }
  let d := if k ∧ d.fget 0x50010 0 2 ≠ 3 then (d.fset 0x50010 0 2 0).setCapoSt { d.sys.capo with wdFrom := d.edge } else d
  let d := d.fset 0x60004 0 2 3
  (if held then d.resumeHands.resumeConvs.runHeldCmds else d).loaderNext.noteRel

/-- WARM_START_REARM (R399 steps 3 to 5): with PASSOK zero after a completed start-up the warm start becomes a reload. -/
def warmRearm (m : Mem) (d : Device) : Mem × Device :=
  match d.sys.warm with
  | none => (m, d)
  | some w =>
    if d.fget 0x50010 0 2 = 3 then (m, d)
    else if d.bootDone && !d.flag 0xE000C 16 then (loseDdr m, d.beginReload)
    else (m, d.finishWarm w)

/-! BOOT_CTL (R397, R398, R402, R404, R408). -/

/-- CLRCLAMP (R408). -/
def clearClamps (d : Device) : Device := { d with clampRep := [] }.fset 0x20040 0 11 0

/-- Save DIRTY values before a warm start that the host or firmware starts, and before QUIET (R327, R403). -/
def saveIfDirty (m : Mem) (d : Device) (ok : Bool) : Mem × Device := if d.flag 0x60004 3 then d.saveCal m ok else (m, d)

/-- A warm start that the host requests (R351, R398, R399): the active patch is used again. -/
def hostWarm (m : Mem) (d : Device) (saveOk : Bool) : Mem × Device :=
  if !d.bootDone || (d.sys.warm.isSome && decide (d.fget 0x50010 0 2 ≠ 3)) || d.quiet then (m, d.refuse 0x20020)
  else
    let (m, d) := saveIfDirty m d saveOk
    let d := (d.fset 0x50010 0 2 0).fsetB 0x50010 2 false
    (m, (d.usePatch d.sys.sec.patch).beginWarm 0)

/-- A Fret is LOADING (R402). -/
def fretLoading (d : Device) : Bool := (List.range 48).any fun f => decide (d.fretState f = 1)

/-- A list is ARMED or RUNNING (R402, R482). -/
def listsBusy (d : Device) : Bool := (List.range 256).any fun l => decide (d.lstState l = 1 ∨ d.lstState l = 2)

/-- A wake comparator's state at a pin voltage (R265). -/
def wakeLevel (c : WakeCmp) (microvolt : Int) : Bool :=
  if c.high * 4000 < microvolt then true else if microvolt < c.low * 4000 then false else c.state

/-- The comparators of the enabled wake slots at the entry into QUIET, from the pins' present voltages (R264, R265). Between the thresholds the pad
level stands in for the state that went before (DESIGN CHOICE, log entry 85). -/
def wakeSlots (d : Device) : List WakeCmp :=
  ((List.range 32).filter fun s => d.flag (aWAKE s 0) 31).map fun s =>
    let n := d.fget (aWAKE s 0) 0 10
    let c : WakeCmp := ⟨s, n, d.fget (aWAKE s 0) 12 2, d.fget (aWAKE s 0) 16 2, d.fgetS (aWAKE s 4) 0 14, d.fgetS (aWAKE s 4) 16 14, (d.ch n).pad⟩
    { c with state := wakeLevel c (d.ch n).volt }

/-- Entry into QUIET (R264, R403): the Frets lose power and with it their frames; a request whose Fret is RELEASING ends. -/
def enterQuiet (m : Mem) (d : Device) (saveOk : Bool) : Mem × Device :=
  let (m, d) := saveIfDirty m d saveOk
  let d := (d.setMx { d.mx with closed := [], moves := [] }).dropHostTaps.haltEngines
  let d := d.forChans allChans fun d n =>
    let d := ((d.fset (aCH n 0) 0 3 0).fset (aCH n 0x18) 31 1 0).dropStream n
    let d := (d.fsetB (aCH n 0x38) 8 false).fsetB (aCH n 0x38) 9 false
    d.setCh n { (d.ch n).abandon.halt with powered := false, clampSince := none }
  let fs := ((List.range 48).filter fun f => decide (d.fretState f = 3)).map fun f =>
    (f, if (d.fret f).content = baseKey f then 255 else (d.fret f).content - 1)
  let d := ((List.range 48).filter d.fretLive).foldl (fun d f => d.setFret f { d.fret f with live := [], events := [] } |>.setFretState f 0) d
  let d : Device := if d.loader.isolated then { d with frames := [] }.loaderDone else { d with frames := [] }
  let d := d.setBoot { d.sys.boot with frets := fs, quietPhase := d.phase, wakes := d.wakeSlots }
  let d := ((d.stopPatrol.fsetB 0xC0000 1 true).fsetB 0x10000 14 true).event 0x10004 8
  let d := ((d.endRuns (fun _ => true) 5).fsetB 0x80004 16 false).fsetB 0x20000 12 true
  (m, (d.setPhase 13 0).bump 0x20028 16 16)

/-- A request for QUIET (R402). -/
def quietWrite (m : Mem) (d : Device) (saveOk : Bool) : Mem × Device :=
  if d.quiet then (m, d)
  else if d.listsBusy ∨ d.fretLoading ∨ d.cal.run.isSome ∨ d.capo = 1 then (m, d.refuse 0x20020)
  else enterQuiet m d saveOk

/-- The reload of Fret content after QUIET (R405). -/
def reloadFret (d : Device) (p : Nat × Nat) : Device := if d.fretState p.1 = 4 then d else d.acceptReq ⟨p.1, p.2, 0, false, false⟩

/-- The gated domains restart after QUIET (R405), unless the clock is lost or the start-up has not reached the root PLL (R373). -/
def ungateQuiet (d : Device) : Device :=
  let lost := match d.sys.clk.lossAt with | some e => decide (e + 20480 ≤ d.edge) | none => false
  if lost || !d.flag 0x10000 16 then d else d.ungate

/-- The device leaves QUIET with a cause (R404, R405, R406, R495). -/
def wake (d : Device) (cause : Nat) : Device :=
  if d.quiet then
    let d := ((d.fset 0x20028 0 2 cause).fsetB 0x20028 2 true).fsetB 0x20000 12 false
    let d := ((if d.flag 0xC0000 0 then d.startPatrol else d).fsetB 0xC0000 1 false).ungateQuiet
    let d := d.forChans allChans fun d n =>
      let d := d.takeSafe n
      if d.mode n = 0 then d else d.setCh n { d.ch n with powered := true }
    let d := d.sys.boot.frets.foldl reloadFret d
    let d := d.setBoot { d.sys.boot with frets := [] }
    if d.flag 0xB0008 17 then d.sendMsg (.wake d.chordId) else d
  else d

/-- The step engine is armed at the end of the exit from QUIET (R405). QUIET that interrupted a start-up or a warm start returns to it. -/
def quietArm (d : Device) : Device :=
  if d.phase = 13 ∧ d.quiet = false then
    let p := d.sys.boot.quietPhase
    let d := d.setPhase p 0
    let d := if p = 10 then
        let d := d.fsetB 0x80004 16 (d.flag 0x80000 0)
        if d.flag 0x20024 0 ∧ d.armed then ((List.range 256).filter fun l => d.flag (aLIST l 0) 31).foldl armIfAtRest d else d
      else if p = 1 then d.tryActive.noteReady else d
    if d.capo = 2 then d else ((tabKeys d.engines).filter fun e => (d.eng e).halted && d.engOn e).foldl unhaltEng d
  else d

/-- A write of BOOT_CTL: REPROG with its key, else WARM, QUIET, WAKE and CLRCLAMP in that order of rows
(R397, R398, R402, R404, R408). -/
def bootCtl (m : Mem) (d : Device) (raw : Word) (saveOk : Bool) : Mem × Device :=
  if bitOf raw 31 ∧ bitsOf raw 8 8 = 0xA5 then (loseDdr m, d.reprogram)
  else
    let d := if bitOf raw 3 then d.clearClamps else d
    let d := if bitOf raw 2 then d.wake 3 else d
    let (m, d) := if bitOf raw 1 then quietWrite m d saveOk else (m, d)
    if bitOf raw 0 then hostWarm m d saveOk else (m, d)

/-- The time in ns for which a new state must hold (R265). -/
def wakeHold (filt : Nat) : Nat := match filt with | 0 => 0 | 1 => 1000 | 2 => 10000 | _ => 100000

/-- A wake comparator at what its pin shows: its new state, and whether the change is an event (R265): in the direction that EDGE selects (0 rise,
1 fall, 2 both). -/
def wakeSee (c : WakeCmp) (pins : List PinVolt) : WakeCmp × Bool :=
  match pins.find? fun v => decide (v.chan.val = c.pin) with
  | none => (c, false)
  | some v =>
    let now := wakeLevel c v.microvolt
    if now = c.state ∨ v.held < wakeHold c.filt then (c, false)
    else ({ c with state := now }, decide (c.edge = 2) || (decide (c.edge = 0) && now) || (decide (c.edge = 1) && !now))

/-- Wake comparators see their pins (R265): of the slots that fire together the lowest is recorded, and QUIET ends. -/
def wakePins (d : Device) (pins : List PinVolt) : Device :=
  if d.quiet then
    let rs := d.sys.boot.wakes.map fun c => wakeSee c pins
    let d := d.setBoot { d.sys.boot with wakes := rs.map Prod.fst }
    match (rs.filter Prod.snd).head? with
    | none => d
    | some (c, _) => (((d.fset 0x184304 0 5 c.slot).fsetB 0x184304 8 true).event 0x184300 2).wake 0
  else d

/-- A retry of the patch load ends (R388, R449): one that verifies becomes active by a warm start. -/
def patchRetried (m : Mem) (d : Device) (x : PatchIn) (saveOk : Bool) : Mem × Device :=
  match d.flag 0x30010 2, patchCopy m with
  | true, some k =>
    match d.verifyPatch m k x with
    | .ok p =>
      if d.bootDone ∧ d.sys.warm = none ∧ d.quiet = false then
        let (m, d) := saveIfDirty m d saveOk
        let d := ((d.fsetB 0x30010 2 false).usePatch (some p)).event 0x30004 4
        (m, (d.fsetB 0x50010 2 false).beginWarm 2)
      else (m, d)
    | .error _ => (m, (d.event 0x20004 4).event 0x30004 5)
  | _, _ => (m, d)

/-- The DDR5 PLL, started with SYSTEM, locks (R361, R385). -/
def ddrLock (d : Device) : Device := if d.systemLoaded then d.fsetB 0x10000 4 true else d

/-- Training of both DDR5 channels succeeds (R456): a load that waited for it goes on (R385). -/
def ddrTrain (d : Device) : Device :=
  if d.flag 0x10000 4 then
    let d := d.startPatrol.fsetB 0xC0000 0 true
    if d.phase = 5 then d.fset 0x20000 13 3 0 else d
  else d

/-- Training fails (R456); it is repeated. -/
def ddrTrainFails (d : Device) : Device := if d.flag 0x10000 4 ∧ d.flag 0xC0000 0 = false then d.event 0xC0004 2 else d

end Device

end Sys2Proof.Machine
end

