-- ==== Sys2Proof/Machine/Boot.lean ====
section
/-!
DEFINITION. The commands of start-up, warm start and QUIET (R383 to R409), DDR5 training (R456) and the PCIe link (R361).
-/

namespace Sys2Proof.Machine

/-- A command that resets the device or starts it again, or that may save calibration values. -/
def State.onBoot (s : State) (w : Wr) (raw : Word) (saveOk : Bool) : State :=
  s.onBoth fun m d => if d.admits w 0x20020 then d.bootCtl m raw saveOk else (m, d.turnAway w 0x20020)

/-- SUPPLY_GOOD (R383 step 1). -/
def execSupplyGood (st : Straps) (s : State) : Host.Outcome State Fault Refusal := .next (s.onDev fun d => d.supplyGood st)

/-- ROOT_PLL_LOCK (R383 steps 3 to 5). -/
def execRootPllLock (x : HeaderSigs) (s : State) : Host.Outcome State Fault Refusal :=
  .next (s.onReadDdr fun d m => d.rootLock m x.sigOk x.copyOk)

/-- DDR_PLL_LOCK (R361, R385). -/
def execDdrPllLock (s : State) : Host.Outcome State Fault Refusal := .next (s.onDev fun d => d.ddrLock)

/-- BASE_IMAGE_LOADED (R383 steps 6 to 8). -/
def execBaseImageLoaded (l : SlotLoad) (s : State) : Host.Outcome State Fault Refusal := .next (s.onReadDdr fun d m => d.imageLoaded m l)

/-- DDR_TRAINED (R456). -/
def execDdrTrained (s : State) : Host.Outcome State Fault Refusal := .next (s.onDev fun d => d.ddrTrain)

/-- DDR_TRAIN_RETRY (R456). -/
def execDdrTrainRetry (s : State) : Host.Outcome State Fault Refusal := .next (s.onDev fun d => d.ddrTrainFails)

/-- RELEASE_PHASE (R389). -/
def execReleasePhase (k : Fin 4) (s : State) : Host.Outcome State Fault Refusal := .next (s.onDev fun d => d.releasePhase k)

/-- BOOT_DELAY_EXPIRY (R391). -/
def execBootDelayExpiry (k : Fin 4) (s : State) : Host.Outcome State Fault Refusal := .next (s.onDev fun d => d.delayOver k)

/-- STEP_ENGINE_ARM (R384). -/
def execStepEngineArm (s : State) : Host.Outcome State Fault Refusal := .next (s.onDev fun d => d.finishBoot)

/-- PROG_N (R397). -/
def execProgN (s : State) : Host.Outcome State Fault Refusal := .next (s.onMem fun m d => (Device.loseDdr m, d.reprogram))

/-- BOOT_CTL_REPROG (R397): a write of BOOT_CTL whose REPROG bit is one with the key 0xA5. -/
def execBootCtlReprog (w : Wr) (s : State) : Host.Outcome State Fault Refusal :=
  .next (s.onBoot w (setBits (setBits w.data 31 1 1) 8 8 0xA5) false)

/-- BOOT_CTL_WARM (R398): a write of BOOT_CTL whose WARM bit is one and that is no REPROG. -/
def execBootCtlWarm (w : Wr) (saveOk : Bool) (s : State) : Host.Outcome State Fault Refusal :=
  .next (s.onBoot w (setBits (setBits w.data 31 1 0) 0 1 1) saveOk)

/-- WARM_START_REARM (R34, R399). -/
def execWarmStartRearm (s : State) : Host.Outcome State Fault Refusal := .next (s.onBoth fun m d => Device.warmRearm m d)

/-- PATCH_RETRY (R388). -/
def execPatchRetry (x : PatchIn) (saveOk : Bool) (s : State) : Host.Outcome State Fault Refusal :=
  .next (s.onBoth fun m d => d.patchRetried m x saveOk)

/-- BOOT_CTL_QUIET (R402): a write of BOOT_CTL whose QUIET bit is one and whose WARM bit is zero and that is no REPROG. -/
def execBootCtlQuiet (w : Wr) (saveOk : Bool) (s : State) : Host.Outcome State Fault Refusal :=
  .next (s.onBoot w (setBits (setBits w.data 31 1 0) 0 2 2) saveOk)

/-- WAKE_PIN_EVENT (R265). -/
def execWakePinEvent (pins : List PinVolt) (s : State) : Host.Outcome State Fault Refusal := .next (s.onDdr fun d => d.wakePins pins)

/-- WAKE_N_LOW (R404). -/
def execWakeNLow (s : State) : Host.Outcome State Fault Refusal := .next (s.onDdr fun d => d.wake 1)

/-- BOOT_CTL_WAKE (R404): a write of BOOT_CTL whose WAKE bit is one and whose WARM and QUIET bits are zero and that is no REPROG. -/
def execBootCtlWake (w : Wr) (s : State) : Host.Outcome State Fault Refusal :=
  .next (s.onBoot w (setBits (setBits w.data 31 1 0) 0 3 4) false)

/-- QUIET_EXIT_ARM (R405). -/
def execQuietExitArm (s : State) : Host.Outcome State Fault Refusal := .next (s.onDev fun d => d.quietArm)

/-- BOOT_CTL_CLRCLAMP (R408): a write of BOOT_CTL whose CLRCLAMP bit alone is one. -/
def execBootCtlClrclamp (w : Wr) (s : State) : Host.Outcome State Fault Refusal :=
  .next (s.onBoot w (setBits (setBits w.data 31 1 0) 0 4 8) false)

end Sys2Proof.Machine
end

