-- ==== Sys2Proof/Machine/CanOps.lean ====
section
/-!
DEFINITION. CAN engines at work (R212, R217 to R221): frames on the wire from their start to their end, errors and repetition, the
transport of ISO 15765-2. Counters, error frames and idle times PRESUMED as in ISO 11898-1 (log entry 10).
-/

namespace Sys2Proof.Machine

/-- The Ts of a separation time (R220): milliseconds, or 100 to 900 µs; a reserved value is 127 ms. -/
def stTs (v : Nat) : Nat := if v ≤ 0x7F then v * msTs else if 0xF1 ≤ v ∧ v ≤ 0xF9 then (v - 0xF0) * 2048 else 127 * msTs

/-- A loop delay above 1,000 ns, in 1/16 of a 655.36 MHz period (R218, R249). -/
def delayBad (v : Nat) : Bool := decide (10485 < v)

namespace Device

/-- The bit timing of CAN engine `e` (R212, R217). -/
def canTiming (d : Device) (e : Nat) : CanTiming :=
  let n := bitU (d.fget (aENG e 8) 0 24)
  let f := bitU (d.fget (aENG e 0x10) 0 23)
  ⟨n, n * d.fget (aENG e 0xC) 8 7 / d.fget (aENG e 0xC) 0 7, f, f * d.fget (aENG e 0x14) 8 5 / d.fget (aENG e 0x14) 0 5⟩

/-- The secondary sample point after the start of a data bit: a measured loop delay and SSPOFS data quanta (R218). -/
def sspU (d : Device) (e delay : Nat) : Nat :=
  periodU delay + d.fget (aENG e 0x14) 24 6 * (d.canTiming e).dat / d.fget (aENG e 0x14) 0 5

/-- The engine measures the loop delay of a frame (R218). -/
def measures (d : Device) (e : Nat) (f : CanFrame) : Bool :=
  d.flag (aENG e 0x14) 31 && f.fd && decide (d.fget (aENG e 8) 0 24 < d.fget (aENG e 0x10) 0 23)

/-- The engine is error-passive. -/
def passive (d : Device) (e : Nat) : Bool := decide (128 ≤ (d.eng e).tec ∨ 128 ≤ (d.eng e).rec_)

/-- A frame was sent or received without error: the error counter falls. -/
def canOk (d : Device) (e : Nat) (sent : Bool) : Device :=
  let g := d.eng e
  if sent then d.setEng e { g with tec := g.tec - 1 }
  else d.setEng e { g with rec_ := if 127 < g.rec_ then 119 else g.rec_ - 1 }

/-- The frame of `t` begins at instant `u` (R217); the bus is idle three bits after its end. One whose loop delay is too long ends where its data phase
would begin (R218; the instant is a DESIGN CHOICE, log entry 10). -/
def startCan (d : Device) (e : Nat) (t : Tx) (u : Nat) : Device :=
  let c := d.canTiming e
  let segs := canSegs c true t.frame
  let w : Wave := ⟨u, segs⟩
  let stop := if t.bad then u + segsLen (segs.takeWhile fun s => decide (s.kind ≠ 3)) else w.stop
  let d := d.setEng e { d.eng e with wave := some w, idleAt := w.stop + 3 * c.nom }
  d.setHead e { t with phase := .sending, due := some stop, first := some (t.first.getD (u / tsU)) }

/-- Transaction `t` sends a frame at instant `u`, or when the bus is idle (R217, R244); `next` says what its end leads to. The free fill bytes of the
frame are used up. -/
def sendCan (d : Device) (e : Nat) (t : Tx) (f : CanFrame) (next : Then) (u : Nat) : Device :=
  let u := max u (d.eng e).idleAt
  let t := { t with frame := f, next := next, fails := 0 }
  let d := d.freeSkip 64
  if u ≤ d.nowU then d.startCan e t u else d.setHead e { t with phase := .pausing, due := some u }

/-- A transaction's first frame, with the loop delay that the engine measures in it (R218). -/
def sendFirst (d : Device) (e : Nat) (t : Tx) (f : CanFrame) (next : Then) (delay : Option (BitVec 24)) : Device :=
  match delay with
  | some v =>
    if d.measures e f then
      let d := d.wr (aENG e 0x2C) (BitVec.ofNat 32 v.toNat)
      d.sendCan e { t with bad := delayBad v.toNat } f next d.nowU
    else d.sendCan e t f next d.nowU
  | none => d.sendCan e t f next d.nowU

/-- The next consecutive frame of a request, `u` the instant from which it may begin (R220). -/
def nextCf (d : Device) (e : Nat) (t : Tx) (u : Nat) : Device :=
  let x := t.entry
  let k := d.isoSize x - 1 - (d.isoAddr x).length
  match (d.isoCfs x t.req 1 t.sent t.sn).head? with
  | none => d.setHead e (d.awaitRsp t)
  | some p =>
    let next : Then := if t.req.length ≤ t.sent + k then .respond else if t.block ≤ 1 then .flow else .block
    d.sendCan e { t with sent := t.sent + k, sn := t.sn + 1, block := t.block - 1 } (d.canFrame e x p true) next u

/-- An error of engine `e` (R217): it sends its error flag, dominant while it is error-active, and the bus is idle 17 bits later, for an error-passive
transmitter 8 more. LISTEN sends nothing. -/
def errorFrame (d : Device) (e : Nat) (sending : Bool) : Device :=
  let n := (d.canTiming e).nom
  let p := d.passive e
  let g := d.eng e
  d.setEng e { g with wave := if d.engRole e = 0 then some ⟨d.nowU, errorSegs n (!p)⟩ else none,
                      idleAt := d.nowU + (if p && sending then 25 else 17) * n }

/-- A transaction that lost arbitration sends again when the bus is idle (R217). -/
def resume (d : Device) (e : Nat) : Device :=
  match d.headTx e with
  | some t => if t.phase = .pausing ∧ t.due = none then d.setHead e { t with due := some (d.eng e).idleAt } else d
  | none => d

/-- A transmission of `t` failed (R217, R236): it is repeated from instant `due`, at most RETX times; `out` is the outcome where RETX is zero, else it
is RETXLIMIT (DESIGN CHOICE, log entry 10). -/
def canRetry (d : Device) (e : Nat) (t : Tx) (out : Nat) (due : Option Nat) : Device :=
  let r := d.fget (aENG e 0x18) 0 4
  let t := { t with fails := t.fails + 1, frameNo := t.frameNo + 1, bad := false }
  if r < t.fails then d.decide_ e t (if r = 0 then out else 6) else d.setHead e { t with phase := .pausing, due := due }

/-- Engine `e` enters bus-off (R219). -/
def enterBusOff (d : Device) (e : Nat) : Device :=
  let d := (d.setEng e { d.eng e with busOff := true, offAt := d.edge, wave := none }).event (aENG e 0x24) 1
  match d.headTx e with
  | some t => if t.begun.isSome ∧ t.phase ≠ .decided then d.decide_ e t 7 else d
  | none => d

/-- The error counters after an error: a transmitter counts 8, but for an acknowledge error while it is error-passive, a receiver 1; LISTEN
counts nothing. -/
def countError (d : Device) (e : Nat) (ack sending : Bool) : Device :=
  let g := d.eng e
  if d.engRole e ≠ 0 ∨ (sending ∧ ack ∧ d.passive e) then d
  else d.setEng e (if sending then { g with tec := g.tec + 8 } else { g with rec_ := min 255 (g.rec_ + 1) })

/-- The transaction whose frame engine `e` sends. -/
def ownFrame (d : Device) (e : Nat) : Option Tx := (d.headTx e).filter fun t => decide (t.phase = TxPhase.sending)

/-- Marks of a frame that ends with an error at the present instant (R245). -/
def markError (d : Device) (e : Nat) (t : Tx) : Device :=
  match (d.eng e).wave with
  | some w => d.markAll e t (w.marks d.nowU ++ w.errorMark d.nowU)
  | none => d

/-- A protocol error on the wire of engine `e` (R217, R219, R239): `out` is the outcome it stands for. The frame that the engine sends ends with it. -/
def canFault (d : Device) (e out : Nat) (ack sending : Bool) : Device :=
  let d := (d.event (aENG e 0x24) 0).wireEvent e 0
  let mine := if sending then d.ownFrame e else none
  let d := mine.elim d (d.markError e)
  let d := (d.errorFrame e sending).countError e ack sending
  if 255 < (d.eng e).tec then d.enterBusOff e
  else mine.elim (d.resume e) fun t => d.canRetry e t out (some (d.eng e).idleAt)

/-- The engine receives: it is an enabled CAN engine that is neither bus-off, HALTED nor FAULTED. -/
def canHears (d : Device) (e : Nat) : Bool :=
  decide (engKind e = 0) && d.engLive e && !(d.eng e).busOff && !(d.eng e).halted && !(d.eng e).faulted

/-- A CAN engine detects something on its wire (R217, R218). -/
def canError (d : Device) (e : Nat) (k : CanError) (sending : Bool) : Device :=
  if d.canHears e = false then d
  else
    match k with
    | .stuffOrForm => d.canFault e 4 false sending
    | .crc => d.canFault e 4 false sending
    | .ack => d.canFault e 4 true sending
    | .bit => d.canFault e 5 false sending
    | .arbitration => (d.ownFrame e).elim d fun t => ((d.wireEvent e 0).cutWave e).canRetry e t 6 none
    | .loopDelay v =>
      if (d.ownFrame e).any fun t => d.measures e t.frame then
        let d := d.wr (aENG e 0x2C) (BitVec.ofNat 32 v.toNat)
        if delayBad v.toNat then (d.event (aENG e 0x24) 4).canFault e 5 false true else d
      else d

/-- The frame of `t` on the wire has ended (R217, R220): its marks are written, it is counted, and the transaction goes on. -/
def canDone (d : Device) (e : Nat) (t : Tx) : Device :=
  if t.bad then (d.event (aENG e 0x24) 4).canFault e 5 false true
  else
    let stop := t.due.getD d.nowU
    let d := match (d.eng e).wave with
      | some w => d.markAll e t (w.marks w.stop ++ w.endMark)
      | none => d
    let d := ((d.setEng e { d.eng e with wave := none }).bump (aENG e 0x28) 0 16).canOk e true
    let t := { t with frameNo := t.frameNo + 1, due := none }
    match t.next with
    | .respond => d.setHead e (d.awaitRsp t)
    | .flow => d.setHead e { t with phase := .flow, timer := d.edge, limit := msTs * d.te t.entry 11 0 16 }
    | .block => d.nextCf e t (stop + t.stmin * tsU)
    | .taking => d.setHead e { t with phase := .taking, timer := d.edge, limit := msTs * d.te t.entry 11 0 16 }
    | _ => d.decide_ e { t with reqEnd := d.edge } 0

/-- CANTX and CANREQ send their frame (R231). -/
def canSend (d : Device) (m : Mem) (e op : Nat) (delay : Option (BitVec 24)) : Device :=
  d.startOp e op fun d t =>
    let t := { t with req := d.reqBytes m t.entry }
    d.sendFirst e t (d.canFrame e t.entry t.req false) (if op = 0 then .finish else .respond) delay

/-- CANRX waits for its frames (R231). -/
def canWait (d : Device) (e : Nat) : Device := d.startOp e 1 fun d t => d.setHead e (d.awaitRsp t)

/-- ISOTP sends its first frame (R220): after a first frame of several it waits for flow control. -/
def isoSend (d : Device) (m : Mem) (e : Nat) (delay : Option (BitVec 24)) : Device :=
  d.startOp e 3 fun d t =>
    let req := d.reqBytes m t.entry
    let (bs, k) := d.isoFirst t.entry req
    d.sendFirst e { t with req := req, sent := k, sn := 1 } (d.canFrame e t.entry bs true) (if req.length ≤ k then .respond else .flow) delay

/-- A flow control frame reaches a sender that waits for it (R220): `body` follows the address byte. CTS gives the block size, zero for no limit,
and the separation time. -/
def isoFlow (d : Device) (e : Nat) (t : Tx) (body : List Byte) : Device :=
  let b (i : Nat) : Nat := ((body[i]?).getD 0).toNat
  let t := { t with frames := t.frames + 1 }
  if b 0 / 16 ≠ 3 then d.decide_ e t 8
  else
    match b 0 % 16 with
    | 0 => d.nextCf e { t with block := if b 1 = 0 then t.req.length else b 1, stmin := stTs (b 2), waits := 0 } d.nowU
    | 1 => if t.waits < d.te t.entry 9 24 8 then d.setHead e { t with waits := t.waits + 1, timer := d.edge } else d.decide_ e t 8
    | _ => d.decide_ e t 8

/-- A flow control frame of entry `t.entry` is sent (R220). -/
def sendFc (d : Device) (e : Nat) (t : Tx) : Device := d.sendCan e t (d.canFrame e t.entry (d.isoFc t.entry) true) .taking d.nowU

/-- A frame of the response that began at edge `b0` reaches an ISOTP transaction (R220). -/
def isoTake (d : Device) (e : Nat) (t : Tx) (body : List Byte) (began : Nat) : Device :=
  let x := t.entry
  let b (i : Nat) : Nat := ((body[i]?).getD 0).toNat
  match t.phase, b 0 / 16 with
  | .flow, _ => d.isoFlow e t body
  | .listening, 0 =>
    let (n, bs) := if b 0 % 16 = 0 then (b 1, body.drop 2) else (b 0 % 16, body.drop 1)
    let t := { t with frames := t.frames + 1, rspStart := began, got := bs.take n }
    if n = 0 ∨ bs.length < n then d.decide_ e { t with got := [] } 8 else d.rspDone e t t.req.head?
  | .listening, 1 =>
    let n := b 0 % 16 * 256 + b 1
    let (n, bs) := if n = 0 then (beNat ((body.drop 2).take 4), body.drop 6) else (n, body.drop 2)
    d.sendFc e { t with frames := t.frames + 1, rspStart := began, got := bs.take n, rxLen := n, sn := 1, block := 0 }
  | .taking, 2 =>
    if b 0 % 16 ≠ t.sn % 16 then d.decide_ e { t with frames := t.frames + 1 } 8
    else
      let t := { t with frames := t.frames + 1, got := (t.got ++ body.drop 1).take t.rxLen, sn := t.sn + 1, block := t.block + 1,
                        timer := d.edge }
      if t.rxLen ≤ t.got.length then d.rspDone e t t.req.head?
      else if d.te x 9 8 8 ≠ 0 ∧ t.block = d.te x 9 8 8 then d.sendFc e { t with block := 0 }
      else d.setHead e t
  | _, _ => d.decide_ e { t with frames := t.frames + 1 } 8

/-- A transaction under way expects this frame: its identifier, and its address byte where the addressing has one (R219, R220). -/
def expects (d : Device) (t : Tx) (f : CanFrame) : Bool :=
  let x := t.entry
  let op := d.teOp x
  t.begun.isSome && decide (t.phase = .listening ∨ t.phase = .flow ∨ t.phase = .taking) && decide (op = 1 ∨ op = 2 ∨ op = 3) &&
  decide (f.ident.toNat = d.te x 2 0 29) && (f.ext == decide (d.te x 0 18 1 = 1)) &&
  (decide (op ≠ 3 ∨ d.te x 0 16 2 < 2) || decide (f.bytes.head? = some (BitVec.ofNat 8 (d.te x 3 8 8))))

/-- The bytes of a frame after the address byte (R220). -/
def isoBody (d : Device) (x : Nat) (f : CanFrame) : List Byte := f.bytes.drop (d.isoAddr x).length

/-- The marks of a received frame (R246): without a synchronisation of its own it begins its length before the present instant. -/
def canRxMarks (d : Device) (e : Nat) (f : CanRx) : List Mark :=
  let segs := canSegs (d.canTiming e) false f.frame
  rxMarks d.nowU f.syncs (d.nowU - segsLen segs) segs

/-- The edge at which a received frame began: its START mark. -/
def canBegan (d : Device) (e : Nat) (f : CanRx) : Nat := (((d.canRxMarks e f).head?.map Mark.at_).getD d.nowU) / tsU

/-- A frame is received whole: it is counted, and the bus is idle three bits later (R217, R219). -/
def canHeard (d : Device) (e : Nat) : Device :=
  let d := (d.countRx e).canOk e false
  (d.setEng e { d.eng e with idleAt := d.nowU + 3 * (d.canTiming e).nom }).resume e

/-- The transaction under way takes a frame that it expects (R231): its marks are written. -/
def takeFrame (d : Device) (e : Nat) (t : Tx) (f : CanRx) : Device :=
  let d := d.markAll e t (d.canRxMarks e f)
  let t := { t with frameNo := t.frameNo + 1 }
  let x := t.entry
  let b := d.canBegan e f
  let bs := f.frame.bytes
  let trunc := if d.te x 8 0 16 < bs.length then 9 else 0
  match d.teOp x with
  | 1 =>
    let t := { t with frames := t.frames + 1, got := bs, first := some b, rspStart := b, deadline := d.edge + msTs * d.te x 10 0 16 }
    if d.te x 12 0 16 ≤ t.frames then d.decide_ e t trunc else d.setHead e t
  | 2 => d.decide_ e { t with frames := 1, got := bs, rspStart := b } trunc
  | _ => d.isoTake e t (d.isoBody x f.frame) b

/-- A CAN frame is received whole (R219, R231): it is counted, and a transaction that expects it takes it. -/
def canReceive (d : Device) (e : Nat) (f : CanRx) : Device :=
  if d.canHears e = false then d
  else
    let d := d.canHeard e
    match d.headTx e with
    | none => d
    | some t => if d.expects t f.frame then d.takeFrame e t f else d

/-- A flow control frame (R220): only a transaction that waits for one takes it here. -/
def flowReceive (d : Device) (e : Nat) (f : CanRx) : Device :=
  match d.headTx e with
  | none => d
  | some t => if d.canHears e && d.expects t f.frame && decide (t.phase = .flow) then (d.canHeard e).takeFrame e t f else d

/-- A response pending reply (R221): a single frame 0x7F, the request's first byte, 0x78, of a transaction with TMOX. -/
def pendingReceive (d : Device) (e : Nat) (f : CanRx) : Device :=
  match d.headTx e with
  | none => d
  | some t =>
    let x := t.entry
    let body := d.isoBody x f.frame
    if d.canHears e && d.expects t f.frame && decide (d.teOp x = 3) && decide (t.phase = .listening) && decide (d.te x 10 16 16 ≠ 0) &&
        decide (body.take 2 = [0x03, 0x7F]) && decide (body[2]? = t.req.head?) && decide (body[3]? = some 0x78) then
      (d.canHeard e).takeFrame e t f
    else d

/-- 128 occurrences of 11 recessive bits have passed in bus-off with AUTOREC one (R219). -/
def busoffOver (d : Device) (e : Nat) : Device :=
  let g := d.eng e
  if g.busOff && d.flag (aENG e 0x18) 4 && decide (engKind e = 0) && decide (g.offAt * tsU + 1408 * (d.canTiming e).nom ≤ d.nowU) then
    d.setEng e { g with busOff := false, tec := 0, rec_ := 0 } else d

end Device

end Sys2Proof.Machine
end

