-- ==== Sys2Proof/Machine/LinOps.lean ====
section
/-!
DEFINITION. LIN engines at work (R222 to R224): frames of a commander and of a responder from their start to their end, the transport of a diagnostic
request and its answers.
-/

namespace Sys2Proof.Machine

/-- The bytes read of a response of `n` data bytes: no more than its checksum, none behind a byte with a framing error. -/
def linUsed (n : Nat) (bs : List LinByte) : List LinByte :=
  let l := bs.take (n + 1)
  match l.findIdx? fun b => !b.stop with
  | some k => l.take (k + 1)
  | none => l

/-- A byte has a framing error. -/
def linBroken (bs : List LinByte) : Bool := bs.any fun b => !b.stop

/-- The checksum behind `n` data bytes is that of the data, or with `some pid` of the protected identifier too (R222). -/
def linSumOk (pid : Option Nat) (n : Nat) (bs : List LinByte) : Bool :=
  let vs := (bs.take n).map fun b => b.value.toNat
  (bs[n]?).any fun b => decide (b.value.toNat = linSum (pid.toList ++ vs))

namespace Device

/-- Data bytes of a LIN frame of an entry: published, or to be subscribed (R231). -/
def linBytes (d : Device) (x : Nat) : Nat := if d.te x 5 0 16 = 0 then d.te x 8 0 16 else min 8 (d.te x 5 0 16)

/-- The frame limit of R223 in Ts: 1.4 times 34 + 10 (n + 1) bits. -/
def linLimit (d : Device) (e n : Nat) : Nat := ceilDiv (14 * (34 + 10 * (n + 1)) * 20480000) (10 * d.fget (aENG e 8) 0 24)

/-- The checksum of a frame takes its protected identifier in: enhanced, but never for 60 and 61 (R222). -/
def linSumPid (d : Device) (x ident : Nat) : Option Nat :=
  if d.flag (aTE x 0) 22 ∧ ident ≠ 60 ∧ ident ≠ 61 then some (linPid ident) else none

/-- Data bytes and their checksum. -/
def linWith (d : Device) (x ident : Nat) (bs : List Byte) : List Nat :=
  let vs := bs.map BitVec.toNat
  vs ++ [linSum ((d.linSumPid x ident).toList ++ vs)]

/-- The header of engine `e` for an identifier (R222). -/
def linHead (d : Device) (e ident : Nat) : List Seg :=
  linHeadSegs (bitU (d.fget (aENG e 8) 0 24)) (d.fget (aENG e 0x18) 0 5) (d.fget (aENG e 0x18) 5 3) (linPid ident)

/-- Bits of a header of engine `e`. -/
def linHeadBits (d : Device) (e : Nat) : Nat := d.fget (aENG e 0x18) 0 5 + d.fget (aENG e 0x18) 5 3 + 20

/-- A LIN frame begins at instant `u`: `own` bits from bit `lo` on are the engine's; with `whole` its stretches end where it is complete. A differing
bit of its own ends it there (R222, R236). -/
def startLin (d : Device) (e : Nat) (t : Tx) (next : Then) (u : Nat) (segs : List Seg) (lo own : Nat) (whole : Bool) : Device :=
  let w : Wave := ⟨u, segs⟩
  let bad := t.lin.echoBad.filter fun i => decide (lo ≤ i ∧ i < lo + own)
  let due := match bad with
    | some i => some (u + bitEnd (i + 1) segs)
    | none => if whole then some w.stop else none
  let d := d.setEng e { d.eng e with wave := some w, idleAt := w.stop }
  d.setHead e { t with phase := .sending, next := next, due := due, bad := bad.isSome, first := some (t.first.getD (u / tsU)) }

/-- A commander's frame (R222, R223). -/
def linCommand (d : Device) (e : Nat) (t : Tx) : Device :=
  let x := t.entry
  let n := d.linBytes x
  let ident := d.te x 1 0 6
  let head := d.linHead e ident
  let hb := d.linHeadBits e
  let len := bitU (d.fget (aENG e 8) 0 24)
  let hu := segsLen head
  let edgeOf (v : Nat) : Nat := (d.nowU + v) / tsU
  if d.te x 5 0 16 ≠ 0 then
    let bs := t.req.take 8
    let t := { t with got := bs, reqEnd := edgeOf hu, rspStart := edgeOf hu }
    d.startLin e t .lin d.nowU (head ++ linBytesSegs len 0 hb (d.linWith x ident bs)) 0 (hb + 10 * (bs.length + 1)) true
  else
    let used := linUsed n t.lin.bytes
    let t := { t with got := (used.take n).map LinByte.value, reqEnd := edgeOf hu, rspStart := edgeOf (((used.head?).map fun b => fineU b.start).getD hu) }
    d.startLin e t .lin d.nowU (head ++ linRxSegs len d.nowU (d.nowU + hu) hb used) 0 hb (linBroken used || decide (used.length = n + 1))

/-- LINFRAME (R223, R231): a commander's frame begins with the break; a responder begins to wait for its header. -/
def linStart (d : Device) (m : Mem) (e : Nat) (x : LinData) : Device :=
  d.startOp e 4 fun d t =>
    if d.engRole e = 0 then
      d.linCommand e { t with req := d.reqBytes m t.entry, lin := x, timer := d.edge, limit := d.linLimit e (d.linBytes t.entry) }
    else d.setHead e (d.awaitRsp { t with req := d.reqBytes m t.entry })

/-- A LIN engine that is enabled and neither HALTED nor FAULTED. -/
def linHears (d : Device) (e : Nat) : Bool := decide (engKind e = 1) && d.engLive e && !(d.eng e).halted && !(d.eng e).faulted

/-- A responder takes a dominant level of 11 nominal bits as a break, and a bit rate within 14 % of BUS_ERATE (R222). -/
def headerOk (d : Device) (e : Nat) (h : LinHeader) : Bool :=
  let r := d.fget (aENG e 8) 0 24
  let k := r * h.pulse.meas.toNat
  decide (11 * bitU r ≤ fineU h.pulse.brk) && decide (86 * k ≤ 1600 * 655360000) && decide (1600 * 655360000 ≤ 114 * k)

/-- The waiting responder answers a header of its identifier, or takes what follows it (R222, R223). -/
def linAnswer (d : Device) (e : Nat) (t : Tx) (h : LinHeader) : Device :=
  let x := t.entry
  let n := d.linBytes x
  let ident := d.te x 1 0 6
  let len := periodU h.pulse.meas.toNat
  let head := linSeenSegs len (fineU h.pulse.brk) (fineU h.pulse.back) h.pid.toNat
  let hb := ((head.getLast?).map fun s => s.idx + 1).getD 0
  let u := d.nowU - fineU h.pulse.back
  let t := { t with lin := h.data, reqEnd := d.edge }
  if d.te x 5 0 16 ≠ 0 then
    let bs := t.req.take 8
    let vs := d.linWith x ident bs
    let space := len * d.fget (aENG e 0x18) 8 4
    let segs := head ++ linBytesSegs len space hb (vs.take 1) ++ linBytesSegs len (len * d.fget (aENG e 0x18) 12 4) (hb + 10) (vs.drop 1)
    d.startLin e { t with got := bs, rspStart := (d.nowU + space) / tsU } .lin u segs hb (10 * (bs.length + 1)) true
  else
    let used := linUsed n h.data.bytes
    let t := { t with got := (used.take n).map LinByte.value, rspStart := (d.nowU + ((used.head?.map fun b => fineU b.start).getD 0)) / tsU }
    d.startLin e t .lin u (head ++ linRxSegs len d.nowU d.nowU hb used) 0 0 (linBroken used || decide (used.length = n + 1))

/-- Marks of a header alone. -/
def headMarks (d : Device) (h : LinHeader) : List Mark :=
  let w : Wave := ⟨d.nowU - fineU h.pulse.back, linSeenSegs (periodU h.pulse.meas.toNat) (fineU h.pulse.brk) (fineU h.pulse.back) h.pid.toNat⟩
  w.marks d.nowU ++ w.errorMark d.nowU

/-- A header reaches a responder, with what followed it (R222, R223): only the waiting transaction's identifier is answered. -/
def linHeader (d : Device) (e : Nat) (h : LinHeader) : Device :=
  if d.linHears e = false ∨ d.engRole e = 0 ∨ d.headerOk e h = false then d
  else
    let d := d.wr (aENG e 0x2C) (BitVec.ofNat 32 h.pulse.meas.toNat)
    match d.headTx e with
    | none => d.countRx e
    | some t =>
      if t.begun.isSome = false ∨ t.phase ≠ .listening ∨ d.teOp t.entry ≠ 4 then d.countRx e
      else if h.pid.toNat ≠ linPid (h.pid.toNat % 64) then
        ((d.markAll e t (d.headMarks h)).countRx e).decide_ e { t with first := some ((d.nowU - fineU h.pulse.back) / tsU) } 3
      else if h.pid.toNat % 64 ≠ d.te t.entry 1 0 29 then d.countRx e
      else d.linAnswer e t h

/-- Marks of the frame on the wire of `t` at its end: with an ERROR where it ends at a wrong bit, else with an END (R245). -/
def linMarks (d : Device) (e : Nat) (t : Tx) (bad : Bool) : Device :=
  let u := t.due.getD d.nowU
  match (d.eng e).wave with
  | some w => (d.markAll e t (w.marks u ++ if bad then w.errorMark u else w.endMark)).setEng e { d.eng e with wave := none }
  | none => d

/-- A LIN frame of LINFRAME is over on the wire (R223, R231, R236). -/
def linDone (d : Device) (e : Nat) (t : Tx) : Device :=
  let x := t.entry
  let n := d.linBytes x
  let pub := decide (d.te x 5 0 16 ≠ 0)
  let used := linUsed n t.lin.bytes
  let out := if t.bad then 5 else if pub then 0 else if linBroken used then 4
    else if linSumOk (d.linSumPid x (d.te x 1 0 6)) n used then 0 else 3
  let d := d.linMarks e t (decide (out = 4 ∨ out = 5))
  let d := if pub then d.bump (aENG e 0x28) 0 16 else d.countRx e
  d.decide_ e { t with frames := if pub then 0 else 1, frameNo := t.frameNo + 1 } out

/-- A dominant level of 150 µs on an idle LIN bus (R222). -/
def linWake (d : Device) (e : Nat) : Device :=
  if d.linHears e && (match d.headTx e with | some t => t.begun.isNone || decide (t.phase ≠ .sending) | none => true) then
    (d.event (aENG e 0x24) 2).wireEvent e 0 else d

/-- Fill a LIN transport frame to 8 bytes: PADB, or 0xFF as ISO 17987-2 has it (assumption 10). -/
def linFill (d : Device) (x : Nat) (bs : List Byte) : List Byte :=
  bs ++ List.replicate (8 - bs.length) (if d.te x 0 21 1 = 1 then BitVec.ofNat 8 (d.te x 3 16 8) else 0xFF)

/-- Consecutive LIN transport frames of a request from byte `sent` on (R222). -/
def linCfs (d : Device) (x : Nat) (req : List Byte) : Nat → Nat → Nat → List (List Byte)
  | 0, _, _ => []
  | n + 1, sent, sn =>
    if req.length ≤ sent then []
    else d.linFill x (BitVec.ofNat 8 (d.te x 3 0 8) :: BitVec.ofNat 8 (0x20 + sn % 16) :: (req.drop sent).take 6) :: d.linCfs x req n (sent + 6) (sn + 1)

/-- The transport frames of a LINDIAG request (R222, R224). -/
def linFrames (d : Device) (x : Nat) (req : List Byte) : List (List Byte) :=
  let ta := BitVec.ofNat 8 (d.te x 3 0 8)
  let n := req.length
  if n ≤ 6 then [d.linFill x (ta :: BitVec.ofNat 8 n :: req)]
  else (ta :: BitVec.ofNat 8 (0x10 + n / 256) :: BitVec.ofNat 8 n :: req.take 5) :: d.linCfs x req n 5 1

/-- Frame `t.sent` of a LINDIAG request begins at instant `u` (R224): one follows the other without a gap (DESIGN CHOICE, log entry 10). -/
def startDiag (d : Device) (e : Nat) (t : Tx) (u : Nat) : Device :=
  let bs := ((d.linFrames t.entry t.req)[t.sent]?).getD []
  let hb := d.linHeadBits e
  let segs := d.linHead e 60 ++ linBytesSegs (bitU (d.fget (aENG e 8) 0 24)) 0 hb (d.linWith t.entry 60 bs)
  d.startLin e t .diag u segs 0 (hb + 90) true

/-- LINDIAG sends its request in frames 60 (R224). -/
def linDiag (d : Device) (m : Mem) (e : Nat) (x : LinData) : Device :=
  d.startOp e 5 fun d t => d.startDiag e { t with req := d.reqBytes m t.entry, lin := x } d.nowU

/-- A frame of a LINDIAG request is over (R224): the next one follows, or headers 61 are sent from now on. A differing bit counts through the frames. -/
def diagDone (d : Device) (e : Nat) (t : Tx) : Device :=
  let stop := t.due.getD d.nowU
  let d := d.linMarks e t t.bad
  if t.bad then d.decide_ e t 5
  else
    let d := d.bump (aENG e 0x28) 0 16
    let t := { t with frameNo := t.frameNo + 1, sent := t.sent + 1, lin := { t.lin with echoBad := t.lin.echoBad.map (· - (d.linHeadBits e + 90)) } }
    if t.sent < (d.linFrames t.entry t.req).length then d.startDiag e t stop
    else d.setHead e { d.awaitRsp t with timer := d.edge, limit := msTs * d.te t.entry 11 0 16, sent := 0 }

/-- A LINDIAG transaction that waits for the answer goes on waiting. -/
def pollWait (d : Device) (e : Nat) (t : Tx) : Device := d.setHead e { t with phase := if t.rxLen = 0 then .listening else .taking, due := none }

/-- A header 61 of a LINDIAG commander, every NBS ms (R224); `x` is what comes on it. -/
def linPoll (d : Device) (e : Nat) (x : LinData) : Device :=
  match d.headTx e with
  | none => d
  | some t =>
    if t.begun.isSome = false ∨ d.teOp t.entry ≠ 5 ∨ (t.phase ≠ .listening ∧ t.phase ≠ .taking) ∨ d.edge < t.timer + t.limit ∨ d.capo = 1 then d
    else
      let head := d.linHead e 61
      let hb := d.linHeadBits e
      let used := linUsed 8 x.bytes
      let segs := head ++ linRxSegs (bitU (d.fget (aENG e 8) 0 24)) d.nowU (d.nowU + segsLen head) hb used
      d.startLin e { t with timer := d.edge, lin := x } .poll d.nowU segs 0 hb (linBroken used || decide (used.length = 9))

/-- A transport frame of the node reaches a LINDIAG transaction (R222, R224). -/
def linTake (d : Device) (e : Nat) (t : Tx) (bs : List Byte) (began : Nat) : Device :=
  let b (i : Nat) : Nat := ((bs[i]?).getD 0).toNat
  let t := { t with frames := t.frames + 1 }
  match b 1 / 16 with
  | 0 =>
    let n := b 1 % 16
    if t.rxLen ≠ 0 ∨ n = 0 ∨ 6 < n then d.decide_ e t 8 else d.rspDone e { t with rspStart := began, got := (bs.drop 2).take n } t.req.head?
  | 1 =>
    if t.rxLen ≠ 0 then d.decide_ e t 8
    else d.pollWait e { t with rspStart := began, rxLen := max 1 (b 1 % 16 * 256 + b 2), got := bs.drop 3, sn := 1 }
  | 2 =>
    if t.rxLen = 0 ∨ b 1 % 16 ≠ t.sn % 16 then d.decide_ e t 8
    else
      let t := { t with got := (t.got ++ bs.drop 2).take t.rxLen, sn := t.sn + 1 }
      if t.rxLen ≤ t.got.length then d.rspDone e t t.req.head? else d.pollWait e t
  | _ => d.decide_ e t 8

/-- A frame 61 is over (R224): a frame of another node address is passed over. -/
def pollDone (d : Device) (e : Nat) (t : Tx) : Device :=
  let used := linUsed 8 t.lin.bytes
  let d := d.linMarks e t (t.bad || linBroken used)
  let t := { t with frameNo := t.frameNo + 1 }
  if t.bad then d.decide_ e t 5
  else
    let d := d.countRx e
    if linBroken used then d.decide_ e t 4
    else if !linSumOk none 8 used then d.decide_ e t 3
    else if (used.head?.map LinByte.value) ≠ some (BitVec.ofNat 8 (d.te t.entry 3 0 8)) then d.pollWait e t
    else
      let began := (t.timer * tsU + (used.head?.map fun b => fineU b.start).getD 0) / tsU
      d.linTake e t ((used.take 8).map LinByte.value) began

/-- A commander frame did not complete within its limit (R223): LINFRAME times out, a header 61 was not answered. -/
def linLate (d : Device) (e : Nat) : Device :=
  match d.headTx e with
  | none => d
  | some t =>
    if t.phase ≠ .sending then d
    else if t.next = .lin ∧ d.engRole e = 0 ∧ t.timer + t.limit ≤ d.edge then (d.cutWave e).decide_ e t 1
    else if t.next = .poll ∧ t.timer + d.linLimit e 8 ≤ d.edge then (d.cutWave e).pollWait e { t with frameNo := t.frameNo + 1 }
    else d

/-- The instant at which the frame of `t` ends lies within the limit of its frame (R223). -/
def linInTime (d : Device) (e : Nat) (t : Tx) (u : Nat) : Bool :=
  match t.next with
  | .lin => decide (d.engRole e ≠ 0 ∨ u ≤ (t.timer + t.limit) * tsU)
  | .poll => decide (u ≤ (t.timer + d.linLimit e 8) * tsU)
  | _ => true

end Device

end Sys2Proof.Machine
end

