-- ==== Sys2Proof/Machine/SentOps.lean ====
section
/-!
DEFINITION. SENT engines at work (R225 to R227), and the course of every engine at a sample edge: frames end, others begin.
-/

namespace Sys2Proof.Machine

namespace Device

/-- The tick of a SENT engine (R212, R225): BUS_ERATE is in ns. -/
def sentTick (d : Device) (e : Nat) : Nat := (d.fget (aENG e 8) 0 24 * 65536 * 2 ^ 32 + 50000) / 100000

/-- NIB of a SENT engine. -/
def sentNib (d : Device) (e : Nat) : Nat := d.fget (aENG e 0x18) 0 3

/-- SLOW of a SENT engine. -/
def sentSlow (d : Device) (e : Nat) : Nat := d.fget (aENG e 0x18) 9 2

/-- The slow-channel bits of the message that engine `e` sends (R225, R227). -/
def slowBitsTx (d : Device) (e : Nat) : Nat :=
  ((slowBits (d.sentSlow e) (d.fget (aENG e 0x34) 0 16) (d.fget (aENG e 0x34) 16 8))[(d.eng e).slowTx]?).getD 0

/-- The nibbles of the message that engine `e` sends (R225, R227): status, data, CRC. Without content every nibble is 0; with a slow channel, status
bits 2 and 3 carry it. -/
def sentNibbles (d : Device) (e : Nat) : List Nat :=
  let c (i : Nat) : Nat := ((d.eng e).content[i]?).getD 0
  let data := (List.range (d.sentNib e)).map fun i => c (i + 1)
  let status := if d.sentSlow e = 0 then c 0 else c 0 % 4 + 4 * d.slowBitsTx e
  status :: data ++ [sentCrc (d.flag (aENG e 0x18) 5) data]

/-- The message that begins at instant `u` (R225): calibration pulse, nibbles of 12 to 27 ticks, pause pulse. -/
def sentWave (d : Device) (e u : Nat) : Wave :=
  let ns := 56 :: (d.sentNibbles e).map (· + 12) ++ if d.flag (aENG e 0x18) 3 then [d.fget (aENG e 0x18) 16 10] else []
  ⟨u, sentPulses (d.sentTick e) (d.fget (aENG e 0x18) 6 3) 0 ns⟩

/-- A SENT transmitter that sends (R227). Under HOLD it pauses (R243). -/
def sentSends (d : Device) (e : Nat) : Bool :=
  decide (engKind e = 2) && decide (d.engRole e = 1) && d.engLive e && !(d.eng e).halted && !(d.eng e).faulted && decide (d.capo ≠ 1)

/-- Engine `e` begins a message at instant `u` (R227). -/
def sentBegin (d : Device) (e u : Nat) : Device := d.setEng e { d.eng e with wave := some (d.sentWave e u) }

/-- SENTRX waits for its messages (R231). -/
def sentWait (d : Device) (e : Nat) : Device := d.startOp e 6 fun d t => d.setHead e (d.awaitRsp t)

/-- SENTTX sets the content (R227, R231): a message in progress still has the old one. -/
def sentSet (d : Device) (m : Mem) (e : Nat) : Device :=
  d.startOp e 7 fun d t =>
    let req := d.reqBytes m t.entry
    let d := d.setEng e { d.eng e with content := req.map fun b => b.toNat % 16, txs := { t with phase := .setting, req := req } :: (d.eng e).txs.tail }
    if (d.eng e).wave.isSome then d
    else (d.sentBegin e d.nowU).setHead e { t with phase := .setting, req := req, first := some d.edge }

/-- A calibration pulse of `v` sixteenths of a 655.36 MHz period is accepted (R226): a tick within 25 % of BUS_ERATE, in ns, and within 1/64 of the preceding one. -/
def calOk (d : Device) (e v : Nat) : Bool :=
  let r := 56 * d.fget (aENG e 8) 0 24
  decide (3 * r * 1048576 ≤ 4 * v * 100000) && decide (4 * v * 100000 ≤ 5 * r * 1048576) &&
  (match (d.eng e).lastCal with
   | some p => decide (64 * ((v - p) + (p - v)) ≤ p)
   | none => true)

/-- The value of a nibble pulse against a calibration pulse (R226): its length in measured ticks, less 12 and rounded. -/
def nibbleOf (cal : Nat) (p : SentPulse) : Int := roundDiv (56 * p.len) cal - 12

/-- The pulses of a message are those of its format (R225, R226): as many nibbles as NIB says, values 0 to 15, low times of at least 4 ticks, a pause of 12 to
768 ticks. -/
def pulsesOk (d : Device) (e : Nat) (x : SentMsg) : Bool :=
  let low (p : SentPulse) : Bool := decide (4 * x.cal.len ≤ 56 * p.low)
  decide (x.nibbles.length = d.sentNib e + 2) && (x.cal :: x.nibbles ++ x.pause.toList).all low &&
  (x.nibbles.all fun p => decide (0 ≤ nibbleOf x.cal.len p ∧ nibbleOf x.cal.len p ≤ 15)) &&
  (x.pause.toList.all fun p => decide (12 * x.cal.len ≤ 56 * p.len ∧ 56 * p.len ≤ 768 * x.cal.len))

/-- The nibble values of a message whose pulses are right. -/
def nibbles (x : SentMsg) : List Nat := x.nibbles.map fun p => (nibbleOf x.cal.len p).toNat

/-- The CRC nibble is that of the data nibbles (R225, R226). -/
def crcRight (d : Device) (e : Nat) (ns : List Nat) : Bool :=
  decide (ns.getLast? = some (sentCrc (d.flag (aENG e 0x18) 5) (ns.drop 1).dropLast))

/-- The slow channel of a receiver takes the status nibble of a good message (R225, R226): a message that it completes is shown; a message that fails starts it anew. -/
def slowTake (d : Device) (e : Nat) (status : Option Nat) : Device :=
  let fmt := d.sentSlow e
  match status with
  | none => d.setEng e { d.eng e with slowRx := [] }
  | some s =>
    let h := (s / 4 % 4 :: (d.eng e).slowRx).take 18
    let d := d.setEng e { d.eng e with slowRx := h }
    match slowMessage fmt (h.take (slowLen fmt)).reverse with
    | some (v, i) => (d.wr (aENG e 0x30) (BitVec.ofNat 32 (v + 2 ^ 16 * i + 2 ^ 24))).event (aENG e 0x24) 3
    | none => d

/-- A received message as a wave (R246): its pulses end `back` before the command. -/
def sentRxWave (d : Device) (x : SentMsg) : Wave :=
  let ps := x.cal :: x.nibbles ++ x.pause.toList
  let segs := ((List.range ps.length).zip ps).flatMap fun p =>
    (sentPulseSegs (if p.1 = 0 then 1 else 2) p.1 (periodU p.2.low) (periodU p.2.len)).map fun s => { s with drive := false }
  ⟨d.nowU - fineU x.back - segsLen segs, segs⟩

/-- A SENT receiver that hears. -/
def sentHears (d : Device) (e : Nat) : Bool :=
  decide (engKind e = 2) && decide (d.engRole e = 0) && d.engLive e && !(d.eng e).halted && !(d.eng e).faulted

/-- A SENT receiver takes a message whole (R226, R231). -/
def sentReceive (d : Device) (e : Nat) (x : SentMsg) : Device :=
  if d.sentHears e = false then d
  else
    let v := x.cal.len
    let ok := d.calOk e v
    let d := d.setEng e { d.eng e with lastCal := some v }
    if ok = false then d
    else
      let d := (d.wr (aENG e 0x2C) (BitVec.ofNat 32 (roundDiv v 56).toNat)).countRx e
      let good := d.pulsesOk e x
      let ns := nibbles x
      let crc := d.crcRight e ns
      let d := d.slowTake e (if good && crc then ns.head? else none)
      match d.headTx e with
      | none => d
      | some t =>
        if t.begun.isSome = false ∨ t.phase ≠ .listening ∨ d.teOp t.entry ≠ 6 then d
        else
          let w := d.sentRxWave x
          let bad := !(good && crc)
          let d := d.markAll e t (w.marks w.stop ++ if bad then w.errorMark w.stop else w.endMark)
          let t := { t with first := some (w.start / tsU), rspStart := w.start / tsU, frameNo := t.frameNo + 1 }
          if good = false then d.decide_ e t 4
          else if crc = false then d.decide_ e t 3
          else
            let t := { t with frames := t.frames + 1, got := ns.dropLast.map (BitVec.ofNat 8) }
            if t.frames < d.te t.entry 12 0 16 then d.setHead e t
            else d.decide_ e t (if d.te t.entry 8 0 16 < t.got.length then 9 else 0)

/-- A message of SENTTX has been sent with its content (R227, R231). -/
def sentCount (d : Device) (e : Nat) (t : Tx) (w : Wave) : Device :=
  let d := d.markAll e t (w.marks w.stop ++ w.endMark)
  let t := { t with sent := t.sent + 1, frameNo := t.frameNo + 1 }
  if t.sent < d.te t.entry 12 0 16 then d.setHead e t else d.decide_ e { t with reqEnd := d.edge } 0

/-- A SENT transmitter has finished a message and begins the next where it ended (R227, R231). -/
def sentSent (d : Device) (e : Nat) : Device :=
  match (d.eng e).wave with
  | none => d
  | some w =>
    if d.sentSends e = false ∨ d.nowU < w.stop then d
    else
      let d := d.bump (aENG e 0x28) 0 16
      let d := match d.headTx e with
        | none => d
        | some t =>
          if t.phase ≠ TxPhase.setting then d
          else if t.first.isSome then d.sentCount e t w
          else d.setHead e { t with first := some (w.stop / tsU) }
      let n := (d.eng e).slowTx + 1
      let d := d.setEng e { d.eng e with slowTx := if slowLen (d.sentSlow e) ≤ n then 0 else n }
      d.sentBegin e w.stop

/-! Every engine at a sample edge. -/

/-- The frame of the transaction under way has ended by the present edge (R217, R223, R224). -/
def frameEnds (d : Device) (e : Nat) : Device :=
  match d.headTx e with
  | none => d
  | some t =>
    match t.phase, t.due with
    | .sending, some u =>
      if d.nowU < u ∨ d.linInTime e t u = false then d
      else
        match t.next with
        | .lin => d.linDone e t
        | .diag => d.diagDone e t
        | .poll => d.pollDone e t
        | _ => d.canDone e t
    | _, _ => d

/-- A CAN frame that waits for its instant begins (R217, R220). -/
def frameBegins (d : Device) (e : Nat) : Device :=
  match d.headTx e with
  | none => d
  | some t =>
    match t.phase, t.due with
    | .pausing, some u => if u ≤ d.nowU then d.startCan e t u else d
    | _, _ => d

/-- What has ended leaves the wire; a SENT transmitter sends without a break (R227). -/
def wireEdge (d : Device) (e : Nat) : Device :=
  match (d.eng e).wave with
  | none => if d.sentSends e then d.sentBegin e d.nowU else d
  | some w =>
    if engKind e ≠ 2 ∧ w.stop ≤ d.nowU ∧ !((d.headTx e).any fun t => decide (t.phase = TxPhase.sending)) then
      d.setEng e { d.eng e with wave := none } else d

/-- Engines that act at a sample edge: those with something under way, and SENT transmitters. -/
def busyEngines (d : Device) : List Nat :=
  (List.range 120).filter fun e => (tabKeys d.engines).contains e || (decide (96 ≤ e) && d.sentSends e)

/-- Every engine at the present edge (R212). -/
def enginesEdge (d : Device) : Device := d.busyEngines.foldl (fun d e => ((d.frameEnds e).frameBegins e).wireEdge e) d

/-! Timers and keepalives. -/

/-- N_Bs or N_Cr of an ISOTP transaction has expired (R220, R236). -/
def isoExpiry (d : Device) (e : Nat) : Device :=
  match d.headTx e with
  | some t =>
    if d.teOp t.entry = 3 ∧ (t.phase = .flow ∨ t.phase = .taking) ∧ t.timer + t.limit ≤ d.edge then d.decide_ e t 8 else d
  | none => d

/-- A transaction whose response timeout runs: it waits for a response or takes one, in its own flow control or header 61 too, or in a response that does not complete. -/
def awaits (t : Tx) : Bool :=
  match t.phase with
  | .listening => true
  | .taking => true
  | .pausing => decide (t.next = .taking)
  | .sending => decide (t.next = .taking ∨ t.next = .poll ∨ (t.next = .lin ∧ t.due = none))
  | _ => false

/-- TMO or TMOX has passed without a complete response (R231, R236). A LIN commander's frame has its own limit (R223). -/
def txExpiry (d : Device) (e : Nat) : Device :=
  match d.headTx e with
  | some t =>
    if t.begun.isSome ∧ awaits t ∧ ¬ (t.next = .lin ∧ d.engRole e = 0) ∧ t.deadline ≤ d.edge then (d.cutWave e).decide_ e t 1 else d
  | none => d

/-- A keepalive falls due, PERIOD ms after the last one (R234, R241, R243). -/
def keepDue (d : Device) (e : Nat) : Device :=
  let g := d.eng e
  if !d.flag (aENG e 0x1C) 31 || g.faulted || decide (d.capo = 1) || decide (d.edge < g.keepFrom + msTs * d.fget (aENG e 0x1C) 16 13) then d
  else if !d.opFits e (d.teOp (d.fget (aENG e 0x1C) 0 12)) then (d.setEng e { g with keepFrom := d.edge }).refuse (aENG e 0x1C)
  else (d.setEng e { g with keepDue := true, keepFrom := d.edge }).serveKeep e

end Device

end Sys2Proof.Machine
end

