-- ==== Sys2Proof/Machine/Bus.lean ====
section
/-!
DEFINITION. The commands of the bus engines (R217 to R247): the eight operations, frames and messages received, timers, the end of
a transaction, keepalives, and the engines' own writes.
-/

namespace Sys2Proof.Machine

namespace Device

/-! Writes of the engines' registers (R244, R249, R251). -/

/-- A write of BUS_ECFG (R219, R236, R244): it ends HALTED and, with AUTOREC zero, a bus-off; a transaction under way on an
engine that it disables ends OFF. EN adds its engine to the sources of its TXPIN or takes it away, a function switch (R258). -/
def ecfgWrite (d : Device) (e : Nat) (p : Party) (raw : Word) : Device :=
  let a := aENG e 0
  if d.engOn e && d.reachesRws a raw then d.refuse a
  else
    let was := d
    let d := d.putCooked p a raw
    let d := if d.engLive e = was.engLive e then d else d.pinSwitch was (d.fget (aENG e 4) 0 10)
    let d := d.unhaltEng e
    let g := d.eng e
    let d := if g.busOff ∧ d.flag (aENG e 0x18) 4 = false then d.setEng e { g with busOff := false, tec := 0, rec_ := 0 } else d
    if d.engOn e then d
    else
      let d := d.cutWave e
      match d.headTx e with
      | some t => if t.begun.isSome ∧ t.phase ≠ .decided then d.decide_ e t 11 else d
      | none => d

/-- A write of BUS_EPIN (R251, R258): refused while the engine is enabled when it changes a field (R12), and when it maps TXPIN to a
pin whose owner is ANALOGUE. The pins that lose or gain the source switch. -/
def epinWrite (d : Device) (e : Nat) (p : Party) (raw : Word) : Device :=
  let a := aENG e 4
  let pin := bitsOf raw 0 10
  let old := d.fget a 0 10
  if d.engOn e && d.reachesRws a raw then d.refuse a
  else if d.pinOwner pin = 1 then (d.event 0x184300 1).noticeRefused a
  else
    let d' := d.putCooked p a raw
    if pin = old then d' else (d'.pinSwitch d old).pinSwitch d pin

end Device

/-- CANTX (R231). -/
def execCantx (e : Fin 120) (delay : Option (BitVec 24)) (s : State) : Host.Outcome State Fault Refusal :=
  .next (s.onRead fun d m => d.canSend m e 0 delay)

/-- CANRX (R231). -/
def execCanrx (e : Fin 120) (s : State) : Host.Outcome State Fault Refusal := .next (s.onDev fun d => d.canWait e)

/-- CANREQ (R231). -/
def execCanreq (e : Fin 120) (delay : Option (BitVec 24)) (s : State) : Host.Outcome State Fault Refusal :=
  .next (s.onRead fun d m => d.canSend m e 2 delay)

/-- ISOTP (R220, R231). -/
def execIsotp (e : Fin 120) (delay : Option (BitVec 24)) (s : State) : Host.Outcome State Fault Refusal :=
  .next (s.onRead fun d m => d.isoSend m e delay)

/-- LINFRAME (R223, R231). -/
def execLinframe (e : Fin 120) (d : LinData) (s : State) : Host.Outcome State Fault Refusal := .next (s.onRead fun v m => v.linStart m e d)

/-- LINDIAG (R224). -/
def execLindiag (e : Fin 120) (d : LinData) (s : State) : Host.Outcome State Fault Refusal := .next (s.onRead fun v m => v.linDiag m e d)

/-- SENTRX (R231). -/
def execSentrx (e : Fin 120) (s : State) : Host.Outcome State Fault Refusal := .next (s.onDev fun d => d.sentWait e)

/-- SENTTX (R227, R231). -/
def execSenttx (e : Fin 120) (s : State) : Host.Outcome State Fault Refusal := .next (s.onRead fun d m => d.sentSet m e)

/-- CAN_FRAME_RECEIVED (R219). -/
def execCanFrameReceived (e : Fin 120) (f : CanFrame) (syncs : List Sync) (s : State) : Host.Outcome State Fault Refusal :=
  .next (s.onDdr fun d => d.awake fun d => d.canReceive e ⟨f, syncs⟩)

/-- CAN_FRAME_ERROR (R217, R218). -/
def execCanFrameError (e : Fin 120) (k : CanError) (sending : Bool) (s : State) : Host.Outcome State Fault Refusal :=
  .next (s.onDdr fun d => d.awake fun d => d.canError e k sending)

/-- BUSOFF_RECOVERY (R219). -/
def execBusoffRecovery (e : Fin 120) (s : State) : Host.Outcome State Fault Refusal := .next (s.onDev fun d => d.awake fun d => d.busoffOver e)

/-- LIN_HEADER_RECEIVED (R223). -/
def execLinHeaderReceived (e : Fin 120) (b : LinBreak) (pid : Byte) (x : LinData) (s : State) : Host.Outcome State Fault Refusal :=
  .next (s.onDdr fun d => d.awake fun d => d.linHeader e ⟨b, pid, x⟩)

/-- LIN_WAKE_DETECT (R222). -/
def execLinWakeDetect (e : Fin 120) (s : State) : Host.Outcome State Fault Refusal := .next (s.onDev fun d => d.awake fun d => d.linWake e)

/-- LIN_FRAME_LIMIT (R223). -/
def execLinFrameLimit (e : Fin 120) (s : State) : Host.Outcome State Fault Refusal := .next (s.onDdr fun d => d.awake fun d => d.linLate e)

/-- LINDIAG_POLL (R224). -/
def execLindiagPoll (e : Fin 120) (d : LinData) (s : State) : Host.Outcome State Fault Refusal :=
  .next (s.onDev fun v => v.awake fun v => v.linPoll e d)

/-- SENT_MESSAGE_RECEIVED (R226). -/
def execSentMessageReceived (e : Fin 120) (m : SentMsg) (s : State) : Host.Outcome State Fault Refusal :=
  .next (s.onDdr fun d => d.awake fun d => d.sentReceive e m)

/-- SENT_MESSAGE_SENT (R227). -/
def execSentMessageSent (e : Fin 120) (s : State) : Host.Outcome State Fault Refusal := .next (s.onDdr fun d => d.awake fun d => d.sentSent e)

/-- RESPONSE_PENDING (R221). -/
def execResponsePending (e : Fin 120) (f : CanRx) (s : State) : Host.Outcome State Fault Refusal :=
  .next (s.onDdr fun d => d.awake fun d => d.pendingReceive e f)

/-- ISOTP_FLOW_CONTROL (R220). -/
def execIsotpFlowControl (e : Fin 120) (f : CanRx) (s : State) : Host.Outcome State Fault Refusal :=
  .next (s.onDdr fun d => d.awake fun d => d.flowReceive e f)

/-- ISOTP_TIMER_EXPIRY (R220). -/
def execIsotpTimerExpiry (e : Fin 120) (s : State) : Host.Outcome State Fault Refusal := .next (s.onDev fun d => d.awake fun d => d.isoExpiry e)

/-- TRANSACTION_TIMEOUT (R236). -/
def execTransactionTimeout (e : Fin 120) (s : State) : Host.Outcome State Fault Refusal := .next (s.onDdr fun d => d.awake fun d => d.txExpiry e)

/-- BUS_SLOT_COMPLETE (R238). -/
def execBusSlotComplete (e : Fin 120) (s : State) : Host.Outcome State Fault Refusal := .next (s.onMem fun m d => d.completeTx m e)

/-- KEEPALIVE_DUE (R234). -/
def execKeepaliveDue (e : Fin 120) (s : State) : Host.Outcome State Fault Refusal := .next (s.onDev fun d => d.awake fun d => d.keepDue e)

/-- BUS_ECFG_WRITE (R244). -/
def execBusEcfgWrite (e : Fin 120) (w : Wr) (s : State) : Host.Outcome State Fault Refusal :=
  .next (s.onDdr fun d => d.write w (aENG e 0) fun d => d.ecfgWrite e w.by_ w.data)

/-- BUS_EPIN_WRITE (R251). -/
def execBusEpinWrite (e : Fin 120) (w : Wr) (s : State) : Host.Outcome State Fault Refusal :=
  .next (s.onDev fun d => d.write w (aENG e 4) fun d => d.epinWrite e w.by_ w.data)

end Sys2Proof.Machine
end

