-- ==== Sys2Proof/Machine/CalFit.lean ====
section
/-!
DEFINITION. What the Tuning engine computes from its measurements (R305, R309 to R314): agreement of pairs, the fit by least squares, linearity deltas,
check errors and residuals. Readings are in 1/512 LSB, as sums of two measurements in 1/256 LSB.
-/

namespace Sys2Proof.Machine

/-- Two measurements of a pair agree within `tol` (R310). -/
def agrees (tol : Nat) (p : Int × Int) : Bool := decide ((p.1 - p.2).natAbs ≤ tol)

/-- The sum of two measurements. -/
def pairSum (p : Int × Int) : Int := p.1 + p.2

/-- The pairs of a point that count (R310): up to the first that agrees by `ok`, three at most. -/
def tried (ok : CalPair → Bool) : Nat → List CalPair → List CalPair
  | 0, _ => []
  | _ + 1, [] => []
  | k + 1, p :: r => if ok p then [p] else p :: tried ok k r

/-- A pair of measurements that nobody made. -/
def CalPair.zero : CalPair := ⟨(0, 0), (0, 0)⟩

/-- A pair agrees on each path of range `r`, within TOL ppm of the range (R310): one ppm is 128 of 1/256 LSB. -/
def pairOk (tol r : Nat) (p : CalPair) : Bool := agrees (128 * tol) p.sense && (decide (3 ≤ r) || agrees (128 * tol) p.force)

/-- A quick calibration repeats the pair of each path by itself (R314): point 0 is on the sense path, point 1 on the force path. -/
def quickOk (tol i : Nat) (p : CalPair) : Bool := agrees (128 * tol) (if i = 0 then p.sense else p.force)

/-- The points of an operation on range `r`, with what counts of each (R309, R310, R314). -/
def pointsOf (op tol r : Nat) (m : CalMeas) : List (List CalPair) :=
  if op = 2 then (List.range (if r < 3 then 2 else 1)).map fun i => tried (quickOk tol i) 3 (m.points.getD i [])
  else (List.range 8).map fun k => tried (pairOk tol r) 3 (m.points.getD k [])

/-- The two check points. -/
def checksOf (tol r : Nat) (m : CalMeas) : List (List CalPair) := (List.range 2).map fun k => tried (pairOk tol r) 3 (m.checks.getD k [])

/-- The last pair of a point (R310). -/
def lastPair (ps : List CalPair) : CalPair := ps.getLastD CalPair.zero

/-- Pairs beyond the first of each point. -/
def extraPairs (pts : List (List CalPair)) : Nat := (pts.map fun ps => ps.length - 1).sum

/-- The pre-check finds the node disturbed, or the monitor saw the pin beyond ±30 V (R313). -/
def preBad (tol : Nat) (m : CalMeas) : Bool :=
  decide (256 * tol < m.pre.1.natAbs) || decide (256 * tol < m.pre.2.natAbs) || !agrees (128 * tol) m.pre

/-- Every point agrees. -/
def pointsAgree (op tol r : Nat) (m : CalMeas) : Bool :=
  if op = 2 then (List.range (if r < 3 then 2 else 1)).all fun i => quickOk tol i (lastPair ((pointsOf op tol r m).getD i []))
  else (pointsOf op tol r m).all fun ps => pairOk tol r (lastPair ps)

/-- Ts from the start of a range to its end (R309, R310, R313, R314): at once when the pin is seen, after a failed pre-check, after points of which one still
disagrees, after check points, or with the commit. -/
def rangeTicks (op tol r : Nat) (m : CalMeas) : Nat :=
  let pts := 7168 * extraPairs (pointsOf op tol r m)
  if m.pinHigh then 0
  else if preBad tol m then 2048
  else if op = 2 then 16384 + pts
  else if !pointsAgree op tol r m then 59392 + pts
  else
    let chk := 2048 * extraPairs (checksOf tol r m)
    if (checksOf tol r m).all fun ps => pairOk tol r (lastPair ps) then 65536 + pts + chk else 63488 + pts + chk

/-- The reference levels p[k] of R306 in sense LSB. -/
def levelOf (k : Nat) : Int := -437500 + 125000 * (k : Int)

/-- The sum of the squares of the eight levels, over the square of a step: 42. -/
def levelSq (step : Nat) : Int := 42 * (step * step : Nat)

/-- A sum over the eight points. -/
def sum8 (f : Nat → Int) : Int := ((List.range 8).map f).sum

/-- The user gain that with the factory gain makes the fitted gain `num` / `den` (R306, R311). -/
def gainDelta (num den fact : Int) : Int := roundQ (num * 2 ^ 62) (den * (2 ^ 31 + fact)) - 2 ^ 31

namespace Device

/-- The correction of R306 on a reading in 1/512 LSB of range `r` of slice `s`. -/
def senseFine (d : Device) (s r : Nat) (x : Int) : Int :=
  let lin := linTerm (fun k => d.bothVal s r 0 (2 + k)) 64000000 x
  roundDiv (d.gainOf s r 0 * d.tempGain s r 0 * (x * 32000000 - d.offset4096 s r 0 * 4000000 - lin)) (2 ^ 62 * 1600000000 * 32000000)

/-- The DAC code of R306 for a level, both in 1/512 force LSB. -/
def forceFine (d : Device) (s r : Nat) (x : Int) : Int :=
  let lin := linTerm (fun k => d.bothVal s r 1 (2 + k)) 16000000 x
  let g := d.gainOf s r 1 * d.tempGain s r 1
  roundQ (x * (2 ^ 62 * 1600000000) * 8000000 + (d.offset4096 s r 1 * 1000000 + lin) * g) (g * 8000000)

/-- The fit of the sense path (R311): the readings are regressed on the levels, G is the inverse of the slope and O the mean reading, and each
linearity delta takes up what is left at its point (assumption 87). -/
def senseFit (d : Device) (s r : Nat) (x : Nat → Int) : Fit :=
  let q := levelSq 125000
  let px := sum8 fun k => levelOf k * x k
  let sx := sum8 x
  ⟨gainDelta (512 * q) px (d.factVal (calKey s r 0 0)), roundDiv sx 16 - d.factVal (calKey s r 0 1),
   (List.range 8).map fun k => roundQ (8 * q * x k - q * sx - 8 * levelOf k * px) (16 * q) - d.factVal (calKey s r 0 (2 + k))⟩

/-- The fit of the force path (R311): the levels read back, `y` in 1/2,048 force LSB, are regressed on the codes (assumption 87). -/
def forceFit (d : Device) (s r : Nat) (y : Nat → Int) : Fit :=
  let q := levelSq 31250
  let c (k : Nat) : Int := -109375 + 31250 * (k : Int)
  let cy := sum8 fun k => c k * y k
  let sy := sum8 y
  ⟨gainDelta cy (2048 * q) (d.factVal (calKey s r 1 0)), roundQ (-32 * sy * q) cy - d.factVal (calKey s r 1 1),
   (List.range 8).map fun k => roundQ (32 * (8 * c k * cy - 8 * y k * q + sy * q)) cy - d.factVal (calKey s r 1 (2 + k))⟩

/-- TCAL of both paths of a range is the temperature now, for the time of a computation. -/
def atTemp (d : Device) (s r : Nat) : Device :=
  [0, 1].foldl (fun d p => d.setCal { d.cal with tcal := tabSet (fun _ => none) (calKey s r p 12) (some (d.tempOf s)) d.cal.tcal }) d.settledUser

/-- The range under its factory values alone (R312). -/
def factoryOnly (d : Device) (s r : Nat) : Device :=
  [0, 1].foldl (fun d p =>
    let d := (List.range 12).foldl (fun d i => d.setUser (calKey s r p i) 0) d
    d.setCal { d.cal with tcal := tabSet (fun _ => none) (calKey s r p 12) none d.cal.tcal }) d.settledUser

/-- The error of a pair at `level` in 1/512 sense LSB: on the sense path, and on ranges 0 to 2 on the force path, whose raw code is a quarter of the level. -/
def pairError (d : Device) (s r : Nat) (level : Int) (p : CalPair) : Nat :=
  let e := (d.senseFine s r (pairSum p.sense) - 512 * level).natAbs
  let f := d.forceFine s r (roundDiv (d.senseFine s r (pairSum p.force)) 4)
  if r < 3 then max e (4 * (f - 128 * level).natAbs) else e

/-- The worst residual of the points under the factory values alone, in ppm of range rounded up (R312). -/
def residualOf (d : Device) (s r : Nat) (levels : List Int) (pts : List (List CalPair)) : Nat :=
  let d := d.factoryOnly s r
  ((levels.zip pts).map fun x => ceilDiv (2 * d.pairError s r x.1 (lastPair x.2)) 512).foldl max 0

/-- What a full calibration of a range comes to (R310 to R313). -/
def judgeFull (d : Device) (s r tol : Nat) (m : CalMeas) : CalEnd :=
  let pts := pointsOf 0 tol r m
  let chk := checksOf tol r m
  let d0 := d.residualOf s r ((List.range 8).map levelOf) pts
  if m.pinHigh || preBad tol m then .disturbed
  else if !pointsAgree 0 tol r m || !(chk.all fun ps => pairOk tol r (lastPair ps)) then .disagreed d0
  else
    let at_ (k : Nat) : CalPair := lastPair (pts.getD k [])
    let sf := d.senseFit s r fun k => pairSum (at_ k).sense
    let t := (d.atTemp s r).putFit s r 0 sf
    let ff := t.forceFit s r fun k => t.senseFine s r (pairSum (at_ k).force)
    let t := if r < 3 then t.putFit s r 1 ff else t
    let err := max (t.pairError s r (-250000) (lastPair (chk.getD 0 []))) (t.pairError s r 250000 (lastPair (chk.getD 1 [])))
    .fitted sf ff (roundDiv (20 * err) 512).toNat d0

/-- What a quick offset calibration of a range comes to (R314): offsets that make its zero exact. -/
def judgeQuick (d : Device) (s r tol : Nat) (m : CalMeas) : CalEnd :=
  let pts := pointsOf 2 tol r m
  let x := pairSum (lastPair (pts.getD 0 [])).sense
  let y := pairSum (lastPair (pts.getD 1 [])).force
  let d0 := d.residualOf s r [0] [[⟨(x, 0), (y, 0)⟩]]
  if m.pinHigh || preBad tol m then .disturbed
  else if !pointsAgree 2 tol r m then .disagreed d0
  else
    let dt := d.tempOf s - d.tcalOf s r 0
    let lin := linTerm (fun k => d.bothVal s r 0 (2 + k)) 64000000 x
    let so := roundDiv (x * 512000000 - 16 * lin - d.bothVal s r 0 11 * dt * 64000000) (16 * 64000000) - d.factVal (calKey s r 0 1)
    let t := d.setUser (calKey s r 0 1) so
    let f := roundDiv (t.senseFine s r y) 4
    let g := d.gainOf s r 1 * d.tempGain s r 1
    let flin := linTerm (fun k => d.bothVal s r 1 (2 + k)) 16000000 f
    let dtf := d.tempOf s - d.tcalOf s r 1
    let fo := roundQ (-f * (2 ^ 62 * 1600000000) * 8000000 - flin * g - d.bothVal s r 1 11 * dtf * 1000000 * g) (16000000 * g) - d.factVal (calKey s r 1 1)
    .fitted ⟨0, so, []⟩ ⟨0, fo, []⟩ 0 d0

/-- What the phases of a range come to. -/
def judge (d : Device) (op s r : Nat) (m : CalMeas) : CalEnd :=
  let tol := d.fget 0x6000C 0 7
  let d := d.settledUser
  if op = 2 then d.judgeQuick s r tol m else d.judgeFull s r tol m

/-- The difference of VREFP and VREFM, `v` in microvolts, is within its limits (R305). -/
def refGood (v : Int) : Bool := decide (4950000 ≤ v ∧ v ≤ 5050000)

end Device

end Sys2Proof.Machine
end

