-- ==== Sys2Proof/Machine/Cal.lean ====
section
/-!
DEFINITION. The commands of the Tuning engine (R302 to R333).
-/

namespace Sys2Proof.Machine

namespace Device

/-- A write of CAL_CMD (R318, R331): with GO one it queues a request; one that finds 64 waiting is refused. The target of a slice operation is
the spare, or the slice that serves the channel once its remapped pin is on the spare, else the channel's primary slice. -/
def calCmd (d : Device) (p : Party) (raw : Word) : Device :=
  let a := 0x60014
  let (v, hits) := d.cook a raw
  let d := d.reportHits (srcOf p) a a 0 0xFFFF hits
  let n := bitsOf v 0 10
  let op := bitsOf v 16 3
  let k := if bitOf v 10 ∨ d.flag (aCH n 0x38) 14 then 32 else n % 32
  let q : CalReq := ⟨op, if op ≤ 2 then 33 * (n / 32) + k else if op = 3 then n else n % 4, if op = 1 ∨ op = 2 then bitsOf v 12 3 else 0⟩
  if !bitOf raw 31 then d
  else if 64 ≤ d.cal.reqs.length then d.refuse a
  else (d.setCal { d.cal with reqs := d.cal.reqs ++ [q] }).fset 0x60004 8 7 (d.cal.reqs.length + 1)

/-- The data of a CAL_CMD write with OP fixed by its row. -/
def calOp (w : Wr) (op : Nat) : Word := setBits w.data 16 3 op

/-- CAL_CMD SAVE with GO one (R327). -/
def calSave (d : Device) (m : Mem) (raw : Word) (ok : Bool) : Mem × Device := if bitOf raw 31 then d.saveCal m ok else (m, d)

/-- CAL_CMD ABORT with GO one: the run ends and is not scheduled again (R319). OP 0b111 is clamped to it. -/
def calAbort (d : Device) (p : Party) (raw : Word) : Device :=
  let (_, hits) := d.cook 0x60014 raw
  let d := d.reportHits (srcOf p) 0x60014 0x60014 0 0xFFFF hits
  if bitOf raw 31 then d.endCal true else d

/-- A write of CAL_CTL: EN written to zero ends the run (R319). -/
def calControl (d : Device) (p : Party) (raw : Word) : Device :=
  let d := d.putCooked p 0x60000 raw
  if d.flag 0x60000 0 then d else d.endCal false

/-- Range `r` of slice `s` is due (R318): PERIOD hours since its last commit, or its sensor has moved by more than DTEMP K since then. -/
def calDue (d : Device) (s r : Nat) : Bool :=
  let period := d.fget 0x60010 0 14
  let dtemp := d.fget 0x60010 16 6
  (decide (period ≠ 0) && decide (d.lastCommit s r + 3600 * period ≤ d.cal.seconds)) ||
  (decide (dtemp ≠ 0) && decide (16 * dtemp < (d.tempOf s - d.lastTemp s r).natAbs))

/-- A range falls due while CAL_CTL.AUTO is one (R318). -/
def autoDue (d : Device) (s r : Nat) : Device :=
  let q : CalReq := ⟨1, s, r⟩
  if d.flag 0x60000 1 = false ∨ d.calDue s r = false ∨ d.cal.auto.contains q ∨ (d.calibrates s ∧ (d.cal.run.any fun x => x.left.contains r)) then d
  else d.setCal { d.cal with auto := insertDue (fun x => (d.lastCommit x.target x.range, x.target * 8 + x.range)) q d.cal.auto }

/-- A range that ended DISTURBED joins item 3 of R318, no earlier than 1 s later (R313). -/
def disturbedAgain (d : Device) (s r : Nat) : Device :=
  match d.cal.dist.find? fun p => p.1.target == s && p.1.range == r && decide (p.1.op ≤ 2) && decide (p.2 ≤ d.edge) with
  | some p => d.setCal { d.cal with dist := d.cal.dist.erase p, again := d.cal.again ++ [p.1] }
  | none => d

/-- A commit of range `r` of slice `s` (R311, R312, R327). -/
def committedRange (d : Device) (s r : Nat) : Device :=
  let d := ((d.fsetB (aCAL s 0x18) r false).fsetB (aCAL s 0x18) (8 + r) false).dirty.event 0x60008 2
  d.setCal { d.cal with run := d.cal.run.map fun x => { x with committed := true } }

/-- A range failed (R312): UNCAL, with an event of class T, or of class P beyond 50 ppm of range. -/
def failedRange (d : Device) (s r residual : Nat) : Device :=
  let d := (d.fsetB (aCAL s 0x18) r true).event 0x60008 3
  let d := (d.fsetB (aCAL s 0x18) (8 + r) false).dirty
  let res : Resource := .slice (Fin.ofNat 1056 s)
  if 50 < residual ∨ d.tooMany res then (d.event 0x60008 9).sliceClassP s 4 residual
  else (d.faultEntry .t 0x01 s 4 0 residual).1.noteT res

/-- A range ended DISTURBED (R313). -/
def disturbedRange (d : Device) (q : CalReq) (r : Nat) : Device :=
  let d := ((d.fsetB (aCAL q.target 0x18) (8 + r) true).event 0x60008 4).notice 0x01 q.target 0x34 0
  d.setCal { d.cal with dist := d.cal.dist ++ [(⟨if q.op = 0 then 1 else q.op, q.target, r⟩, d.edge + secTs)] }

/-- The range in progress would not end within its idle gap, which holds the preparation of its return too (R316, R319). -/
def gapShort (d : Device) (r : CalRun) (endsAt : Nat) : Bool :=
  match r.via with
  | .gap (some e) =>
    let n := 32 * (r.req.target / 33) + r.req.target % 33
    decide (e < max d.edge (endsAt + prepTime (d.rd (aCH n 0)) (d.rd (aCH n 4))))
  | _ => false

/-- What the phases of a range come to takes effect (R311 to R314, R320). -/
def endRange (d : Device) (q : CalReq) (i : Nat) (x : CalEnd) (refOk : Bool) : Device :=
  let s := q.target
  match x with
  | .disturbed => (d.disturbedRange q i).nextStep refOk
  | .disagreed res => (d.failedRange s i res).nextStep refOk
  | .fitted sense force quality res =>
    match (if q.op = 2 then d.quickCommit s i sense force else d.fullCommit s i sense force quality) with
    | some d => (d.committedRange s i).nextStep refOk
    | none => (d.failedRange s i res).nextStep refOk

/-- The phases of the range in progress end (R309 to R314, R319, R320), not before the time that they take. -/
def rangeEnd (d : Device) (m : CalMeas) (vref : Int) : Device :=
  match d.cal.run with
  | none => d
  | some r =>
    let i := r.left.headD 0
    match r.start with
    | none => d
    | some b =>
      let endsAt := b + rangeTicks r.req.op (d.fget 0x6000C 0 7) i m
      if 2 < r.req.op then d
      else if d.gapShort r endsAt then d.endCal false
      else if d.edge < endsAt then d
      else d.endRange r.req i (d.judge r.req.op r.req.target i m) (refGood vref)

/-- Pairs of a tap or meter point that count (R310): up to the first that agrees, three at most. -/
def triedBy (tol : Nat) : Nat → List (Int × Int) → List (Int × Int)
  | 0, _ => []
  | _ + 1, [] => []
  | k + 1, p :: r => if agrees tol p then [p] else p :: triedBy tol k r

/-- One tap has been measured (R321), 256 Ts a pair: its mean resistance in mΩ; above 36 Ω its bus has a class P fault. Pairs that do not agree within 0.1 Ω
leave the table as it was (DESIGN CHOICE, assumption 87). -/
def tapEnd (d : Device) (p : Nat) (pairs : List (Nat × Nat)) (vref : Int) : Device :=
  match d.cal.run with
  | none => d
  | some r =>
    match r.start with
    | none => d
    | some b =>
      let ps := triedBy 100 3 (pairs.map fun x => ((x.1 : Int), (x.2 : Int)))
      let z := ps.getLastD (0, 0)
      if r.req.op ≠ 3 ∨ r.left.headD 99 ≠ p ∨ d.edge < b + 256 * ps.length then d
      else if ps = [] ∨ agrees 100 z = false then d.nextStep (refGood vref)
      else
        let milliohm := (roundDiv (pairSum z) 2).toNat
        let d := (d.setCal { d.cal with taps := tabSet (fun _ => 0xFFFF) (34 * r.req.target + p) (min milliohm 0xFFFE) d.cal.taps }).dirty
        let d := d.nextStep (refGood vref)
        if 36000 < milliohm then (d.event 0x60008 9).busClassP p 0x0A milliohm else d

/-- CAL_RMUQ of meter `m`: the largest quality figure over its ranges, and UNCAL while one is (R322). -/
def noteRmuQ (d : Device) (m : Nat) : Device :=
  let q := (List.range 23).foldl (fun q i => max q (tabGet (fun _ => 0xFFFF) d.cal.rmuQ (32 * m + i))) 0
  (d.fset (0x60040 + 4 * m) 0 16 q).fsetB (0x60040 + 4 * m) 16 (d.cal.rmuUncal.any fun x => x / 32 == m)

/-- The calibration of one meter range ends (R322): it commits, ends DISTURBED, or fails. Each pair is two conversions of a 1 ms window and a zero
window. -/
def rmuEnd (d : Device) (x : RmuCal) (vref : Int) : Device :=
  match d.cal.run, d.cal.run.bind CalRun.start with
  | some r, some b =>
    let m := r.req.target
    let key := 32 * m + r.left.headD 0
    let tol := 10 * d.fget 0x6000C 0 7
    let zs := triedBy tol 3 x.zeros
    let fs := triedBy tol 3 x.fulls
    let good := decide (zs ≠ []) && decide (fs ≠ []) && agrees tol (zs.getLastD (0, 0)) && agrees tol (fs.getLastD (0, 0))
    let refOk := refGood vref
    if r.req.op ≠ 4 ∨ (!x.disturbed ∧ d.edge < b + 81920 * (zs.length + fs.length)) then d
    else if x.disturbed then
      let d := (d.event 0x60008 4).notice 0x05 m 0x34 0
      (d.setCal { d.cal with dist := d.cal.dist ++ [(r.req, d.edge + secTs)] }).nextStep refOk
    else if good then
      let k := d.cal
      let d := d.setCal { k with rmuQ := tabSet (fun _ => 0xFFFF) key (min x.quality 0xFFFE) k.rmuQ, rmuVals := tabSet (fun _ => (0, 0)) key (x.gain, x.offset) k.rmuVals,
                                 rmuUncal := k.rmuUncal.filter (· != key) }
      ((d.noteRmuQ m).dirty.event 0x60008 2).nextStep refOk
    else
      let d := ((d.setCal { d.cal with rmuUncal := key :: d.cal.rmuUncal.filter (· != key) }).noteRmuQ m).event 0x60008 3
      let d := d.dirty
      let who : Resource := .rmu (Fin.ofNat 4 m)
      if 50 < x.residual ∨ d.tooMany who then ((d.event 0x60008 9).clearRun).rmuClassP m 0x0D x.residual
      else ((d.faultEntry .t 0x05 m 0x0D 0 x.residual).1.noteT who).nextStep refOk
  | _, _ => d

/-- SAVEINT seconds after the first commit that set DIRTY firmware saves the values (R327). -/
def saveTimer (d : Device) (m : Mem) (ok : Bool) : Mem × Device :=
  match d.cal.dirtySince with
  | some e => if e + secTs * d.fget 0x6000C 16 12 ≤ d.edge then d.saveCal m ok else (m, d)
  | none => (m, d)

/-- A write of CAL_VU (R332): the value that CAL_VSEL selects takes effect at the next sample edge. -/
def vuWrite (d : Device) (p : Party) (raw : Word) : Device :=
  let a := 0x6002C
  let v := d.rd 0x60024
  let s := bitsOf v 0 11
  let r := bitsOf v 12 3
  let path := bitsOf v 15 1
  let item := bitsOf v 16 4
  if d.calibrates s ∨ (path = 1 ∧ 2 < r) ∨ item = 12 then d.refuse a
  else
    let x := toSigned 32 raw.toNat
    let y := clampInt (itemLim path item).1 (itemLim path item).2 x
    let d := if x = y then d else (d.reportClamp (srcOf p) (some a) 0 0xFFFF 32 a 0 x y).eventClamped a
    let d := (d.setCal { d.cal with old := some (d.cal.old.getD d.cal.user) }).setUser (calKey s r path item) y
    let d := ((d.fsetB (aCAL s 0x18) r false).setQual s r 0xFFFF).dirty
    let c := s / 33
    let n := if s % 33 = 32 then (d.crs c).spareFor.getD 0 else 32 * c + s % 33
    let serves := decide (d.sliceOf n = s) && (decide (s % 33 ≠ 32) || (d.crs c).spareFor.isSome)
    d.countCal s (if serves then some n else none)

/-- The sensors are read every 20,480 Ts (R307): 16 readings in 1/16 °C. The slices apply them at the next sample edge. -/
def readSensors (d : Device) (ts : List Int) : Device :=
  if d.edge < d.cal.sensedAt + 20480 then d
  else
    (List.range 16).foldl (fun d i => match ts[i]? with
      | some t => d.fset (0x60080 + 4 * i) 0 16 (ofSigned 16 t)
      | none => d) (d.setCal { d.cal with sensedAt := d.edge })

/-- Meter ranges that ended DISTURBED join item 3 of R318 once their second is over (R313, R322). -/
def ripenRmu (d : Device) : Device :=
  let ripe (p : CalReq × Nat) : Bool := decide (p.1.op = 4) && decide (p.2 ≤ d.edge)
  d.setCal { d.cal with dist := d.cal.dist.filter fun p => !ripe p, again := d.cal.again ++ (d.cal.dist.filter ripe).map Prod.fst }

end Device

/-- CAL_CMD_FULL (R318): a write of CAL_CMD with OP FULL. -/
def execCalCmdFull (w : Wr) (s : State) : Host.Outcome State Fault Refusal :=
  .next (s.onDev fun d => d.write w 0x60014 fun d => d.calCmd w.by_ (Device.calOp w 0))

/-- CAL_CMD_RANGE (R318): a write of CAL_CMD with OP RANGE. -/
def execCalCmdRange (w : Wr) (s : State) : Host.Outcome State Fault Refusal :=
  .next (s.onDev fun d => d.write w 0x60014 fun d => d.calCmd w.by_ (Device.calOp w 1))

/-- CAL_CMD_QUICK (R314): a write of CAL_CMD with OP QUICK. -/
def execCalCmdQuick (w : Wr) (s : State) : Host.Outcome State Fault Refusal :=
  .next (s.onDev fun d => d.write w 0x60014 fun d => d.calCmd w.by_ (Device.calOp w 2))

/-- CAL_CMD_TAPS (R321): a write of CAL_CMD with OP TAPS. -/
def execCalCmdTaps (w : Wr) (s : State) : Host.Outcome State Fault Refusal :=
  .next (s.onDev fun d => d.write w 0x60014 fun d => d.calCmd w.by_ (Device.calOp w 3))

/-- CAL_CMD_RMU (R322): a write of CAL_CMD with OP RMU. -/
def execCalCmdRmu (w : Wr) (s : State) : Host.Outcome State Fault Refusal :=
  .next (s.onDev fun d => d.write w 0x60014 fun d => d.calCmd w.by_ (Device.calOp w 4))

/-- CAL_CMD_SAVE (R327): a write of CAL_CMD with OP SAVE; `ok` says that a readback of the target matched. -/
def execCalCmdSave (w : Wr) (ok : Bool) (s : State) : Host.Outcome State Fault Refusal :=
  .next (s.onWrite w 0x60014 fun m d => d.calSave m w.data ok)

/-- CAL_CMD_ABORT (R319): a write of CAL_CMD with OP ABORT, or the reserved code that is clamped to it (R13). -/
def execCalCmdAbort (w : Wr) (s : State) : Host.Outcome State Fault Refusal :=
  .next (s.onDev fun d => d.write w 0x60014 fun d => d.calAbort w.by_ (setBits w.data 17 2 3))

/-- CAL_CTL_WRITE (R319). -/
def execCalCtlWrite (w : Wr) (s : State) : Host.Outcome State Fault Refusal :=
  .next (s.onDev fun d => d.write w 0x60000 fun d => d.calControl w.by_ w.data)

/-- AUTO_CAL_DUE (R318). -/
def execAutoCalDue (i : Fin 1056) (r : Fin 8) (s : State) : Host.Outcome State Fault Refusal := .next (s.onDev fun d => d.autoDue i r)

/-- CALIBRATION_START (R315); `vref` is VREFP less VREFM in microvolts (R305). -/
def execCalibrationStart (vref : Int) (s : State) : Host.Outcome State Fault Refusal :=
  .next (s.onDev fun d => d.ripenRmu.calStart (Device.refGood vref))

/-- CAL_RANGE_END (R309). -/
def execCalRangeEnd (m : CalMeas) (vref : Int) (s : State) : Host.Outcome State Fault Refusal := .next (s.onDev fun d => d.rangeEnd m vref)

/-- DISTURBED_RESCHEDULE (R313). -/
def execDisturbedReschedule (i : Fin 1056) (r : Fin 8) (s : State) : Host.Outcome State Fault Refusal :=
  .next (s.onDev fun d => d.disturbedAgain i r)

/-- TAP_MEASURE_END (R321). -/
def execTapMeasureEnd (b : Fin 34) (pairs : List (Nat × Nat)) (vref : Int) (s : State) : Host.Outcome State Fault Refusal :=
  .next (s.onDev fun d => d.tapEnd b pairs vref)

/-- RMU_CAL_END (R322). -/
def execRmuCalEnd (x : RmuCal) (vref : Int) (s : State) : Host.Outcome State Fault Refusal := .next (s.onDev fun d => d.rmuEnd x vref)

/-- CAL_SAVE_TIMER (R327). -/
def execCalSaveTimer (ok : Bool) (s : State) : Host.Outcome State Fault Refusal := .next (s.onMem fun m d => d.saveTimer m ok)

/-- CAL_VU_WRITE (R332). -/
def execCalVuWrite (w : Wr) (s : State) : Host.Outcome State Fault Refusal :=
  .next (s.onDev fun d => d.write w 0x6002C fun d => d.vuWrite w.by_ w.data)

/-- CAL_EPOCH_WRITE (R325). -/
def execCalEpochWrite (w : Wr) (s : State) : Host.Outcome State Fault Refusal :=
  .next (s.onDev fun d => d.write w 0x60018 fun d => d.epochWrite w.data)

/-- EPOCH_TICK (R325): one second has passed. -/
def execEpochTick (s : State) : Host.Outcome State Fault Refusal := .next (s.onDev fun d => d.second)

/-- SENSOR_READ (R307). -/
def execSensorRead (temps : List Int) (s : State) : Host.Outcome State Fault Refusal := .next (s.onDev fun d => d.readSensors temps)

end Sys2Proof.Machine
end

