-- ==== Sys2Proof/Machine/Capo.lean ====
section
/-!
DEFINITION. The commands of Capo and of the watchdog (R346 to R351).
-/

namespace Sys2Proof.Machine

namespace Device

/-- A write of CAPO_CMD (R346, R348, R355). Before ENABLE_WRITES only SAFE acts; other bits of the same write are dropped with one notice
(R393). A release under policy AUTO, or outside SAFE, has nothing to do. SAFE acts last. -/
def capoCmd (d : Device) (p : Party) (raw : Word) : Device :=
  let early := decide (p ≠ .firmware) && !d.writesOn
  let d :=
    if early then (if bitOf raw 1 || bitOf raw 31 then d.noticeRefused 0x40010 else d)
    else
      let d := if bitOf raw 1 then d.causeGone 6 else d
      if bitOf raw 31 && d.flag 0x4000C 0 && decide (d.capo = 2) then
        if d.mayRelease then d.releaseCapo else d.noticeRefused 0x40010
      else d
  if bitOf raw 0 then d.tripSafe 6 else d

/-- RDELAY ms after the conditions of R348 began to hold, firmware releases under policy AUTO. -/
def rdelayOver (d : Device) : Device :=
  match d.sys.capo.ready with
  | some e => if d.flag 0x4000C 0 = false ∧ d.capo = 2 ∧ d.mayRelease ∧ e + 20480 * d.fget 0x4000C 8 8 ≤ d.edge then d.releaseCapo else d
  | none => d

/-- The watchdog's stage (R351): 0 none, 1 first, 2 second, 3 held in reset. -/
def wdStage (d : Device) : Nat := d.fget 0x50010 0 2

/-- An accepted kick (R351): the period starts again; it ends cause WATCHDOG, and with a step engine armed again the stage. -/
def kick (d : Device) (p : Party) (raw : Word) : Device :=
  if p = .firmware ∧ raw = 0xC3A5 ∧ d.wdStage ≠ 3 then
    let c := d.sys.capo
    let d := d.setCapoSt { c with kicked := true, wdFrom := if d.wdStage = 0 then d.edge else c.wdFrom }
    let d := if c.rearmed || decide (d.wdStage = 2) then (d.fset 0x50010 0 2 0).setCapoSt { d.sys.capo with wdFrom := d.edge } else d
    if d.flag 0x40008 5 then d.causeGone 5 else d
  else d

/-- PERIOD ms without a kick (R351): the first stage, a warm start under HOLD. -/
def wdExpiry (d : Device) : Device :=
  if d.flag 0x50008 31 ∧ d.wdStage = 0 ∧ d.sys.capo.wdFrom + 20480 * d.fget 0x50008 0 10 ≤ d.edge then
    let d := ((d.fset 0x50010 0 2 1).bump 0x50010 16 16).event 0x50004 5
    (d.notice 0x0A 0 0x38 0).beginWarm 1
  else d

/-- 40 ms after the first stage without re-arming and a kick (R351): SAFE with cause WATCHDOG, and firmware restarts without the patch. -/
def wdSecond (d : Device) : Device :=
  let c := d.sys.capo
  if d.wdStage = 1 ∧ (c.rearmed && c.kicked) = false ∧ c.wdFrom + 819200 ≤ d.edge then
    let d := (d.fset 0x50010 0 2 2).fsetB 0x50010 2 true
    let d := (d.fsetB 0x30010 1 false).wr 0x30014 0
    let w : WarmRun := match d.sys.warm with | some w => w | none => ⟨1, d.fget 0x20000 0 5, []⟩
    let d := { d with sys := { d.sys with warm := some w } }
    let d := ((d.fset 0x20000 0 5 11).fset 0x20000 5 2 1).fsetB 0x80004 16 false
    let d := (d.event 0x40004 9).fsetB 0x40008 9 true
    let d := d.tripSafe 5
    d.setCapoSt { d.sys.capo with wdFrom := d.edge, rearmed := false, kicked := false, ready := none }
  else d

/-- 1 s after the second stage without a kick (R351): the supervisor stays in reset. -/
def wdThird (d : Device) : Device :=
  let c := d.sys.capo
  if d.wdStage = 2 ∧ c.kicked = false ∧ c.wdFrom + 20480000 ≤ d.edge then (d.fset 0x50010 0 2 3).noteRel else d

/-- CAPO_N is low (R346): cause CAPON unless CAPO_CFG.CAPONMASK masks it. -/
def capoNLow (d : Device) : Device :=
  let d := d.setCapoSt { d.sys.capo with pinLow := true }
  if d.flag 0x4000C 4 then d else d.tripSafe 4

end Device

/-- SUPPLY_OUT_OF_WINDOW (R346). -/
def execSupplyOutOfWindow (r : Rail) (s : State) : Host.Outcome State Fault Refusal :=
  .next (s.onDdr fun d => (d.event 0x40014 r).tripSafe 2)

/-- SUPPLY_RESTORED (R346): every rail has been back in its window for 1 ms. -/
def execSupplyRestored (s : State) : Host.Outcome State Fault Refusal := .next (s.onDev fun d => d.causeGone 2)

/-- OVERTEMP_TRIP (R346). -/
def execOvertempTrip (s : State) : Host.Outcome State Fault Refusal := .next (s.onDdr fun d => d.tripSafe 3)

/-- OVERTEMP_CLEAR (R346). -/
def execOvertempClear (s : State) : Host.Outcome State Fault Refusal := .next (s.onDev fun d => d.causeGone 3)

/-- CAPO_N_ASSERT (R346). -/
def execCapoNAssert (s : State) : Host.Outcome State Fault Refusal := .next (s.onDdr fun d => d.capoNLow)

/-- CAPO_N_RELEASE (R346). -/
def execCapoNRelease (s : State) : Host.Outcome State Fault Refusal :=
  .next (s.onDev fun d => (d.setCapoSt { d.sys.capo with pinLow := false }).causeGone 4)

/-- CAPO_CMD_SAFE (R346): a write of CAPO_CMD whose SAFE bit is one. -/
def execCapoCmdSafe (w : Wr) (s : State) : Host.Outcome State Fault Refusal :=
  .next (s.onDdr fun d => d.write w 0x40010 fun d => d.capoCmd w.by_ (setBits w.data 0 1 1))

/-- CAPO_CMD_CLRHOST (R346): a write of CAPO_CMD whose CLRHOST bit is one and whose SAFE bit is zero. -/
def execCapoCmdClrhost (w : Wr) (s : State) : Host.Outcome State Fault Refusal :=
  .next (s.onDdr fun d => d.write w 0x40010 fun d => d.capoCmd w.by_ (setBits w.data 0 2 2))

/-- CAPO_CMD_RELEASE (R348): a write of CAPO_CMD whose RELEASE bit is one and whose SAFE and CLRHOST bits are zero. -/
def execCapoCmdRelease (w : Wr) (s : State) : Host.Outcome State Fault Refusal :=
  .next (s.onDdr fun d => d.write w 0x40010 fun d => d.capoCmd w.by_ (setBits (setBits w.data 0 2 0) 31 1 1))

/-- CAPO_RDELAY_EXPIRY (R348). -/
def execCapoRdelayExpiry (s : State) : Host.Outcome State Fault Refusal := .next (s.onDev fun d => d.rdelayOver)

/-- WATCHDOG_KICK (R351): a write of FAULT_WDKICK. -/
def execWatchdogKick (w : Wr) (s : State) : Host.Outcome State Fault Refusal :=
  .next (s.onDev fun d => d.write w 0x5000C fun d => d.kick w.by_ w.data)

/-- WATCHDOG_EXPIRY (R351). -/
def execWatchdogExpiry (s : State) : Host.Outcome State Fault Refusal := .next (s.onDdr fun d => d.wdExpiry)

/-- WATCHDOG_STAGE2 (R351). -/
def execWatchdogStage2 (s : State) : Host.Outcome State Fault Refusal := .next (s.onDdr fun d => d.wdSecond)

/-- WATCHDOG_STAGE3 (R351). -/
def execWatchdogStage3 (s : State) : Host.Outcome State Fault Refusal := .next (s.onDev fun d => d.wdThird)

end Sys2Proof.Machine
end

