-- ==== Sys2Proof/Machine/ChordOps.lean ====
section
/-!
DEFINITION. The Chord link (R479 to R497): ports, joining, forwarding, alignment, triggers, Capo origins, tokens.
-/

namespace Sys2Proof.Machine

namespace Device

/-- The device is in the tree: JOINED, ALIGNING, ALIGNED or ROOT. -/
def inTree (d : Device) : Bool := [2, 3, 4, 6].contains d.chordState

/-! Ports and joining (R480 to R485). -/

/-- CHORD_ORIG follows the set of origins (R497). -/
def noteOrigins (d : Device) : Device :=
  let os := d.link.origins.map Prod.fst
  let low := os.foldl min 2047
  ((d.fset 0xB0024 0 11 os.length).fset 0xB0024 16 11 low).noteChord

/-- Replace the set of origins. -/
def setOrigins (d : Device) (os : List (Nat × Nat)) : Device := (d.setLink { d.link with origins := os }).noteOrigins

/-- Port `p` goes DOWN (R484, R485, R488, R493): a member whose UP port it is leaves the tree and keeps its ID. -/
def portDown (d : Device) (p : Nat) : Device :=
  if d.fget (aPORT p 0) 0 2 = 0 then d
  else
    let d := (((d.fset (aPORT p 0) 0 2 0).bump (aPORT p 0) 16 16).event 0xB0004 2)
    let d := if p = 0 ∧ d.chordState ≠ 6 then (d.unalign 0).fset 0xB0000 0 3 0 else d
    d.noteChord

/-- Port `p` is UP again with the far end's set of origins (R481, R484, R493). A port that reads REFUSED has not been DOWN. -/
def portRises (d : Device) (p : Nat) (far : List Nat) : Device :=
  if 2 ≤ d.fget (aPORT p 0) 0 2 then d
  else
    let d := (d.fset (aPORT p 0) 0 2 2).event 0xB0004 3
    let d := if p = 0 ∧ d.chordState ≠ 6 then (d.fset 0xB0000 0 3 1).sendMsg (.join 0 []) else d
    let own := d.link.origins.filter fun o => decide (o.2 ≠ p)
    let new := (far.filter fun o => decide (o ≠ d.chordId) && !own.any fun x => x.1 == o).eraseDups
    let d := own.foldl (fun d o => d.sendOn [p] (.capo o.1 true)) d
    let d := if d.sys.capo.asserting then d.sendOn [p] (.capo d.chordId true) else d
    d.setOrigins (own ++ new.map fun o => (o, p))

/-- The ID for a path (R481): the one that it held, else the lowest free one. -/
def idFor (d : Device) (path : List Nat) : Option Nat :=
  match d.link.members.find? fun m => m.1 == path with
  | some m => some m.2
  | none =>
    if path.isEmpty ∨ 8 < path.length ∨ 2046 ≤ d.link.members.length then none
    else ((List.range 2046).map (· + 1)).find? fun i => !d.link.members.any fun m => m.2 == i

/-- A JOIN reaches the device: unit 0 is the device's own request. The root answers with an ID or a refusal; others forward it upward
(R480, R481, R486). -/
def join (d : Device) (unit_ : Nat) (path : List Nat) : Device :=
  if unit_ = 0 then (if d.chordState = 1 then d.sendMsg (.join 0 path) else d)
  else if d.chordState = 6 then
    match d.idFor path with
    | some i =>
      let ms := if d.link.members.any fun m => m.1 == path then d.link.members else d.link.members ++ [(path, i)]
      let d := (d.setLink { d.link with members := ms }).fset 0xB0028 0 11 (1 + ms.length)
      d.sendMsg (.assign unit_ path (some i))
    | none => (d.event 0xB0004 4).sendMsg (.assign unit_ path none)
  else d.forward 4 (.join unit_ path)

/-- An ASSIGN reaches the device: its own when the unit is 0, else it goes on along its path (R481, R482). The UP port of a refused device reads
REFUSED (assumption 67). -/
def assign (d : Device) (unit_ : Nat) (path : List Nat) (id : Option Nat) : Device :=
  if d.chordState = 6 then d
  else if unit_ = 0 then
    match id with
    | some i =>
      let d := (d.fset 0xB0000 8 11 i).fset 0xB0000 4 4 path.length
      let d := if [1, 5].contains d.chordState then d.fset 0xB0000 0 3 2 else d
      let d := if d.fget (aPORT 0 0) 0 2 = 3 then d.fset (aPORT 0 0) 0 2 2 else d
      d.noteOwn.noteChord
    | none => (((d.unalign 5).fset 0xB0000 0 3 5).fset (aPORT 0 0) 0 2 3).event 0xB0004 4
  else d.forward 0 (.assign unit_ path id)

/-- Lexicographic order of paths: each device before its subtree, and DN0 before DN1 before DN2 (R482). -/
def pathLe : List Nat → List Nat → Bool
  | [], _ => true
  | _ :: _, [] => false
  | a :: x, b :: y => decide (a < b) || (decide (a = b) && pathLe x y)

/-- Insert a path in preorder. -/
def insPath (x : List Nat) : List (List Nat) → List (List Nat)
  | [] => [x]
  | y :: r => if pathLe x y then x :: y :: r else y :: insPath x r

/-- An enumeration pass (R482). -/
def enumerate (d : Device) : Device :=
  if d.chordState ≠ 6 ∨ d.listsBusy ∨ d.sys.capo.asserting ∨ d.link.origins ≠ [] then d.refuse 0xB000C
  else
    let ms := ((d.link.members.map Prod.fst).foldr insPath []).mapIdx fun i p => (p, i + 1)
    let d := ms.foldl (fun d m => d.sendMsg (.assign (m.2 + 1) m.1 (some m.2))) (d.setLink { d.link with members := ms, tokenAt := [] })
    { d with regs := d.regs.filter fun p => decide (p.1 < 0xB4000) || decide (0xB4000 + 4 * 2047 ≤ p.1) }

/-- CLRORIG (R493): origins learned through ports now DOWN leave the set. -/
def clearOrigins (d : Device) : Device := d.setOrigins (d.link.origins.filter fun o => decide (2 ≤ d.fget (aPORT o.2 0) 0 2))

/-- A write of CHORD_CTL. -/
def chordCtl (d : Device) (raw : Word) : Device :=
  let d := if bitOf raw 1 then d.clearOrigins else d
  if bitOf raw 0 then d.enumerate else d

/-! Capo (R492). -/

/-- A CAPO message acts once for each sequence number, and goes on (R486, R492). -/
def capoMsg (d : Device) (m : CapoMsg) : Device :=
  let key := (m.origin.toNat, m.seq)
  if d.portUp m.port = false ∨ d.chordState = 5 ∨ d.link.seenCapo.contains key then d
  else
    let d := d.setLink { d.link with seenCapo := d.link.seenCapo ++ [key] }
    let d := d.forward m.port (.capo m.origin.toNat m.assert_)
    let o := m.origin.toNat
    if o = d.chordId then d
    else if m.assert_ then
      (if d.link.origins.any fun x => x.1 == o then d else d.setOrigins (d.link.origins ++ [(o, m.port.val)]))
    else d.setOrigins (d.link.origins.filter fun x => x.1 != o)

/-- ASSERT is repeated every 1 ms while a cause stands (R492). -/
def repeatAssert (d : Device) : Device :=
  let c := d.sys.capo
  if c.asserting ∧ c.sentAt + 20480 ≤ d.edge then (d.setCapoSt { c with sentAt := d.edge }).sendMsg (.capo d.chordId true) else d

/-! Triggers (R490, R491). -/

/-- A TRIG reaches the device. -/
def trigMsg (d : Device) (m : TrigMsg) : Device :=
  let key := (m.sender.toNat, m.seq)
  if d.portUp m.port = false ∨ d.inTree = false ∨ d.quiet ∨ d.link.seenTrig.contains key then d
  else
    let d := d.setLink { d.link with seenTrig := d.link.seenTrig ++ [key] }
    let d := d.forward m.port (.trig m.sender.toNat m.dest.toNat m.list m.edgeN.toNat)
    if m.dest.toNat = 2047 ∨ m.dest.toNat = d.chordId then d.takeTrig m.list m.edgeN.toNat else d

/-- A write of CHORD_SEND with GO (R491). -/
def chordSend (d : Device) (raw : Word) : Device :=
  if d.maySend then d.sendTrig (bitsOf raw 8 11) (bitsOf raw 0 8) ((d.link.sedge + 1 + d.fget 0xB0008 0 11) % 2 ^ 48)
  else d.refuse 0xB0010

/-! Positions and alignment (R486 to R489). -/

/-- Horizon L for the latency from the root (R489). -/
def horizon (d : Device) : Nat := ceilDiv ((d.fget 0xB0020 0 24 + 25600) * 16) 78125

/-- The device becomes ALIGNED at this edge (R488). -/
def align (d : Device) (m : PosMsg) : Device :=
  let n := (m.sedge.toNat + (d.edge - m.localEdge)) % 2 ^ 48
  ((d.fset 0xB0000 0 3 4).event 0xB0004 0).setLink { d.link with sedge := n, outRow := 0 }

/-- Alignment after a POS message (R488). -/
def stepAlign (d : Device) (m : PosMsg) : Device :=
  let l := d.horizon
  let err := m.phaseErr.natAbs
  let d := (d.fset 0xB001C 16 11 (min l 2047)).fset 0xB001C 0 16 (ofSigned 16 (clampInt (-32768) 32767 m.phaseErr))
  if d.flag 0x10000 12 = false then d
  else if 1024 < l then ((d.unalign 2).fset 0xB0000 0 3 2).event 0xB0004 7
  else
    let d := if d.chordState = 2 then d.fset 0xB0000 0 3 3 else d
    let d := d.setLink { d.link with inRow := if err ≤ 50 then d.link.inRow + 1 else 0, outRow := if 100 < err then d.link.outRow + 1 else 0 }
    if d.chordState = 3 then (if 16 ≤ d.link.inRow then d.align m else d)
    else if 4 ≤ d.link.outRow then d.unalign 3 else d

/-- RSRC of an axis that never locked follows the root axis (R174). -/
def noteRsrc (d : Device) (m : PosMsg) : Device :=
  (List.range 4).foldl (fun d a =>
    if d.axSrc a = 5 ∧ (d.ax a).everLocked = false then
      match m.axes[d.fget (aPOS a 0) 12 2]? with
      | some r => d.fset (aPOS a 0x2C) 4 3 r.src.toNat
      | none => d
    else d) d

/-- A POS message reaches the device on its UP port (R174, R486, R488). -/
def posMsg (d : Device) (m : PosMsg) : Device :=
  if d.portUp 0 = false ∨ d.chordState = 5 ∨ d.chordState = 6 ∨ d.quiet then d
  else
    let d := d.forward 0 (.pos m)
    if d.inTree = false ∨ d.flag 0x10000 14 then d
    else
      let d := { d with posMsgs := (m :: d.posMsgs).take 256 }
      let d := (d.noteRsrc m).stepAlign m
      (List.range 4).foldl chordLock d

/-- The present rate of axis `a` in 2^-32 ticks per Ts. The rate of an ENCODER axis is sent as 0 (assumption 13). -/
def axRate (d : Device) (a : Nat) : Int :=
  let x := d.ax a
  if d.axState a < 2 then 0
  else match d.axSrc a with
    | 1 => 2 ^ 32
    | 3 => if d.axMeas a then (if x.per = 0 then 0 else (x.span * 2 ^ 32 / x.per : Nat)) else ((d.rd (aPOS a 0x1C)).toNat : Int)
    | 2 => if x.per = 0 then 0 else (x.span * 2 ^ 32 / x.per : Nat)
    | _ => 0

/-- What a POS message says of axis `a`. -/
def posAxis (d : Device) (a : Nat) : PosAxis :=
  ⟨BitVec.ofNat 48 (d.ax a).c, BitVec.ofNat 2 (d.axState a), BitVec.ofNat 3 (d.axSrc a), d.axRate a, d.fget (aPOS a 0x38) 16 16, d.axZ a⟩

/-- The root sends a POS message every 256 ns, 5.24288 Ts (R486); not in QUIET (R495). -/
def sendPos (d : Device) : Device :=
  let now := 100000 * d.edge
  if d.chordState = 6 ∧ d.quiet = false ∧ d.link.posDue ≤ now then
    let next := if d.link.posDue + 524288 ≤ now then now + 524288 else d.link.posDue + 524288
    (d.setLink { d.link with posDue := next }).sendMsg (.pos ⟨BitVec.ofNat 48 d.link.sedge, (List.range 4).map d.posAxis, 0, d.edge, d.edge⟩)
  else d

/-- The time `n` in Ts has passed since an edge, if there was one. -/
def passed (d : Device) (n : Nat) (last : Option Nat) : Bool :=
  match last with
  | some e => decide (e + n ≤ d.edge)
  | none => true

/-- The device begins a latency exchange on its UP port every 100 µs (R487). -/
def sendTime (d : Device) : Device :=
  if d.portSends 0 ∧ d.passed 2048 d.link.timeAt then (d.setLink { d.link with timeAt := some d.edge }).sendMsg .time else d

/-- The reply of a latency exchange (R487): half of the round trip with ASYM, the mean of the last 16, and the latency from the root. -/
def takeReply (d : Device) (p : Nat) (t : TimeStamps) : Device :=
  if p ≠ 0 ∨ d.portSends 0 = false then d
  else
    let hop := ((t.t4 - t.t1) - (t.t3 - t.t2) + d.fgetS (aPORT 0 8) 0 16) / 2
    let hs := (hop :: d.link.hops).take 16
    let mean := (hs.foldl (· + ·) 0) / (hs.length : Int)
    let d := (d.setLink { d.link with hops := hs }).fset (aPORT 0 4) 0 20 mean.toNat
    d.fset 0xB0020 0 24 (t.parentLat + hop.toNat)

/-! Tokens and wake (R494, R495). -/

/-- The token that the device sends. -/
def ownToken (d : Device) : Token :=
  ⟨BitVec.ofNat 11 d.chordId, BitVec.ofNat 2 d.capo, decide (d.chordState = 4), ((List.range 256).filter fun l => decide (d.lstState l = 2)).length,
   BitVec.ofNat 16 (d.fget 0x50044 0 16)⟩

/-- A joined device sends its token every 1 ms (R494); not in QUIET (R495). -/
def sendStatus (d : Device) : Device :=
  if d.inTree ∧ d.chordState ≠ 6 ∧ d.quiet = false ∧ d.passed 20480 d.link.statusAt then
    (d.setLink { d.link with statusAt := some d.edge }).sendMsg (.status d.ownToken)
  else d

/-- A token reaches the device: the root keeps it, others forward it upward (R486, R494). -/
def takeToken (d : Device) (t : Token) : Device :=
  if d.chordState = 6 then
    let i := t.id.toNat
    if 2046 < i then d
    else
      let v := t.capo.toNat + (if t.aligned then 4 else 0) + 8 + 256 * min 255 t.running + 65536 * t.cntp.toNat
      (d.wr (aTOK i) (BitVec.ofNat 32 v)).setLink { d.link with tokenAt := tabPut i d.edge d.link.tokenAt }
  else d.forward 4 (.status t)

/-- The token of ID `i` is older than 5 ms (R494). -/
def tokenAge (d : Device) (i : Nat) : Device :=
  if d.flag (aTOK i) 3 ∧ tabGet (fun _ => 0) d.link.tokenAt i + 102400 < d.edge then d.fsetB (aTOK i) 3 false else d

/-- A WAKE message reaches the device on a port (R404, R486, R495). -/
def wakeMsg (d : Device) (p sender : Nat) : Device :=
  if d.portUp p = false ∨ d.chordState = 5 then d
  else
    let d := (d.forward p (.wake sender)).event 0xB0004 8
    d.wake 2

/-- A read of CHORD_SEDGELO (R497). -/
def readSedge (d : Device) : Device :=
  let n := d.link.sedge
  let d := (d.wr 0xB0014 (BitVec.ofNat 32 n)).fset 0xB0018 0 16 (n / 2 ^ 32)
  { d with answer := leBytes 4 n }

end Device

end Sys2Proof.Machine
end

