-- ==== Sys2Proof/Machine/Chord.lean ====
section
/-!
DEFINITION. The commands of the Chord link (R479 to R497).
-/

namespace Sys2Proof.Machine

/-- CHORD_PORT_DOWN (R484). -/
def execChordPortDown (p : Fin 4) (s : State) : Host.Outcome State Fault Refusal := .next (s.onDdr fun d => d.portDown p)

/-- CHORD_PORT_UP (R484). -/
def execChordPortUp (p : Fin 4) (origins : List (BitVec 11)) (s : State) : Host.Outcome State Fault Refusal :=
  .next (s.onDdr fun d => d.portRises p (origins.map BitVec.toNat))

/-- JOIN_MESSAGE (R481). -/
def execJoinMessage (j : JoinMsg) (s : State) : Host.Outcome State Fault Refusal :=
  .next (s.onDdr fun d => d.join j.unit_ (j.path.map Fin.val))

/-- ASSIGN_MESSAGE (R481). -/
def execAssignMessage (j : AssignMsg) (s : State) : Host.Outcome State Fault Refusal :=
  .next (s.onDdr fun d => d.assign j.unit_ (j.path.map Fin.val) (j.ident.map BitVec.toNat))

/-- CHORD_ENUM (R482): a write of CHORD_CTL whose ENUM bit is one. -/
def execChordEnum (w : Wr) (s : State) : Host.Outcome State Fault Refusal :=
  .next (s.onDdr fun d => d.write w 0xB000C fun d => d.chordCtl (setBits w.data 0 1 1))

/-- CHORD_CLRORIG (R493): a write of CHORD_CTL whose CLRORIG bit is one and whose ENUM bit is zero. -/
def execChordClrorig (w : Wr) (s : State) : Host.Outcome State Fault Refusal :=
  .next (s.onDdr fun d => d.write w 0xB000C fun d => d.chordCtl (setBits w.data 0 2 2))

/-- CAPO_MESSAGE (R492). -/
def execCapoMessage (m : CapoMsg) (s : State) : Host.Outcome State Fault Refusal := .next (s.onDdr fun d => d.capoMsg m)

/-- CAPO_ASSERT_REPEAT (R492). -/
def execCapoAssertRepeat (s : State) : Host.Outcome State Fault Refusal := .next (s.onDev fun d => d.repeatAssert)

/-- TRIG_MESSAGE (R490). -/
def execTrigMessage (m : TrigMsg) (s : State) : Host.Outcome State Fault Refusal := .next (s.onDev fun d => d.trigMsg m)

/-- CHORD_SEND_GO (R491): a write of CHORD_SEND whose GO bit is one. -/
def execChordSendGo (w : Wr) (s : State) : Host.Outcome State Fault Refusal :=
  .next (s.onDev fun d => d.write w 0xB0010 fun d => d.chordSend w.data)

/-- POS_MESSAGE (R488). -/
def execPosMessage (m : PosMsg) (s : State) : Host.Outcome State Fault Refusal := .next (s.onDdr fun d => d.posMsg m)

/-- POS_SEND (R486). -/
def execPosSend (s : State) : Host.Outcome State Fault Refusal := .next (s.onDev fun d => d.sendPos)

/-- WAKE_MESSAGE (R495). -/
def execWakeMessage (p : Fin 4) (sender : BitVec 11) (s : State) : Host.Outcome State Fault Refusal :=
  .next (s.onDdr fun d => d.wakeMsg p sender.toNat)

/-- TIME_EXCHANGE (R487). -/
def execTimeExchange (s : State) : Host.Outcome State Fault Refusal := .next (s.onDev fun d => d.sendTime)

/-- TIME_REPLY (R487). -/
def execTimeReply (p : Fin 4) (t : TimeStamps) (s : State) : Host.Outcome State Fault Refusal := .next (s.onDev fun d => d.takeReply p t)

/-- STATUS_SEND (R494). -/
def execStatusSend (s : State) : Host.Outcome State Fault Refusal := .next (s.onDev fun d => d.sendStatus)

/-- STATUS_TOKEN (R494). -/
def execStatusToken (t : Token) (s : State) : Host.Outcome State Fault Refusal := .next (s.onDev fun d => d.takeToken t)

/-- TOKEN_AGE_EXPIRY (R494). -/
def execTokenAgeExpiry (i : Fin 2047) (s : State) : Host.Outcome State Fault Refusal := .next (s.onDev fun d => d.tokenAge i)

/-- CHORD_SEDGELO_READ (R497). -/
def execChordSedgeloRead (s : State) : Host.Outcome State Fault Refusal :=
  .next (s.onDev fun d => d.readAt 0xB0014 fun d => d.readSedge)

end Sys2Proof.Machine
end

