-- ==== Sys2Proof/Machine/Filter.lean ====
section
/-!
DEFINITION. The filter-chain commands (R123 to R150) and the outputs' way into slots and decimated capture (R134, R139, R141,
R466).
-/

namespace Sys2Proof.Machine

namespace Device

/-- A context claims the chain of channel `n` (R136): writes of FILT_CTL are refused. -/
def chainClaimed (d : Device) (n : Nat) : Bool := d.execs.any fun x => x.verdict.isNone && x.slots.any fun s => s.kind == .chan n

/-- A write of FILT_CTL whose RUN bit is `run` (R135, R136, R12): a start takes place at the next sample edge, as does a stop. A one
while the chain runs and a zero while it is stopped have no effect on it. -/
def filtControl (d : Device) (n : Nat) (p : Party) (raw : Word) : Device :=
  let a := aFILT n 0
  if d.chainClaimed n then d.refuse a
  else if d.flag a 31 && d.reachesRws a raw then d.refuse a
  else
    let was := d.flag a 31
    let d := (d.putCooked p a raw).fsetB a 31 was
    if bitOf raw 31 then (if was then d else d.startChain n d.nextEdge)
    else if was then d.stopChain n else d

/-- Channel `n` gives its outputs to this slot. -/
def takesChan (n : Nat) (s : Slot) : Bool := decide (s.kind = .chan n) && s.rec_.isNone && !s.waits && !s.fill

/-- The slots of every execution that measures channel `n` take an output whose corrected position lies in their window (R139,
R141); a position from the oldest entry held marks the slot DISTURBED (R162). Under HOLD measurement pauses (R33). -/
def feedSlots (d : Device) (n : Nat) (o : ChainOut) : Device :=
  if d.capo = 1 then d
  else
    let e := d.correctedEdge n o.last
    { d with execs := d.execs.map fun x =>
        { x with slots := x.slots.map fun s =>
            let (p, stale) := d.posAt (ctxAxis x.words) e
            if takesChan n s && decide (fwd s.start p < ctxLen x.words) then
              let moved := o.moves.any fun m => decide (fwd s.start (d.posAt (ctxAxis x.words) m).1 < ctxLen x.words)
              { s with outs := s.outs ++ [⟨o, p, moved⟩], flags := s.flags ||| (if stale then 0x800 else 0) }
            else s } }

/-- Decimated capture of channel `n` (R134, R190, R466): every active context whose setup captures it takes the outputs of its
window. -/
def feedDecim (d : Device) (n : Nat) (o : ChainOut) : Device :=
  if d.capo = 1 then d
  else
    let e := d.correctedEdge n o.last
    d.execs.foldl (fun d x =>
      match (x.setups.filter fun s => s.chan == n && decide (s.cap = 2)).getLast? with
      | some s =>
        if fwd x.start (d.posAt (ctxAxis x.words) e).1 < ctxLen x.words then d.decimEntry s.cbuf n o e else d
      | none => d) d

/-- The first output `o` of a chain that a spare lane took over: a slot that began before it lost outputs to the substitution (R149). -/
def lostOutputs (d : Device) (n : Nat) (o : ChainOut) : Device :=
  let e := d.correctedEdge n o.last
  let p := d.profile (d.profOf n)
  { d with execs := d.execs.map fun x =>
      if ctxDet x.words ≤ 8 ∧ x.startEdge + p.period ≤ e then
        { x with slots := x.slots.map fun s => if takesChan n s then { s with flags := s.flags ||| 0x800 } else s }
      else x }

/-- One decimation group of channel `n` is complete (R131). -/
def chainOut (d : Device) (n : Nat) : Device :=
  let was := (d.chain n).subst
  let (d, o) := d.chainStep n
  match o with
  | some o => ((if was then d.lostOutputs n o else d).feedSlots n o).feedDecim n o
  | none => d

/-- A read of FILT_OUTLO: it answers the low word, and FILT_OUTHI and FILT_OUTFLG hold the rest of the same output (R156). -/
def readOutLo (d : Device) (n : Nat) : Device :=
  let c := d.chain n
  let v := ofSigned 64 c.lastVal
  let d := ((d.wr (aFILT n 0x10) (BitVec.ofNat 32 v)).wr (aFILT n 0x14) (BitVec.ofNat 32 (v / 2 ^ 32))).wr (aFILT n 0x18)
    (BitVec.ofNat 32 c.lastFlags)
  { d with answer := leBytes 4 v }

/-- One group of a threshold unit is complete (R148): its events go to the slots of THRFIRST and THRCOUNT, to lists with TRIG
THRESH and to the Frets. -/
def thrOut (d : Device) (n : Nat) : Device :=
  let (d, evs, last) := d.thrStep n
  let e := d.thrEdge n last
  evs.foldl (fun d k =>
    let d :=
      if d.capo = 1 then d
      else { d with execs := d.execs.map fun x =>
              { x with slots := x.slots.map fun s =>
                  let (p, stale) := d.posAt (ctxAxis x.words) e
                  if takesChan n s && decide (fwd s.start p < ctxLen x.words) then
                    { s with thr := s.thr ++ [(k, p)], flags := s.flags ||| (if stale then 0x800 else 0) }
                  else s } }
    let d := d.fretEvents 0 e (d.flag (aFILT n 0x30) k) (2 * n + k)
    d.triggerLists 7 fun a => decide (a % 2048 = n + 1024 * k)) d

end Device

/-- FILT_RUN_START (R135): a write of FILT_CTL whose RUN bit is one. -/
def execFiltRunStart (n : Fin 1024) (w : Wr) (s : State) : Host.Outcome State Fault Refusal :=
  .next (s.onDev fun d => d.write w (aFILT n 0) fun d => d.filtControl n w.by_ (setBits w.data 31 1 1))

/-- FILT_RUN_STOP (R135): a write of FILT_CTL whose RUN bit is zero. -/
def execFiltRunStop (n : Fin 1024) (w : Wr) (s : State) : Host.Outcome State Fault Refusal :=
  .next (s.onDev fun d => d.write w (aFILT n 0) fun d => d.filtControl n w.by_ (setBits w.data 31 1 0))

/-- CHAIN_OUTPUT (R131). It may write a DECIM buffer (R466). -/
def execChainOutput (n : Fin 1024) (s : State) : Host.Outcome State Fault Refusal := .next (s.onDdr fun d => d.chainOut n)

/-- FILT_OUTLO_READ (R156). -/
def execFiltOutloRead (n : Fin 1024) (s : State) : Host.Outcome State Fault Refusal := .next (s.onDev fun d => d.readAt (aFILT n 0x10) fun d => d.readOutLo n)

/-- THRESHOLD_UNIT_OUTPUT (R148). -/
def execThresholdUnitOutput (n : Fin 1024) (s : State) : Host.Outcome State Fault Refusal := .next (s.onDev fun d => d.thrOut n)

/-- LANE_SPARE_TAKEOVER (R149). -/
def execLaneSpareTakeover (m : Fin 64) (s : State) : Host.Outcome State Fault Refusal := .next (s.onDev fun d => d.laneTakeover m)

end Sys2Proof.Machine
end

