-- ==== Sys2Proof/Machine/HostOps.lean ====
section
/-!
DEFINITION. The PCIe endpoint's work in the device: BAR2, queue DMA, DMA channels, flash access (R468 to R478), and DDR5 errors (R457).
-/

namespace Sys2Proof.Machine

namespace Device

/-- Replace the system state beside registers. -/
def setSys (d : Device) (x : Sys) : Device := { d with sys := x }

/-! DDR5 as the host reaches it (R472). -/

/-- DDR5 answers: trained, not in QUIET, not failed. -/
def ddrOpen (d : Device) : Bool := d.flag 0xC0000 0 && !d.quiet && !d.failedState

/-- Byte `a` of DDR5 can be reached. -/
def ddrAt (d : Device) (a : Nat) : Bool := d.ddrOpen && decide (a < d.ddrBytes)

/-- Byte `a` belongs to the region cache. -/
def inCache (d : Device) (a : Nat) : Bool := decide (d.regBase 0 ≤ a ∧ a < d.regEnd 0)

/-- Some byte of [a, a + n) cannot be reached. -/
def ddrMissing (d : Device) (a n : Nat) : Bool := decide (0 < n) && (!d.ddrOpen || decide (d.ddrBytes < a + n))

/-- Some byte of [a, a + n) belongs to the region cache. -/
def hitsCache (d : Device) (a n : Nat) : Bool := decide (0 < n) && decide (d.regBase 0 < d.regEnd 0) && decide (a < d.regEnd 0) && decide (d.regBase 0 < a + n)

/-- Bytes of DDR5; those that cannot be reached read zero, with NOACC. -/
def ddrLoad (d : Device) (m : Mem) (a n : Nat) : List Byte × Device :=
  ((List.range n).map fun i => if d.ddrAt (a + i) then tabGet blankRam m.ddr (a + i) else 0, if d.ddrMissing a n then d.event 0xD0004 1 else d)

/-- Write given bytes from address `a` on; none keeps a byte. -/
def storeSome (d : Device) : Mem → Nat → List (Option Byte) → Mem
  | m, _, [] => m
  | m, a, none :: r => d.storeSome m (a + 1) r
  | m, a, some b :: r => d.storeSome (if d.ddrAt a && !d.inCache a then { m with ddr := tabSet blankRam a b m.ddr } else m) (a + 1) r

/-- A write of the host to DDR5: bytes that cannot be reached are discarded with NOACC, those of the region cache with PROTECT. -/
def ddrStore (d : Device) (m : Mem) (a : Nat) (bs : List (Option Byte)) : Mem × Device :=
  let n := bs.length
  let d' := if d.ddrMissing a n then d.event 0xD0004 1 else d
  (d.storeSome m a bs, if d.ddrOpen && d.hitsCache a n then d'.event 0xD0004 2 else d')

/-! BAR2 (R472). -/

/-- An access through BAR2. A write before ENABLE_WRITES is refused and reported (R393). A read that meets an uncorrectable error comes in a poisoned
TLP, with data that are free (R457). -/
def bar2 (m : Mem) (d : Device) (op : Bar2Op) : Mem × Device :=
  let at_ (off : BitVec 28) : Nat := d.fget 0xD000C 0 16 * 2 ^ 20 + off.toNat
  match op with
  | .write off bs =>
    if d.writesOn then d.ddrStore m (at_ off) (bs.take (2 ^ 28 - off.toNat))
    else
      let d := if d.ddrMissing (at_ off) bs.length then d.event 0xD0004 1 else d
      (m, (d.event 0xD0004 5).notice 0x0C 0x0D 0x31 0xFFFFFFFF)
  | .read off len bad =>
    let (bs, d) := d.ddrLoad m (at_ off) (min len (2 ^ 28 - off.toNat))
    let bad := bad && d.ddrOpen
    let (bs, d) := if bad then d.freeRun bs.length else (bs, d)
    (m, { d with answer := bs, poisoned := bad })

/-! The link (R469). -/

/-- The link is up. -/
def linkUp (d : Device) : Bool := d.flag 0xD0000 0

/-- Every register of HOSTIF returns to its reset value. -/
def resetHostif (d : Device) : Device := { d with regs := d.regs.filter fun p => decide (p.1 / 0x10000 ≠ 0x0D) }

/-- The endpoint and HOSTIF reset: DMA in flight ends with LINKDOWN. After an FLR the link is up still. -/
def linkReset (d : Device) (k : LinkLoss) : Device :=
  let st := d.rd 0xD0000
  let fl := d.rd 0xD0050
  let busy := (List.range 8).filter fun n => d.flag (aHD n 0x14) 0
  let d := d.resetHostif
  let d := busy.foldl (fun d n => d.fset (aHD n 0x14) 0 3 2) d
  let d := (if d.sys.flOp.isSome then d.wr 0xD0050 fl else d).setSys { d.sys with dma := [] }
  if k = .flr then (d.wr 0xD0000 (BitVec.ofNat 32 (bitsOf st 0 6))).event 0xD0004 4
  else d.setSys { d.sys with linkLost := true }

/-- The link is up with a speed and a width (R361, R469). The endpoint runs while REFA is present (R395). -/
def linkStart (d : Device) (speed : Fin 4) (width : Fin 3) : Device :=
  if d.refCount false ≠ 8192 then d
  else
    let d := ((d.fset 0xD0000 0 1 1).fset 0xD0000 1 2 (max 1 speed)).fset 0xD0000 3 3 (2 ^ width.val)
    let d := d.fsetB 0x10000 5 true
    if d.sys.linkLost then (d.setSys { d.sys with linkLost := false }).event 0xD0004 3 else d

/-! Queue DMA (R474). -/

/-- A 64-bit host address. -/
def hostAddr (d : Device) (lo : Nat) : Nat := (d.rd lo).toNat + 2 ^ 32 * (d.rd (lo + 4)).toNat

/-- Copy `n` records of queue `q` from sequence number `seq` on. -/
def copyRecs (d : Device) (q : Nat) : Nat → Nat → Mem → Mem
  | 0, _, m => m
  | n + 1, seq, m =>
    let i := seq % 2 ^ d.fget (aRESQ q 8) 0 5
    d.copyRecs q n ((seq + 1) % 2 ^ 32) (m.hostWrite (d.hostAddr (aHQ q 0) + 32 * i) (m.ddrRead (d.regBase (3 + q) + 32 * i) 32))

/-- The DMA engine copies what RESQ_WRSEQ has passed and writes it back; then the queue's vector may rise (R473). -/
def queueCopy (m : Mem) (d : Device) (q : Nat) : Mem × Device :=
  let w := (d.rd (aRESQ q 0x10)).toNat
  let x := d.que q
  let n := (w + 2 ^ 32 - x.dmaSeq) % 2 ^ 32
  if d.flag (aHQ q 0x10) 0 = false ∨ d.linkUp = false ∨ d.ddrOpen = false ∨ n = 0 ∨ 2 ^ d.fget (aRESQ q 8) 0 5 < n then (m, d)
  else
    let m := (d.copyRecs q n x.dmaSeq m).hostWrite (d.hostAddr (aHQ q 8)) (leBytes 4 w)
    let d := d.setQue q { x with dmaSeq := w }
    if d.flag (aRESQ q 0x24) 31 && decide (d.fget (aRESQ q 0x24) 0 25 ≤ x.since) then (m, (d.setQue q { x with dmaSeq := w, since := 0 }).signal (16 + q))
    else (m, d)

/-! DMA channels (R475). -/

/-- A write of HOSTIF_DCTL of channel `n` with GO. -/
def dmaStart (d : Device) (n : Nat) (p : Party) (raw : Word) : Device :=
  let a := aHD n 0x10
  if d.flag (aHD n 0x14) 0 then d.refuse a
  else
    let d := (d.putCooked p a raw).wr (aHD n 0x14) 1
    let j : DmaJob := ⟨bitOf raw 0, (d.rd (aHD n 0)).toNat * 16, d.hostAddr (aHD n 4), (d.rd (aHD n 0xC)).toNat⟩
    d.setSys { d.sys with dma := tabSet (fun _ => none) n (some j) d.sys.dma }

/-- Move the bytes of a transfer; of one that ends POISONED they are free (R457, R475). -/
def dmaMove (m : Mem) (d : Device) (j : DmaJob) (good : Bool) : Mem × Device :=
  if j.toDdr then
    let (bs, d) := if good then (m.hostRead j.host j.len, d) else d.freeRun j.len
    d.ddrStore m j.ddr (bs.map some)
  else
    let (bs, d) := if good then d.ddrLoad m j.ddr j.len else d.freeRun j.len
    (m.hostWrite j.host bs, d)

/-- The transfer of channel `n` ends (R475). -/
def dmaEnd (m : Mem) (d : Device) (n : Nat) (r : DmaEnd) : Mem × Device :=
  match tabGet (fun _ => none) d.sys.dma n with
  | none => (m, d)
  | some j =>
    let d := d.setSys { d.sys with dma := tabSet (fun _ => none) n none d.sys.dma }
    if d.linkUp = false then (m, (d.fset (aHD n 0x14) 0 3 2).signal (32 + n))
    else
      let (m, d) := dmaMove m d j (decide (r = .ok))
      (m, (d.fset (aHD n 0x14) 0 3 (if r = .ok then 0 else 4)).signal (32 + n))

/-! Flash access (R476). -/

/-- The multiple that OFS and LEN of an operation keep. -/
def flashUnit (op : Nat) : Nat := if op = 0 then 4 else if op = 1 then 256 else 4096

/-- The operation touches the calibration copies or the event log. -/
def touchesKept (ofs len : Nat) : Bool :=
  (decide (ofs < 0x0F900000) && decide (0x0F100000 < ofs + len)) || decide (0x0FB00000 < ofs + len)

/-- The operation can run. -/
def flashOk (j : FlashJob) : Bool :=
  decide (j.ofs % flashUnit j.op = 0) && decide (j.len % flashUnit j.op = 0) && decide (4 ≤ j.len ∧ j.len ≤ 2 ^ 24) && decide (j.ofs + j.len ≤ 2 ^ 28) &&
  (decide (j.op = 0) || !touchesKept j.ofs j.len)

/-- A write of HOSTIF_FLOP (R476). -/
def flashGo (d : Device) (p : Party) (raw : Word) : Device :=
  let a := 0xD0040
  let (v, hits) := d.cook a raw
  let d := d.reportHits (srcOf p) a a 0 0xFFFF hits
  let j : FlashJob := ⟨bitsOf v 0 2, d.fget 0xD0044 0 28, d.fget 0xD0048 0 25, (d.rd 0xD004C).toNat * 16⟩
  if !bitOf raw 31 then d
  else if d.sys.flOp.isSome then d.refuse a
  else if flashOk j then (d.wr 0xD0050 1).setSys { d.sys with flOp := some j }
  else ((d.wr 0xD0050 2).refuse a).signal 40

/-- Program bytes; a byte that was not erased has a free value afterwards (R476: the device does not check). -/
def programBytes (d : Device) (m : Mem) (ofs : Nat) (bs : List Byte) : Mem :=
  m.flashWrite ofs (bs.mapIdx fun i b => if tabGet blankFlash m.flash (ofs + i) = 0xFF then b else Config.freeByte (d.freeCtr + i))

/-- The operation ends (R476). What an operation that failed leaves in its target is free. -/
def flashEnd (m : Mem) (d : Device) (ok : Bool) : Mem × Device :=
  match d.sys.flOp with
  | none => (m, d)
  | some j =>
    let good := ok && (decide (j.op = 2) || d.ddrOpen)
    let d := ((d.wr 0xD0050 (if good then 0 else 4)).setSys { d.sys with flOp := none }).signal 40
    let (m, d) :=
      if !good then
        (if j.op = 0 then d.ddrStore m j.ddr ((d.freeRun j.len).1.map some) else (m.flashWrite j.ofs (d.freeRun j.len).1, d))
      else if j.op = 0 then d.ddrStore m j.ddr ((m.flashRead j.ofs j.len).map some)
      else if j.op = 1 then
        let (bs, d) := d.ddrLoad m j.ddr j.len
        (d.programBytes m j.ofs bs, d)
      else ({ m with flash := m.flash.filter fun p => decide (p.1 < j.ofs) || decide (j.ofs + j.len ≤ p.1) }, d)
    (m, (d.freeRun j.len).2)

/-! DDR5 errors and capture buffers (R457, R466, R477). -/

/-- An uncorrectable error at a byte address (R457). -/
def ddrError (d : Device) (a : Nat) : Device :=
  if d.ddrOpen then
    let d := ((d.bump 0xC000C 0 32).wr 0xC0010 (BitVec.ofNat 32 (a / 16))).event 0xC0004 1
    d.report (entry .t 0x0B 1 0x12 0)
  else d

/-- A corrected error (R457). -/
def ddrFixed (d : Device) : Device := if d.ddrOpen then (d.bump 0xC0008 0 32).event 0xC0004 0 else d

/-- A write of DDR_CBCTL with RESET one (R466). -/
def capReset (d : Device) (b : Nat) : Device :=
  if (d.openRuns b).isEmpty then ((d.setCapBuf b CapBuf.init).fsetB (aCB b 0x14) 0 false).wr (aCB b 0x18) 0
  else d.refuse (aCB b 0x1C)

/-- A read of DDR_CBWR: it latches DDR_CBWRHI (R477). -/
def readCbwr (d : Device) (b : Nat) : Device :=
  let n := d.cbCount b
  let d := (d.wr (aCB b 0xC) (BitVec.ofNat 32 n)).fset (aCB b 0x10) 0 16 (n / 2 ^ 32)
  { d with answer := leBytes 4 n }

end Device

end Sys2Proof.Machine
end

