-- ==== Sys2Proof/Machine/HostIf.lean ====
section
/-!
DEFINITION. The commands of the host interface and of DDR5 (R457, R466 to R478).
-/

namespace Sys2Proof.Machine

/-- PCIE_RESET (R469). -/
def execPcieReset (k : LinkLoss) (s : State) : Host.Outcome State Fault Refusal := .next (s.onDev fun d => d.linkReset k)

/-- PCIE_LINK_UP (R361, R469). -/
def execPcieLinkUp (speed : Fin 4) (width : Fin 3) (s : State) : Host.Outcome State Fault Refusal :=
  .next (s.onDev fun d => d.linkStart speed width)

/-- BAR2_ACCESS (R472). -/
def execBar2Access (op : Bar2Op) (s : State) : Host.Outcome State Fault Refusal := .next (s.onMem fun m d => Device.bar2 m d op)

/-- BAR2BASE_WRITE (R472). -/
def execBar2baseWrite (w : Wr) (s : State) : Host.Outcome State Fault Refusal :=
  .next (s.onDev fun d => d.write w 0xD000C fun d => d.putCooked w.by_ 0xD000C w.data)

/-- QUEUE_DMA_COPY (R474). -/
def execQueueDmaCopy (q : Fin 16) (s : State) : Host.Outcome State Fault Refusal := .next (s.onMem fun m d => Device.queueCopy m d q)

/-- DMA_GO (R475): a write of HOSTIF_DCTL whose GO bit is one. -/
def execDmaGo (n : Fin 8) (w : Wr) (s : State) : Host.Outcome State Fault Refusal :=
  .next (s.onDev fun d => d.write w (aHD n 0x10) fun d => d.dmaStart n w.by_ (setBits w.data 31 1 1))

/-- DMA_COMPLETE (R475). -/
def execDmaComplete (n : Fin 8) (r : DmaEnd) (s : State) : Host.Outcome State Fault Refusal :=
  .next (s.onMem fun m d => Device.dmaEnd m d n r)

/-- FLASH_READ (R476): a write of HOSTIF_FLOP with OP READ. -/
def execFlashRead (w : Wr) (s : State) : Host.Outcome State Fault Refusal :=
  .next (s.onDev fun d => d.write w 0xD0040 fun d => d.flashGo w.by_ (setBits w.data 0 2 0))

/-- FLASH_PROGRAM (R476): a write of HOSTIF_FLOP with OP PROGRAM. -/
def execFlashProgram (w : Wr) (s : State) : Host.Outcome State Fault Refusal :=
  .next (s.onDev fun d => d.write w 0xD0040 fun d => d.flashGo w.by_ (setBits w.data 0 2 1))

/-- FLASH_ERASE (R476): a write of HOSTIF_FLOP with OP ERASE, or the code that is clamped to it. -/
def execFlashErase (w : Wr) (s : State) : Host.Outcome State Fault Refusal :=
  .next (s.onDev fun d => d.write w 0xD0040 fun d => d.flashGo w.by_ (setBits w.data 1 1 1))

/-- FLASH_OP_COMPLETE (R476). -/
def execFlashOpComplete (ok : Bool) (s : State) : Host.Outcome State Fault Refusal := .next (s.onMem fun m d => Device.flashEnd m d ok)

/-- DDR_UNCORRECTABLE (R457). -/
def execDdrUncorrectable (addr : BitVec 36) (s : State) : Host.Outcome State Fault Refusal :=
  .next (s.onDev fun d => d.ddrError addr.toNat)

/-- DDR_CORRECTED (R457). -/
def execDdrCorrected (s : State) : Host.Outcome State Fault Refusal := .next (s.onDev fun d => d.ddrFixed)

/-- CB_RESET (R466): a write of DDR_CBCTL whose RESET bit is one. -/
def execCbReset (b : Fin 64) (w : Wr) (s : State) : Host.Outcome State Fault Refusal :=
  .next (s.onDev fun d => d.write w (aCB b 0x1C) fun d => d.capReset b)

/-- DDR_CBWR_READ (R477). -/
def execDdrCbwrRead (b : Fin 64) (s : State) : Host.Outcome State Fault Refusal :=
  .next (s.onDev fun d => d.readAt (aCB b 0xC) fun d => d.readCbwr b)

end Sys2Proof.Machine
end

