-- ==== Sys2Proof/Machine/Pins.lean ====
section
/-!
DEFINITION. The pin commands (R251 to R263), and the writes that a Fret's shell port makes (R275).
-/

namespace Sys2Proof.Machine

namespace Device

/-- A write of PIN_SRC (R251, R258, R262): refused under HOLD, and when it enables a source of a pin whose owner is ANALOGUE. -/
def pinSrcWrite (d : Device) (n : Nat) (p : Party) (raw : Word) : Device :=
  let a := aPIN n 0
  let old := d.fget a 0 3
  let new := bitsOf raw 0 3
  if d.capo = 1 then d.refuse a
  else if d.pinOwner n = 1 ∧ (List.range 3).any (fun i => decide (old / 2 ^ i % 2 = 0) && decide (new / 2 ^ i % 2 = 1)) then d.refuse a
  else
    if new = old then d.putCooked p a raw else (d.putCooked p a raw).pinSwitch d n

/-- A write of PIN_FAB or PIN_AXO at offset `o`, whose source has enable bit `i` (R258, R262): a change while it is enabled is a
function switch. -/
def pinMapWrite (d : Device) (n o i : Nat) (p : Party) (raw : Word) : Device :=
  let a := aPIN n o
  if d.capo = 1 then d.refuse a
  else
    let d' := d.putCooked p a raw
    if d'.rd a ≠ d.rd a ∧ d'.flag (aPIN n 0) i then d'.pinSwitch d n else d'

/-- A write of a GPIO bank: 0 SET, 1 CLR, 2 TGL of word `b` (R259, R262). -/
def pinBank (d : Device) (bank b : Nat) (raw : Word) : Device :=
  if d.capo = 1 then d.refuse (aBANK (0x4000 + 0x80 * bank) b)
  else
    match bank with
    | 0 => d.gpioAdd b raw.toNat 0 0
    | 1 => d.gpioAdd b 0 raw.toNat 0
    | _ => d.gpioAdd b 0 0 raw.toNat

/-- A write of CMP_VALLO (R182, R184): kept until CMP_VALHI is written. -/
def valloWrite (d : Device) (a k : Nat) (p : Party) (raw : Word) : Device :=
  if d.ownsCmp a k p then (d.putCooked p (aCMP a k 0) raw).setCmpU a k { d.cmpU a k with waits := true } else d.refuseCmp a (aCMP a k 0)

/-- A write of POS_CMPCLAIM: a claim or, with REL one, a release (R182). -/
def cmpClaimWrite (d : Device) (a : Nat) (p : Party) (raw : Word) : Device :=
  if bitOf raw 31 then d.releaseCmp a p raw else d.claimCmp a p raw

/-- The rules of a register that a shell port may write (R275). -/
def shellRoute (d : Device) (a : Nat) (p : Party) (raw : Word) : Device :=
  if 0x184000 ≤ a ∧ a < 0x184180 then d.pinBank ((a - 0x184000) / 0x80) ((a - 0x184000) % 0x80 / 4) raw
  else if 0x70000 ≤ a ∧ a < 0x74000 then
    let x := (a - 0x70000) / 0x1000
    let o := a % 0x1000
    if o = 0x14 ∨ o = 0x18 then d.rateWrite x o p raw
    else if o = 0x3C then d.cmpClaimWrite x p raw
    else
      let k := (o - 0x400) / 0x10
      if o % 0x10 = 0 then d.valloWrite x k p raw else if o % 0x10 = 4 then d.valhiWrite x k p raw else d.cmpCfgWrite x k p raw
  else if a = 0x80020 then d.startWrite raw false
  else if a = 0x80024 then d.stopWrite p raw
  else d.putCooked p a raw

/-- A write through the shell port of Fret `f` (R275); an isolated Fret makes none (R285). -/
def shellWrite (d : Device) (f : Fin 48) (a : Nat) (be : BitVec 4) (data : Word) : Device :=
  if d.fretLive f && d.fabricOn then d.write ⟨.shell f, be, data⟩ a fun d => d.shellRoute a (.shell f) data else d

end Device

/-- PIN_SRC_WRITE (R251). -/
def execPinSrcWrite (n : Fin 1024) (w : Wr) (s : State) : Host.Outcome State Fault Refusal :=
  .next (s.onDev fun d => d.write w (aPIN n 0) fun d => d.pinSrcWrite n w.by_ w.data)

/-- PIN_FAB_WRITE (R258). -/
def execPinFabWrite (n : Fin 1024) (w : Wr) (s : State) : Host.Outcome State Fault Refusal :=
  .next (s.onDev fun d => d.write w (aPIN n 4) fun d => d.pinMapWrite n 4 1 w.by_ w.data)

/-- PIN_AXO_WRITE (R258). -/
def execPinAxoWrite (n : Fin 1024) (w : Wr) (s : State) : Host.Outcome State Fault Refusal :=
  .next (s.onDev fun d => d.write w (aPIN n 8) fun d => d.pinMapWrite n 8 2 w.by_ w.data)

/-- PIN_SET_WRITE (R259). -/
def execPinSetWrite (b : Fin 32) (w : Wr) (s : State) : Host.Outcome State Fault Refusal :=
  .next (s.onDev fun d => d.write w (aBANK 0x4000 b) fun d => d.pinBank 0 b w.data)

/-- PIN_CLR_WRITE (R259). -/
def execPinClrWrite (b : Fin 32) (w : Wr) (s : State) : Host.Outcome State Fault Refusal :=
  .next (s.onDev fun d => d.write w (aBANK 0x4080 b) fun d => d.pinBank 1 b w.data)

/-- PIN_TGL_WRITE (R259). -/
def execPinTglWrite (b : Fin 32) (w : Wr) (s : State) : Host.Outcome State Fault Refusal :=
  .next (s.onDev fun d => d.write w (aBANK 0x4100 b) fun d => d.pinBank 2 b w.data)

/-- SHELL_WRITE (R275). STEP_STOP may end contexts and their captures. -/
def execShellWrite (f : Fin 48) (addr : BitVec 24) (be : BitVec 4) (data : Word) (s : State) : Host.Outcome State Fault Refusal :=
  .next (s.onDdr fun d => d.shellWrite f addr.toNat be data)

end Sys2Proof.Machine
end

