-- ==== Sys2Proof/Machine/SecOps.lean ====
section
/-!
DEFINITION. The security block (R434 to R454): its mailbox, signed requests, keys, attestation, patches and debug access.
-/

namespace Sys2Proof.Machine

/-- Bytes that this device alone knows: the identity key pair, the certificate, the ROM digest, the IDCODE (R450, R452). Their values are
free (assumption 2). -/
def devBytes (tag n : Nat) : List Byte := (List.range n).map fun i => (Config.signature (leBytes 4 tag)).getD i 0

/-- The signature of bytes by the identity key, 132 bytes (R434, R451). -/
def signBytes (bs : List Byte) : List Byte := (List.range 132).map fun i => (Config.signature bs).getD i 0

namespace Device

/-! The mailbox (R454). -/

/-- Bytes [o, o + n) of the mailbox. -/
def mbox (d : Device) (o n : Nat) : List Byte :=
  (List.range n).map fun i => BitVec.ofNat 8 (d.fget (0x31000 + (o + i) / 4 * 4) (8 * ((o + i) % 4)) 8)

/-- Store bytes in the mailbox. -/
def setMbox (d : Device) : Nat → List Byte → Device
  | _, [] => d
  | o, b :: r => setMbox (d.fset (0x31000 + o / 4 * 4) (8 * (o % 4)) 8 b.toNat) (o + 1) r

/-! Commands (R445). -/

/-- A command ends with a result; one other than OK is reported (R454). -/
def secEnd (d : Device) (result : Nat) : Device :=
  let d := ((d.fsetB 0x30000 0 false).fsetB 0x30000 1 true).fset 0x30000 2 4 result
  let d := d.setSec { d.sys.sec with task := none }
  if result = 0 then d else (d.event 0x30004 0).noticeRefused 0x30008

/-- A command may be given (R445). -/
def secReady (d : Device) : Bool := d.bootDone && d.sys.warm.isNone && !d.quiet && !d.flag 0x30000 0

/-- A write of SEC_CMD (R445): with GO one the command `k` runs, or is refused; a refusal beside a running command leaves that one
running. -/
def secCmd (d : Device) (p : Party) (raw : Word) (k : Device → Device) : Device :=
  let (_, hits) := d.cook 0x30008 raw
  let d := d.reportHits (srcOf p) 0x30008 0x30008 0 0xFFFF hits
  if !bitOf raw 31 then d
  else if d.secReady then k d
  else if d.flag 0x30000 0 then ((d.fset 0x30000 2 4 1).event 0x30004 0).noticeRefused 0x30008
  else d.secEnd 1

/-- A command runs until its completion. -/
def secRun (d : Device) (t : SecTask) : Device :=
  let d := (d.fsetB 0x30000 0 true).fsetB 0x30000 1 false
  d.setSec { d.sys.sec with task := some t }

/-! Attestation (R451). -/

/-- FLAGS of the report. -/
def attFlags (d : Device) : Nat :=
  d.fget 0x30010 1 1 + 2 * d.fget 0x60004 3 1 + 4 * d.fget 0x30000 8 1 + 16 * d.fget 0x3000C 4 3 + 256 * d.fget 0x3000C 0 3 +
  4096 * d.fget 0x30000 6 2 + 16384 * d.fget 0x20000 5 2

/-- DEVID as bytes. -/
def devId (d : Device) : List Byte := (List.range 4).flatMap fun i => leBytes 4 (d.rd (0x30020 + 4 * i)).toNat

/-- A digest, or zeros where there is nothing to digest. -/
def digestOf (x : Option (List Byte)) : List Byte := match x with | some bs => sha512 bs | none => zeros 64

/-- The 68 bytes of Fret `f` (R451): the digest is the one that its region was verified by. -/
def fretBytes (d : Device) (f : Nat) : List Byte :=
  let st := d.fretState f
  let reg := d.fget (aFRET f 0) 8 8
  leBytes 1 st ++ leBytes 1 reg ++ zeros 2 ++
    (if reg ≤ 254 ∧ (st = 2 ∨ st = 3) then regionDigest d.sys.boot.manifest reg else zeros 64)

/-- The header and body of the active user calibration copy in flash (R326, R451); none while STORE reads NOUSER. -/
def activeCopy (d : Device) (m : Mem) : Option (List Byte) :=
  let at_ := copyBase (d.flag 0x60004 2)
  if d.fget 0x60004 0 2 = 2 then none else some (m.flashRead at_ (64 + leNat (m.flashRead (at_ + 12) 4)))

/-- The report without its signature, 3,648 bytes (R451). -/
def attReport (d : Device) (m : Mem) : List Byte :=
  let copy := d.activeCopy m
  leBytes 4 0x4E414D35 ++ leBytes 4 1 ++ leBytes 4 3780 ++ leBytes 4 d.attFlags ++ d.devId ++ d.mbox 0 64 ++ devBytes 0 64 ++
    leBytes 4 (d.rd 0x30014).toNat ++ zeros 12 ++ digestOf ((d.sys.sec.patch.filter fun _ => d.flag 0x30010 1).map Patch.plain) ++
    sha512 d.sys.boot.manifest ++ leBytes 4 (if copy.isSome then (d.rd 0x6001C).toNat else 0) ++ zeros 12 ++ digestOf copy ++
    (List.range 48).flatMap d.fretBytes

/-- ATTEST is accepted: the report states the device now. -/
def attest (d : Device) (m : Mem) : Device := d.secRun (.attest (d.attReport m))

/-- The report stands in the mailbox with its signature. -/
def attested (d : Device) : Device :=
  match d.sys.sec.task with
  | some (.attest r) => ((d.setMbox 0 (r ++ signBytes r)).secEnd 0).event 0x30004 6
  | _ => d

/-! Patches (R447, R448). -/

/-- PATCHACT (R448). A copy number above 1 names no copy: its layout rule fails. -/
def patchAct (m : Mem) (d : Device) : Device :=
  let k := (d.rd 0x31000).toNat
  if 1 < k then d.secEnd 4
  else if d.flag 0x30010 1 ∧ copyPseq m k ≤ (d.rd 0x30014).toNat then d.secEnd 7
  else d.secRun (.patch k)

/-- The verification ends (R448): a patch that verifies becomes active by a warm start. -/
def patchDone (m : Mem) (d : Device) (x : PatchIn) (saveOk : Bool) : Mem × Device :=
  match d.sys.sec.task with
  | some (.patch k) =>
    match d.verifyPatch m k x with
    | .ok p =>
      let (m, d) := saveIfDirty m (d.secEnd 0) saveOk
      let d := ((d.usePatch (some p)).event 0x30004 4).fsetB 0x30010 2 false
      (m, (d.fsetB 0x50010 2 false).beginWarm 2)
    | .error r => (m, (d.secEnd r).event 0x30004 5)
  | _ => (m, d)

/-! Signed requests (R442, R444, R446, R450). -/

/-- The result of the checks of R446 and R442 on a request; `sigOk` says that the signature verifies under the PUBKEY that it
carries. -/
def reqResult (d : Device) (req : List Byte) (op : Nat) (sigOk : Bool) : Nat :=
  let slot := numAt req 8 4
  let signer := numAt req 12 4
  if numAt req 0 4 ≠ 0x4E414D36 ∨ numAt req 4 4 ≠ op ∨ (req.drop 16).take 16 ≠ d.devId ∨ (req.drop 0xE5).take 27 ≠ zeros 27 ∨ 2 < slot ∨ 2 < signer then 4
  else if d.slotGood signer = false then 3
  else if d.sigGood signer (cut req 0x60 133) sigOk then 0 else 2

/-- The request in the mailbox. -/
def mboxReq (d : Device) : List Byte := d.mbox 0 0x184

/-- A fuse is blown (R454). -/
def blow (d : Device) (bit : Nat) : Device := ((d.fsetB 0x3000C bit true).event 0x30004 7).secEnd 0

/-- A signed request whose checks pass acts by `k`, which has its target slot. -/
def signed (d : Device) (op : Nat) (sigOk : Bool) (k : Device → Nat → Device) : Device :=
  let r := d.reqResult d.mboxReq op sigOk
  if r = 0 then k d (numAt d.mboxReq 8 4) else d.secEnd r

/-- REVOKE (R444). A slot revoked before is NOTEMPTY; the last slot cannot go, and no slot signs its own end. -/
def revoke (d : Device) (slot : Nat) : Device :=
  if d.flag 0x3000C (4 + slot) then d.secEnd 6
  else if (List.range 3).all fun k => decide (k = slot) || !d.slotGood k then d.secEnd 5
  else if numAt d.mboxReq 12 4 = slot then d.secEnd 2
  else d.blow (4 + slot)

/-- KEYPROG (R445). -/
def keyProg (d : Device) (slot : Nat) : Device :=
  if d.flag 0x3000C slot then d.secEnd 6
  else (d.setSec { d.sys.sec with hashes := tabSet (fun _ => []) slot (d.mbox 0x20 64) d.sys.sec.hashes }).blow slot

/-- FKEYPROG (R450): the key is unwrapped from ARG with the ephemeral key at 0x200. -/
def fkeyProg (d : Device) : Device :=
  if d.flag 0x3000C 8 then d.secEnd 6
  else (d.setSec { d.sys.sec with fkey := some (Config.unwrap (d.mbox 0x20 64 ++ d.mbox 0x200 133)) }).blow 8

/-! The BBRAM key (R436, R445). -/

/-- BBWRITE (R445): the mailbox bytes are zeroed once the key is taken. -/
def bbWrite (d : Device) : Device :=
  if d.fget 0x30000 6 2 = 1 then d.secEnd 6
  else
    let d := d.setSec { d.sys.sec with bbKey := some (d.mbox 0 32) }
    ((d.setMbox 0 (zeros 32)).fset 0x30000 6 2 1).secEnd 0

/-- The BBRAM key is cleared (R436). -/
def bbGone (d : Device) : Device := (d.setSec { d.sys.sec with bbKey := none }).fset 0x30000 6 2 2

/-- GETID (R445, R450): the certificate's bytes are free. -/
def getId (d : Device) : Device := ((d.setMbox 0 (devBytes 1 133)).setMbox 0x100 (devBytes 2 2048)).secEnd 0

/-- TAMPER_N has been low for 100 ns (R436). -/
def tampered (d : Device) : Device :=
  let d := d.bbGone.fsetB 0x30000 9 true
  d.setSec { d.sys.sec with tamper := true }

/-- VBAT has fallen below 1.0 V (R436). -/
def vbatLost (d : Device) : Device :=
  let d := d.bbGone.fsetB 0x30000 10 false
  d.setSec { d.sys.sec with vbatLoss := true }

/-! The JTAG port (R443, R452, R453). -/

/-- FUSEPROG (R443): only while no slot is programmed. -/
def fuseProg (d : Device) (op : FuseOp) : Device :=
  if d.fget 0x3000C 0 3 ≠ 0 then d
  else match op with
    | .keyHash h => ((d.setSec { d.sys.sec with hashes := tabSet (fun _ => []) 0 h d.sys.sec.hashes }).fsetB 0x3000C 0 true).event 0x30004 7
    | .fkey k => if d.flag 0x3000C 8 then d else ((d.setSec { d.sys.sec with fkey := some k }).fsetB 0x3000C 8 true).event 0x30004 7

/-- DBGCHAL (R453). -/
def dbgChallenge (d : Device) : Device :=
  let (c, d) := d.freeRun 32
  { d.setSec { d.sys.sec with challenge := some c } with answer := c ++ d.devId }

/-- DBGUNLOCK (R453): the latest challenge serves this one attempt. -/
def dbgUnlock (d : Device) (req : List Byte) (sigOk : Bool) : Device :=
  let c := d.sys.sec.challenge
  let ok := decide (d.reqResult req 0x100 sigOk = 0) && (match c with | some c => (req.drop 0x20).take 32 == c | none => false)
  let d := d.setSec { d.sys.sec with challenge := none }
  if ok then d.fsetB 0x30000 8 true else d.event 0x30004 0

/-- The boundary scan takes an instruction (R452); only EXTEST drives the digital balls. -/
def scan (d : Device) (j : Jtag) : Device := { d with sys := { d.sys with jtag := j } }

end Device

end Sys2Proof.Machine
end

