-- ==== Sys2Proof/Machine/Security.lean ====
section
/-!
DEFINITION. The commands of the security block and of the JTAG port (R434 to R454).
-/

namespace Sys2Proof.Machine

/-- A write of SEC_CMD with OP fixed by its row. -/
def State.onSec (s : State) (w : Wr) (op : Nat) (k : Mem → Device → Device) : State :=
  s.onWrite w 0x30008 fun m d => (m, d.secCmd w.by_ (setBits w.data 0 4 op) (k m))

/-- SEC_ATTEST (R451). -/
def execSecAttest (w : Wr) (s : State) : Host.Outcome State Fault Refusal := .next (s.onSec w 0 fun m d => d.attest m)

/-- ATTEST_COMPLETE (R451). -/
def execAttestComplete (s : State) : Host.Outcome State Fault Refusal := .next (s.onDev fun d => d.attested)

/-- SEC_PATCHACT (R448). -/
def execSecPatchact (w : Wr) (s : State) : Host.Outcome State Fault Refusal := .next (s.onSec w 1 fun m d => d.patchAct m)

/-- PATCH_VERIFIED (R448). -/
def execPatchVerified (x : PatchIn) (saveOk : Bool) (s : State) : Host.Outcome State Fault Refusal :=
  .next (s.onBoth fun m d => d.patchDone m x saveOk)

/-- SEC_REVOKE (R444). -/
def execSecRevoke (w : Wr) (sigOk : Bool) (s : State) : Host.Outcome State Fault Refusal :=
  .next (s.onSec w 2 fun _ d => d.signed 2 sigOk Device.revoke)

/-- SEC_KEYPROG (R445). -/
def execSecKeyprog (w : Wr) (sigOk : Bool) (s : State) : Host.Outcome State Fault Refusal :=
  .next (s.onSec w 3 fun _ d => d.signed 3 sigOk Device.keyProg)

/-- SEC_FKEYPROG (R450). -/
def execSecFkeyprog (w : Wr) (sigOk : Bool) (s : State) : Host.Outcome State Fault Refusal :=
  .next (s.onSec w 4 fun _ d => d.signed 4 sigOk fun d _ => d.fkeyProg)

/-- SEC_BBWRITE (R445). -/
def execSecBbwrite (w : Wr) (s : State) : Host.Outcome State Fault Refusal := .next (s.onSec w 5 fun _ d => d.bbWrite)

/-- SEC_BBCLEAR (R445). -/
def execSecBbclear (w : Wr) (s : State) : Host.Outcome State Fault Refusal := .next (s.onSec w 6 fun _ d => d.bbGone.secEnd 0)

/-- SEC_GETID (R445): also the codes that are clamped to it (R454). -/
def execSecGetid (w : Wr) (s : State) : Host.Outcome State Fault Refusal :=
  .next (s.onSec w (max 7 (bitsOf w.data 0 4)) fun _ d => d.getId)

/-- TAMPER_EVENT (R436). -/
def execTamperEvent (s : State) : Host.Outcome State Fault Refusal := .next (s.onDev fun d => d.tampered)

/-- VBAT_LOSS (R436). -/
def execVbatLoss (s : State) : Host.Outcome State Fault Refusal := .next (s.onDev fun d => d.vbatLost)

/-- JTAG_FUSEPROG (R443). -/
def execJtagFuseprog (op : FuseOp) (s : State) : Host.Outcome State Fault Refusal := .next (s.onDev fun d => d.fuseProg op)

/-- JTAG_DBGCHAL (R453). -/
def execJtagDbgchal (s : State) : Host.Outcome State Fault Refusal := .next (s.onDev fun d => d.dbgChallenge)

/-- JTAG_DBGUNLOCK (R453). -/
def execJtagDbgunlock (request : List Byte) (sigOk : Bool) (s : State) : Host.Outcome State Fault Refusal :=
  .next (s.onDev fun d => d.dbgUnlock request sigOk)

/-- JTAG_BYPASS (R452). -/
def execJtagBypass (s : State) : Host.Outcome State Fault Refusal :=
  .next (s.onDev fun d => d.scan { d.sys.jtag with op := .bypass, drive := none })

/-- JTAG_IDCODE (R452): its value is free (assumption 2). -/
def execJtagIdcode (s : State) : Host.Outcome State Fault Refusal :=
  .next (s.onDev fun d => { d.scan { d.sys.jtag with op := .idcode, drive := none } with answer := devBytes 3 4 })

/-- JTAG_SAMPLE_PRELOAD (R452). -/
def execJtagSamplePreload (pads preload : List Bool) (s : State) : Host.Outcome State Fault Refusal :=
  .next (s.onDev fun d => d.scan { op := .sample, captured := pads, preload := preload, drive := none })

/-- JTAG_EXTEST (R452). -/
def execJtagExtest (drive : List Bool) (s : State) : Host.Outcome State Fault Refusal :=
  .next (s.onDev fun d => d.scan { d.sys.jtag with op := .extest, drive := some drive })

end Sys2Proof.Machine
end

