-- ==== Sys2Proof/Machine/RegOps.lean ====
section
/-!
DEFINITION. Writes of the registers that have no row of their own (R8 to R13): which owning block runs (R12), the checks that a write of
one field makes on others, and what follows a write.
-/

namespace Sys2Proof.Machine

namespace Device

/-! Owning blocks (R12). -/

/-- Contexts that are pending or active (R186). -/
def busyCtxs (d : Device) : List Nat :=
  (d.actives.map Exec.ctx) ++ (tabKeys d.lists).filterMap fun l => (d.lst l).pend.map Pend.ctx

/-- Entries that template `t` covers, first and count. -/
def tplRange (d : Device) (t : Nat) : Nat × Nat := (d.fget (aTD t) 0 12, d.fget (aTD t) 16 4)

/-- A template named by a pending or active context covers an entry of the range (R230). -/
def entriesBusy (d : Device) (first count : Nat) : Bool :=
  d.busyCtxs.any fun c =>
    let t := d.fget (aCTX c 7) 0 11
    let r := d.tplRange t
    decide (t ≠ 0) && decide (r.1 < first + count) && decide (first < r.1 + r.2)

/-- A chain, channel or meter, runs with profile `p` (R154). -/
def profBusy (d : Device) (p : Nat) : Bool :=
  (allChans.any fun n => d.chainRuns n && d.profOf n == p) ||
  ((List.range 4).any fun r => d.rmuChainRuns r && d.fget (aRMUF r 0) 0 8 == p)

/-- A conversion that the host started runs on meter `r` (R99). -/
def hostConv (d : Device) (r : Nat) : Bool :=
  match (tabGet (fun _ => Rmu.init) d.rmu r).conv with
  | some c => c.byHost
  | none => false

/-- A tile or meter is held by an owner other than the host, or the host holds it while its conversion runs (R114). -/
def heldBusy (d : Device) (r : Nat) (conv : Bool) : Bool :=
  match d.owner r with
  | .free => false
  | .host => conv
  | _ => true

/-- The owning block of the RWS fields of the register at `a` runs (R12). -/
def blockRuns (d : Device) (a : Nat) : Bool :=
  let b := a / 0x10000
  let o := a % 0x10000
  if b = 0x07 then
    if o < 0x4000 then d.flag (aPOS (o / 0x1000) 0) 31
    else (d.wheelAxes ((o - 0x8000) / 0x80)).any fun x => d.flag (aPOS x 0) 31
  else if b = 0x08 then
    let l := (o - 0x1000) / 0x10
    decide (d.lstState l = 1 ∨ d.lstState l = 2)
  else if b = 0x09 then d.flag (aRESQ (o / 0x40) 0xC) 0
  else if b = 0x0A then
    if 0x1000 ≤ o ∧ o < 0x1800 then d.heldBusy (resCat ((o - 0x1000) / 0x20)) ((List.range 4).any d.hostConv)
    else if 0x1800 ≤ o ∧ o < 0x1900 then d.heldBusy (resRmu ((o - 0x1800) / 0x40)) (d.hostConv ((o - 0x1800) / 0x40))
    else d.descBusy ((o - 0x4000) / 4)
  else if b = 0x0C then d.cbOn ((o - 0x1000) / 0x20)
  else if 0x14 ≤ b ∧ b ≤ 0x17 then d.profBusy ((a - 0x140000) / 0x400)
  else if b = 0x19 then
    if o < 0x4000 then d.engOn ((o - 0x1000) / 0x40)
    else
      let r := d.tplRange ((o - 0x4000) / 4)
      d.entriesBusy r.1 r.2
  else if 0x1A ≤ b ∧ b ≤ 0x1D then d.entriesBusy ((a - 0x1A0000) / 0x40) 1
  else if 0x20 ≤ b ∧ b < 0x40 then d.busyCtxs.contains ((a - 0x200000) / 0x80)
  else false

/-- A write is refused: of a profile with its number (R154, R157). -/
def refuseField (d : Device) (a : Nat) : Device :=
  if 0x140000 ≤ a ∧ a < 0x180000 ∧ 0x80 ≤ a % 0x100 then (d.fset 0x200 0 8 ((a - 0x140000) / 0x400)).refuse a
  else d.refuse a

/-! Checks that reach beyond the written register. -/

/-- R130 on the CTAPS of profile `n` after a write of its other fields. -/
def tapClamp (d : Device) (n : Nat) (src : ClampSrc) : Device :=
  let a := aPROF n 0
  let t := d.fget a 16 8
  let k := tapLimit (d.fget (aPROF n 1) 0 13) (d.fget a 4 2) (d.fget a 24 5) (d.fget a 8 2)
  if t ≤ k then d else ((d.fset a 16 8 k).reportClamp src (some a) 0 0xFFFF 8 a 16 t k).event 0x200 9

/-- A write of a profile word (R130, R154, R157): LASTPROF names the profile of a clamp. -/
def putProfile (d : Device) (p : Party) (a : Nat) (raw : Word) : Device :=
  let n := (a - 0x140000) / 0x400
  let d' := (d.putCooked p a raw).tapClamp n (srcOf p)
  if d'.cseq = d.cseq then d' else d'.fset 0x200 0 8 n

/-- One length field of a bus transaction entry is brought within the bus data area (R229). -/
def lenClamp (d : Device) (a lo left : Nat) (src : ClampSrc) : Device :=
  let x := d.fget a lo 16
  if x ≤ left then d else ((d.fset a lo 16 left).reportClamp src (some a) 0 0xFFFF 16 a lo x left).eventClamped a

/-- A write of an entry's offset bounds the buffer that it names (R229). -/
def putEntry (d : Device) (p : Party) (a : Nat) (raw : Word) : Device :=
  let x := (a - 0x1A0000) / 0x40
  let d := d.putCooked p a raw
  match a % 0x40 / 4 with
  | 4 => d.lenClamp (aTE x 5) 0 (d.areaLeft (d.fget a 0 24)) (srcOf p)
  | 6 => d.lenClamp (aTE x 5) 16 (d.areaLeft (d.fget a 0 24) / 2) (srcOf p)
  | 7 => d.lenClamp (aTE x 8) 0 (d.areaLeft (d.fget a 0 24)) (srcOf p)
  | _ => d

/-- A write of a region's base or size (R459, R460): the region is cut at the earlier ones; a write that would lay it over a later one is
refused. -/
def putRegion (d : Device) (i : Nat) (p : Party) (a : Nat) (raw : Word) : Device :=
  let d' := (d.putCooked p a raw).regClamp i (srcOf p) (regSize i).1 0
  if d'.overlapsLater i then d.refuse a else d'

/-- A queue or a buffer that is void stays disabled (R459). -/
def voidOff (d : Device) (i : Nat) : Device := if d.regVal i = 0 then d.voidRegion i else d

/-- A write of DDR_CBCFG (R459, R461, R462): a buffer that it enables counts afresh. -/
def putCbcfg (d : Device) (b : Nat) (p : Party) (raw : Word) : Device :=
  let was := d.cbOn b
  let d := (d.putRegion (19 + b) p (aCB b 4) raw).voidOff (19 + b)
  if !was && d.cbOn b then d.setCapBuf b CapBuf.init else d

/-- A write of CAPO_CAUSE clears only causes that are no longer present (R355). -/
def clearCauses (d : Device) (raw : Word) : Device :=
  d.wr 0x40004 (d.rd 0x40004 &&& ~~~(raw &&& ~~~(d.rd 0x40008)))

/-- A write of CAPO_CFG (R346, R350, R355): the masks and propagation bits act on causes that stand. -/
def capoConfig (d : Device) (p : Party) (raw : Word) : Device :=
  let d := d.putCooked p 0x4000C raw
  let d :=
    if !d.sys.capo.pinLow then d
    else if d.flag 0x4000C 4 then (if d.flag 0x40008 4 then d.causeGone 4 else d)
    else if d.flag 0x40008 4 then d else d.tripSafe 4
  d.noteChord.noteOwn

/-- A write of HOSTIF_QDMA (R474): enabling copies from RESQ_RDSEQ onward. -/
def qdmaWrite (d : Device) (q : Nat) (p : Party) (raw : Word) : Device :=
  let was := d.flag (aHQ q 0x10) 0
  let d := d.putCooked p (aHQ q 0x10) raw
  if !was && d.flag (aHQ q 0x10) 0 then d.setQue q { d.que q with dmaSeq := (d.rd (aRESQ q 0x14)).toNat } else d

/-- A write of a word of the MSI-X table: an unmasked entry sends what is pending for it (assumption 4). -/
def msixWrite (d : Device) (p : Party) (a : Nat) (raw : Word) : Device :=
  let v := (a - 0xD8000) / 0x10
  let pba := 0xD9000 + 4 * (v / 32)
  let d := d.putCooked p a raw
  if a % 0x10 = 0xC ∧ !d.vecMasked v ∧ d.flag pba (v % 32) then
    { d.fsetB pba (v % 32) false with msix := tabMod (fun _ => 0) v (· + 1) d.msix }
  else d

/-- A write of BUS_EKEEP: PERIOD runs from the write that enables keepalives (R234). -/
def keepWrite (d : Device) (e : Nat) (p : Party) (raw : Word) : Device :=
  let was := d.flag (aENG e 0x1C) 31
  let d := d.putCooked p (aENG e 0x1C) raw
  if !was && d.flag (aENG e 0x1C) 31 then d.setEng e { d.eng e with keepFrom := d.edge } else d

/-- Capo refuses a write of a CH register: of CH_SAFE and CH_SAFECODE under SAFE (R71), of CH_VOH and CH_VOL under HOLD (R72). -/
def capoRefuses (d : Device) (a : Nat) : Bool :=
  let o := a % 0x100
  decide (0x100000 ≤ a ∧ a < 0x140000) &&
    ((decide (d.capo = 2) && (o == 0x30 || o == 0x34)) || (decide (d.capo = 1) && (o == 0x24 || o == 0x28)))

/-- A border value may not change while its Fret loads (R284). -/
def borderFixed (d : Device) (a : Nat) : Bool :=
  decide (0xE1000 ≤ a ∧ a < 0xE1C00) && [1, 2].contains (d.fretState ((a - 0xE1000) / 0x40))

/-- CHORD_CFG and CHORD_PASYM, which software may write after step 12 of the start-up (R497). -/
def chordLoaded (a : Nat) : Bool := decide (a = 0xB0008) || (decide (0xB0100 ≤ a ∧ a < 0xB0140) && decide (a % 0x10 = 8))

/-- The register at `a` takes an accepted write. -/
def putReg (d : Device) (p : Party) (a : Nat) (raw : Word) : Device :=
  let b := a / 0x10000
  let o := a % 0x10000
  if a = 0x40004 then d.clearCauses raw
  else if a = 0x4000C then d.capoConfig p raw
  else if a = 0xB0008 then (d.putCooked p a raw).noteChord
  else if b = 0x07 ∧ o < 0x4000 ∧ o % 0x1000 = 0xC then d.setAx (o / 0x1000) { d.ax (o / 0x1000) with loadLo := some raw.toNat }
  else if b = 0x09 then
    if o % 0x40 < 0xC then d.putRegion (3 + o / 0x40) p a raw
    else if o % 0x40 = 0xC then (d.putCooked p a raw).voidOff (3 + o / 0x40)
    else d.putCooked p a raw
  else if b = 0x0A ∧ 0x4004 ≤ o ∧ o < 0x8000 then (d.putCooked p a raw).listClamp ((o - 0x4000) / 4) (srcOf p) a
  else if b = 0x0C ∧ 0x1000 ≤ o ∧ o < 0x1800 ∧ o % 0x20 = 0 then d.putRegion (19 + (o - 0x1000) / 0x20) p a raw
  else if b = 0x0C ∧ 0x1000 ≤ o ∧ o < 0x1800 ∧ o % 0x20 = 4 then d.putCbcfg ((o - 0x1000) / 0x20) p raw
  else if b = 0x0D ∧ 0x100 ≤ o ∧ o < 0x300 ∧ o % 0x20 = 0x10 then d.qdmaWrite ((o - 0x100) / 0x20) p raw
  else if b = 0x0D ∧ 0x8000 ≤ o ∧ o < 0x8400 then d.msixWrite p a raw
  else if 0x14 ≤ b ∧ b ≤ 0x17 ∧ 0x80 ≤ a % 0x100 then d.putProfile p a raw
  else if b = 0x18 ∧ 0x4200 ≤ o ∧ o < 0x4300 ∧ o % 8 = 0 then
    (d.putCooked p a raw).wakeClamp ((o - 0x4200) / 8) (srcOf p) fun k => aWAKE k 0
  else if b = 0x19 ∧ 0x1000 ≤ o ∧ o < 0x2E00 ∧ o % 0x40 = 0x1C then d.keepWrite ((o - 0x1000) / 0x40) p raw
  else if 0x1A ≤ b ∧ b ≤ 0x1D then d.putEntry p a raw
  else if 0x20 ≤ b ∧ b < 0x40 then
    let d := d.putCooked p a raw
    let c := (a - 0x200000) / 0x80
    if 8 ≤ a % 0x80 / 4 ∧ a % 0x80 / 4 ≤ 11 then d.ctxClamp c (srcOf p) (aCTX c 8) 0 else d
  else d.putCooked p a raw

/-- A write of a register without a row of its own (R8 to R13): discarded where no register lies (R470); refused for the owning block
that runs (R12), by Capo (R71, R72), for a Fret that loads (R284), on the link before step 12 (R497), and by the governor (R77); else applied. -/
def plainWrite (d : Device) (p : Party) (a : Nat) (raw : Word) : Device :=
  if (regFields a).isEmpty then d
  else if d.blockRuns a && d.reachesRws a raw then d.refuseField a
  else if d.capoRefuses a || d.borderFixed a || (chordLoaded a && !d.flag 0x20000 10) then d.refuse a
  else
    let d' := d.putReg p a raw
    let governed : Bool := decide (a / 0x10000 = 0x0A) || decide (0x10 ≤ a / 0x10000 ∧ a / 0x10000 ≤ 0x13)
    if governed && d.govRefuses d' then d.refuse a else d'

end Device

end Sys2Proof.Machine
end

