-- ==== Sys2Proof/Machine/RegWrite.lean ====
section
/-!
DEFINITION. REGISTER_WRITE (R8). Registers whose writes have rows of their own take the same effect when the write comes as a
REGISTER_WRITE; what only those rows say of the outside world is then free (log entry 15).
-/

namespace Sys2Proof.Machine

namespace Device

/-- A free yes or no (assumption 2). -/
def freeBool (d : Device) : Bool := (Config.freeByte d.freeCtr).getLsbD 0

/-- Writes in the CH and FILT blocks. -/
def routeChan (d : Device) (p : Party) (a : Nat) (raw : Word) : Device :=
  let o := a % 0x100
  if a < 0x140000 then
    let n := (a - 0x100000) / 0x100
    if o = 0 ∨ o = 4 ∨ o = 8 ∨ o = 0xC then d.writeReq n o p raw
    else if o = 0x18 then d.queueControl n p raw
    else if o = 0x1C then d.queueWrite n p raw
    else d.plainWrite p a raw
  else if o = 0 then d.filtControl ((a - 0x140000) / 0x100) p raw
  else d.plainWrite p a raw

/-- Writes in the POS block. -/
def routePos (d : Device) (p : Party) (a : Nat) (raw : Word) : Device :=
  let x := (a - 0x70000) / 0x1000
  let o := a % 0x1000
  if 0x74000 ≤ a then d.plainWrite p a raw
  else if o = 0 then d.posControl x p raw
  else if o = 0x10 then d.loadCounter x raw
  else if o = 0x14 ∨ o = 0x18 then d.rateWrite x o p raw
  else if o = 0x3C then d.cmpClaimWrite x p raw
  else if 0x400 ≤ o ∧ o < 0x800 ∧ o % 0x10 = 0 then d.valloWrite x ((o - 0x400) / 0x10) p raw
  else if 0x400 ≤ o ∧ o < 0x800 ∧ o % 0x10 = 4 then d.valhiWrite x ((o - 0x400) / 0x10) p raw
  else if 0x400 ≤ o ∧ o < 0x800 ∧ o % 0x10 = 8 then d.cmpCfgWrite x ((o - 0x400) / 0x10) p raw
  else d.plainWrite p a raw

/-- Writes in the STEP block. -/
def routeStep (d : Device) (p : Party) (a : Nat) (raw : Word) : Device :=
  if a = 0x80000 then d.stepCtl raw
  else if a = 0x80020 then d.startWrite raw false
  else if a = 0x80024 then d.stopWrite p raw
  else if 0x81000 ≤ a ∧ a < 0x82000 ∧ a % 0x10 = 0 ∧ !bitOf raw 31 then d.disableList ((a - 0x81000) / 0x10) p raw
  else d.plainWrite p a raw

/-- Writes in the MATRIX block. A per-bus open finds free switches stuck (log entry 15). -/
def routeMatrix (d : Device) (p : Party) (a : Nat) (raw : Word) : Device :=
  if a = 0xA0010 then d.matrixCmd p raw (bitOf raw 24)
  else if a = 0xA0014 then d.hostBusWrite raw
  else if a = 0xA0018 then d.takeByte.busOpenWrite raw (Config.freeStuck d.freeCtr)
  else if a = 0xA001C then d.takeByte.busRelWrite raw (Config.freeStuck d.freeCtr)
  else if a = 0xA0020 ∨ a = 0xA0024 ∨ a = 0xA0028 then d.claimWrite a (claimBits ((a - 0xA0020) / 4)) raw
  else if 0xA8000 ≤ a then d.lentWrite ((a - 0xA8000) / 4) p raw
  else if 0xA1800 ≤ a ∧ a < 0xA1900 ∧ a % 0x40 = 0x1C then
    if bitOf raw 0 then d.rmuStart ((a - 0xA1800) / 0x40) else d
  else d.plainWrite p a raw

/-- Writes in the PIN and BUS blocks. -/
def routePin (d : Device) (p : Party) (a : Nat) (raw : Word) : Device :=
  let o := a % 0x10000
  if a < 0x184000 then
    if o % 0x10 = 0 then d.pinSrcWrite (o / 0x10) p raw
    else if o % 0x10 = 4 then d.pinMapWrite (o / 0x10) 4 1 p raw
    else if o % 0x10 = 8 then d.pinMapWrite (o / 0x10) 8 2 p raw
    else d
  else if a < 0x184180 then d.pinBank ((a - 0x184000) / 0x80) ((a - 0x184000) % 0x80 / 4) raw
  else if 0x191000 ≤ a ∧ a < 0x192E00 ∧ a % 0x40 = 0 then d.ecfgWrite ((a - 0x191000) / 0x40) p raw
  else if 0x191000 ≤ a ∧ a < 0x192E00 ∧ a % 0x40 = 4 then d.epinWrite ((a - 0x191000) / 0x40) p raw
  else d.plainWrite p a raw

/-- Writes in the CHORD, DDR, HOSTIF and FABCFG blocks. -/
def routeHost (d : Device) (p : Party) (a : Nat) (raw : Word) : Device :=
  if a = 0xB000C then d.chordCtl raw
  else if a = 0xB0010 then (if bitOf raw 31 then d.chordSend raw else d)
  else if 0xC1000 ≤ a ∧ a < 0xC1800 ∧ a % 0x20 = 0x1C then (if bitOf raw 0 then d.capReset ((a - 0xC1000) / 0x20) else d)
  else if a = 0xD0040 then d.flashGo p raw
  else if 0xD0400 ≤ a ∧ a < 0xD0500 ∧ a % 0x20 = 0x10 ∧ bitOf raw 31 then d.dmaStart ((a - 0xD0400) / 0x20) p raw
  else if a = 0xE0008 then d.loadWrite p raw
  else d.plainWrite p a raw

/-- Writes in the DEV, CLK, CAPO, FAULT and CAL blocks. -/
def routeBase (d : Device) (p : Party) (a : Nat) (raw : Word) : Device :=
  if 0x210 ≤ a ∧ a < 0x250 ∧ a % 0x10 = 0 then d.rmufControl ((a - 0x210) / 0x10) p raw
  else if a = 0x10008 ∨ a = 0x1000C then d.fabricClock a p raw
  else if a = 0x10010 then (if bitOf raw 31 then d.clkCmd raw else d)
  else if 0x10040 ≤ a ∧ a < 0x10080 ∧ a % 0x10 < 0xC then d.outWrite ((a - 0x10040) / 0x10) (a % 0x10) p raw
  else if a = 0x40010 then d.capoCmd p raw
  else if a = 0x5000C then d.kick p raw
  else if a = 0x60000 then d.calControl p raw
  else if a = 0x60014 then (if 6 ≤ bitsOf raw 16 3 then d.calAbort p raw else d.calCmd p raw)
  else if a = 0x60018 then d.epochWrite raw
  else if a = 0x6002C then d.vuWrite p raw
  else d.plainWrite p a raw

/-- The rules of the register at `a`, byte memories apart. A word lies on an aligned offset (R8). -/
def route (d : Device) (p : Party) (a : Nat) (raw : Word) : Device :=
  let b := a / 0x10000
  if a % 4 ≠ 0 ∨ (regFields a).isEmpty then d
  else if b ≤ 6 then d.routeBase p a raw
  else if b = 7 then d.routePos p a raw
  else if b = 8 then d.routeStep p a raw
  else if b = 9 then d.plainWrite p a raw
  else if b = 0x0A then d.routeMatrix p a raw
  else if b ≤ 0x0E then d.routeHost p a raw
  else if b ≤ 0x17 then d.routeChan p a raw
  else d.routePin p a raw

/-- The commands of SEC_CMD by OP (R445); whether a signature verifies is free. -/
def secRoute (d : Device) (m : Mem) (p : Party) (raw : Word) : Device :=
  let ok := d.freeBool
  (d.takeByte).secCmd p raw fun d =>
    match bitsOf raw 0 4 with
    | 0 => d.attest m
    | 1 => d.patchAct m
    | 2 => d.signed 2 ok revoke
    | 3 => d.signed 3 ok keyProg
    | 4 => d.signed 4 ok fun d _ => d.fkeyProg
    | 5 => d.bbWrite
    | 6 => d.bbGone.secEnd 0
    | _ => d.getId

/-- The rules of the register at `a`. -/
def routeMem (m : Mem) (d : Device) (p : Party) (a : Nat) (raw : Word) : Mem × Device :=
  if a = 0x20020 then bootCtl m d.takeByte raw d.freeBool
  else if a = 0x30008 then (m, d.secRoute m p raw)
  else if a = 0x60014 ∧ bitsOf raw 16 3 = 5 then d.takeByte.calSave m raw d.freeBool
  else (m, d.route p a raw)

/-- A register write through BAR0 (R8, R276, R470, R471): below the Fret windows it goes to the register, above to the window. A Fret writes
through its shell port (R275). -/
def regWrite (m : Mem) (d : Device) (w : Wr) (a : Nat) : Mem × Device :=
  match w.by_ with
  | .shell f => (m, d.shellWrite f a w.be w.data)
  | _ =>
    if 0x400000 ≤ a then (m, d.windowAccess ((a - 0x400000) / 0x40000) (.write (BitVec.ofNat 18 a) w.be w.data))
    else if d.admits w a then routeMem m d w.by_ a w.data
    else (m, d.turnAway w a)

end Device

/-- REGISTER_WRITE (R8 to R13). -/
def execRegisterWrite (addr : BitVec 24) (w : Wr) (s : State) : Host.Outcome State Fault Refusal :=
  .next (s.onBoth fun m d => d.regWrite m w addr.toNat)

end Sys2Proof.Machine
end

