-- ==== Sys2Proof/Machine/SampleOps.lean ====
section
/-!
DEFINITION. One sample edge (R5, R39, R43, R47, R53, R159): raw samples to chains and capture runs, pad levels, axes, waiting triggers.
-/

namespace Sys2Proof.Machine

namespace Device

/-- What the world gives channel `n` at this edge, and whether the operand says so. For a channel that it leaves out the raw sample, within
range, is free, and the pad level stays (assumptions 2 and 5). -/
def sampleOf (d : Device) (xs : List PinSample) (n : Nat) : PinSample × Bool :=
  match xs.find? fun x => x.chan.val == n with
  | some x => (x, true)
  | none => (⟨Fin.ofNat 1024 n, (Config.freeWord (d.freeCtr + n)).toInt, 0⟩, false)

/-- The calibrated raw sample of channel `n` for the interval that began at the latest edge, with its flags RANGING, OVR, CLIMIT, UNDERRUN (R39,
R47, R53). In OFF it is the zero node's (R41, R542). CLIMIT says that a clamp in force held at any time in the interval, UNDERRUN that an
empty STREAM queue held the output of WAVE. -/
def rawOf (d : Device) (n : Nat) (s : PinSample × Bool) : Raw :=
  let x := s.1
  let c := d.ch n
  let (m, r) := c.inForce.getD (d.rd (aCH n 0), d.rd (aCH n 4))
  let g := sampleRange m r
  let y :=
    if (modeRow m).sense = .zeroNode then clampInt (-(zeroNoise g)) (zeroNoise g) x.raw
    else
      let y := d.senseCorrect (d.sliceOf n) (if g < 8 then g else g - 5) x.raw
      if s.2 then y else clampInt (-500000) 500000 y
  let bit (b : Bool) (v : Nat) : Nat := if b then v else 0
  ⟨d.edge, clampInt (-524287) 524287 y,
   bit (decide (c.flagStart ≤ d.edge ∧ d.edge < c.flagEnd)) 1 + bit (decide (500000 < y.natAbs)) 2 +
   bit (decide (clampKind m ≠ 0) && (c.clampHit || c.clampSince.isSome)) 4 +
   bit (decide (bitsOf m 0 3 = 6) && c.starved && decide (d.fget (aCH n 0x18) 0 2 = 0)) 8, g⟩

/-- Channels that something takes raw samples of. -/
def takers (d : Device) : List Nat :=
  ((allChans.filter fun n => d.chainRuns n || (d.thr n).loaded) ++ d.capRuns.map CapRun.chan).eraseDups

/-- The channels that the operand names, those that something takes samples of and those with state of their own; every other one is OFF
as at reset. -/
def seenChans (d : Device) (xs : List PinSample) : List Nat :=
  ((xs.map fun x => x.chan.val) ++ d.takers ++ d.liveChans ++ tabKeys d.chan).eraseDups

/-- CH_SAMPLE and CH_EVENT.OVR_SEEN (R47). A slice in an idle-gap calibration gives no sample (R29). -/
def noteSamples (d : Device) (xs : List PinSample) : Device :=
  (d.seenChans xs).foldl (fun d n =>
    if d.gapHeld n then d
    else
      let r := d.rawOf n (d.sampleOf xs n)
      let d := (d.wr (aCH n 0x44) (BitVec.ofNat 32 (ofSigned 20 r.code + 2 ^ 24 * r.flags))).setCh n { d.ch n with seen := d.edge + 1 }
      if r.flags / 2 % 2 = 1 then d.event (aCH n 0x3C) 2 else d) d

/-- The raw samples of the interval that ends reach chains, threshold units and capture runs. Under HOLD capture pauses (R33) and the
chains and threshold units go on (R152); a slice in an idle-gap calibration gives no sample (R29), and capture of a retired channel takes
none (R340). -/
def deliver (d : Device) (xs : List PinSample) : Device :=
  d.takers.foldl (fun d n =>
    if d.gapHeld n then d
    else
      let x := d.rawOf n (d.sampleOf xs n)
      let d := d.feedRaw n x (!(tabKeys d.lanePend).contains (laneOf n) && !d.thrOnly n)
      if d.retired n || decide (d.capo = 1) then d else (d.capRuns.filter fun r => r.chan == n).foldl (fun d r => d.capSample r x) d) d

/-- Channel `n` at the end of an interval: what it is driven to now stands before the edge, and what a later edge changes is in force from
it on (R63, R65). -/
def settleChan (d : Device) (n : Nat) : Device :=
  let c := d.ch n
  d.setCh n { c with before := d.pinState n, inForce := none, clampHit := c.clampSince.isSome,
                     pinOld := if c.pinWait then c.pinOld else none }

/-- The interval is over: settings changed at its end edge are in force for the next one, and so are calibration values and temperatures (R65,
R307, R332). -/
def settle (d : Device) : Device :=
  let d := (d.seenChans []).foldl settleChan d
  d.setCal { d.cal with old := none, temps := (List.range 16).map fun i => d.fgetS (0x60080 + 4 * i) 0 16 }

/-- Playbacks whose first edge is the present one give their first code (R49); under HOLD a queue does not advance (R72). -/
def firstCodes (d : Device) : Device :=
  ((tabKeys d.chan).filter fun n => (d.ch n).fresh && decide ((d.ch n).grid = d.edge) && decide (d.capo = 0)).foldl playOne d

/-- The pad comparator of a pin at a voltage (R43). The thresholds take effect at RELEASE_OUTPUTS (R68); until then the level stays low. -/
def padLevel (d : Device) (n : Nat) (microvolt : Int) : Bool :=
  if !d.flag 0x20000 17 then (d.ch n).pad
  else if d.fgetS (aCH n 0x2C) 0 14 * 4000 < microvolt then true
  else if microvolt < d.fgetS (aCH n 0x2C) 16 14 * 4000 then false
  else (d.ch n).pad

/-- Pad levels at this edge. -/
def pads (d : Device) (xs : List PinSample) : Device :=
  let d := ((tabKeys d.chan).filter fun n => (d.ch n).pad ≠ (d.ch n).prevPad).foldl (fun d n => d.setCh n { d.ch n with prevPad := (d.ch n).pad }) d
  xs.foldl (fun d x =>
    let n := x.chan.val
    d.setCh n { d.ch n with pad := d.padLevel n x.microvolt, volt := x.microvolt }) d

/-- Every axis moves (R159). -/
def moveAxes (d : Device) : Device := (List.range 4).foldl (fun d a => ((d.axMove a).encFilter a).noteHist a) d

/-- A TRIG of the link acts on its list at this edge (R490). -/
def linkTrigger (d : Device) (l : Nat) : Device :=
  if d.lstState l = 1 then (if d.lstTrig l = 4 then d.trigger l else d)
  else if d.lstState l = 2 then d.trigger l
  else d.event 0xB0004 6

/-- Triggers of the link whose edge has come; messages for one list make one trigger (R490). -/
def linkTriggers (d : Device) : Device :=
  let due := d.link.trigs.filter fun t => decide (t.2 ≤ d.edge)
  let d := d.setLink { d.link with trigs := d.link.trigs.filter fun t => !decide (t.2 ≤ d.edge) }
  (due.map Prod.fst).eraseDups.foldl linkTrigger d

/-- The window of a channel's or an engine's slot ends at this edge (R196). A meter's ends with its chain. -/
def endWindow (d : Device) (x : Exec) (s : Slot) : Slot :=
  match s.kind with
  | .rmu _ => s
  | _ =>
    if s.rec_.isNone && s.endEdge.isNone && !s.waits && reachedPos (d.ax (ctxAxis x.words)).c ((s.start + ctxLen x.words) % posMod)
    then { s with endEdge := some d.edge } else s

/-- Window ends of every execution. -/
def endWindows (d : Device) : Device := { d with execs := d.execs.map fun x => { x with slots := x.slots.map (d.endWindow x) } }

/-- Executions whose records are all committed are forgotten once their switches are open. -/
def purge (d : Device) : Device :=
  { d with execs := d.execs.filter fun x => !(allCommitted x && decide (x.closeEdge < d.edge) && !d.mx.releases.any fun r => r.exec == x.id) }

/-- The edge itself: the sample-edge counts advance (R5, R488). -/
def advance (d : Device) : Device :=
  { d with edge := d.edge + 1, freeCtr := d.freeCtr + 1024, link := { d.link with sedge := (d.link.sedge + 1) % 2 ^ 48 } }

/-- One sample edge. While the gated domains stand still only time passes (R373; assumption 14). -/
def sampleEdge (d : Device) (xs : List PinSample) : Device :=
  if d.flag 0x10000 14 then { d with edge := d.edge + 1 }.slipEngines.slipFrets
  else
    let d := (((d.noteWaits.flushMoves d.edge).noteSamples xs).deliver xs).settle.advance
    let d := ((d.freeInputs.gpioEdge.pads xs).moveAxes).lineWindows.linkTriggers
    d.firstCodes.dueAll.abortLists.endWindows.enginesEdge.remeasureDue.loaderEdge.noteDdrWait.purge

end Device

/-- SAMPLE_EDGE (R159). -/
def execSampleEdge (samples : List PinSample) (s : State) : Host.Outcome State Fault Refusal := .next (s.onDdr fun d => d.sampleEdge samples)

end Sys2Proof.Machine
end

