-- ==== Sys2Proof/Machine/Dispatch.lean ====
section
/-! DEFINITION. The dispatch of the commands: one arm for each constructor of Instr, in the order of the table. -/

namespace Sys2Proof.Machine

/-- The effect of a command on everything but the queue. -/
def exec (i : Instr) (s : State) : Host.Outcome State Fault Refusal :=
  match i with
  | .registerWrite addr w => Sys2Proof.Machine.execRegisterWrite addr w s
  | .chModeWrite n w => Sys2Proof.Machine.execChModeWrite n w s
  | .chRangeWrite n w => Sys2Proof.Machine.execChRangeWrite n w s
  | .chForceWrite n w => Sys2Proof.Machine.execChForceWrite n w s
  | .chClampWrite n w => Sys2Proof.Machine.execChClampWrite n w s
  | .bridgeEnd n => Sys2Proof.Machine.execBridgeEnd n s
  | .clampEngage n => Sys2Proof.Machine.execClampEngage n s
  | .foldBack n => Sys2Proof.Machine.execFoldBack n s
  | .chQwrWrite n w => Sys2Proof.Machine.execChQwrWrite n w s
  | .queueRunStart n w => Sys2Proof.Machine.execQueueRunStart n w s
  | .queueRunStop n w => Sys2Proof.Machine.execQueueRunStop n w s
  | .dacUpdate n => Sys2Proof.Machine.execDacUpdate n s
  | .govbudgetWrite w => Sys2Proof.Machine.execGovbudgetWrite w s
  | .sliceHandover c => Sys2Proof.Machine.execSliceHandover c s
  | .matrixCmdClose w => Sys2Proof.Machine.execMatrixCmdClose w s
  | .matrixCmdOpen w => Sys2Proof.Machine.execMatrixCmdOpen w s
  | .matrixHostbusWrite w => Sys2Proof.Machine.execMatrixHostbusWrite w s
  | .matrixHostClaimWrite r w => Sys2Proof.Machine.execMatrixHostClaimWrite r w s
  | .matrixBusopenWrite w stuck => Sys2Proof.Machine.execMatrixBusopenWrite w stuck s
  | .matrixBusrelWrite w stuck => Sys2Proof.Machine.execMatrixBusrelWrite w stuck s
  | .matrixLentWrite j w => Sys2Proof.Machine.execMatrixLentWrite j w s
  | .rmuStart r w => Sys2Proof.Machine.execRmuStart r w s
  | .rmuConversionEnd r m => Sys2Proof.Machine.execRmuConversionEnd r m s
  | .rmuChainStart r w => Sys2Proof.Machine.execRmuChainStart r w s
  | .rmuChainStop r w => Sys2Proof.Machine.execRmuChainStop r w s
  | .busOvercurrent p stuck => Sys2Proof.Machine.execBusOvercurrent p stuck s
  | .claimRelease => Sys2Proof.Machine.execClaimRelease s
  | .catComparatorEvent t v sat => Sys2Proof.Machine.execCatComparatorEvent t v sat s
  | .filtRunStart n w => Sys2Proof.Machine.execFiltRunStart n w s
  | .filtRunStop n w => Sys2Proof.Machine.execFiltRunStop n w s
  | .chainOutput n => Sys2Proof.Machine.execChainOutput n s
  | .filtOutloRead n => Sys2Proof.Machine.execFiltOutloRead n s
  | .thresholdUnitOutput n => Sys2Proof.Machine.execThresholdUnitOutput n s
  | .laneSpareTakeover m => Sys2Proof.Machine.execLaneSpareTakeover m s
  | .posRunStart a w => Sys2Proof.Machine.execPosRunStart a w s
  | .posRunStop a w => Sys2Proof.Machine.execPosRunStop a w s
  | .counterLoad a w => Sys2Proof.Machine.execCounterLoad a w s
  | .posCntloRead a => Sys2Proof.Machine.execPosCntloRead a s
  | .posRateWrite a w => Sys2Proof.Machine.execPosRateWrite a w s
  | .posSlewWrite a w => Sys2Proof.Machine.execPosSlewWrite a w s
  | .rateSlewStep a => Sys2Proof.Machine.execRateSlewStep a s
  | .lineCrossing a => Sys2Proof.Machine.execLineCrossing a s
  | .lineCrossingTimeout a => Sys2Proof.Machine.execLineCrossingTimeout a s
  | .holdoverExpiry a => Sys2Proof.Machine.execHoldoverExpiry a s
  | .toothEdge a => Sys2Proof.Machine.execToothEdge a s
  | .angleStall a => Sys2Proof.Machine.execAngleStall a s
  | .encoderSample a => Sys2Proof.Machine.execEncoderSample a s
  | .encoderIndex a => Sys2Proof.Machine.execEncoderIndex a s
  | .compareFire a k => Sys2Proof.Machine.execCompareFire a k s
  | .pulseEnd a k => Sys2Proof.Machine.execPulseEnd a k s
  | .cmpClaim a w => Sys2Proof.Machine.execCmpClaim a w s
  | .cmpRelease a w => Sys2Proof.Machine.execCmpRelease a w s
  | .cmpValhiWrite a k w => Sys2Proof.Machine.execCmpValhiWrite a k w s
  | .cmpCfgWrite a k w => Sys2Proof.Machine.execCmpCfgWrite a k w s
  | .stepStartArm w => Sys2Proof.Machine.execStepStartArm w s
  | .stepStartGo w => Sys2Proof.Machine.execStepStartGo w s
  | .stepStop w => Sys2Proof.Machine.execStepStop w s
  | .stepStopAbort w => Sys2Proof.Machine.execStepStopAbort w s
  | .stepCtlWrite w => Sys2Proof.Machine.execStepCtlWrite w s
  | .listDisable l w => Sys2Proof.Machine.execListDisable l w s
  | .pinTrigger l => Sys2Proof.Machine.execPinTrigger l s
  | .setupFetchDone l ecc => Sys2Proof.Machine.execSetupFetchDone l ecc s
  | .contextStart l ecc => Sys2Proof.Machine.execContextStart l ecc s
  | .contextClose l => Sys2Proof.Machine.execContextClose l s
  | .slotComplete l k => Sys2Proof.Machine.execSlotComplete l k s
  | .resqWrseqAdvance q => Sys2Proof.Machine.execResqWrseqAdvance q s
  | .slotRetry l k => Sys2Proof.Machine.execSlotRetry l k s
  | .resqRdseqWrite q w => Sys2Proof.Machine.execResqRdseqWrite q w s
  | .cantx e delay => Sys2Proof.Machine.execCantx e delay s
  | .canrx e => Sys2Proof.Machine.execCanrx e s
  | .canreq e delay => Sys2Proof.Machine.execCanreq e delay s
  | .isotp e delay => Sys2Proof.Machine.execIsotp e delay s
  | .linframe e d => Sys2Proof.Machine.execLinframe e d s
  | .lindiag e d => Sys2Proof.Machine.execLindiag e d s
  | .sentrx e => Sys2Proof.Machine.execSentrx e s
  | .senttx e => Sys2Proof.Machine.execSenttx e s
  | .canFrameReceived e f syncs => Sys2Proof.Machine.execCanFrameReceived e f syncs s
  | .canFrameError e k sending => Sys2Proof.Machine.execCanFrameError e k sending s
  | .busoffRecovery e => Sys2Proof.Machine.execBusoffRecovery e s
  | .linHeaderReceived e b pid d => Sys2Proof.Machine.execLinHeaderReceived e b pid d s
  | .linWakeDetect e => Sys2Proof.Machine.execLinWakeDetect e s
  | .linFrameLimit e => Sys2Proof.Machine.execLinFrameLimit e s
  | .lindiagPoll e d => Sys2Proof.Machine.execLindiagPoll e d s
  | .sentMessageReceived e m => Sys2Proof.Machine.execSentMessageReceived e m s
  | .sentMessageSent e => Sys2Proof.Machine.execSentMessageSent e s
  | .responsePending e f => Sys2Proof.Machine.execResponsePending e f s
  | .isotpFlowControl e f => Sys2Proof.Machine.execIsotpFlowControl e f s
  | .isotpTimerExpiry e => Sys2Proof.Machine.execIsotpTimerExpiry e s
  | .transactionTimeout e => Sys2Proof.Machine.execTransactionTimeout e s
  | .busSlotComplete e => Sys2Proof.Machine.execBusSlotComplete e s
  | .keepaliveDue e => Sys2Proof.Machine.execKeepaliveDue e s
  | .busEcfgWrite e w => Sys2Proof.Machine.execBusEcfgWrite e w s
  | .busEpinWrite e w => Sys2Proof.Machine.execBusEpinWrite e w s
  | .pinSrcWrite n w => Sys2Proof.Machine.execPinSrcWrite n w s
  | .pinFabWrite n w => Sys2Proof.Machine.execPinFabWrite n w s
  | .pinAxoWrite n w => Sys2Proof.Machine.execPinAxoWrite n w s
  | .pinSetWrite b w => Sys2Proof.Machine.execPinSetWrite b w s
  | .pinClrWrite b w => Sys2Proof.Machine.execPinClrWrite b w s
  | .pinTglWrite b w => Sys2Proof.Machine.execPinTglWrite b w s
  | .wakePinEvent pins => Sys2Proof.Machine.execWakePinEvent pins s
  | .fretLoad w => Sys2Proof.Machine.execFretLoad w s
  | .fretUnload w => Sys2Proof.Machine.execFretUnload w s
  | .fretReset w => Sys2Proof.Machine.execFretReset w s
  | .regionImageCached r => Sys2Proof.Machine.execRegionImageCached r s
  | .regionLoadComplete r => Sys2Proof.Machine.execRegionLoadComplete r s
  | .fretBorderConnect f => Sys2Proof.Machine.execFretBorderConnect f s
  | .regionRetry f => Sys2Proof.Machine.execRegionRetry f s
  | .scrubFrame r => Sys2Proof.Machine.execScrubFrame r s
  | .shellWrite f addr be data => Sys2Proof.Machine.execShellWrite f addr be data s
  | .fretWindowAccess f op => Sys2Proof.Machine.execFretWindowAccess f op s
  | .fretWindowTimeout f => Sys2Proof.Machine.execFretWindowTimeout f s
  | .calCmdFull w => Sys2Proof.Machine.execCalCmdFull w s
  | .calCmdRange w => Sys2Proof.Machine.execCalCmdRange w s
  | .calCmdQuick w => Sys2Proof.Machine.execCalCmdQuick w s
  | .calCmdTaps w => Sys2Proof.Machine.execCalCmdTaps w s
  | .calCmdRmu w => Sys2Proof.Machine.execCalCmdRmu w s
  | .calCmdSave w ok => Sys2Proof.Machine.execCalCmdSave w ok s
  | .calCmdAbort w => Sys2Proof.Machine.execCalCmdAbort w s
  | .calCtlWrite w => Sys2Proof.Machine.execCalCtlWrite w s
  | .autoCalDue k r => Sys2Proof.Machine.execAutoCalDue k r s
  | .calibrationStart vref => Sys2Proof.Machine.execCalibrationStart vref s
  | .calRangeEnd m vref => Sys2Proof.Machine.execCalRangeEnd m vref s
  | .disturbedReschedule k r => Sys2Proof.Machine.execDisturbedReschedule k r s
  | .tapMeasureEnd b pairs vref => Sys2Proof.Machine.execTapMeasureEnd b pairs vref s
  | .rmuCalEnd x vref => Sys2Proof.Machine.execRmuCalEnd x vref s
  | .calSaveTimer ok => Sys2Proof.Machine.execCalSaveTimer ok s
  | .calVuWrite w => Sys2Proof.Machine.execCalVuWrite w s
  | .calEpochWrite w => Sys2Proof.Machine.execCalEpochWrite w s
  | .epochTick => Sys2Proof.Machine.execEpochTick s
  | .sensorRead temps => Sys2Proof.Machine.execSensorRead temps s
  | .faultDetected x => Sys2Proof.Machine.execFaultDetected x s
  | .deviceRetest r pass => Sys2Proof.Machine.execDeviceRetest r pass s
  | .eventLogCopy => Sys2Proof.Machine.execEventLogCopy s
  | .supplyOutOfWindow r => Sys2Proof.Machine.execSupplyOutOfWindow r s
  | .supplyRestored => Sys2Proof.Machine.execSupplyRestored s
  | .overtempTrip => Sys2Proof.Machine.execOvertempTrip s
  | .overtempClear => Sys2Proof.Machine.execOvertempClear s
  | .capoNAssert => Sys2Proof.Machine.execCapoNAssert s
  | .capoNRelease => Sys2Proof.Machine.execCapoNRelease s
  | .capoCmdSafe w => Sys2Proof.Machine.execCapoCmdSafe w s
  | .capoCmdClrhost w => Sys2Proof.Machine.execCapoCmdClrhost w s
  | .capoCmdRelease w => Sys2Proof.Machine.execCapoCmdRelease w s
  | .capoRdelayExpiry => Sys2Proof.Machine.execCapoRdelayExpiry s
  | .watchdogKick w => Sys2Proof.Machine.execWatchdogKick w s
  | .watchdogExpiry => Sys2Proof.Machine.execWatchdogExpiry s
  | .watchdogStage2 => Sys2Proof.Machine.execWatchdogStage2 s
  | .watchdogStage3 => Sys2Proof.Machine.execWatchdogStage3 s
  | .refCountComplete b => Sys2Proof.Machine.execRefCountComplete b s
  | .refMissingEdge b => Sys2Proof.Machine.execRefMissingEdge b s
  | .activeRefLoss => Sys2Proof.Machine.execActiveRefLoss s
  | .refWindowEnd count => Sys2Proof.Machine.execRefWindowEnd count s
  | .refSwitchComplete => Sys2Proof.Machine.execRefSwitchComplete s
  | .gatedDomainsStop => Sys2Proof.Machine.execGatedDomainsStop s
  | .clkCmdSwitch w => Sys2Proof.Machine.execClkCmdSwitch w s
  | .hitlessSlewEnd => Sys2Proof.Machine.execHitlessSlewEnd s
  | .fabricClockWrite r w => Sys2Proof.Machine.execFabricClockWrite r w s
  | .fabPllLock => Sys2Proof.Machine.execFabPllLock s
  | .clkoutWrite n r w => Sys2Proof.Machine.execClkoutWrite n r w s
  | .clkoutRelock n => Sys2Proof.Machine.execClkoutRelock n s
  | .supplyGood st => Sys2Proof.Machine.execSupplyGood st s
  | .baseImageLoaded l => Sys2Proof.Machine.execBaseImageLoaded l s
  | .ddrTrained => Sys2Proof.Machine.execDdrTrained s
  | .ddrTrainRetry => Sys2Proof.Machine.execDdrTrainRetry s
  | .releasePhase k => Sys2Proof.Machine.execReleasePhase k s
  | .bootDelayExpiry k => Sys2Proof.Machine.execBootDelayExpiry k s
  | .stepEngineArm => Sys2Proof.Machine.execStepEngineArm s
  | .progN => Sys2Proof.Machine.execProgN s
  | .bootCtlReprog w => Sys2Proof.Machine.execBootCtlReprog w s
  | .bootCtlWarm w saveOk => Sys2Proof.Machine.execBootCtlWarm w saveOk s
  | .warmStartRearm => Sys2Proof.Machine.execWarmStartRearm s
  | .patchRetry x saveOk => Sys2Proof.Machine.execPatchRetry x saveOk s
  | .bootCtlQuiet w saveOk => Sys2Proof.Machine.execBootCtlQuiet w saveOk s
  | .wakeNLow => Sys2Proof.Machine.execWakeNLow s
  | .bootCtlWake w => Sys2Proof.Machine.execBootCtlWake w s
  | .quietExitArm => Sys2Proof.Machine.execQuietExitArm s
  | .bootCtlClrclamp w => Sys2Proof.Machine.execBootCtlClrclamp w s
  | .secAttest w => Sys2Proof.Machine.execSecAttest w s
  | .attestComplete => Sys2Proof.Machine.execAttestComplete s
  | .secPatchact w => Sys2Proof.Machine.execSecPatchact w s
  | .patchVerified x saveOk => Sys2Proof.Machine.execPatchVerified x saveOk s
  | .secRevoke w sigOk => Sys2Proof.Machine.execSecRevoke w sigOk s
  | .secKeyprog w sigOk => Sys2Proof.Machine.execSecKeyprog w sigOk s
  | .secFkeyprog w sigOk => Sys2Proof.Machine.execSecFkeyprog w sigOk s
  | .secBbwrite w => Sys2Proof.Machine.execSecBbwrite w s
  | .secBbclear w => Sys2Proof.Machine.execSecBbclear w s
  | .secGetid w => Sys2Proof.Machine.execSecGetid w s
  | .tamperEvent => Sys2Proof.Machine.execTamperEvent s
  | .vbatLoss => Sys2Proof.Machine.execVbatLoss s
  | .jtagFuseprog op => Sys2Proof.Machine.execJtagFuseprog op s
  | .jtagDbgchal => Sys2Proof.Machine.execJtagDbgchal s
  | .jtagDbgunlock request sigOk => Sys2Proof.Machine.execJtagDbgunlock request sigOk s
  | .jtagBypass => Sys2Proof.Machine.execJtagBypass s
  | .jtagIdcode => Sys2Proof.Machine.execJtagIdcode s
  | .jtagSamplePreload pads preload => Sys2Proof.Machine.execJtagSamplePreload pads preload s
  | .jtagExtest drive => Sys2Proof.Machine.execJtagExtest drive s
  | .pcieReset k => Sys2Proof.Machine.execPcieReset k s
  | .bar2Access op => Sys2Proof.Machine.execBar2Access op s
  | .bar2baseWrite w => Sys2Proof.Machine.execBar2baseWrite w s
  | .queueDmaCopy q => Sys2Proof.Machine.execQueueDmaCopy q s
  | .dmaGo n w => Sys2Proof.Machine.execDmaGo n w s
  | .dmaComplete n r => Sys2Proof.Machine.execDmaComplete n r s
  | .flashRead w => Sys2Proof.Machine.execFlashRead w s
  | .flashProgram w => Sys2Proof.Machine.execFlashProgram w s
  | .flashErase w => Sys2Proof.Machine.execFlashErase w s
  | .flashOpComplete ok => Sys2Proof.Machine.execFlashOpComplete ok s
  | .ddrUncorrectable addr => Sys2Proof.Machine.execDdrUncorrectable addr s
  | .ddrCorrected => Sys2Proof.Machine.execDdrCorrected s
  | .cbReset b w => Sys2Proof.Machine.execCbReset b w s
  | .ddrCbwrRead b => Sys2Proof.Machine.execDdrCbwrRead b s
  | .chordPortDown p => Sys2Proof.Machine.execChordPortDown p s
  | .chordPortUp p origins => Sys2Proof.Machine.execChordPortUp p origins s
  | .joinMessage j => Sys2Proof.Machine.execJoinMessage j s
  | .assignMessage j => Sys2Proof.Machine.execAssignMessage j s
  | .chordEnum w => Sys2Proof.Machine.execChordEnum w s
  | .chordClrorig w => Sys2Proof.Machine.execChordClrorig w s
  | .capoMessage m => Sys2Proof.Machine.execCapoMessage m s
  | .capoAssertRepeat => Sys2Proof.Machine.execCapoAssertRepeat s
  | .trigMessage m => Sys2Proof.Machine.execTrigMessage m s
  | .chordSendGo w => Sys2Proof.Machine.execChordSendGo w s
  | .posMessage m => Sys2Proof.Machine.execPosMessage m s
  | .posSend => Sys2Proof.Machine.execPosSend s
  | .wakeMessage p sender => Sys2Proof.Machine.execWakeMessage p sender s
  | .timeExchange => Sys2Proof.Machine.execTimeExchange s
  | .timeReply p t => Sys2Proof.Machine.execTimeReply p t s
  | .statusSend => Sys2Proof.Machine.execStatusSend s
  | .statusToken t => Sys2Proof.Machine.execStatusToken t s
  | .tokenAgeExpiry k => Sys2Proof.Machine.execTokenAgeExpiry k s
  | .chordSedgeloRead => Sys2Proof.Machine.execChordSedgeloRead s
  | .sampleEdge samples => Sys2Proof.Machine.execSampleEdge samples s
  | .clampRelease n => Sys2Proof.Machine.execClampRelease n s
  | .borderOutputChange f sig level => Sys2Proof.Machine.execBorderOutputChange f sig level s
  | .rootPllLock x => Sys2Proof.Machine.execRootPllLock x s
  | .ddrPllLock => Sys2Proof.Machine.execDdrPllLock s
  | .pcieLinkUp speed width => Sys2Proof.Machine.execPcieLinkUp speed width s

end Sys2Proof.Machine
end

