-- ==== Sys2Proof/Machine/View.lean ====
section
/-!
DEFINITION. What a read of a register gives (R8, R10): the stored word, with the fields that the device forms from other state at the read.
The four registers whose read changes something have rows of their own.
-/

namespace Sys2Proof.Machine

namespace Device

/-- A field that is formed at the read: lowest bit, width, value. -/
abbrev Piece := Nat × Nat × Nat

/-- One bit of a formed field. -/
def bitPiece (i : Nat) (b : Bool) : Piece := (i, 1, if b then 1 else 0)

/-- CH_QSTAT, CH_STATUS, CH_PDISS (R48, R73, R82); and CH_SAMPLE of a channel that has been OFF as at reset since an edge: the zero node's
reading, whose noise is free (R542; assumption 2). -/
def viewCh (d : Device) (n o : Nat) : List Piece :=
  let c := d.ch n
  if o = 0x20 then [(0, 13, if d.fget (aCH n 0x18) 0 2 = 0 then c.fill else d.fget (aCH n 0x18) 16 13), (16, 13, c.rd)]
  else if o = 0x38 then
    [bitPiece 10 (decide (c.flagStart ≤ d.edge ∧ d.edge < c.flagEnd)),
     bitPiece 11 (decide (c.seen = d.edge) && d.flag (aCH n 0x44) 25), (12, 2, d.capo)]
  else if o = 0x40 then [(0, 16, d.pdiss n)]
  else if o = 0x44 ∧ c.seen = 0 ∧ d.edge ≠ 0 then
    let k := zeroNoise (d.fget (aCH n 4) 0 2)
    [(0, 20, ofSigned 20 (clampInt (-k) k (Config.freeWord (d.freeCtr + n)).toInt))]
  else []

/-- CLK_REFACNT or CLK_REFBCNT (R359): a count under way lies below 8,192, and is free: the edges of the reference are not commands
(assumption 2). -/
def viewRefCount (d : Device) (i : Nat) : List Piece :=
  if d.fget (0x10014 + 4 * i) 0 14 = 8192 then [] else [(0, 14, (Config.freeWord (d.freeCtr + i)).toNat % 8192)]

/-- CHORD_PCNT of port `p` (R497): which blocks come with an invalid header or a wrong CRC no command tells; once the device has power its counts
are free (assumption 2). -/
def viewPcnt (d : Device) (p : Nat) : List Piece :=
  if d.fget 0x20000 0 5 = 0 then [] else [(0, 32, (Config.freeWord (d.freeCtr + p)).toNat)]

/-- The token of ID `i` is VALID: not older than 5 ms (R494). -/
def tokenFresh (d : Device) (i : Nat) : Bool :=
  d.flag (aTOK i) 3 && decide (d.edge ≤ tabGet (fun _ => 0) d.link.tokenAt i + 102400)

/-- MATRIX_BUSSTAT and MATRIX_BUSCTX of logical bus `b` (R120). -/
def viewBusstat (d : Device) (b : Nat) : List Piece :=
  let p := d.phys b
  [(0, 6, countTaps d.mx.closed p), (8, 4, countPorts d.mx.closed p), (18, 2, ownerCode (d.owner (resBus b))), bitPiece 20 (d.isHeldOpen b)]

/-- CTX of MATRIX_BUSCTX. -/
def viewBusctx (d : Device) (b : Nat) : List Piece :=
  match d.owner (resBus b) with
  | .ctx _ c => [(0, 14, c)]
  | _ => []

/-- PHASE of CAL_CUR (R309, R314, R331): a quick range shows POINTS after its pre-check. -/
def calPhase (d : Device) : Nat :=
  match d.cal.run with
  | some r =>
    match r.start with
    | none => 0
    | some e =>
      let t := d.edge - e
      if r.req.op = 3 then 5 else if r.req.op = 4 then 6
      else if t < 2048 then 1
      else if r.req.op = 2 ∨ t < 59392 then 2
      else if t < 63488 then 3 else 4
  | none => 0

/-- Requests for a slice wait, or it is due (R333). -/
def calPending (d : Device) (s : Nat) : Bool :=
  (d.cal.boot ++ d.cal.reqs ++ d.cal.auto ++ d.cal.again ++ d.cal.dist.map Prod.fst).any fun q => decide (q.op ≤ 2) && q.target == s

/-- The slice whose set lies at `a` of the CAL block: that now serving a channel's pin, or a spare (R333). -/
def calSlice (d : Device) (a : Nat) : Nat :=
  if a < 0x68000 then 33 * ((a - 0x64000) / 0x20) + 32 else d.sliceOf ((a - 0x68000) / 0x20)

/-- CAL_VF and CAL_VU: the value that CAL_VSEL selects (R332). TCAL is the user value of item 12. -/
def viewVal (d : Device) (user : Bool) : Word :=
  let v := d.rd 0x60024
  let s := bitsOf v 0 11
  let r := bitsOf v 12 3
  let path := bitsOf v 15 1
  let item := bitsOf v 16 4
  let k := calKey s r path item
  BitVec.ofInt 32 (if user then (if item = 12 then d.tcalOf s r path else d.userVal k) else d.factVal k)

/-- Transactions of engine `e` that wait (R249). -/
def waitingTx (d : Device) (e : Nat) : Nat := ((d.eng e).txs.filter fun t => t.begun.isNone).length

/-- BUS_ESTAT (R249). ERRPASSIVE is told by the counters: above 127. -/
def viewEstat (d : Device) (e : Nat) : List Piece :=
  let g := d.eng e
  let busy : Bool := g.txs.any fun t => t.begun.isSome && decide (t.phase ≠ .decided)
  let st := if g.faulted then 6 else if g.halted then 5 else if !d.engLive e then 0 else if g.busOff then 4
    else if busy then 2 else if 127 < g.tec ∨ 127 < g.rec_ then 3 else 1
  [(0, 3, st), (8, 9, g.tec), (17, 7, min 127 g.rec_), (24, 8, min 255 (d.waitingTx e))]

/-- PIN_SRC (R253, R268). An engine that names the pin is mapped to it whether or not it is enabled (R251). -/
def viewPinSrc (d : Device) (n : Nat) : List Piece :=
  let k := (d.txEngines n).length
  let mapped : Bool := decide (d.fget (aPIN n 0) 0 3 ≠ 0) || decide (0 < k)
  [(8, 4, min 15 k), (16, 2, d.pinOwner n), bitPiece 18 (mapped && decide (d.pinOwner n ≠ 2)),
   bitPiece 19 ((List.range 32).any fun s => d.flag (aWAKE s 0) 31 && d.fget (aWAKE s 0) 0 10 == n)]

/-- NEXT of FABCFG_FRETRY (R300): ms until the next attempt, rounded up. -/
def viewRetry (d : Device) (f : Nat) : List Piece :=
  [(16, 10, match (d.fret f).retry with | some (_, e) => ceilDiv (e - d.edge) 20480 | none => 0)]

/-- PIN_PAD of word `w` (R261). -/
def viewPads (d : Device) (w : Nat) : List Piece := (List.range 32).map fun i => bitPiece i (d.ch (32 * w + i)).pad

/-- The fields of the register at `a` that are formed at the read. -/
def pieces (d : Device) (a : Nat) : List Piece :=
  if a = 0x104 then [(0, 16, d.ceiling)]
  else if a = 0x108 then [(0, 22, d.committed)]
  else if a = 0x10014 ∨ a = 0x10018 then d.viewRefCount ((a - 0x10014) / 4)
  else if a = 0x60020 then [(16, 3, d.calPhase)]
  else if a = 0x60034 then [(0, 16, tabGet (fun _ => 0xFFFF) d.cal.taps (34 * d.fget 0x60030 0 10 + d.fget 0x60030 16 6))]
  else if 0x64000 ≤ a ∧ a < 0x70000 ∧ a % 0x20 = 0x18 then [bitPiece 16 (d.calPending (d.calSlice a))]
  else if 0x90000 ≤ a ∧ a < 0x90400 ∧ a % 0x40 = 0x1C then [(0, 25, d.queFree ((a - 0x90000) / 0x40))]
  else if 0x90000 ≤ a ∧ a < 0x90400 ∧ a % 0x40 = 0x20 then [bitPiece 0 (d.waitsForQueue ((a - 0x90000) / 0x40))]
  else if 0xA0100 ≤ a ∧ a < 0xA0180 then d.viewBusstat ((a - 0xA0100) / 4)
  else if 0xA0180 ≤ a ∧ a < 0xA0200 then d.viewBusctx ((a - 0xA0180) / 4)
  else if 0xB0100 ≤ a ∧ a < 0xB0140 ∧ a % 0x10 = 0xC then d.viewPcnt ((a - 0xB0100) / 0x10)
  else if 0xB4000 ≤ a ∧ a < 0xB5FFC then [bitPiece 3 (d.tokenFresh ((a - 0xB4000) / 4))]
  else if a = 0xC0014 then [(0, 16, d.patrolTime / 884736000000)]
  else if a = 0xE0000 then [bitPiece 24 (d.flag 0x20000 18), bitPiece 25 (d.flag 0x20000 19)]
  else if 0xE0100 ≤ a ∧ a < 0xE0700 ∧ a % 0x20 = 4 then d.viewRetry ((a - 0xE0100) / 0x20)
  else if 0x100000 ≤ a ∧ a < 0x140000 then d.viewCh ((a - 0x100000) / 0x100) (a % 0x100)
  else if 0x180000 ≤ a ∧ a < 0x184000 ∧ a % 0x10 = 0 then d.viewPinSrc ((a - 0x180000) / 0x10)
  else if 0x180000 ≤ a ∧ a < 0x184000 ∧ a % 0x10 = 0xC then [(0, 7, (d.txEngines ((a - 0x180000) / 0x10)).headD 0x7F)]
  else if 0x184180 ≤ a ∧ a < 0x184200 then d.viewPads ((a - 0x184180) / 4)
  else if a = 0x190004 then [(0, 4, d.bitMarkers)]
  else if 0x191000 ≤ a ∧ a < 0x192E00 ∧ a % 0x40 = 0x20 then d.viewEstat ((a - 0x191000) / 0x40)
  else []

/-- A word of a list of bytes. -/
def wordAt (bs : List Byte) (o : Nat) : Word := BitVec.ofNat 32 (leNat ((bs.drop o).take 4))

/-- A read of the word at `a`: entries of the fault queue (R356) and of the clamp report (R407), calibration values and sets, registers. -/
def readReg (d : Device) (a : Nat) : Word :=
  if a % 4 ≠ 0 then 0
  else if 0x51000 ≤ a ∧ a < 0x59000 then wordAt (tabGet (fun _ => FqEntry.zero) d.fq ((a - 0x51000) / 0x20)).bytes (a % 0x20)
  else if 0x21000 ≤ a ∧ a < 0x29000 then
    (match d.clampRep[(a - 0x21000) / 0x20]? with
     | some e => wordAt e.bytes (a % 0x20)
     | none => 0)
  else if a = 0x60028 then d.viewVal false
  else if a = 0x6002C then d.viewVal true
  else
    let base := if 0x68000 ≤ a ∧ a < 0x70000 then aCAL (d.calSlice a) (a % 0x20) else a
    (d.pieces a).foldl (fun v p => setBits v p.1 p.2.1 p.2.2) (d.rd base)

end Device

end Sys2Proof.Machine
end

