-- ==== Sys2Proof/Safety.lean ====
section
/-!
DEFINITION. The terms in which statements are made: the memories in canonical form, the part of the device that reports do not
touch, the registers in which the block reports, and what it means that a command completes.
-/

namespace Sys2Proof.Machine

/-- The byte memories are in canonical form: addresses strictly rising, no byte listed that an unlisted address reads as. -/
def Mem.wf (m : Mem) : Bool := tabWf blankRam m.ddr && tabWf blankFlash m.flash && tabWf blankRam m.host

/-- Safe states: the byte memories are in canonical form. There is no other unsafe state, since no command faults. -/
def State.safe (s : State) : Bool := s.mem.wf

/-- The device without what reports write: its registers, the fault queue, the clamp report, the items that wait for the event log, the
interrupt messages sent (R352, R408, R430, R473), and what a command collects for DDR5 while it runs. -/
def Device.plant (d : Device) : Device :=
  { d with regs := [], fq := [], fqSince := 0, cseq := 0, clampRep := [], logQ := [], msix := [], ddrOut := [] }

/-- Registers in which any block may report: the fault queue's pointers, counters and event register (R355, R356), BOOT_CLAMPCNT (R408), the
pending-bit array of the interrupts (R473). -/
def reportReg (a : Nat) : Bool :=
  [0x20040, 0x50004, 0x50020, 0x50028, 0x50040, 0x50044, 0x50048, 0x5004C, 0xD9000, 0xD9004].contains a

/-- Every register outside `own` and the reporting registers reads as before. -/
def Device.keepsRegs (own : Nat → Prop) (d d' : Device) : Prop := ∀ a, ¬ own a → reportReg a = false → d'.rd a = d.rd a

/-- The command completes: exec answers a next state, and `P` holds of it. -/
def Gives (c : Instr) (s : State) (P : State → Prop) : Prop := ∃ t, exec c s = .next t ∧ P t

/-- The command completes with a device that `P` describes; the queue and the byte memories are as before. -/
def GivesDev (c : Instr) (s : State) (P : Device → Prop) : Prop :=
  ∃ t, exec c s = .next t ∧ t.pending = s.pending ∧ t.mem = s.mem ∧ P t.dev

/-- The command completes with the device that `P` describes; the queue, flash and the host's memory are as before. -/
def GivesDdr (c : Instr) (s : State) (P : Device → Prop) : Prop :=
  ∃ t, exec c s = .next t ∧ t.pending = s.pending ∧ t.mem.flash = s.mem.flash ∧ t.mem.host = s.mem.host ∧ P t.dev

/-- The command completes with memories and a device that `P` describes; the queue is as before. -/
def GivesMem (c : Instr) (s : State) (P : Mem → Device → Prop) : Prop :=
  ∃ t, exec c s = .next t ∧ t.pending = s.pending ∧ P t.mem t.dev

/-- The fields of a register lie within its word and share no bit. -/
def fieldsApart : List Fld → Bool
  | [] => true
  | f :: r => decide (f.lo + f.width ≤ 32) && r.all (fun g => decide (f.lo + f.width ≤ g.lo ∨ g.lo + g.width ≤ f.lo)) && fieldsApart r

/-- The value that the latest of some requests gives a register, else the old one (R61). -/
def latest (f : ChReq → Option Word) (old : Word) (rs : List ChReq) : Word := ((rs.filterMap f).getLast?).getD old

/-- The first transaction `t` of engine `e` waits for operation `op`, its gap has passed, Capo does not hold the engine, and a READY clock runs
(R212, R233, R243). -/
def Device.txDue (d : Device) (e op : Nat) (t : Tx) : Prop :=
  d.headTx e = some t ∧ t.phase = .waiting ∧ d.teOp t.entry = op ∧ t.ready + usTs (d.te t.entry 11 16 16) ≤ d.edge ∧ d.capo ≠ 1 ∧
  d.flag 0x10000 14 = false

/-- Engine `e` can perform operation `op`: kind and role fit, it is enabled and the start-up is past its step 12, it is neither bus-off nor HALTED, and a
LISTEN engine sends nothing (R219, R231, R236, R244, R384). -/
def Device.txAble (d : Device) (e op : Nat) : Prop :=
  d.opFits e op = true ∧ (d.eng e).busOff = false ∧ d.engLive e = true ∧ (d.eng e).halted = false ∧ (opSends op = true → d.engRole e = 0)

/-- Beside its own engine a command of a bus engine changes no engine, channel, context, axis or switch. -/
def Device.onlyEngine (d : Device) (e : Nat) (d' : Device) : Prop :=
  (∀ g, g ≠ e → d'.eng g = d.eng g) ∧ d'.chan = d.chan ∧ d'.execs = d.execs ∧ d'.axes = d.axes ∧ d'.mx = d.mx

/-- The security block is done with a result (R454): none while a command runs. -/
def Device.secResult (d : Device) : Option Nat := if d.flag 0x30000 0 = false ∧ d.flag 0x30000 1 = true then some (d.fget 0x30000 2 4) else none

/-! Which commands do what. -/

/-- The register write that a command makes: its write and the byte offset of its register; REGISTER_WRITE is one outside the
Fret windows when the host or the firmware makes it (a Fret's own writes are SHELL_WRITE's). -/
def writesReg : Instr → Option (Wr × Nat)
  | .registerWrite addr w =>
    match w.by_ with
    | .shell _ => none
    | _ => if addr.toNat < 0x400000 then some (w, addr.toNat) else none
  | .chModeWrite n w => some (w, aCH n 0)
  | .chRangeWrite n w => some (w, aCH n 4)
  | .chForceWrite n w => some (w, aCH n 8)
  | .chClampWrite n w => some (w, aCH n 0xC)
  | .chQwrWrite n w => some (w, aCH n 0x1C)
  | .queueRunStart n w => some (w, aCH n 0x18)
  | .queueRunStop n w => some (w, aCH n 0x18)
  | .govbudgetWrite w => some (w, 0x100)
  | .matrixCmdClose w => some (w, 0xA0010)
  | .matrixCmdOpen w => some (w, 0xA0010)
  | .matrixHostbusWrite w => some (w, 0xA0014)
  | .matrixHostClaimWrite r w => some (w, 0xA0020 + 4 * r)
  | .matrixBusopenWrite w _ => some (w, 0xA0018)
  | .matrixBusrelWrite w _ => some (w, 0xA001C)
  | .matrixLentWrite j w => some (w, aMX (0x8000 + 4 * j))
  | .rmuStart r w => some (w, aRMU r 0x1C)
  | .rmuChainStart r w => some (w, aRMUF r 0)
  | .rmuChainStop r w => some (w, aRMUF r 0)
  | .filtRunStart n w => some (w, aFILT n 0)
  | .filtRunStop n w => some (w, aFILT n 0)
  | .posRunStart a w => some (w, aPOS a 0)
  | .posRunStop a w => some (w, aPOS a 0)
  | .counterLoad a w => some (w, aPOS a 0x10)
  | .posRateWrite a w => some (w, aPOS a 0x14)
  | .posSlewWrite a w => some (w, aPOS a 0x18)
  | .cmpClaim a w => some (w, aPOS a 0x3C)
  | .cmpRelease a w => some (w, aPOS a 0x3C)
  | .cmpValhiWrite a k w => some (w, aCMP a k 4)
  | .cmpCfgWrite a k w => some (w, aCMP a k 8)
  | .stepStartArm x => some (x.wr, 0x80020)
  | .stepStartGo w => some (w, 0x80020)
  | .stepStop w => some (w, 0x80024)
  | .stepStopAbort w => some (w, 0x80024)
  | .stepCtlWrite w => some (w, 0x80000)
  | .listDisable l w => some (w, aLIST l 0)
  | .resqRdseqWrite q w => some (w, aRESQ q 0x14)
  | .busEcfgWrite e w => some (w, aENG e 0)
  | .busEpinWrite e w => some (w, aENG e 4)
  | .pinSrcWrite n w => some (w, aPIN n 0)
  | .pinFabWrite n w => some (w, aPIN n 4)
  | .pinAxoWrite n w => some (w, aPIN n 8)
  | .pinSetWrite b w => some (w, aBANK 0x4000 b)
  | .pinClrWrite b w => some (w, aBANK 0x4080 b)
  | .pinTglWrite b w => some (w, aBANK 0x4100 b)
  | .fretLoad w => some (w, 0xE0008)
  | .fretUnload w => some (w, 0xE0008)
  | .fretReset w => some (w, 0xE0008)
  | .calCmdFull w => some (w, 0x60014)
  | .calCmdRange w => some (w, 0x60014)
  | .calCmdQuick w => some (w, 0x60014)
  | .calCmdTaps w => some (w, 0x60014)
  | .calCmdRmu w => some (w, 0x60014)
  | .calCmdSave w _ => some (w, 0x60014)
  | .calCmdAbort w => some (w, 0x60014)
  | .calCtlWrite w => some (w, 0x60000)
  | .calVuWrite w => some (w, 0x6002C)
  | .calEpochWrite w => some (w, 0x60018)
  | .capoCmdSafe w => some (w, 0x40010)
  | .capoCmdClrhost w => some (w, 0x40010)
  | .capoCmdRelease w => some (w, 0x40010)
  | .watchdogKick w => some (w, 0x5000C)
  | .clkCmdSwitch w => some (w, 0x10010)
  | .fabricClockWrite r w => some (w, 0x10008 + 4 * r)
  | .clkoutWrite n r w => some (w, Device.aOUT n (4 * r))
  | .bootCtlReprog w => some (w, 0x20020)
  | .bootCtlWarm w _ => some (w, 0x20020)
  | .bootCtlQuiet w _ => some (w, 0x20020)
  | .bootCtlWake w => some (w, 0x20020)
  | .bootCtlClrclamp w => some (w, 0x20020)
  | .secAttest w => some (w, 0x30008)
  | .secPatchact w => some (w, 0x30008)
  | .secRevoke w _ => some (w, 0x30008)
  | .secKeyprog w _ => some (w, 0x30008)
  | .secFkeyprog w _ => some (w, 0x30008)
  | .secBbwrite w => some (w, 0x30008)
  | .secBbclear w => some (w, 0x30008)
  | .secGetid w => some (w, 0x30008)
  | .bar2baseWrite w => some (w, 0xD000C)
  | .dmaGo n w => some (w, aHD n 0x10)
  | .flashRead w => some (w, 0xD0040)
  | .flashProgram w => some (w, 0xD0040)
  | .flashErase w => some (w, 0xD0040)
  | .cbReset b w => some (w, aCB b 0x1C)
  | .chordEnum w => some (w, 0xB000C)
  | .chordClrorig w => some (w, 0xB000C)
  | .chordSendGo w => some (w, 0xB0010)
  | _ => none

/-- Commands that may write flash: saves of calibration, the event log, flash operations, register writes that ask for such a save. -/
def mayWriteFlash : Instr → Bool
  | .registerWrite _ _ => true
  | .bootCtlWarm _ _ => true
  | .bootCtlQuiet _ _ => true
  | .patchRetry _ _ => true
  | .patchVerified _ _ => true
  | .calCmdSave _ _ => true
  | .calSaveTimer _ => true
  | .eventLogCopy => true
  | .flashOpComplete _ => true
  | _ => false

/-- Commands that may write the host's memory: queue DMA and DMA transfers (R474, R475). -/
def mayWriteHost : Instr → Bool
  | .queueDmaCopy _ => true
  | .dmaComplete _ _ => true
  | _ => false

/-- Commands that may write DDR5: those that may end or feed a capture (R461 to R465), commit records (R208), store a response, take a BAR2 access, move DMA
or flash data, or lose its contents. -/
def mayWriteDdr : Instr → Bool
  | .registerWrite _ _ => true
  | .sliceHandover _ => true
  | .chainOutput _ => true
  | .lineCrossing _ => true
  | .lineCrossingTimeout _ => true
  | .holdoverExpiry _ => true
  | .toothEdge _ => true
  | .angleStall _ => true
  | .encoderSample _ => true
  | .stepStop _ => true
  | .stepStopAbort _ => true
  | .contextStart _ _ => true
  | .contextClose _ => true
  | .resqWrseqAdvance _ => true
  | .slotRetry _ _ => true
  | .canFrameReceived _ _ _ => true
  | .canFrameError _ _ _ => true
  | .linHeaderReceived _ _ _ _ => true
  | .linFrameLimit _ => true
  | .sentMessageReceived _ _ => true
  | .sentMessageSent _ => true
  | .responsePending _ _ => true
  | .isotpFlowControl _ _ => true
  | .transactionTimeout _ => true
  | .busSlotComplete _ => true
  | .busEcfgWrite _ _ => true
  | .wakePinEvent _ => true
  | .shellWrite _ _ _ _ => true
  | .faultDetected _ => true
  | .deviceRetest _ _ => true
  | .supplyOutOfWindow _ => true
  | .overtempTrip => true
  | .capoNAssert => true
  | .capoCmdSafe _ => true
  | .capoCmdClrhost _ => true
  | .capoCmdRelease _ => true
  | .watchdogExpiry => true
  | .watchdogStage2 => true
  | .refCountComplete _ => true
  | .activeRefLoss => true
  | .refWindowEnd _ => true
  | .refSwitchComplete => true
  | .gatedDomainsStop => true
  | .clkCmdSwitch _ => true
  | .baseImageLoaded _ => true
  | .progN => true
  | .bootCtlReprog _ => true
  | .bootCtlWarm _ _ => true
  | .warmStartRearm => true
  | .patchRetry _ _ => true
  | .bootCtlQuiet _ _ => true
  | .wakeNLow => true
  | .bootCtlWake _ => true
  | .bootCtlClrclamp _ => true
  | .patchVerified _ _ => true
  | .bar2Access _ => true
  | .dmaComplete _ _ => true
  | .flashOpComplete _ => true
  | .chordPortDown _ => true
  | .chordPortUp _ _ => true
  | .joinMessage _ => true
  | .assignMessage _ => true
  | .chordEnum _ => true
  | .chordClrorig _ => true
  | .capoMessage _ => true
  | .posMessage _ => true
  | .wakeMessage _ _ => true
  | .sampleEdge _ => true
  | .rootPllLock _ => true
  | _ => false

end Sys2Proof.Machine
end

