-- ==== Sys2Proof/WellFormed.lean ====
section
/-!
DEFINITION. Which commands a sender can form: operands within the sizes that the spec gives them. A command that is not well-formed still has
a meaning in the model; it stands for nothing that happens on the part.
-/

namespace Sys2Proof

/-- No number twice. -/
def nodupNat : List Nat → Bool
  | [] => true
  | x :: r => !r.contains x && nodupNat r

/-- Segments that the report of a per-bus open names belong to the 32 courses (R84, R116). -/
def stuckOk (l : List (Fin 34 × Nat)) : Bool := l.all fun p => decide (p.2 < 32)

/-- Sizes of a frame's data field: 0 to 8 bytes, in FD frames also the longer ones (R217). -/
def canLens (fd : Bool) : List Nat :=
  [0, 1, 2, 3, 4, 5, 6, 7, 8] ++ if fd then [12, 16, 20, 24, 32, 48, 64] else []

/-- A CAN frame: its size, an 11-bit identifier unless it is extended, no remote FD frame (R217). -/
def CanFrame.wf (f : CanFrame) : Bool :=
  (canLens f.fd).contains f.bytes.length && (f.ext || decide (f.ident.toNat < 2048)) && !(f.fd && f.rtr) &&
  (f.fd || !(f.brs || f.esi)) && (!f.rtr || f.bytes.isEmpty)

/-- A received frame: its edges come one after the other. -/
def CanRx.wf (f : CanRx) : Bool := f.frame.wf && decide ((f.syncs.map Sync.bit).Pairwise (· < ·)) && decide ((f.syncs.map Sync.back).Pairwise (· > ·))

/-- A LIN response has at most 8 data bytes and a checksum, one after the other (R222). -/
def LinData.wf (d : LinData) : Bool := decide (d.bytes.length ≤ 9) && decide ((d.bytes.map LinByte.start).Pairwise (· < ·))

/-- The dominant level of a break is part of the header. -/
def LinHeader.wf (h : LinHeader) : Bool := decide (h.pulse.brk < h.pulse.back) && h.data.wf

/-- A SENT message has at most a status nibble, 6 data nibbles and a CRC nibble, and a pulse is low for a part of it (R225). -/
def SentMsg.wf (m : SentMsg) : Bool :=
  decide (m.nibbles.length ≤ 8) && (m.cal :: m.nibbles ++ m.pause.toList).all fun p => decide (p.low < p.len)

/-- What the crypto engine gives: at most 64 segments of 4 MiB, each with the key that follows it (R439). -/
def segsOk (l : List (List Byte)) : Bool := decide (l.length ≤ 64) && l.all fun x => decide (x.length ≤ 4194336)

/-- The segments of a region image (R288). -/
def RegionFetch.wf : RegionFetch → Bool
  | .flashError => true
  | .read segs => segsOk segs

/-- A point is measured at most three times (R310); a calibration has at most eight points and two check points (R309). -/
def CalMeas.wf (m : CalMeas) : Bool :=
  decide (m.points.length ≤ 8) && decide (m.checks.length ≤ 2) && (m.points ++ m.checks).all fun p => decide (p.length ≤ 3)

/-- Each level of an RMU range is measured at most three times (R310, R322). -/
def RmuCal.wf (x : RmuCal) : Bool := decide (x.zeros.length ≤ 3) && decide (x.fulls.length ≤ 3)

/-- The body of a patch has at most 65,536 bytes (R447). -/
def PatchIn.wf (x : PatchIn) : Bool := decide (x.plain.length ≤ 65536)

/-- The load of a slot: its segments and its patch. -/
def SlotLoad.wf (l : SlotLoad) : Bool := segsOk l.segs && l.patch.wf

/-- A fuse operand: a SHA-512 digest, an AES-256 key (R434, R435, R443). -/
def FuseOp.wf : FuseOp → Bool
  | .keyHash h => decide (h.length = 64)
  | .fkey k => decide (k.length = 32)

/-- An access within the window of BAR2 (R472). -/
def Bar2Op.wf : Bar2Op → Bool
  | .write off bs => decide (off.toNat + bs.length ≤ 2 ^ 28)
  | .read off n _ => decide (off.toNat + n ≤ 2 ^ 28)

/-- A command that a sender can form. -/
def Instr.wf : Instr → Bool
  | .registerWrite addr _ => decide (addr.toNat % 4 = 0)
  | .chModeWrite _ _ => true
  | .chRangeWrite _ _ => true
  | .chForceWrite _ _ => true
  | .chClampWrite _ _ => true
  | .bridgeEnd _ => true
  | .clampEngage _ => true
  | .foldBack _ => true
  | .chQwrWrite _ _ => true
  | .queueRunStart _ _ => true
  | .queueRunStop _ _ => true
  | .dacUpdate _ => true
  | .govbudgetWrite _ => true
  | .sliceHandover _ => true
  | .matrixCmdClose _ => true
  | .matrixCmdOpen _ => true
  | .matrixHostbusWrite _ => true
  | .matrixHostClaimWrite _ _ => true
  | .matrixBusopenWrite _ stuck => stuckOk stuck
  | .matrixBusrelWrite _ stuck => stuckOk stuck
  | .matrixLentWrite _ _ => true
  | .rmuStart _ _ => true
  | .rmuConversionEnd _ _ => true
  | .rmuChainStart _ _ => true
  | .rmuChainStop _ _ => true
  | .busOvercurrent _ stuck => stuckOk stuck
  | .claimRelease => true
  | .catComparatorEvent _ _ _ => true
  | .filtRunStart _ _ => true
  | .filtRunStop _ _ => true
  | .chainOutput _ => true
  | .filtOutloRead _ => true
  | .thresholdUnitOutput _ => true
  | .laneSpareTakeover _ => true
  | .posRunStart _ _ => true
  | .posRunStop _ _ => true
  | .counterLoad _ _ => true
  | .posCntloRead _ => true
  | .posRateWrite _ _ => true
  | .posSlewWrite _ _ => true
  | .rateSlewStep _ => true
  | .lineCrossing _ => true
  | .lineCrossingTimeout _ => true
  | .holdoverExpiry _ => true
  | .toothEdge _ => true
  | .angleStall _ => true
  | .encoderSample _ => true
  | .encoderIndex _ => true
  | .compareFire _ _ => true
  | .pulseEnd _ _ => true
  | .cmpClaim _ _ => true
  | .cmpRelease _ _ => true
  | .cmpValhiWrite _ _ _ => true
  | .cmpCfgWrite _ _ _ => true
  | .stepStartArm _ => true
  | .stepStartGo _ => true
  | .stepStop _ => true
  | .stepStopAbort _ => true
  | .stepCtlWrite _ => true
  | .listDisable _ _ => true
  | .pinTrigger _ => true
  | .setupFetchDone _ ecc => (match ecc with | some (.setup i) => decide (i < 1024) | _ => true)
  | .contextStart _ _ => true
  | .contextClose _ => true
  | .slotComplete _ _ => true
  | .resqWrseqAdvance _ => true
  | .slotRetry _ _ => true
  | .resqRdseqWrite _ _ => true
  | .cantx _ _ => true
  | .canrx _ => true
  | .canreq _ _ => true
  | .isotp _ _ => true
  | .linframe _ d => d.wf
  | .lindiag _ d => d.wf
  | .sentrx _ => true
  | .senttx _ => true
  | .canFrameReceived _ f syncs => CanRx.wf ⟨f, syncs⟩
  | .canFrameError _ _ _ => true
  | .busoffRecovery _ => true
  | .linHeaderReceived _ b pid d => LinHeader.wf ⟨b, pid, d⟩
  | .linWakeDetect _ => true
  | .linFrameLimit _ => true
  | .lindiagPoll _ d => d.wf
  | .sentMessageReceived _ m => m.wf
  | .sentMessageSent _ => true
  | .responsePending _ f => f.wf
  | .isotpFlowControl _ f => f.wf
  | .isotpTimerExpiry _ => true
  | .transactionTimeout _ => true
  | .busSlotComplete _ => true
  | .keepaliveDue _ => true
  | .busEcfgWrite _ _ => true
  | .busEpinWrite _ _ => true
  | .pinSrcWrite _ _ => true
  | .pinFabWrite _ _ => true
  | .pinAxoWrite _ _ => true
  | .pinSetWrite _ _ => true
  | .pinClrWrite _ _ => true
  | .pinTglWrite _ _ => true
  | .wakePinEvent pins => nodupNat (pins.map fun v => v.chan.val)
  | .fretLoad _ => true
  | .fretUnload _ => true
  | .fretReset _ => true
  | .regionImageCached r => r.wf
  | .regionLoadComplete _ => true
  | .fretBorderConnect _ => true
  | .regionRetry _ => true
  | .scrubFrame _ => true
  | .shellWrite _ addr _ _ => decide (addr.toNat % 4 = 0)
  | .fretWindowAccess _ _ => true
  | .fretWindowTimeout _ => true
  | .calCmdFull _ => true
  | .calCmdRange _ => true
  | .calCmdQuick _ => true
  | .calCmdTaps _ => true
  | .calCmdRmu _ => true
  | .calCmdSave _ _ => true
  | .calCmdAbort _ => true
  | .calCtlWrite _ => true
  | .autoCalDue _ _ => true
  | .calibrationStart _ => true
  | .calRangeEnd r _ => r.wf
  | .disturbedReschedule _ _ => true
  | .tapMeasureEnd _ ps _ => decide (ps.length ≤ 3)
  | .rmuCalEnd x _ => x.wf
  | .calSaveTimer _ => true
  | .calVuWrite _ => true
  | .calEpochWrite _ => true
  | .epochTick => true
  | .sensorRead ts => decide (ts.length = 16)
  | .faultDetected _ => true
  | .deviceRetest _ _ => true
  | .eventLogCopy => true
  | .supplyOutOfWindow _ => true
  | .supplyRestored => true
  | .overtempTrip => true
  | .overtempClear => true
  | .capoNAssert => true
  | .capoNRelease => true
  | .capoCmdSafe _ => true
  | .capoCmdClrhost _ => true
  | .capoCmdRelease _ => true
  | .capoRdelayExpiry => true
  | .watchdogKick _ => true
  | .watchdogExpiry => true
  | .watchdogStage2 => true
  | .watchdogStage3 => true
  | .refCountComplete _ => true
  | .refMissingEdge _ => true
  | .activeRefLoss => true
  | .refWindowEnd _ => true
  | .refSwitchComplete => true
  | .gatedDomainsStop => true
  | .clkCmdSwitch _ => true
  | .hitlessSlewEnd => true
  | .fabricClockWrite _ _ => true
  | .fabPllLock => true
  | .clkoutWrite _ _ _ => true
  | .clkoutRelock _ => true
  | .supplyGood _ => true
  | .baseImageLoaded l => l.wf
  | .ddrTrained => true
  | .ddrTrainRetry => true
  | .releasePhase _ => true
  | .bootDelayExpiry _ => true
  | .stepEngineArm => true
  | .progN => true
  | .bootCtlReprog _ => true
  | .bootCtlWarm _ _ => true
  | .warmStartRearm => true
  | .patchRetry x _ => x.wf
  | .bootCtlQuiet _ _ => true
  | .wakeNLow => true
  | .bootCtlWake _ => true
  | .quietExitArm => true
  | .bootCtlClrclamp _ => true
  | .secAttest _ => true
  | .attestComplete => true
  | .secPatchact _ => true
  | .patchVerified x _ => x.wf
  | .secRevoke _ _ => true
  | .secKeyprog _ _ => true
  | .secFkeyprog _ _ => true
  | .secBbwrite _ => true
  | .secBbclear _ => true
  | .secGetid _ => true
  | .tamperEvent => true
  | .vbatLoss => true
  | .jtagFuseprog op => op.wf
  | .jtagDbgchal => true
  | .jtagDbgunlock _ _ => true
  | .jtagBypass => true
  | .jtagIdcode => true
  | .jtagSamplePreload _ _ => true
  | .jtagExtest _ => true
  | .pcieReset _ => true
  | .bar2Access op => op.wf
  | .bar2baseWrite _ => true
  | .queueDmaCopy _ => true
  | .dmaGo _ _ => true
  | .dmaComplete _ _ => true
  | .flashRead _ => true
  | .flashProgram _ => true
  | .flashErase _ => true
  | .flashOpComplete _ => true
  | .ddrUncorrectable _ => true
  | .ddrCorrected => true
  | .cbReset _ _ => true
  | .ddrCbwrRead _ => true
  | .chordPortDown _ => true
  | .chordPortUp _ os => nodupNat (os.map BitVec.toNat)
  | .joinMessage j => decide (j.path.length ≤ 8)
  | .assignMessage j => decide (j.path.length ≤ 8)
  | .chordEnum _ => true
  | .chordClrorig _ => true
  | .capoMessage _ => true
  | .capoAssertRepeat => true
  | .trigMessage _ => true
  | .chordSendGo _ => true
  | .posMessage m => decide (m.axes.length = 4)
  | .posSend => true
  | .wakeMessage _ _ => true
  | .timeExchange => true
  | .timeReply _ _ => true
  | .statusSend => true
  | .statusToken _ => true
  | .tokenAgeExpiry _ => true
  | .chordSedgeloRead => true
  | .sampleEdge xs => nodupNat (xs.map fun x => x.chan.val)
  | .clampRelease _ => true
  | .borderOutputChange _ _ _ => true
  | .rootPllLock _ => true
  | .ddrPllLock => true
  | .pcieLinkUp _ _ => true

end Sys2Proof
end

