-- ==== Sys2Proof/Certificates/Slice0/Obligations.lean ====
section
/-!
DEFINITION. The statements for the provers.
-/

section

open Sys2Proof Sys2Proof.Machine Sys2Proof.Machine.Device

/-! The queue, the step, reset, the memories. -/

/-- A step takes the command at the front of the queue and is that command's effect with the rest of the queue waiting. With no command waiting the
block idles (the model's choice, log entry 1). -/
def Obligations.StepServesFront : Prop :=
  (∀ (c : Instr) (rest : List Instr) (s : State), s.pending = c :: rest → step s = exec c { s with pending := rest }) ∧
  (∀ s : State, s.pending = [] → step s = .next s)

/-- Reset leaves every register at the reset word of its fields, no memory byte listed, no command waiting. The memories of the reset state are in
canonical form, and nothing is collected for DDR5. -/
def Obligations.ResetState : Prop :=
  (State.reset.pending = [] ∧ (∀ a, State.reset.dev.rd a = resetWord a) ∧
  (∀ a n, State.reset.mem.ddrRead a n = List.replicate n 0 ∧ State.reset.mem.flashRead a n = List.replicate n 0xFF ∧
    State.reset.mem.hostRead a n = List.replicate n 0)) ∧
  (Mem.wf State.reset.mem = true ∧ State.reset.dev.ddrOut = [])

/-- No command stops the block, and none changes what waits behind it: exec answers a next state for every command in every state. -/
def Obligations.CommandsNeverStop : Prop :=
  ∀ (c : Instr) (s : State), ∃ t, exec c s = .next t ∧ t.pending = s.pending

/-- Any number of steps from any state goes through: each takes one command from the front of the queue, in order. -/
def Obligations.RunServesQueueInOrder : Prop :=
  ∀ (k : Nat) (s : State), ∃ t : State, Host.Core.run Sys2Proof.core k s = .next t ∧ t.pending = s.pending.drop k

/-- Every step keeps DDR5, flash and the host's memory in canonical form, and leaves nothing collected for DDR5 where nothing was. -/
def Obligations.StepKeepsMemoryCanonical : Prop :=
  ∀ s t : State, Mem.wf s.mem = true → s.dev.ddrOut = [] → step s = .next t → Mem.wf t.mem = true ∧ t.dev.ddrOut = []

/-- A byte of a memory read after a write is the byte written within the bytes stored, and what was there before outside them. -/
def Obligations.ReadAfterWrite : Prop :=
  ∀ (m : Mem) (a b : Nat) (bs : List Byte),
    (m.ddrWrite a bs).ddrRead b 1 = (if a ≤ b ∧ b < a + bs.length then [bs.getD (b - a) 0] else m.ddrRead b 1) ∧
    (m.flashWrite a bs).flashRead b 1 = (if a ≤ b ∧ b < a + bs.length then [bs.getD (b - a) 0] else m.flashRead b 1) ∧
    (m.hostWrite a bs).hostRead b 1 = (if a ≤ b ∧ b < a + bs.length then [bs.getD (b - a) 0] else m.hostRead b 1)

/-- Only the commands that carry out a save, a log copy, a flash operation or a warm start write flash; only a queue's DMA and a DMA transfer write
the host's memory; DDR5 is written only by the commands that `mayWriteDdr` lists. -/
def Obligations.MemoryWrittenOnlyBy : Prop :=
  ∀ (c : Instr) (s t : State), exec c s = .next t →
    (mayWriteFlash c = false → t.mem.flash = s.mem.flash) ∧
    (mayWriteHost c = false → t.mem.host = s.mem.host) ∧
    (mayWriteDdr c = false → t.mem.ddr = s.mem.ddr)

/-! Register writes: what every write passes, what the fields of a register do with it. -/

/-- A register write that does not pass the tests of R8, R275, R393, R395, R403 and R471 does not reach its register: the device keeps everything but
its reports, and every register but the reporting ones, HOSTIF_BADWR, HOSTIF_EVENT and the event register of the block addressed (for a wheel those of
the axes, R183; the fabric's for a Fret). To a block that does not answer (QUIET, the failed state) it has no effect at all (R395, R403). -/
def Obligations.TurnedAwayWriteChangesReportsOnly : Prop :=
  ∀ s : State, s.dev.ddrOut = [] → ∀ (c : Instr) (w : Wr) (a : Nat), writesReg c = some (w, a) →
    (s.dev.admits w a = false → GivesDev c s fun t => t.plant = s.dev.plant ∧
      Device.keepsRegs (fun b => b = 0xD0008 ∨ b = 0xD0004 ∨ b = 0xE0004 ∨ (∃ x r, blockEvents a = some (b, x, r)) ∨
        (0x78000 ≤ a ∧ a < 0x78800 ∧ ∃ x < 4, b = aPOS x 0x30)) s.dev t) ∧
    (w.be = 15 → s.dev.dead a = true → GivesDev c s fun t => t.plant = s.dev.plant ∧ ∀ b, t.rd b = s.dev.rd b)

/-- A write with fewer than four byte enables, of a register, of the context store or in a Fret's window, is discarded: it increments HOSTIF_BADWR and
sets HOSTIF_EVENT.PARTIAL, and changes nothing else (R8, R471) but the pending bit of the interrupt that this event sends. -/
def Obligations.PartialWriteDiscarded : Prop :=
  ∀ s : State, s.dev.ddrOut = [] →
    ∀ c, (∃ w a, writesReg c = some (w, a) ∧ w.be ≠ 15) ∨
        (∃ (f : Fin 48) (off : BitVec 18) (be : BitVec 4) (v : Word), c = .fretWindowAccess f (.write off be v) ∧ be ≠ 15) ∨
        (∃ (f : Fin 48) (a : BitVec 24) (be : BitVec 4) (v : Word), c = .shellWrite f a be v ∧ be ≠ 15 ∧ s.dev.fretLive f = true ∧ s.dev.fabricOn = true) →
    GivesDev c s fun t => t.plant = s.dev.plant ∧ t.fget 0xD0008 0 32 = (s.dev.fget 0xD0008 0 32 + 1) % 2 ^ 32 ∧
      t.flag 0xD0004 0 = true ∧ ∀ b, b ≠ 0xD0008 → b ≠ 0xD0004 → b ≠ 0xD9000 → t.rd b = s.dev.rd b

/-- What a field of a register does with a written word, by its access type (R10, R13): a read-only field keeps its value; a one written to an RW1C
bit clears it and a zero leaves it; a one written to a W1S bit sets it; any other field takes the applied value, which for a field with a fixed range
is the nearest value of that range. Bits that no field covers keep their value. A number outside a fixed range becomes the nearest number of it, a
number inside it is taken as it is (R13). -/
def Obligations.FieldsObeyAccessTypes : Prop :=
  (∀ (d : Device) (a : Nat) (raw : Word), fieldsApart (regFields a) = true →
    (∀ f ∈ regFields a,
      let v := (d.cook a raw).1
      match f.acc with
      | .ro => bitsOf v f.lo f.width = d.fget a f.lo f.width
      | .rw1c => ∀ i < f.width, (bitsOf v f.lo f.width).testBit i = ((d.fget a f.lo f.width).testBit i && !(bitsOf raw f.lo f.width).testBit i)
      | .w1s => ∀ i < f.width, (bitsOf v f.lo f.width).testBit i = ((d.fget a f.lo f.width).testBit i || (bitsOf raw f.lo f.width).testBit i)
      | _ => (∃ u, bitsOf v f.lo f.width = d.applied a raw u f % 2 ^ f.width) ∧
        (d.specialClamp a f (bitsOf raw f.lo f.width) = none → (∀ u, d.limitOf a raw u f = f.lim) →
          bitsOf v f.lo f.width = f.lim.clamp f.width (bitsOf raw f.lo f.width) % 2 ^ f.width)) ∧
    ∀ i < 32, (∀ f ∈ regFields a, i < f.lo ∨ f.lo + f.width ≤ i) → (d.cook a raw).1.getLsbD i = (d.rd a).getLsbD i) ∧
  (∀ (lo hi width x : Nat), lo ≤ hi →
    lo ≤ Lim.clamp (.rng lo hi) width x ∧ Lim.clamp (.rng lo hi) width x ≤ hi ∧
    ∀ y, lo ≤ y → y ≤ hi → (x - Lim.clamp (.rng lo hi) width x) + (Lim.clamp (.rng lo hi) width x - x) ≤ (x - y) + (y - x))

/-! The sample edge and plain registers. -/

/-- Writes of registers without rows of their own (R8 to R10, R13, R470): an admitted write of a channel's fold-back, sense, level or hold register
stores the applied word and changes, of the other registers, only CH_EVENT; a write where no register lies changes nothing. A write of DEV_GOVBUDGET
that is admitted is taken whatever dissipation is committed (R75, R83): the register holds the applied word, and nothing but reports changes beside.
Forms that complete, each with its own effect: registerWrite, govbudgetWrite. -/
def Obligations.PlainRegistersHoldWord : Prop :=
  (∀ (addr : BitVec 24) (w : Wr) (s : State), s.dev.ddrOut = [] → (∀ f, w.by_ ≠ .shell f) → s.dev.admits w addr.toNat = true →
    (∀ (n : Fin 1024) (o : Nat), o ∈ [0x10, 0x24, 0x28, 0x2C, 0x30, 0x34] → addr.toNat = aCH n o → s.dev.capo = 0 →
      s.dev.govRefuses (s.dev.putCooked w.by_ (aCH n o) w.data) = false → GivesDev (.registerWrite addr w) s fun t =>
        t.rd (aCH n o) = storeWord (aCH n o) (s.dev.cook (aCH n o) w.data).1 ∧ t.plant = s.dev.plant ∧
        Device.keepsRegs (fun a => a = aCH n o ∨ a = aCH n 0x3C) s.dev t) ∧
    (addr.toNat < 0x400000 → regFields addr.toNat = [] → GivesDev (.registerWrite addr w) s fun t => t.plant = s.dev.plant ∧ ∀ a, t.rd a = s.dev.rd a)) ∧
  (∀ (w : Wr) (s : State), s.dev.admits w 0x100 = true →
    GivesDev (.govbudgetWrite w) s fun t =>
      t.rd 0x100 = storeWord 0x100 (s.dev.cook 0x100 w.data).1 ∧ t.plant = s.dev.plant ∧ Device.keepsRegs (fun a => a = 0x100) s.dev t)

/-- The sample edge (R43, R159, R160, R259, R373, R488): while the gated domains run, the edge counts advance by one, each pad follows its thresholds,
the GPIO changes that waited are carried out, and a running axis with source TIME advances by one tick. A gated sample edge only advances time (the
model's choice, log entry 14): every register, channel, axis and context stays, and what engines wait for and what counts fabric clocks comes one Ts
later (R212, R297). Forms that complete, each with its own effect: sampleEdge. -/
def Obligations.SampleEdgeAdvances : Prop :=
  (∀ (xs : List PinSample) (s : State), s.dev.flag 0x10000 14 = false → GivesDdr (.sampleEdge xs) s fun t =>
    t.edge = s.dev.edge + 1 ∧ t.link.sedge = (s.dev.link.sedge + 1) % 2 ^ 48 ∧
    ((∀ l, (s.dev.lst l).abort = none) → s.dev.busyEngines = [] → t.gpio = []) ∧
    (∀ b < 32, t.rd (aBANK 0x4000 b) = BitVec.ofNat 32 (gpioNext (s.dev.rd (aBANK 0x4000 b)).toNat (s.dev.gpioWait b))) ∧
    (xs.Pairwise (fun x y => x.chan ≠ y.chan) → ∀ x ∈ xs, (t.ch x.chan).pad = s.dev.padLevel x.chan x.microvolt) ∧
    (∀ n < 1024, (t.ch n).prevPad = (s.dev.ch n).pad) ∧
    ∀ a < 4, s.dev.axSrc a = 1 → s.dev.axState a = 2 → (t.ax a).c = ((s.dev.ax a).c + 1) % 2 ^ 48) ∧
  (∀ (xs : List PinSample) (s : State), s.dev.flag 0x10000 14 = true → GivesDdr (.sampleEdge xs) s fun t =>
    { t with engines := s.dev.engines, frets := s.dev.frets, loader := s.dev.loader } = { s.dev with edge := s.dev.edge + 1, ddrOut := [] } ∧
    (∀ e, e ∉ tabKeys s.dev.engines → t.eng e = s.dev.eng e) ∧
    ((tabKeys s.dev.engines).Nodup → ∀ e ∈ tabKeys s.dev.engines, t.eng e = (s.dev.eng e).slip) ∧
    (∀ f < 48, t.fret f = { s.dev.fret f with released := (s.dev.fret f).released + (if s.dev.fretState f = 2 then 1 else 0) }) ∧
    t.loader.cur = s.dev.loader.cur ∧ t.loader.queue = s.dev.loader.queue ∧ t.loader.cache = s.dev.loader.cache)

/-! Channels (R38 to R77). -/

/-- A write of CH_MODE, CH_RANGE, CH_FORCE or CH_CLAMP that is admitted while no bridge runs and nothing waits: the register takes the applied word,
the other three keep theirs (but CH_FORCE, which a change of range may rescale), the cell leaves fold-back where the word changes, no other channel is
touched, and of the registers only the channel's own CH_STATUS, CH_QSTAT and CH_EVENT may change beside (R46, R55, R56, R62, R65). CH_MODE with a mode
of R40: MODE, WKIND and DDRV read what was written. Forms that complete, each with its own effect: chModeWrite, chRangeWrite, chForceWrite,
chClampWrite. -/
def Obligations.ChannelSettingApplies : Prop :=
  (∀ (n : Fin 1024) (w : Wr) (s : State),
    ∀ o c, (o, c) ∈ [(0, Instr.chModeWrite n w), (4, .chRangeWrite n w), (8, .chForceWrite n w), (0xC, .chClampWrite n w)] →
    s.dev.admits w (aCH n o) = true → s.dev.capo = 0 → s.dev.retired n = false →
    s.dev.govRefuses (s.dev.previewReqs n [reqOf o (s.dev.cook (aCH n o) w.data).1 (Device.srcOf w.by_) (aCH n o)]) = false →
    s.dev.queued n = false → s.dev.bridging n s.dev.nextEdge = false →
    GivesDev c s fun t =>
      t.rd (aCH n o) = (s.dev.cook (aCH n o) w.data).1 ∧
      (∀ o' ∈ [0, 4, 0xC], o' ≠ o → t.rd (aCH n o') = s.dev.rd (aCH n o')) ∧
      (o = 0 ∨ o = 0xC → t.rd (aCH n 8) = s.dev.rd (aCH n 8)) ∧
      t.flag (aCH n 0x38) 9 = (if t.rd (aCH n o) = s.dev.rd (aCH n o) then s.dev.flag (aCH n 0x38) 9 else false) ∧
      (∀ m, m ≠ n.val → t.ch m = s.dev.ch m) ∧
      Device.keepsRegs (fun a => a = aCH n 0 ∨ a = aCH n 4 ∨ a = aCH n 8 ∨ a = aCH n 0xC ∨ a = aCH n 0x20 ∨ a = aCH n 0x38 ∨ a = aCH n 0x3C)
        s.dev t) ∧
  (∀ (n : Fin 1024) (w : Wr) (s : State), bitsOf w.data 0 3 ≤ 6 →
    s.dev.admits w (aCH n 0) = true → s.dev.capo = 0 → s.dev.retired n = false →
    s.dev.govRefuses (s.dev.previewReqs n [reqOf 0 (s.dev.cook (aCH n 0) w.data).1 (Device.srcOf w.by_) (aCH n 0)]) = false →
    s.dev.queued n = false → s.dev.bridging n s.dev.nextEdge = false →
    GivesDev (.chModeWrite n w) s fun t =>
      t.fget (aCH n 0) 0 3 = bitsOf w.data 0 3 ∧ t.flag (aCH n 0) 4 = bitOf w.data 4 ∧ t.flag (aCH n 0) 8 = bitOf w.data 8)

/-- While a request or a switch of digital sources waits, or a bridge runs that the new request would cross, a further request for the channel waits
behind it, and none of its settings changes (R61, R64). Under HOLD and SAFE a write of CH_MODE, CH_RANGE, CH_FORCE or CH_CLAMP is refused:
CH_EVENT.REFUSED, and no setting changes (R71, R72). -/
def Obligations.ChannelSettingsWaitOrRefused : Prop :=
  (∀ (n : Fin 1024) (w : Wr) (s : State),
    ∀ o c, (o, c) ∈ [(0, Instr.chModeWrite n w), (4, .chRangeWrite n w), (8, .chForceWrite n w), (0xC, .chClampWrite n w)] →
    s.dev.admits w (aCH n o) = true → s.dev.capo = 0 → s.dev.retired n = false →
    (let r := reqOf o (s.dev.cook (aCH n o) w.data).1 (Device.srcOf w.by_) (aCH n o)
     s.dev.govRefuses (s.dev.previewReqs n [r]) = false →
     (s.dev.queued n = true ∨ (s.dev.bridging n s.dev.nextEdge = true ∧ s.dev.changesMux n r = true)) →
     GivesDev c s fun t =>
       t.ch n = { s.dev.ch n with waiting := (s.dev.ch n).waiting ++ [r] } ∧
       (∀ m, m ≠ n.val → t.ch m = s.dev.ch m) ∧ Device.keepsRegs (fun a => a = aCH n 0x3C) s.dev t)) ∧
  (∀ (n : Fin 1024) (w : Wr) (s : State),
    ∀ o c, (o, c) ∈ [(0, Instr.chModeWrite n w), (4, .chRangeWrite n w), (8, .chForceWrite n w), (0xC, .chClampWrite n w)] →
    s.dev.admits w (aCH n o) = true → s.dev.capo ≠ 0 →
    GivesDev c s fun t =>
      t.plant = s.dev.plant ∧ t.flag (aCH n 0x3C) 4 = true ∧ Device.keepsRegs (fun a => a = aCH n 0x3C) s.dev t)

/-- A code written to a STREAM queue that is not full is appended behind the codes it holds; in LOOP and ONCE it is stored at the write index, which
advances and wraps at 4,096 (R48). Every other queue keeps its contents. A write of CH_QCTL that is accepted sets RUN as written and resets the write
index (R48, R49, R52); the other channels are untouched. Forms that complete, each with its own effect: chQwrWrite, queueRunStart, queueRunStop. -/
def Obligations.QueueWritesAndRun : Prop :=
  (∀ (n : Fin 1024) (w : Wr) (s : State),
    s.dev.admits w (aCH n 0x1C) = true → s.dev.capo = 0 ∨ (s.dev.capo = 1 ∧ s.dev.fget (aCH n 0x18) 0 2 ≠ 0) →
    s.dev.fget (aCH n 0x18) 0 2 ≠ 0 ∨ (s.dev.ch n).fill < 4096 →
    GivesDev (.chQwrWrite n w) s fun t =>
      let c := s.dev.ch n
      let code := bitsOf (s.dev.cook (aCH n 0x1C) w.data).1 0 18
      (∀ m, m ≠ n.val → t.ch m = s.dev.ch m) ∧
      (s.dev.fget (aCH n 0x18) 0 2 = 0 →
        (t.ch n).fill = c.fill + 1 ∧ ∀ i, tabGet (fun _ => 0) (t.ch n).codes i =
          if i = (c.rd + c.fill) % 4096 then code else tabGet (fun _ => 0) c.codes i) ∧
      (s.dev.fget (aCH n 0x18) 0 2 ≠ 0 →
        (t.ch n).wr = (c.wr + 1) % 4096 ∧ ∀ i, tabGet (fun _ => 0) (t.ch n).codes i =
          if i = c.wr % 4096 then code else tabGet (fun _ => 0) c.codes i) ∧
      Device.keepsRegs (fun a => a = aCH n 0x20 ∨ a = aCH n 0x3C) s.dev t) ∧
  (∀ (n : Fin 1024) (w : Wr) (s : State),
    ∀ run c, (run, c) ∈ [(true, Instr.queueRunStart n w), (false, .queueRunStop n w)] →
    s.dev.admits w (aCH n 0x18) = true → s.dev.capo = 0 →
    (s.dev.flag (aCH n 0x18) 31 = true → s.dev.reachesRws (aCH n 0x18) (setBits w.data 31 1 (if run then 1 else 0)) = false) →
    GivesDev c s fun t =>
      t.flag (aCH n 0x18) 31 = run ∧ (t.ch n).wr = 0 ∧ (∀ m, m ≠ n.val → t.ch m = s.dev.ch m) ∧
      Device.keepsRegs (fun a => a = aCH n 0x18 ∨ a = aCH n 0x20 ∨ a = aCH n 0x3C) s.dev t)

/-- When CH_QWR is written while a STREAM queue holds 4,096 codes, the device discards the written code and sets CH_QSTAT.OVERFLOW; no queue and no
setting changes (R51). -/
def Obligations.FullStreamQueueDiscards : Prop :=
  ∀ (n : Fin 1024) (w : Wr) (s : State),
    s.dev.admits w (aCH n 0x1C) = true → s.dev.capo = 0 → s.dev.fget (aCH n 0x18) 0 2 = 0 → 4096 ≤ (s.dev.ch n).fill →
    GivesDev (.chQwrWrite n w) s fun t =>
      t.flag (aCH n 0x20) 31 = true ∧ t.plant = s.dev.plant ∧ ∀ a, a ≠ aCH n 0x20 → t.rd a = s.dev.rd a

/-- An update edge of the queue of a pin in WAVE (R49, R50, R52): LOOP outputs the code at the read position and moves on, back to entry 0 after entry
QLEN - 1; ONCE moves on and stays behind its last entry; an empty STREAM queue holds the last code and sets CH_QSTAT.UNDERRUN, a filled one gives up
its oldest code; the next update edge is DIV Ts later. Once RUN is zero the update edge ends the playback. Clamps and fold-back (R55, R56): a clamp
that engages sets COMPLIANCE and its event; when it releases COMPLIANCE reads zero; a cell whose clamp has held for FOLD_T microseconds with FOLD_EN
one folds back. No mode, range or code changes. Forms that complete, each with its own effect: dacUpdate, clampEngage, clampRelease, foldBack. -/
def Obligations.DacAndClampsAct : Prop :=
  (∀ (n : Fin 1024) (s : State), s.dev.updates n = true → s.dev.capo = 0 →
    let c := s.dev.ch n
    let code := tabGet (fun _ => 0) c.codes (c.rd % 4096)
    let mode := s.dev.fget (aCH n 0x18) 0 2
    let qlen := s.dev.fget (aCH n 0x18) 16 13
    (s.dev.flag (aCH n 0x18) 31 = true → GivesDev (.dacUpdate n) s fun t =>
      (mode = 1 → (t.ch n).held = code ∧ (t.ch n).rd = if c.rd + 1 < qlen then c.rd + 1 else 0) ∧
      (mode = 0 → 0 < c.fill → (t.ch n).held = code ∧ (t.ch n).fill = c.fill - 1 ∧ (t.ch n).rd = (c.rd % 4096 + 1) % 4096) ∧
      (mode = 0 → c.fill = 0 → (t.ch n).held = c.held ∧ (t.ch n).starved = true ∧ t.flag (aCH n 0x20) 30 = true) ∧
      (2 ≤ mode → c.rd < qlen → (t.ch n).held = code ∧ (t.ch n).rd = c.rd + 1) ∧
      (2 ≤ mode → qlen ≤ c.rd → (t.ch n).held = c.held ∧ (t.ch n).rd = c.rd) ∧
      (t.ch n).grid = s.dev.edge + s.dev.fget (aCH n 0x14) 0 13 ∧
      (∀ m, m ≠ n.val → t.ch m = s.dev.ch m) ∧ ∀ a, a ≠ aCH n 0x20 → a ≠ 0xD9000 → t.rd a = s.dev.rd a) ∧
    (s.dev.flag (aCH n 0x18) 31 = false → GivesDev (.dacUpdate n) s fun t =>
      t.ch n = { c with plays := false, fresh := false, starved := false } ∧ (∀ m, m ≠ n.val → t.ch m = s.dev.ch m) ∧ ∀ a, t.rd a = s.dev.rd a)) ∧
  (∀ (n : Fin 1024) (s : State),
    (clampKind (s.dev.rd (aCH n 0)) ≠ 0 → (s.dev.ch n).clampSince = none →
      GivesDev (.clampEngage n) s fun t =>
        t.flag (aCH n 0x38) 8 = true ∧ t.flag (aCH n 0x3C) 0 = true ∧ (t.ch n).clampSince = some s.dev.edge ∧ (t.ch n).clampHit = true ∧
        Device.keepsRegs (fun a => a = aCH n 0x38 ∨ a = aCH n 0x3C) s.dev t) ∧
    (GivesDev (.clampRelease n) s fun t =>
        t.flag (aCH n 0x38) 8 = false ∧ (t.ch n).clampSince = none ∧ ∀ a, a ≠ aCH n 0x38 → t.rd a = s.dev.rd a) ∧
    (∀ e, (s.dev.ch n).clampSince = some e → s.dev.flag (aCH n 0x10) 31 = true →
      2048 * s.dev.fget (aCH n 0x10) 0 14 ≤ 100 * (s.dev.edge - e) → s.dev.flag (aCH n 0x38) 9 = false →
      GivesDev (.foldBack n) s fun t =>
        t.flag (aCH n 0x38) 9 = true ∧ t.flag (aCH n 0x3C) 1 = true ∧ t.plant = s.dev.plant ∧
        Device.keepsRegs (fun a => a = aCH n 0x38 ∨ a = aCH n 0x3C) s.dev t))

/-- At the end of a bridge the requests that waited apply in their order as one change: nothing waits any more, of mode, ranges and clamps the latest
value stands, and a code that the last request carries (R61). The handover edge of a pin (R78), once its preparation is over, no bridge runs on the
pin, Capo is NONE and no frame is on its wire, on a course with no other hand-back: the pin is served by the receiving slice, its next sample is
flagged, and a remapped pin shows REMAPPED. Forms that complete, each with its own effect: bridgeEnd, sliceHandover. -/
def Obligations.BridgesAndHandoversEnd : Prop :=
  (∀ (n : Fin 1024) (s : State), (s.dev.ch n).waiting ≠ [] → (s.dev.ch n).bridgeEnd ≤ s.dev.edge → s.dev.retired n = false →
    GivesDev (.bridgeEnd n) s fun t =>
      let rs := (s.dev.ch n).waiting
      (t.ch n).waiting = [] ∧ (t.ch n).pinWait = false ∧
      t.rd (aCH n 0) = latest ChReq.mode (s.dev.rd (aCH n 0)) rs ∧
      t.rd (aCH n 4) = latest ChReq.range (s.dev.rd (aCH n 4)) rs ∧
      t.rd (aCH n 0xC) = latest ChReq.clamp (s.dev.rd (aCH n 0xC)) rs ∧
      (∀ r v, rs.getLast? = some r → r.force = some v → t.rd (aCH n 8) = v) ∧
      (∀ m, m ≠ n.val → t.ch m = s.dev.ch m) ∧
      Device.keepsRegs (fun a => a = aCH n 0 ∨ a = aCH n 4 ∨ a = aCH n 8 ∨ a = aCH n 0xC ∨ a = aCH n 0x18 ∨ a = aCH n 0x20 ∨ a = aCH n 0x38 ∨
        a = aCH n 0x3C) s.dev t) ∧
  (∀ (c : Fin 32) (s : State) (h : Handover), (s.dev.crs c).hand = some h → (s.dev.crs c).backs = [] → (s.dev.crs c).next = [] →
    h.edge ≤ s.dev.edge → s.dev.capo = 0 → (s.dev.edge < (s.dev.ch h.chan).bridgeStart ∨ (s.dev.ch h.chan).bridgeEnd ≤ s.dev.edge) →
    s.dev.onWire h.chan = [] → s.dev.frameOn h.chan = [] → h.toSlice < 64 → h.chan < 1024 →
    GivesDdr (.sliceHandover c) s fun t =>
      t.fget (aCH h.chan 0x38) 0 6 = h.toSlice ∧ (t.ch h.chan).holdUntil = s.dev.edge + 1 ∧
      (t.ch h.chan).flagEnd = max (s.dev.ch h.chan).flagEnd (s.dev.edge + 1) ∧ (h.kind = .remap → t.flag (aCH h.chan 0x38) 14 = true))

/-! Bridge matrix and meters (R84 to R118, R151). -/

/-- MATRIX_CMD closes the switch of a node on the physical bus of a logical one when the host holds both, the bus is neither retired nor held open,
the limits of R87 and the governor allow it, and Capo is NONE; the other closed switches stay closed (R93, R97, R98). MATRIX_CMD opens the switch when
the host holds node and bus: it is open afterwards and every other closed switch stays (R93). Under HOLD a MATRIX_CMD is kept for the end of HOLD and
moves no switch (R94). Forms that complete, each with its own effect: matrixCmdClose, matrixCmdOpen. -/
def Obligations.MatrixCommandsAct : Prop :=
  (∀ (w : Wr) (s : State), s.dev.admits w 0xA0010 = true → s.dev.capo = 0 →
    (let v := (s.dev.cook 0xA0010 (setBits w.data 24 1 1)).1
     let node := bitsOf v 0 12
     let bus := bitsOf v 12 5
     let sw : Switch := ⟨node, s.dev.phys bus, true⟩
     node < 1320 → s.dev.hostHolds node bus = true → s.dev.isHeldOpen bus = false → s.dev.busRetired bus = false →
     s.dev.isClosed node bus = false → s.dev.mayClose sw = true →
     s.dev.govRefuses (s.dev.setMx { s.dev.mx with closed := closeIn s.dev.mx.closed sw }) = false →
     GivesDev (.matrixCmdClose w) s fun t =>
       t.isClosed node bus = true ∧ t.mx.closed = s.dev.mx.closed ++ [sw] ∧
       (node < 1024 → t.owner (resTaps node) = .host) ∧ t.mx.moves = s.dev.mx.moves ∧ t.mx.opens = s.dev.mx.opens ∧
       Device.keepsRegs (fun a => a = 0xA0004) s.dev t)) ∧
  (∀ (w : Wr) (s : State), s.dev.admits w 0xA0010 = true → s.dev.capo ≠ 1 →
    (let v := (s.dev.cook 0xA0010 (setBits w.data 24 1 0)).1
     let node := bitsOf v 0 12
     let bus := bitsOf v 12 5
     node < 1320 → s.dev.hostHolds node bus = true →
     GivesDev (.matrixCmdOpen w) s fun t =>
       t.isClosed node bus = false ∧
       (∀ x, x ∈ t.mx.closed ↔ x ∈ s.dev.mx.closed ∧ ¬ (x.node = node ∧ x.phys = s.dev.phys bus)) ∧
       t.mx.moves = s.dev.mx.moves ∧ t.mx.opens = s.dev.mx.opens ∧ Device.keepsRegs (fun a => a = 0xA0004) s.dev t)) ∧
  (∀ (w : Wr) (s : State), s.dev.capo = 1 → s.dev.admits w 0xA0010 = true →
    ∀ close c, (close, c) ∈ [(true, Instr.matrixCmdClose w), (false, .matrixCmdOpen w)] →
    GivesDev c s fun t =>
      let v := (s.dev.cook 0xA0010 (setBits w.data 24 1 (if close then 1 else 0))).1
      t.mx = { s.dev.mx with heldCmds := s.dev.mx.heldCmds ++ [.move (bitsOf v 0 12) (bitsOf v 12 5) close] } ∧ t.chan = s.dev.chan ∧
      Device.keepsRegs (fun a => a = 0xA0004) s.dev t)

/-- The claim registers (R97, R98): of the resources that a register names, a free one whose bit is written one becomes the host's (unless it is a bus
held open or a retired meter), one of the host's whose bit is written zero becomes free, but under HOLD stays the host's while the host has switches
closed on it (R94), and no owner but these changes hands. Forms that complete, each with its own effect: matrixHostbusWrite, matrixHostClaimWrite. -/
def Obligations.HostClaimsFollowBits : Prop :=
  ∀ (w : Wr) (s : State),
    ∀ x ∈ [(Instr.matrixHostbusWrite w, 0xA0014, (List.range 32).map (fun b => (b, resBus b))), (.matrixHostClaimWrite 0 w, 0xA0020, Device.claimBits 0),
      (.matrixHostClaimWrite 1 w, 0xA0024, Device.claimBits 1), (.matrixHostClaimWrite 2 w, 0xA0028, Device.claimBits 2)],
    let c := x.1
    let a := x.2.1
    let bits := x.2.2
    s.dev.admits w a = true →
    GivesDev c s fun t =>
      (∀ b ∈ bits, t.owner b.2 =
        match s.dev.owner b.2 with
        | .host => if bitOf w.data b.1 || (decide (s.dev.capo = 1) && s.dev.hostUses b.2) then .host else .free
        | .free => if bitOf w.data b.1 && !(decide (b.2 < 32) && s.dev.isHeldOpen b.2) &&
            !(decide (200 ≤ b.2 ∧ b.2 < 204) && s.dev.flag (aRMU (b.2 - 200) 0x14) 3) then .host else .free
        | o => o) ∧
      (∀ r, r < 1000 → (∀ b ∈ bits, b.2 ≠ r) → t.owner r = s.dev.owner r) ∧
      (∀ b ∈ bits, t.flag a b.1 = decide (t.owner b.2 = .host))

/-- A per-bus open that the host commands (R116), where no segment still conducts: outside HOLD every bus whose bit is one is held open, no switch
conducts on its physical bus, and switches of physical buses that no such bus maps to stay as they are; under HOLD the command is held and no switch
moves (R94). The release of a per-bus open (R116, R120), where no segment still conducts and HOLD holds no command back: a bus that the host held open
is held no longer, and its switches stay open. An over-current on a physical bus that serves a claimed logical bus (R115), where no segment still
conducts: the bus opens and is held open, its event is set, no other bus changes. A segment that still conducts at the per-bus open of a physical bus
that serves no logical one (R116, R117): the segment is isolated for good and its physical bus is out of service. Forms that complete, each with its
own effect: matrixBusopenWrite, matrixBusrelWrite, busOvercurrent. -/
def Obligations.BusesOpenAndRetire : Prop :=
  (∀ (w : Wr) (s : State), s.dev.admits w 0xA0018 = true →
    (s.dev.capo ≠ 1 → GivesDev (.matrixBusopenWrite w []) s fun t =>
      (∀ b < 32, bitOf w.data b = true → t.busOpen b = .host ∧ t.flag 0xA0018 b = true ∧ ∀ x ∈ t.mx.closed, x.phys ≠ s.dev.phys b) ∧
      (∀ b < 32, bitOf w.data b = false → t.busOpen b = s.dev.busOpen b) ∧
      (∀ x, (∀ b < 32, bitOf w.data b = true → x.phys ≠ s.dev.phys b) → (x ∈ t.mx.closed ↔ x ∈ s.dev.mx.closed))) ∧
    (s.dev.capo = 1 → GivesDev (.matrixBusopenWrite w []) s fun t =>
      t.mx = { s.dev.mx with heldCmds := s.dev.mx.heldCmds ++ (onesOf 32 w.data.toNat).map HeldCmd.open_ } ∧ ∀ a, t.rd a = s.dev.rd a)) ∧
  (∀ (w : Wr) (s : State), s.dev.admits w 0xA001C = true → s.dev.mx.heldCmds = [] →
    GivesDev (.matrixBusrelWrite w []) s fun t =>
      (∀ b < 32, bitOf w.data b = true → s.dev.busOpen b = .host →
        t.busOpen b = .no ∧ t.flag 0xA0018 b = false ∧ ∀ x ∈ t.mx.closed, x.phys ≠ s.dev.phys b) ∧
      (∀ b < 32, bitOf w.data b = false ∨ s.dev.busOpen b ≠ .host → t.busOpen b = s.dev.busOpen b)) ∧
  (∀ (p : Fin 34) (b : Nat) (s : State), s.dev.logicalOf p = some b → s.dev.owner b ≠ .free → s.dev.busOpen b = .no →
    GivesDev (.busOvercurrent p []) s fun t =>
      t.busOpen b = .overcurrent ∧ t.flag 0xA0004 2 = true ∧ (∀ x ∈ t.mx.closed, x.phys ≠ p.val) ∧
      (∀ b', b' ≠ b → t.busOpen b' = s.dev.busOpen b') ∧
      Device.keepsRegs (fun a => a = 0xA0004 ∨ a = aMX (0x100 + 4 * b)) s.dev t) ∧
  (∀ (p q : Fin 34) (k : Nat) (rest : List (Fin 34 × Nat)) (s : State), s.dev.logicalOf p = none → q = p →
    GivesDev (.busOvercurrent p ((q, k) :: rest)) s fun t =>
      (p.val, k) ∈ t.mx.isolated ∧ p.val ∈ t.mx.out ∧ (32 ≤ p.val → t.flag 0xA0000 (p.val - 32) = false))

/-- A connection-list entry is written whole while no active context names a list that covers it and every list that covers it keeps to R87 (R91). A
meter that the host holds at rest starts a conversion on RMU_CMD.START (R99): BUSY reads one, the conversion is the host's and begins at the next
edge. A conversion that the host started ends, once its windows have passed and outside HOLD, with its reading, with AZERO less the zero reading,
saturated to 24 bits, BUSY zero, OVR as it saturated, and MATRIX_EVENT.RMUDONE (R104, R109). RUN of a meter's filter unit follows the write (R135,
R136, R151) while no context claims the chain and no RWS field changes under a running one. Forms that complete, each with its own effect:
matrixLentWrite, rmuStart, rmuConversionEnd, rmuChainStart, rmuChainStop. -/
def Obligations.MetersAndListsAct : Prop :=
  (∀ (j : Fin 8192) (w : Wr) (s : State), s.dev.admits w (aMX (0x8000 + 4 * j)) = true →
    ((s.dev.covering j).any fun i => s.dev.descBusy i) = false →
    ((s.dev.covering j).any fun i => listFits (s.dev.listOf i) &&
      !listFits ((s.dev.putCooked w.by_ (aMX (0x8000 + 4 * j)) w.data).listOf i)) = false →
    GivesDev (.matrixLentWrite j w) s fun t =>
      t.rd (aMX (0x8000 + 4 * j)) = storeWord (aMX (0x8000 + 4 * j)) (s.dev.cook (aMX (0x8000 + 4 * j)) w.data).1 ∧ t.plant = s.dev.plant ∧
      Device.keepsRegs (fun a => a = aMX (0x8000 + 4 * j) ∨ a = 0xA0004) s.dev t) ∧
  ((∀ (r : Fin 4) (w : Wr) (s : State), s.dev.admits w (aRMU r 0x1C) = true → s.dev.owner (resRmu r) = .host →
    s.dev.flag (aRMU r 0x14) 0 = false →
    GivesDev (.rmuStart r w) s fun t =>
      t.flag (aRMU r 0x14) 0 = true ∧
      (∃ c, (t.meter r).conv = some c ∧ c.byHost = true ∧ c.start = s.dev.edge + 1) ∧
      (∀ q, q ≠ r.val → t.meter q = s.dev.meter q) ∧
      ∀ a, a ≠ aRMU r 0x14 → t.rd a = s.dev.rd a) ∧
  (∀ (r : Fin 4) (m : RmuMeas) (c : Conv) (s : State), (s.dev.meter r).conv = some c → c.byHost = true → s.dev.convDone c = true → s.dev.capo ≠ 1 →
    let x := if s.dev.flag (aRMU r 0) 8 then m.raw - m.zero else m.raw
    GivesDev (.rmuConversionEnd r m) s fun t =>
      (t.meter r).conv = none ∧ t.flag (aRMU r 0x14) 0 = false ∧
      t.fget (aRMU r 0x18) 0 24 = ofSigned 24 (clampInt (-8388607) 8388607 x) ∧
      t.flag (aRMU r 0x14) 2 = decide (clampInt (-8388607) 8388607 x ≠ x) ∧ t.flag 0xA0004 5 = true ∧
      Device.keepsRegs (fun a => a = aRMU r 0x14 ∨ a = aRMU r 0x18 ∨ a = aRMUF r 8 ∨ a = 0xA0004) s.dev t)) ∧
  (∀ (r : Fin 4) (w : Wr) (s : State),
    ∀ run c, (run, c) ∈ [(true, Instr.rmuChainStart r w), (false, .rmuChainStop r w)] →
    s.dev.admits w (aRMUF r 0) = true → (s.dev.execs.any fun x => x.verdict.isNone && x.slots.any fun k => k.kind == .rmu r) = false →
    (s.dev.flag (aRMUF r 0) 31 = true → s.dev.reachesRws (aRMUF r 0) (setBits w.data 31 1 (if run then 1 else 0)) = false) →
    GivesDev c s fun t =>
      t.flag (aRMUF r 0) 31 = run ∧ (s.dev.flag (aRMUF r 0) 31 ≠ run → t.rmuChainRuns r = run) ∧ t.chan = s.dev.chan ∧ t.mx = s.dev.mx ∧
      t.rmu = s.dev.rmu)

/-- Claims of ended executions are released once their switches are open (R95): outside HOLD no resource stays with an execution whose release was
due, and no claim of the host or of an execution without a due release changes; under HOLD no claim ends (R94). A comparator of a tile (R113; that it
goes high above its threshold, low below it less the hysteresis, and keeps its level between is the model's reading, log entry 75): its level follows
its source, SAT the amplifiers, and no switch moves. Forms that complete, each with its own effect: claimRelease, catComparatorEvent. -/
def Obligations.ClaimsEndComparatorsFollow : Prop :=
  (∀ s : State,
    (s.dev.capo ≠ 1 → GivesDev .claimRelease s fun t =>
      (∀ r x c, s.dev.owner r = .ctx x c → (∃ k ∈ s.dev.mx.releases, k.exec = x ∧ k.due ≤ s.dev.edge) → t.owner r = .free) ∧
      (∀ r, (∀ x c, s.dev.owner r = .ctx x c → ∀ k ∈ s.dev.mx.releases, k.exec = x → s.dev.edge < k.due) → t.owner r = s.dev.owner r) ∧
      t.mx.releases = s.dev.mx.releases.filter fun k => !decide (k.due ≤ s.dev.edge)) ∧
    (s.dev.capo = 1 → GivesDev .claimRelease s fun t => t = s.dev)) ∧
  (∀ (u : Fin 64) (v : TileVolts) (sat : Bool) (s : State),
    GivesDev (.catComparatorEvent u v sat) s fun t =>
      (∀ k < 2, t.flag (aCAT u 0x14) k = Device.cmpLevel (s.dev.rd (aCAT u (0xC + 4 * k))) v (s.dev.flag (aCAT u 0x14) k)) ∧
      t.flag (aCAT u 0x14) 2 = sat ∧ t.mx = s.dev.mx ∧ t.execs = s.dev.execs)

/-! Filter chains and threshold units (R123 to R156). -/

/-- RUN of a channel's chain follows an accepted write (R135, R136), while no context claims the chain. A start loads and clears the threshold unit
(R147) and, outside threshold-only operation (R150), starts the chain with cleared memories at the next edge; a stop ends it. No other chain or unit,
no channel and no context changes. A complete decimation group goes through its running chain (R131): it leaves the group. Once the chain has settled
(R133, R135) the output is the chain's value, which FILT_OUTLO reads the low word of (R156), with the saturations of its stages; before that the
latched output stays. No other chain, no threshold unit and no channel changes. Forms that complete, each with its own effect: filtRunStart,
filtRunStop, chainOutput. -/
def Obligations.ChainsRunAndDeliver : Prop :=
  (∀ (n : Fin 1024) (w : Wr) (s : State), s.dev.admits w (aFILT n 0) = true → s.dev.chainClaimed n = false →
    (let own := fun a => a = aFILT n 0 ∨ a = aFILT n 4 ∨ a = aFILT n 8 ∨ a = aFILT n 0xC ∨ a = aFILT n 0x1C ∨ a = aFILT n 0x30
     (s.dev.flag (aFILT n 0) 31 = false → GivesDev (.filtRunStart n w) s fun t =>
       (let p := t.profile (t.profOf n)
        t.flag (aFILT n 0) 31 = true ∧ t.thr n = ⟨true, s.dev.edge + 1, [], List.replicate p.ordN 0, List.replicate p.ordN 0, true⟩ ∧
        (s.dev.thrOnly n = false → t.chainRuns n = true ∧ t.chain n = freshChain p (s.dev.edge + 1) (s.dev.chain n)) ∧
        (s.dev.thrOnly n = true → t.chain n = s.dev.chain n)) ∧
       (∀ m, m ≠ n.val → t.chain m = s.dev.chain m ∧ t.thr m = s.dev.thr m) ∧ t.chan = s.dev.chan ∧ t.execs = s.dev.execs ∧
       Device.keepsRegs own s.dev t) ∧
     (s.dev.flag (aFILT n 0) 31 = true → s.dev.reachesRws (aFILT n 0) (setBits w.data 31 1 0) = false → GivesDev (.filtRunStop n w) s fun t =>
       t.flag (aFILT n 0) 31 = false ∧ t.chainRuns n = false ∧ t.chain n = { s.dev.chain n with group := [] } ∧ t.thrs = s.dev.thrs ∧
       (∀ m, m ≠ n.val → t.chain m = s.dev.chain m) ∧ t.chan = s.dev.chan ∧ t.execs = s.dev.execs ∧ Device.keepsRegs own s.dev t))) ∧
  (∀ (n : Fin 1024) (s : State),
    (let p := s.dev.profile (s.dev.profOf n)
     let c := s.dev.chain n
     let r := runGroup p ((c.group.take p.period).map Raw.code) c
     let last := ((c.group.take p.period).getLast?.map Raw.edge).getD 0
     s.dev.chainRuns n = true → 0 < p.period → p.period ≤ c.group.length →
     GivesDdr (.chainOutput n) s fun t =>
       (t.chain n).group = c.group.drop p.period ∧
       (c.start + p.span ≤ last + 1 →
         (t.chain n).lastVal = r.1 ∧ t.rd (aFILT n 0x10) = BitVec.ofNat 32 (ofSigned 64 r.1) ∧ t.fget (aFILT n 4) 0 4 = r.2.1 % 16) ∧
       (last + 1 < c.start + p.span → (t.chain n).lastVal = c.lastVal) ∧
       (∀ m, m ≠ n.val → t.chain m = s.dev.chain m) ∧ t.thrs = s.dev.thrs ∧ t.chan = s.dev.chan))

/-- A complete group of a threshold unit is taken (R148): it leaves the unit, and no other unit and no chain changes; after a fresh load the
comparators only take their first state, without an event for any context, list or Fret. A spare lane takes over the lane that waits for it (R149):
the lane names the spare and reads substituted, every channel of it is REMAPPED, and it waits no longer; without a pending substitution nothing
happens. The registers whose reads latch a further register (R156, R183): from the start of the root PLL, while their block answers, a read answers
the low word of the value and the further registers hold its rest; no chain or axis and no other register changes. Forms that complete, each with its
own effect: thresholdUnitOutput, laneSpareTakeover, filtOutloRead, posCntloRead. -/
def Obligations.ThresholdsLanesReads : Prop :=
  (∀ (n : Fin 1024) (s : State),
    (let u := s.dev.thr n
     let k := s.dev.fget (aFILT n 0x30) 8 13
     u.loaded = true → 0 < k → k ≤ u.group.length →
     GivesDev (.thresholdUnitOutput n) s fun t =>
       (t.thr n).group = u.group.drop k ∧ (t.thr n).fresh = false ∧ (∀ m, m ≠ n.val → t.thr m = s.dev.thr m) ∧ t.chains = s.dev.chains ∧
       (u.fresh = true → t.execs = s.dev.execs ∧ t.lists = s.dev.lists ∧ t.frets = s.dev.frets ∧
         ∀ a, a ≠ aFILT n 0x30 → t.rd a = s.dev.rd a))) ∧
  (∀ (m : Fin 64) (s : State),
    (m.val ∈ tabKeys s.dev.lanePend → GivesDev (.laneSpareTakeover m) s fun t =>
      t.fget (0x50200 + 4 * m) 0 7 = tabGet (fun _ => 0) s.dev.lanePend m % 2 ^ 7 ∧ t.flag (0x50200 + 4 * m) 9 = true ∧
      (∀ i < 16, t.flag (aFILT (16 * m + i) 4) 11 = true) ∧ m.val ∉ tabKeys t.lanePend ∧
      (∀ n, n / 16 ≠ m.val → t.chain n = s.dev.chain n)) ∧
    (m.val ∉ tabKeys s.dev.lanePend → GivesDev (.laneSpareTakeover m) s fun t => t = s.dev)) ∧
  ((∀ (n : Fin 1024) (s : State), 5 ≤ s.dev.fget 0x20000 0 5 → s.dev.dead (aFILT n 0x10) = false →
    GivesDev (.filtOutloRead n) s fun t =>
      t.answer = leBytes 4 (ofSigned 64 (s.dev.chain n).lastVal) ∧
      t.rd (aFILT n 0x14) = BitVec.ofNat 32 (ofSigned 64 (s.dev.chain n).lastVal / 2 ^ 32) ∧
      t.rd (aFILT n 0x18) = BitVec.ofNat 32 (s.dev.chain n).lastFlags ∧ t.chains = s.dev.chains ∧
      ∀ a, a ≠ aFILT n 0x10 → a ≠ aFILT n 0x14 → a ≠ aFILT n 0x18 → t.rd a = s.dev.rd a) ∧
  (∀ (a : Fin 4) (s : State), 5 ≤ s.dev.fget 0x20000 0 5 → s.dev.dead (aPOS a 0xC) = false →
    GivesDev (.posCntloRead a) s fun t =>
      t.answer = leBytes 4 (s.dev.ax a).c ∧ t.fget (aPOS a 0x10) 0 16 = (s.dev.ax a).c / 2 ^ 32 % 2 ^ 16 ∧ t.axes = s.dev.axes ∧
      ∀ b, b ≠ aPOS a 0xC → b ≠ aPOS a 0x10 → t.rd b = s.dev.rd b))

/-! Position axes and compare units (R159 to R184). -/

/-- RUN of an axis follows an accepted write (R166): stopped it reads STOPPED; started after the step engine was first armed it is LOCKED at once for
the time, encoder and synthesised-angle sources and SEEKING for mains and measured angle. No other axis changes. A load of a stopped counter is a jump
(R162, R165): C takes the low word written last and the 16 bits written now, POS_EVENT.JUMP is set and the jump counted; the load of a running counter
is refused. Forms that complete, each with its own effect: posRunStart, posRunStop, counterLoad. -/
def Obligations.AxisRunAndLoad : Prop :=
  (∀ (a : Fin 4) (w : Wr) (s : State),
    ∀ run c, (run, c) ∈ [(true, Instr.posRunStart a w), (false, .posRunStop a w)] →
    s.dev.admits w (aPOS a 0) = true →
    (s.dev.flag (aPOS a 0) 31 = true → s.dev.reachesRws (aPOS a 0) (setBits w.data 31 1 (if run then 1 else 0)) = false) →
    GivesDev c s fun t =>
      t.flag (aPOS a 0) 31 = run ∧ (run = false → t.axState a = 0) ∧
      (run = true → s.dev.flag (aPOS a 0) 31 = false → s.dev.flag 0x20000 10 = true → t.axSrc a ≠ 5 →
        t.axState a = if t.axSrc a = 1 ∨ t.axSrc a = 4 ∨ (t.axSrc a = 3 ∧ t.axMeas a = false) then 2 else 1) ∧
      (∀ b, b ≠ a.val → t.ax b = s.dev.ax b) ∧ t.cmps = s.dev.cmps ∧
      Device.keepsRegs (fun r => r = aPOS a 0 ∨ r = aPOS a 0x1C ∨ r = aPOS a 0x2C ∨ r = aPOS a 0x30 ∨ r = aPOS a 0x38) s.dev t) ∧
  (∀ (a : Fin 4) (w : Wr) (s : State), s.dev.admits w (aPOS a 0x10) = true →
    (s.dev.flag (aPOS a 0) 31 = false → GivesDev (.counterLoad a w) s fun t =>
      (t.ax a).c = ((s.dev.ax a).loadLo.getD ((s.dev.ax a).c % 2 ^ 32) + bitsOf w.data 0 16 * 2 ^ 32) % 2 ^ 48 ∧
      (t.ax a).loadLo = none ∧ t.flag (aPOS a 0x30) 2 = true ∧ t.fget (aPOS a 0x38) 16 16 = (s.dev.fget (aPOS a 0x38) 16 16 + 1) % 2 ^ 16 ∧
      (∀ b, b ≠ a.val → t.ax b = s.dev.ax b) ∧ Device.keepsRegs (fun r => r = aPOS a 0x30 ∨ r = aPOS a 0x38) s.dev t) ∧
    (s.dev.flag (aPOS a 0) 31 = true → GivesDev (.counterLoad a w) s fun t =>
      t.plant = s.dev.plant ∧ t.flag (aPOS a 0x30) 8 = true ∧ Device.keepsRegs (fun r => r = aPOS a 0x30) s.dev t))

/-- The present rate of a synthesised angle (R170): a step brings POS_RATENOW to TARGET, or toward it by SLEW; a change of TARGET or SLEW steps at
once, and a step of the grid does when its time has come. An encoder axis (R173): an accepted change of one track moves C by one tick, in the
direction of the quadrature sequence; a change of both is a quadrature error that is counted and leaves C; the first rising edge of the index pin
jumps to 0. Forms that complete, each with its own effect: posRateWrite, posSlewWrite, rateSlewStep, encoderSample, encoderIndex. -/
def Obligations.RatesAndEncodersStep : Prop :=
  ((∀ (a : Fin 4) (w : Wr) (s : State), ∀ o c, (o, c) ∈ [(0x14, Instr.posRateWrite a w), (0x18, .posSlewWrite a w)] →
    s.dev.admits w (aPOS a o) = true →
    GivesDev c s fun t =>
      t.rd (aPOS a o) = storeWord (aPOS a o) (s.dev.cook (aPOS a o) w.data).1 ∧
      (s.dev.axSyn a = false → t.plant = s.dev.plant) ∧
      (s.dev.axSyn a = true → t.rd (aPOS a o) ≠ s.dev.rd (aPOS a o) → t.rd (aPOS a 0x18) = 0 → t.rd (aPOS a 0x1C) = t.rd (aPOS a 0x14)) ∧
      Device.keepsRegs (fun r => r = aPOS a o ∨ r = aPOS a 0x1C ∨ r = aPOS a 0x30) s.dev t) ∧
  (∀ (a : Fin 4) (s : State), s.dev.axSyn a = true → (s.dev.ax a).slewAt ≤ s.dev.edge + 1 →
    GivesDev (.rateSlewStep a) s fun t =>
      let now := (s.dev.rd (aPOS a 0x1C)).toNat
      let tgt := (s.dev.rd (aPOS a 0x14)).toNat
      let slew := (s.dev.rd (aPOS a 0x18)).toNat
      (t.rd (aPOS a 0x1C)).toNat =
        (if slew = 0 then tgt else if now ≤ tgt then min tgt (now + slew) else max tgt (now - slew)) ∧
      ∀ r, r ≠ aPOS a 0x1C → t.rd r = s.dev.rd r)) ∧
  (∀ (a : Fin 4) (s : State), s.dev.axSrc a = 4 → s.dev.axState a = 2 →
    (let x := s.dev.ax a
     let la := (s.dev.accepted a).1
     let lb := (s.dev.accepted a).2
     ((la ≠ x.encA ∧ lb = x.encB) ∨ (la = x.encA ∧ lb ≠ x.encB) →
       GivesDdr (.encoderSample a) s fun t =>
         (t.ax a).encA = la ∧ (t.ax a).encB = lb ∧
         (t.ax a).c = (if decide ((quarter la lb + 4 - quarter x.encA x.encB) % 4 = 1) ≠ s.dev.flag (aPOS a 0x28) 4 then (x.c + 1) % 2 ^ 48
           else (x.c + 2 ^ 48 - 1) % 2 ^ 48) ∧
         (∀ b, b ≠ a.val → t.ax b = s.dev.ax b) ∧ ∀ r, t.rd r = s.dev.rd r) ∧
     (la ≠ x.encA → lb ≠ x.encB →
       GivesDdr (.encoderSample a) s fun t =>
         (t.ax a).c = x.c ∧ t.flag (aPOS a 0x30) 3 = true ∧ t.fget (aPOS a 0x38) 0 16 = (s.dev.fget (aPOS a 0x38) 0 16 + 1) % 2 ^ 16) ∧
     (s.dev.flag (aPOS a 0x28) 5 = true → x.indexed = false → (s.dev.ch (s.dev.fget (aPOS a 8) 0 10)).pad = true →
       (s.dev.ch (s.dev.fget (aPOS a 8) 0 10)).prevPad = false →
       GivesDev (.encoderIndex a) s fun t => (t.ax a).c = 0 ∧ (t.ax a).indexed = true ∧ t.flag (aPOS a 0x30) 2 = true ∧
         (∀ b, b ≠ a.val → t.ax b = s.dev.ax b))))

/-- A rising edge of the mains pin whose period lies within the window and within 2 % of the last one, of a LOCKED axis (R168): C moves forward by at
most a cycle to the phase of a crossing, the period becomes the last one, and POS_PERIOD reads it. No other axis and no other register changes. A
leading edge of a tooth of a LOCKED axis that comes as the wheel has it and not too late (R171): C takes the angle of that tooth, and POS_PERIOD reads
the interval from the last. The loss of an axis that no active context uses (R166, R169, R172, R175): a mains axis without a crossing for 1.25 periods
goes to HOLDOVER for HOLDC periods, or to SEEKING with HOLDC zero; the end of HOLDOVER and a stall lead to SEEKING; every entry into SEEKING sets
POS_EVENT.LOST. Forms that complete, each with its own effect: lineCrossing, toothEdge, lineCrossingTimeout, holdoverExpiry, angleStall. -/
def Obligations.AlignedAxesFollowAndSeek : Prop :=
  (∀ (a : Fin 4) (p : Nat) (s : State),
    (let x := s.dev.ax a
     let c := s.dev.ch (s.dev.fget (aPOS a 4) 0 10)
     let t := s.dev.edge - p
     s.dev.axSrc a = 2 → s.dev.axState a = 2 → c.pad = true → c.prevPad = false → x.cross = some p →
     x.per ≤ 4 * t → x.per ≠ 4 * t → 315077 ≤ t → t ≤ 455111 → 50 * ((t - x.per) + (x.per - t)) ≤ x.per →
     GivesDdr (.lineCrossing a) s fun u =>
       (u.ax a).c % 65536 = s.dev.fget (aPOS a 0x20) 0 16 ∧ (∃ k, 0 < k ∧ k ≤ 65536 ∧ (u.ax a).c = (x.c + k) % 2 ^ 48) ∧ (u.ax a).per = t ∧ (u.ax a).cross = some s.dev.edge ∧
       u.rd (aPOS a 0x34) = BitVec.ofNat 32 t ∧ u.axState a = 2 ∧ (∀ b, b ≠ a.val → u.ax b = s.dev.ax b) ∧
       ∀ r, r ≠ aPOS a 0x34 → u.rd r = s.dev.rd r)) ∧
  (∀ (a : Fin 4) (q : Nat) (s : State),
    (let x := s.dev.ax a
     let c := s.dev.ch (s.dev.fget (aPOS a 4) 0 10)
     let wl := s.dev.fget (aPOS a 0) 8 4
     let pol := s.dev.flag (aWHEEL wl 0) 18
     let i := s.dev.edge - q
     let k := (s.dev.nextTooth a).2
     let p := 36000 / s.dev.fget (aWHEEL wl 0) 0 9
     s.dev.axSrc a = 3 → s.dev.axMeas a = true → s.dev.axState a = 2 → c.pad ≠ pol → c.prevPad = pol → x.cross = some q → 0 < i →
     decide (0 < x.lastInt ∧ s.dev.fget (aPOS a 0x24) 0 6 * x.lastInt < 16 * i) = decide (1 < k) → 128 * (k * p) ≤ 75 * i →
     GivesDdr (.toothEdge a) s fun t =>
       (t.ax a).c = (s.dev.toothNext a).getD x.c ∧ (t.ax a).tpos = (s.dev.nextTooth a).1 ∧ (t.ax a).per = i ∧ (t.ax a).span = k * p ∧
       t.rd (aPOS a 0x34) = BitVec.ofNat 32 i ∧ (∀ b, b ≠ a.val → t.ax b = s.dev.ax b) ∧ ∀ r, r ≠ aPOS a 0x34 → t.rd r = s.dev.rd r)) ∧
  (∀ (a : Fin 4) (s : State), (s.dev.actives.filter fun x => ctxAxis x.words == a) = [] →
    (s.dev.axSrc a = 2 → s.dev.axState a = 2 → 5 * (s.dev.ax a).per ≤ 4 * (s.dev.edge - (s.dev.ax a).cross.getD s.dev.edge) →
      GivesDdr (.lineCrossingTimeout a) s fun t =>
        (s.dev.fget (aPOS a 0x20) 16 4 = 0 → t.axState a = 1 ∧ t.flag (aPOS a 0x30) 1 = true ∧ (t.ax a).per = 0) ∧
        (s.dev.fget (aPOS a 0x20) 16 4 ≠ 0 → t.axState a = 3 ∧
          (t.ax a).holdEnd = s.dev.edge + s.dev.fget (aPOS a 0x20) 16 4 * (s.dev.ax a).per) ∧
        (t.ax a).c = (s.dev.ax a).c ∧ (∀ b, b ≠ a.val → t.ax b = s.dev.ax b)) ∧
    (s.dev.axState a = 3 → (s.dev.ax a).holdEnd ≤ s.dev.edge →
      GivesDdr (.holdoverExpiry a) s fun t =>
        t.axState a = 1 ∧ t.flag (aPOS a 0x30) 1 = true ∧ (t.ax a).c = (s.dev.ax a).c ∧ (∀ b, b ≠ a.val → t.ax b = s.dev.ax b)) ∧
    (s.dev.axSrc a = 3 → s.dev.axMeas a = true → s.dev.axState a = 2 →
      s.dev.fget (aPOS a 0x24) 16 10 * 20480 ≤ s.dev.edge - (s.dev.ax a).cross.getD s.dev.edge →
      GivesDdr (.angleStall a) s fun t =>
        t.axState a = 1 ∧ t.flag (aPOS a 0x30) 1 = true ∧ (t.ax a).c = (s.dev.ax a).c ∧ (∀ b, b ≠ a.val → t.ax b = s.dev.ax b)))

/-- A compare unit whose value was passed at this edge fires once (R180, R181): FIRED reads one, and its output follows ACT (pulse and set raise it,
clear lowers it, toggle inverts it, none leaves it); the end of a pulse lowers the output. No other unit changes. Forms that complete, each with its
own effect: compareFire, pulseEnd. -/
def Obligations.CompareUnitFires : Prop :=
  ∀ (a : Fin 4) (k : Fin 64) (s : State),
    ((s.dev.cmpTest a k).1 = true → (s.dev.cmpU a k).firedAt ≠ some s.dev.edge →
      GivesDev (.compareFire a k) s fun t =>
        (t.cmpU a k).firedAt = some s.dev.edge ∧ t.flag (aCMP a k 0xC) 1 = true ∧
        t.cmpOut a k = (match s.dev.fget (aCMP a k 8) 19 3 with
          | 1 => true | 2 => true | 3 => false | 4 => !s.dev.cmpOut a k | _ => s.dev.cmpOut a k) ∧
        (s.dev.fget (aCMP a k 8) 19 3 = 1 → (t.cmpU a k).pulseEnd = some (s.dev.edge + s.dev.fget (aCMP a k 8) 0 16)) ∧
        ∀ b j, 64 * b + j ≠ 64 * a.val + k.val → t.cmpU b j = s.dev.cmpU b j) ∧
    (∀ e, (s.dev.cmpU a k).pulseEnd = some e → e ≤ s.dev.edge →
      GivesDev (.pulseEnd a k) s fun t =>
        t.cmpOut a k = false ∧ (t.cmpU a k).pulseEnd = none ∧ ∀ r, r ≠ aCMP a k 0xC → t.rd r = s.dev.rd r)

/-- Ownership of compare units (R182): a party that may give the owner it names claims a FREE unit; any other claim is refused and changes no unit;
the owner, or for list and link owners any party but a Fret, releases it. The owner of a compare unit writes its value and its configuration (R182,
R184): with MOD zero the unit compares, from the next edge on, the low word written last and the high word written now, and until then what it
compared before; CMP_CFG holds the applied word. No other unit changes. Forms that complete, each with its own effect: cmpClaim, cmpRelease,
cmpValhiWrite, cmpCfgWrite. -/
def Obligations.CompareUnitsOwnedAndWritten : Prop :=
  (∀ (a : Fin 4) (w : Wr) (s : State), s.dev.admits w (aPOS a 0x3C) = true →
    (let v := (s.dev.cook (aPOS a 0x3C) (setBits w.data 31 1 0)).1
     let k := bitsOf v 0 6
     let o := bitsOf v 8 3
     (bitsOf w.data 8 3 ≠ 0 → s.dev.cmpOwner a k = 0 → Device.mayGive w.by_ o (bitsOf v 16 6) = true →
       GivesDev (.cmpClaim a w) s fun t =>
         t.cmpOwner a k = o ∧ t.fget (aCMP a k 8) 25 6 = (if o = 3 then bitsOf v 16 6 else 0) ∧ t.plant = s.dev.plant ∧
         Device.keepsRegs (fun r => r = aCMP a k 8 ∨ r = aPOS a 0x30) s.dev t) ∧
     (s.dev.cmpOwner a k ≠ 0 ∨ Device.mayGive w.by_ o (bitsOf v 16 6) = false →
       GivesDev (.cmpClaim a w) s fun t =>
         t.plant = s.dev.plant ∧ t.flag (aPOS a 0x30) 9 = true ∧ Device.keepsRegs (fun r => r = aPOS a 0x30) s.dev t)) ∧
    (let k := bitsOf w.data 0 6
     s.dev.ownsCmp a k w.by_ = true ∨ ((w.by_ = .host ∨ w.by_ = .firmware) ∧ (s.dev.cmpOwner a k = 2 ∨ s.dev.cmpOwner a k = 4)) →
       GivesDev (.cmpRelease a w) s fun t =>
         t.cmpOwner a k = 0 ∧ t.plant = s.dev.plant ∧ ∀ r, r ≠ aCMP a k 8 → t.rd r = s.dev.rd r)) ∧
  (∀ (a : Fin 4) (k : Fin 64) (w : Wr) (s : State), s.dev.ownsCmp a k w.by_ = true →
    (s.dev.admits w (aCMP a k 4) = true → s.dev.flag (aCMP a k 8) 16 = false →
      GivesDev (.cmpValhiWrite a k w) s fun t =>
        (t.cmpU a k).value = (s.dev.rd (aCMP a k 0)).toNat + 2 ^ 32 * t.fget (aCMP a k 4) 0 16 ∧
        (t.cmpU a k).from_ = s.dev.edge + 1 ∧ (t.cmpU a k).before = s.dev.cmpNow a k ∧
        t.rd (aCMP a k 4) = storeWord (aCMP a k 4) (s.dev.cook (aCMP a k 4) w.data).1 ∧
        (∀ b j, 64 * b + j ≠ 64 * a.val + k.val → t.cmpU b j = s.dev.cmpU b j) ∧
        Device.keepsRegs (fun r => r = aCMP a k 4 ∨ r = aPOS a 0x30) s.dev t) ∧
    (s.dev.admits w (aCMP a k 8) = true →
      GivesDev (.cmpCfgWrite a k w) s fun t =>
        t.rd (aCMP a k 8) = storeWord (aCMP a k 8) (s.dev.cook (aCMP a k 8) w.data).1 ∧ t.cmpOwner a k = s.dev.cmpOwner a k ∧
        (∀ b j, 64 * b + j ≠ 64 * a.val + k.val → t.cmpU b j = s.dev.cmpU b j) ∧
        Device.keepsRegs (fun r => r = aCMP a k 8 ∨ r = aCMP a k 0 ∨ r = aCMP a k 4 ∨ r = aPOS a 0x30) s.dev t))

/-! Step lists, contexts, result queues (R186 to R210). -/

/-- STEP_CTL (R194, R209): a one arms the engine, and every enabled list at rest becomes ARMED with its FIRST context pending, or runs at once when
its trigger is ARM; lists that are not enabled or not at rest keep their state; a zero disarms the engine and changes no list. STEP_START with ARM and
without GO (R194, R244): a list at rest becomes ARMED, or runs when its trigger is ARM, and the bus engines that its contexts use leave HALTED; a list
that is ARMED or RUNNING stays so and no engine changes. A context that cannot be read as it becomes pending stops its list instead (R187). Forms that
complete, each with its own effect: stepCtlWrite, stepStartArm. -/
def Obligations.ListsArm : Prop :=
  (∀ (w : Wr) (s : State), s.dev.admits w 0x80000 = true →
    (bitOf w.data 0 = true → s.dev.armed = false → GivesDev (.stepCtlWrite w) s fun t =>
      t.armed = true ∧
      (∀ l < 256, s.dev.flag (aLIST l 0) 31 = true → s.dev.lstState l = 0 ∨ s.dev.lstState l = 3 →
        t.lstState l = (if s.dev.lstTrig l = 1 then 2 else 1) ∧ ∃ p, (t.lst l).pend = some p ∧ p.ctx = s.dev.fget (aLIST l 0) 0 14 ∧ p.first = true) ∧
      (∀ l < 256, s.dev.flag (aLIST l 0) 31 = false ∨ (s.dev.lstState l ≠ 0 ∧ s.dev.lstState l ≠ 3) → t.lstState l = s.dev.lstState l ∧ t.lst l = s.dev.lst l) ∧
      t.execs = s.dev.execs ∧ t.chan = s.dev.chan) ∧
    (bitOf w.data 0 = false → GivesDev (.stepCtlWrite w) s fun t =>
      t.armed = false ∧ t.plant = s.dev.plant ∧ ∀ a, a ≠ 0x80000 → a ≠ 0x80004 → t.rd a = s.dev.rd a)) ∧
  (∀ (w : Wr) (s : State), s.dev.admits w 0x80020 = true → bitOf w.data 31 = false →
    (let l := bitsOf w.data 0 8
     (s.dev.lstState l = 0 ∨ s.dev.lstState l = 3 →
       GivesDev (.stepStartArm ⟨w, false⟩) s (fun t =>
         t.lstState l = (if s.dev.lstTrig l = 1 then 2 else 1) ∧
         (∃ p, (t.lst l).pend = some p ∧ p.ctx = s.dev.fget (aLIST l 0) 0 14 ∧ p.first = true) ∧
         (∀ e ∈ s.dev.listEngines l, (t.eng e).halted = false) ∧ (∀ e, e ∉ s.dev.listEngines l → t.eng e = s.dev.eng e) ∧
         (∀ m, m ≠ l → t.lst m = s.dev.lst m) ∧ t.execs = s.dev.execs) ∧
       GivesDev (.stepStartArm ⟨w, true⟩) s (fun t =>
         t.lstState l = 3 ∧ (t.lst l).pend = none ∧ t.flag 0x80008 4 = true ∧ (∀ m, m ≠ l → t.lst m = s.dev.lst m) ∧ t.execs = s.dev.execs)) ∧
     (s.dev.lstState l ≠ 0 → s.dev.lstState l ≠ 3 → ∀ ecc, GivesDev (.stepStartArm ⟨w, ecc⟩) s fun t => t = s.dev)))

/-- A trigger reaches a list (R191 to R194), by STEP_START with GO or by a rising edge of its trigger pin: an ARMED list runs from the axis positions
of the edge, a RUNNING list counts a missed trigger; a GO for a list with another trigger source is refused. STEP_STOP with its GO bit (R194, R195):
the list is STOPPED and names no next context; without ABORT its active context goes on; with ABORT the end of its active execution stands for the
next sample edge, and a list without one only stops. A write of STEP_LDESC with EN zero that is accepted (R194): EN reads zero, no context is pending,
and a list without an unfinished execution is IDLE. Forms that complete, each with its own effect: stepStartGo, pinTrigger, stepStop, stepStopAbort,
listDisable. -/
def Obligations.ListsTriggerAndStop : Prop :=
  ((∀ (w : Wr) (s : State), s.dev.admits w 0x80020 = true →
    (let l := bitsOf w.data 0 8
     (s.dev.lstTrig l = 0 ∨ s.dev.lstTrig l = 6 → GivesDev (.stepStartGo w) s fun t =>
       (s.dev.lstState l = 1 → t.lstState l = 2 ∧ (t.lst l).trig = (List.range 4).map fun a => (s.dev.ax a).c) ∧
       (s.dev.lstState l = 2 → t.fget (aLIST l 0xC) 16 16 = (s.dev.fget (aLIST l 0xC) 16 16 + 1) % 2 ^ 16 ∧ t.lst l = s.dev.lst l) ∧
       (∀ m, m ≠ l → t.lst m = s.dev.lst m) ∧ t.execs = s.dev.execs) ∧
     (s.dev.lstTrig l ≠ 0 → s.dev.lstTrig l ≠ 6 → GivesDev (.stepStartGo w) s fun t =>
       t.plant = s.dev.plant ∧ t.flag 0x80008 1 = true ∧ Device.keepsRegs (fun a => a = 0x80008) s.dev t))) ∧
  (∀ (l : Fin 256) (s : State), s.dev.lstTrig l = 3 → (s.dev.ch (s.dev.lstArg l % 1024)).pad = true →
    (s.dev.ch (s.dev.lstArg l % 1024)).prevPad = false →
    GivesDev (.pinTrigger l) s fun t =>
      (s.dev.lstState l = 1 → t.lstState l = 2 ∧ (t.lst l).trig = (List.range 4).map fun a => (s.dev.ax a).c) ∧
      (∀ m, m ≠ l.val → t.lst m = s.dev.lst m) ∧ t.execs = s.dev.execs)) ∧
  (∀ (w : Wr) (s : State), s.dev.admits w 0x80024 = true → bitOf w.data 31 = true →
    (let l := bitsOf w.data 0 8
     (GivesDdr (.stepStop w) s fun t =>
       t.lstState l = 3 ∧ (t.lst l).pend = none ∧ t.execs = s.dev.execs ∧ (∀ m, m ≠ l → t.lst m = s.dev.lst m) ∧
       ∀ a, a ≠ aLIST l 8 → t.rd a = s.dev.rd a) ∧
     (GivesDdr (.stepStopAbort w) s fun t =>
       t.lstState l = 3 ∧ (t.lst l).pend = none ∧ t.execs = s.dev.execs ∧ (∀ m, m ≠ l → t.lst m = s.dev.lst m) ∧
       (t.lst l).abort = (match s.dev.activeOf l with
         | some x => some (x.id, Device.writerCode w.by_)
         | none => (s.dev.lst l).abort) ∧
       ∀ a, a ≠ aLIST l 8 → t.rd a = s.dev.rd a))) ∧
  (∀ (l : Fin 256) (w : Wr) (s : State), s.dev.admits w (aLIST l 0) = true →
    (s.dev.lstState l = 1 ∨ s.dev.lstState l = 2 → s.dev.reachesRws (aLIST l 0) (setBits w.data 31 1 0) = false) →
    GivesDev (.listDisable l w) s fun t =>
      t.flag (aLIST l 0) 31 = false ∧ (t.lst l).pend = none ∧
      ((s.dev.execs.any fun x => x.list == l.val && x.verdict.isNone) = false → t.lstState l = 0) ∧
      ((s.dev.execs.any fun x => x.list == l.val && x.verdict.isNone) = true → (t.lst l).ending = 2 ∧ t.lstState l = s.dev.lstState l) ∧
      (∀ m, m ≠ l.val → t.lst m = s.dev.lst m) ∧ t.execs = s.dev.execs ∧
      Device.keepsRegs (fun a => a = aLIST l 0 ∨ a = aLIST l 8 ∨ a = 0x80008) s.dev t)

/-- The fetch of setup records (R187, R189, R457): without an error the pending context holds as many records as SCOUNT says, their modes, ranges,
codes and clamps within the ranges of R188; an uncorrectable error at a record or in the context stops the list, and one at a record is counted. Forms
that complete, each with its own effect: setupFetchDone. -/
def Obligations.SetupRecordsFetched : Prop :=
  ∀ (l : Fin 256) (p : Pend) (s : State), (s.dev.lst l).pend = some p → p.fetched = false →
    (GivesDev (.setupFetchDone l none) s fun t =>
      ∃ q, (t.lst l).pend = some q ∧ q.fetched = true ∧ q.ctx = p.ctx ∧ q.setups.length = ctxF (s.dev.ctxWords p.ctx) 6 0 11 ∧
        (∀ k ∈ q.setups, bitsOf k.w1 0 3 ≤ 6 ∧ bitsOf k.w1 5 2 ≤ 2 ∧ bitsOf k.w1 8 3 ≤ 4 ∧
          -125000 ≤ toSigned 18 (bitsOf k.w2 0 18) ∧ toSigned 18 (bitsOf k.w2 0 18) ≤ 125000 ∧
          500 ≤ bitsOf k.w3 0 16 ∧ bitsOf k.w3 0 16 ≤ 50000 ∧ 500 ≤ bitsOf k.w3 16 16 ∧ bitsOf k.w3 16 16 ≤ 50000) ∧
        (∀ m, m ≠ l.val → t.lst m = s.dev.lst m) ∧ Device.keepsRegs (fun a => a = 0x80008) s.dev t) ∧
    (∀ i, GivesDev (.setupFetchDone l (some (.setup i))) s fun t =>
      t.lstState l = 3 ∧ (t.lst l).pend = none ∧ t.flag 0x80008 4 = true ∧ t.fget 0xC000C 0 32 = (s.dev.fget 0xC000C 0 32 + 1) % 2 ^ 32 ∧
      (∀ m, m ≠ l.val → t.lst m = s.dev.lst m) ∧
      Device.keepsRegs (fun a => a = 0x80008 ∨ a = aLIST l 8 ∨ a = 0xC0004 ∨ a = 0xC000C ∨ a = 0xC0010) s.dev t) ∧
    (GivesDev (.setupFetchDone l (some .context)) s fun t =>
      t.lstState l = 3 ∧ (t.lst l).pend = none ∧ t.flag 0x80008 4 = true ∧ (∀ m, m ≠ l.val → t.lst m = s.dev.lst m) ∧
      Device.keepsRegs (fun a => a = 0x80008 ∨ a = aLIST l 8) s.dev t)

/-- A due and eligible context whose conditions of R196 all hold, and that no other context goes before, starts: one more execution runs, it owns
every resource that the context names, and the list shows it. A context that cannot be read does not start and stops its list, and one that waits for
a condition of R196 stays pending: in both cases no execution begins (R187, R196). Forms that complete, each with its own effect: contextStart. -/
def Obligations.ContextsStartAndWait : Prop :=
  (∀ (l : Fin 256) (p : Pend) (s : State), (s.dev.lst l).pend = some p → s.dev.candidate l = true → s.dev.passedBy l p = false →
    s.dev.startCauses l p = 0 →
    GivesDdr (.contextStart l false) s fun t =>
      t.nextExec = s.dev.nextExec + 1 ∧ t.execs.length = s.dev.execs.length + 1 ∧
      (∀ r ∈ s.dev.needs (s.dev.ctxWords p.ctx) p.setups, t.owner r = .ctx s.dev.nextExec p.ctx) ∧
      t.edge = s.dev.edge ∧ t.axes = s.dev.axes) ∧
  (∀ (l : Fin 256) (p : Pend) (s : State), (s.dev.lst l).pend = some p → s.dev.candidate l = true →
    (GivesDdr (.contextStart l true) s fun t =>
      t.lstState l = 3 ∧ (t.lst l).pend = none ∧ t.flag 0x80008 4 = true ∧ t.nextExec = s.dev.nextExec ∧ t.execs = s.dev.execs) ∧
    (s.dev.passedBy l p = false → s.dev.startCauses l p ≠ 0 → GivesDdr (.contextStart l false) s fun t =>
      t.nextExec = s.dev.nextExec ∧ t.execs = s.dev.execs ∧
      (t.lst l).pend = some p ∧ t.lstState l = 2))

/-- The end of a context (R196): once its axis has passed its end and every slot's window, its execution is no longer active and its entry of the
count of active contexts is given up. A slot whose window has ended and whose chain has delivered gets its record (R196), outside HOLD (R33). The
retry of a slot that waits for it, 64 Ts after the fault or later and within 40,960 Ts after the slot's first fault (R199, R201): the slot measures
anew from the present position and STEP_EVENT.RETRY is set. Forms that complete, each with its own effect: contextClose, slotComplete, slotRetry. -/
def Obligations.ContextsCloseAndSlotsFill : Prop :=
  (∀ (l : Fin 256) (x : Exec) (s : State), s.dev.activeOf l = some x →
    reachedPos (s.dev.ax (ctxAxis x.words)).c ((x.start + ctxLen x.words) % posMod) = true → x.slots.all (s.dev.slotPast x) = true →
    GivesDdr (.contextClose l) s fun t =>
      (∀ y ∈ t.execs, y.id = x.id → y.active = false) ∧ t.execs.length = s.dev.execs.length ∧ t.axes = s.dev.axes ∧ t.chan = s.dev.chan) ∧
  (∀ (l : Fin 256) (i : Nat) (x : Exec) (s : State), s.dev.capo ≠ 1 →
    (s.dev.execs.find? fun y => y.list == l.val && ((y.slots[i]?.map s.dev.slotReady).getD false)) = some x →
    GivesDev (.slotComplete l i) s fun t =>
      (∀ y ∈ t.execs, y.id = x.id → ∃ k, y.slots[i]? = some k ∧ k.rec_.isSome = true) ∧ t.execs.length = s.dev.execs.length ∧
      t.chan = s.dev.chan ∧ t.axes = s.dev.axes ∧ t.mx = s.dev.mx) ∧
  (∀ (l : Fin 256) (i : Nat) (x : Exec) (k : Slot) (s : State),
    (s.dev.execs.find? fun y => y.list == l.val && ((y.slots[i]?.map fun k => k.waits && !k.remeasure && decide (k.lastFault + 64 ≤ s.dev.edge)).getD false)) = some x →
    x.slots[i]? = some k → s.dev.edge ≤ k.firstFault.getD s.dev.edge + 40960 →
    GivesDdr (.slotRetry l i) s fun t =>
      t.flag 0x80008 3 = true ∧
      (∀ y ∈ t.execs, y.id = x.id →
        y.slots[i]? = some { k with waits := false, start := (s.dev.ax (ctxAxis x.words)).c, outs := [], thr := [], endEdge := none }) ∧
      t.axes = s.dev.axes ∧ t.chan = s.dev.chan ∧ t.mx = s.dev.mx)

/-- The result writer (R203, R206, R208): RESQ_WRSEQ passes the committed records, which lie in the ring as 32 bytes each with their SEQ, and nothing
outside the ring changes; a consumer's RDSEQ is stored as applied. Forms that complete, each with its own effect: resqWrseqAdvance, resqRdseqWrite. -/
def Obligations.ResultsReachRing : Prop :=
  (∀ (q : Fin 16) (s : State),
    (let base := bitsOf (s.dev.rd (aRESQ q 0)) 12 20 * 4096 + s.dev.fget (aRESQ q 4) 0 4 * 2 ^ 32
     let size := 2 ^ s.dev.fget (aRESQ q 8) 0 5
     let seq := (s.dev.rd (aRESQ q 0x10)).toNat
     let recs := (s.dev.que q).done
     GivesMem (.resqWrseqAdvance q) s fun m t =>
       t.rd (aRESQ q 0x10) = BitVec.ofNat 32 (seq + recs.length) ∧ (t.que q).done = [] ∧
       (recs.length ≤ size → ∀ i r, recs[i]? = some r → m.ddrRead (base + 32 * ((seq + i) % size)) 32 = r.1.bytes ((seq + i) % 2 ^ 32)) ∧
       (∀ a, a < base ∨ base + 32 * size ≤ a → m.ddrRead a 1 = s.mem.ddrRead a 1) ∧ m.flash = s.mem.flash ∧ m.host = s.mem.host ∧
       (∀ p, p ≠ q.val → t.que p = s.dev.que p) ∧
       ∀ a, a ≠ aRESQ q 0x10 → a ≠ aRESQ q 0x18 → a ≠ aRESQ q 0x20 → t.rd a = s.dev.rd a)) ∧
  (∀ (q : Fin 16) (w : Wr) (s : State), s.dev.admits w (aRESQ q 0x14) = true →
    GivesDev (.resqRdseqWrite q w) s fun t =>
      t.rd (aRESQ q 0x14) = storeWord (aRESQ q 0x14) (s.dev.cook (aRESQ q 0x14) w.data).1 ∧ t.plant = s.dev.plant ∧
      Device.keepsRegs (fun a => a = aRESQ q 0x14 ∨ a = aRESQ q 0x20) s.dev t)

/-! Bus engines (R211 to R251). -/

/-- The operations that begin at once on an engine that can perform them (R217, R220, R222, R224, R227, R231): CANTX, CANREQ and ISOTP put their frame
on an idle bus, or let it wait until the bus is idle; what follows its end is the end of the transaction, the wait for a response, or, after a first
frame of several, the wait for flow control. CANRX and SENTRX wait, TMO milliseconds; SENTTX sets the content to the request's nibbles; LINDIAG begins
its next frame 60. Only the engine addressed changes. A frame on the wire ends by itself at a sample edge (R217, R220, R222, R224, R231): the last
frame of CANTX decides it OK and is counted, that of CANREQ or of a whole ISOTP request makes it wait for its response, a first frame for flow
control; a frame of LINFRAME is a bit error, a framing error, a checksum error or OK; the last frame of a LINDIAG request makes it poll, and a poll
whose answer is a single frame of its node without an error decides it. Forms that complete, each with its own effect: cantx, canreq, isotp, canrx,
sentrx, senttx, lindiag. -/
def Obligations.BusOperationsRun : Prop :=
  (∀ (e : Fin 120) (t : Tx) (s : State),
    (let req := s.dev.reqBytes s.mem t.entry
     let first := s.dev.isoFirst t.entry req
     let onBus := fun (f : CanFrame) (next : Then) (u : Device) =>
       ∃ v, u.headTx e = some v ∧ v.begun = some s.dev.edge ∧ v.frame = f ∧ v.next = next ∧ v.fails = 0 ∧ v.req = req ∧
         ((s.dev.eng e).idleAt ≤ s.dev.nowU → v.phase = .sending ∧ (t.first = none → v.first = some s.dev.edge) ∧
           (u.eng e).wave = some ⟨s.dev.nowU, canSegs (s.dev.canTiming e) true f⟩) ∧
         (s.dev.nowU < (s.dev.eng e).idleAt → v.phase = .pausing ∧ v.due = some (s.dev.eng e).idleAt)
     ∀ delay : Option (BitVec 24),
      (s.dev.txDue e 0 t → s.dev.txAble e 0 → GivesDev (.cantx e delay) s fun u =>
        onBus (s.dev.canFrame e t.entry req false) .finish u ∧ s.dev.onlyEngine e u) ∧
      (s.dev.txDue e 2 t → s.dev.txAble e 2 → GivesDev (.canreq e delay) s fun u =>
        onBus (s.dev.canFrame e t.entry req false) .respond u ∧ s.dev.onlyEngine e u) ∧
      (s.dev.txDue e 3 t → s.dev.txAble e 3 → GivesDev (.isotp e delay) s fun u =>
        onBus (s.dev.canFrame e t.entry first.1 true) (if req.length ≤ first.2 then .respond else .flow) u ∧
        (∀ v, u.headTx e = some v → v.sent = first.2) ∧ s.dev.onlyEngine e u)) ∧
    (s.dev.txDue e 1 t → s.dev.txAble e 1 → GivesDev (.canrx e) s fun u =>
      (∃ v, u.headTx e = some v ∧ v.begun = some s.dev.edge ∧ v.phase = .listening ∧ v.deadline = s.dev.edge + msTs * s.dev.te t.entry 10 0 16) ∧
      s.dev.onlyEngine e u) ∧
    (s.dev.txDue e 6 t → s.dev.txAble e 6 → GivesDev (.sentrx e) s fun u =>
      (∃ v, u.headTx e = some v ∧ v.begun = some s.dev.edge ∧ v.phase = .listening ∧ v.deadline = s.dev.edge + msTs * s.dev.te t.entry 10 0 16) ∧
      s.dev.onlyEngine e u) ∧
    (s.dev.txDue e 7 t → s.dev.txAble e 7 → GivesDev (.senttx e) s fun u =>
      (u.eng e).content = (s.dev.reqBytes s.mem t.entry).map (fun b => b.toNat % 16) ∧
      (∃ v, u.headTx e = some v ∧ v.begun = some s.dev.edge ∧ v.phase = .setting) ∧ s.dev.onlyEngine e u) ∧
    (∀ x : LinData, s.dev.txDue e 5 t → s.dev.txAble e 5 → GivesDev (.lindiag e x) s fun u =>
      (let bs := ((s.dev.linFrames t.entry (s.dev.reqBytes s.mem t.entry))[t.sent]?).getD []
       (u.eng e).wave = some ⟨s.dev.nowU, s.dev.linHead e 60 ++
         linBytesSegs (bitU (s.dev.fget (aENG e 8) 0 24)) 0 (s.dev.linHeadBits e) (s.dev.linWith t.entry 60 bs)⟩) ∧
      (∃ v, u.headTx e = some v ∧ v.begun = some s.dev.edge ∧ v.phase = .sending ∧ v.next = .diag) ∧ s.dev.onlyEngine e u)) ∧
  (∀ (d : Device) (e : Nat) (t : Tx) (at_ : Nat), d.headTx e = some t → t.phase = .sending → t.due = some at_ → at_ ≤ d.nowU →
    d.linInTime e t at_ = true →
    (t.bad = false → t.next = .finish ∨ t.next = .respond ∨ t.next = .flow →
      (∃ v, (d.frameEnds e).headTx e = some v ∧
        (t.next = .finish → v.phase = .decided ∧ v.outcome = 0 ∧ v.reqEnd = d.edge) ∧
        (t.next = .respond → v.phase = .listening ∧ v.reqEnd = d.edge ∧ v.deadline = d.edge + msTs * d.te t.entry 10 0 16) ∧
        (t.next = .flow → v.phase = .flow ∧ v.timer = d.edge ∧ v.limit = msTs * d.te t.entry 11 0 16)) ∧
      (d.frameEnds e).fget (aENG e 0x28) 0 16 = (d.fget (aENG e 0x28) 0 16 + 1) % 2 ^ 16 ∧ ((d.frameEnds e).eng e).wave = none) ∧
    (t.next = .lin → ∃ v, (d.frameEnds e).headTx e = some v ∧ v.phase = .decided ∧ v.got = t.got ∧
      (let n := d.linBytes t.entry
       let used := linUsed n t.lin.bytes
       v.outcome = if t.bad then 5 else if d.te t.entry 5 0 16 ≠ 0 then 0 else if linBroken used then 4
         else if linSumOk (d.linSumPid t.entry (d.te t.entry 1 0 6)) n used then 0 else 3)) ∧
    (t.next = .diag → t.bad = false → (d.linFrames t.entry t.req).length ≤ t.sent + 1 →
      ∃ v, (d.frameEnds e).headTx e = some v ∧ v.phase = .listening ∧ v.timer = d.edge ∧ v.limit = msTs * d.te t.entry 11 0 16) ∧
    (∀ nad pci b r, t.next = .poll → t.bad = false → t.rxLen = 0 → ((linUsed 8 t.lin.bytes).take 8).map LinByte.value = nad :: pci :: b :: r →
      linBroken (linUsed 8 t.lin.bytes) = false → linSumOk none 8 (linUsed 8 t.lin.bytes) = true → nad.toNat = d.te t.entry 3 0 8 →
      1 ≤ pci.toNat → pci.toNat ≤ 6 → b ≠ 0x7F →
      ∃ v, (d.frameEnds e).headTx e = some v ∧ v.phase = .decided ∧ v.got = (b :: r).take pci.toNat ∧
        v.outcome = if d.te t.entry 8 0 16 < ((b :: r).take pci.toNat).length then 9 else 0))

/-- LINFRAME (R222, R223, R231): a commander's frame begins with its header, and with the request's bytes behind it where it publishes; a frame that
has not ended at its limit times out; a responder waits for a header, answers one of its identifier from its request or takes what follows it, ends
with a checksum error at a wrong parity, and leaves its transaction alone at another identifier. A header 61 that nothing answered within its limit
leaves LINDIAG waiting. Forms that complete, each with its own effect: linframe, linFrameLimit, linHeaderReceived. -/
def Obligations.LinFramesRun : Prop :=
  ∀ (e : Fin 120) (t : Tx) (s : State),
    (∀ x : LinData,
      (s.dev.engRole e = 0 → s.dev.txDue e 4 t → s.dev.txAble e 4 → GivesDev (.linframe e x) s fun u =>
        (∃ v, u.headTx e = some v ∧ v.phase = .sending ∧ v.next = .lin ∧ v.lin = x ∧ v.timer = s.dev.edge ∧
          v.limit = s.dev.linLimit e (s.dev.linBytes t.entry)) ∧
        (∃ r, (u.eng e).wave = some ⟨s.dev.nowU, s.dev.linHead e (s.dev.te t.entry 1 0 6) ++ r⟩ ∧
          (s.dev.te t.entry 5 0 16 ≠ 0 → r = linBytesSegs (bitU (s.dev.fget (aENG e 8) 0 24)) 0 (s.dev.linHeadBits e)
            (s.dev.linWith t.entry (s.dev.te t.entry 1 0 6) ((s.dev.reqBytes s.mem t.entry).take 8)))) ∧
        s.dev.onlyEngine e u) ∧
      (s.dev.engRole e ≠ 0 → s.dev.txDue e 4 t → s.dev.txAble e 4 → GivesDev (.linframe e x) s fun u =>
        (∃ v, u.headTx e = some v ∧ v.phase = .listening ∧ v.begun = some s.dev.edge) ∧ s.dev.onlyEngine e u)) ∧
    (s.dev.flag 0x10000 14 = false → s.dev.headTx e = some t → t.phase = .sending →
      (t.next = .lin → s.dev.engRole e = 0 → t.timer + t.limit ≤ s.dev.edge → GivesDdr (.linFrameLimit e) s fun u =>
        (∃ v, u.headTx e = some v ∧ v.phase = .decided ∧ v.outcome = 1) ∧ (u.eng e).wave = none ∧ s.dev.onlyEngine e u) ∧
      (t.next = .poll → t.timer + s.dev.linLimit e 8 ≤ s.dev.edge → GivesDdr (.linFrameLimit e) s fun u =>
        (∃ v, u.headTx e = some v ∧ v.phase = (if t.rxLen = 0 then .listening else .taking)) ∧ (u.eng e).wave = none ∧ s.dev.onlyEngine e u)) ∧
    (∀ h : LinHeader, s.dev.flag 0x10000 14 = false → s.dev.linHears e = true → s.dev.engRole e ≠ 0 → s.dev.headerOk e h = true →
      s.dev.headTx e = some t → t.begun.isSome = true → t.phase = .listening → s.dev.teOp t.entry = 4 →
      GivesDdr (.linHeaderReceived e h.pulse h.pid h.data) s fun u =>
        (let ident := h.pid.toNat % 64
         (h.pid.toNat ≠ linPid ident → ∃ v, u.headTx e = some v ∧ v.phase = .decided ∧ v.outcome = 3) ∧
         (h.pid.toNat = linPid ident → ident ≠ s.dev.te t.entry 1 0 29 → (u.eng e).txs = (s.dev.eng e).txs) ∧
         (h.pid.toNat = linPid ident → ident = s.dev.te t.entry 1 0 29 →
           (∃ v, u.headTx e = some v ∧ v.phase = .sending ∧ v.next = .lin ∧ v.lin = h.data ∧ v.reqEnd = s.dev.edge ∧
             v.got = (if s.dev.te t.entry 5 0 16 ≠ 0 then t.req.take 8
               else ((linUsed (s.dev.linBytes t.entry) h.data.bytes).take (s.dev.linBytes t.entry)).map LinByte.value)) ∧
           (u.eng e).wave.isSome = true)) ∧
        u.rd (aENG e 0x2C) = BitVec.ofNat 32 h.pulse.meas.toNat ∧ s.dev.onlyEngine e u)

/-- What an engine receives (R219, R220, R221, R224, R226, R227): a frame that a CANRX or a CANREQ expects is counted and taken, and the last one
wanted decides; a frame that nothing expects is counted only; flow control lets ISOTP send its next frame, wait, or gives it up; a response pending
reply is waited out for TMOX; LINDIAG sends its header 61 when NBS has passed; a SENT message that passes its checks is taken; a SENT transmitter
counts a message when it has ended and begins the next one. Errors on the wire and wake-up (R217 to R219, R222; the counting and the error flag of ISO
11898-1 are the model's, log entry 10): an error of a normal CAN engine that is error-active counts 8 for a transmitter, 1 for a receiver, sets its
event and sends an error flag; a frame of its own is repeated while fewer than RETX repetitions failed, else it decides the transaction; above 255 the
engine enters bus-off; lost arbitration lets the frame wait; a measured loop delay is shown; with AUTOREC the recovery clears counters and bus-off; a
dominant level on an idle LIN bus sets WAKE. The engines' own writes (R12, R219, R244, R251, R258): an accepted BUS_ECFG is stored as applied, takes
the engine out of HALTED and, with AUTOREC zero, out of bus-off; of the channels only its transmit pin's function switch can change, and only when the
write enables or disables the engine; one that would change RWS fields of a running engine is refused; an accepted BUS_EPIN is stored, and refused on
a pin whose owner is ANALOGUE. Forms that complete, each with its own effect: canFrameReceived, isotpFlowControl, responsePending, lindiagPoll,
sentMessageReceived, sentMessageSent, canFrameError, busoffRecovery, linWakeDetect, busEcfgWrite, busEpinWrite. -/
def Obligations.EnginesReceiveAndApply : Prop :=
  (∀ (e : Fin 120) (t : Tx) (s : State), s.dev.headTx e = some t → s.dev.flag 0x10000 14 = false →
    (∀ f : CanRx, s.dev.canHears e = true →
      (s.dev.expects t f.frame = true → s.dev.teOp t.entry ≤ 2 → GivesDdr (.canFrameReceived e f.frame f.syncs) s fun u =>
        (∃ v, u.headTx e = some v ∧ v.got = f.frame.bytes ∧
          v.frames = (if s.dev.teOp t.entry = 1 then t.frames + 1 else 1) ∧
          (s.dev.teOp t.entry = 2 ∨ s.dev.te t.entry 12 0 16 ≤ t.frames + 1 →
            v.phase = .decided ∧ v.outcome = if s.dev.te t.entry 8 0 16 < f.frame.bytes.length then 9 else 0)) ∧
        u.fget (aENG e 0x28) 16 16 = (s.dev.fget (aENG e 0x28) 16 16 + 1) % 2 ^ 16 ∧ s.dev.onlyEngine e u) ∧
      (s.dev.expects t f.frame = false → GivesDdr (.canFrameReceived e f.frame f.syncs) s fun u =>
        (t.phase ≠ .pausing ∨ t.due.isSome = true → (u.eng e).txs = (s.dev.eng e).txs) ∧
        u.fget (aENG e 0x28) 16 16 = (s.dev.fget (aENG e 0x28) 16 16 + 1) % 2 ^ 16 ∧ s.dev.onlyEngine e u) ∧
      (∀ b r, s.dev.expects t f.frame = true → t.phase = .flow → s.dev.teOp t.entry = 3 → s.dev.isoBody t.entry f.frame = b :: r → b.toNat / 16 = 3 →
        GivesDdr (.isotpFlowControl e f) s fun u =>
          (b.toNat % 16 = 1 → t.waits < s.dev.te t.entry 9 24 8 → ∃ v, u.headTx e = some v ∧ v.phase = .flow ∧ v.waits = t.waits + 1 ∧ v.timer = s.dev.edge) ∧
          (b.toNat % 16 = 2 → ∃ v, u.headTx e = some v ∧ v.phase = .decided ∧ v.outcome = 8) ∧
          (∀ p, b.toNat % 16 = 0 → (s.dev.isoCfs t.entry t.req 1 t.sent t.sn).head? = some p →
            ∃ v, u.headTx e = some v ∧ (v.phase = .pausing ∨ v.phase = .sending) ∧ v.frame.bytes.take p.length = p ∧
              v.frame.ident = BitVec.ofNat 29 (s.dev.te t.entry 1 0 29) ∧ v.sn = t.sn + 1 ∧ v.waits = 0 ∧
              v.stmin = stTs ((r[1]?).getD 0).toNat) ∧
          s.dev.onlyEngine e u) ∧
      (s.dev.expects t f.frame = true → s.dev.teOp t.entry = 3 → t.phase = .listening → s.dev.te t.entry 10 16 16 ≠ 0 →
        (s.dev.isoBody t.entry f.frame).take 2 = [0x03, 0x7F] → (s.dev.isoBody t.entry f.frame)[2]? = t.req.head? →
        (s.dev.isoBody t.entry f.frame)[3]? = some 0x78 →
        GivesDdr (.responsePending e f) s fun u =>
          (∃ v, u.headTx e = some v ∧ v.phase = .listening ∧ v.got = [] ∧ v.deadline = s.dev.edge + msTs * s.dev.te t.entry 10 16 16) ∧
          s.dev.onlyEngine e u)) ∧
    (∀ x : LinData, t.begun.isSome = true → s.dev.teOp t.entry = 5 → t.phase = .listening ∨ t.phase = .taking → t.timer + t.limit ≤ s.dev.edge →
      s.dev.capo ≠ 1 → GivesDev (.lindiagPoll e x) s fun u =>
        (∃ v, u.headTx e = some v ∧ v.phase = .sending ∧ v.next = .poll ∧ v.timer = s.dev.edge ∧ v.lin = x) ∧
        (∃ r, (u.eng e).wave = some ⟨s.dev.nowU, s.dev.linHead e 61 ++ r⟩) ∧ s.dev.onlyEngine e u) ∧
    (∀ x : SentMsg, s.dev.sentHears e = true → s.dev.calOk e x.cal.len = true → s.dev.pulsesOk e x = true →
      s.dev.crcRight e (nibbles x) = true → t.begun.isSome = true → t.phase = .listening → s.dev.teOp t.entry = 6 →
      GivesDdr (.sentMessageReceived e x) s fun u =>
        (∃ v, u.headTx e = some v ∧ v.frames = t.frames + 1 ∧ v.got = (nibbles x).dropLast.map (BitVec.ofNat 8) ∧
          (s.dev.te t.entry 12 0 16 ≤ t.frames + 1 →
            v.phase = .decided ∧ v.outcome = if s.dev.te t.entry 8 0 16 < (nibbles x).length - 1 then 9 else 0) ∧
          (t.frames + 1 < s.dev.te t.entry 12 0 16 → v.phase = .listening)) ∧
        u.fget (aENG e 0x28) 16 16 = (s.dev.fget (aENG e 0x28) 16 16 + 1) % 2 ^ 16 ∧ s.dev.onlyEngine e u) ∧
    (∀ w : Wave, s.dev.sentSends e = true → (s.dev.eng e).wave = some w → w.stop ≤ s.dev.nowU → t.phase = .setting →
      GivesDdr (.sentMessageSent e) s fun u =>
        (t.first = none → ∃ v, u.headTx e = some v ∧ v.first = some (w.stop / tsU) ∧ v.phase = .setting) ∧
        (t.first.isSome = true → s.dev.te t.entry 12 0 16 ≤ t.sent + 1 → ∃ v, u.headTx e = some v ∧ v.phase = .decided ∧ v.outcome = 0) ∧
        (t.first.isSome = true → t.sent + 1 < s.dev.te t.entry 12 0 16 → ∃ v, u.headTx e = some v ∧ v.phase = .setting ∧ v.sent = t.sent + 1) ∧
        (∃ w', (u.eng e).wave = some w' ∧ w'.start = w.stop) ∧
        u.fget (aENG e 0x28) 0 16 = (s.dev.fget (aENG e 0x28) 0 16 + 1) % 2 ^ 16 ∧ s.dev.onlyEngine e u)) ∧
  (∀ (e : Fin 120) (s : State), s.dev.flag 0x10000 14 = false →
    (∀ (k : CanError) (sending : Bool), s.dev.canHears e = true → s.dev.engRole e = 0 → k = .stuffOrForm ∨ k = .crc ∨ k = .ack ∨ k = .bit →
      (s.dev.eng e).tec < 128 → (s.dev.eng e).rec_ < 128 → GivesDdr (.canFrameError e k sending) s fun u =>
        (u.eng e).tec = (s.dev.eng e).tec + (if sending then 8 else 0) ∧ (u.eng e).rec_ = (s.dev.eng e).rec_ + (if sending then 0 else 1) ∧
        (u.eng e).busOff = false ∧ u.flag (aENG e 0x24) 0 = true ∧
        (u.eng e).wave = some ⟨s.dev.nowU, errorSegs (s.dev.canTiming e).nom true⟩ ∧
        (∀ t, s.dev.headTx e = some t → t.phase = .sending → sending = true →
          (let r := s.dev.fget (aENG e 0x18) 0 4
           (t.fails < r → ∃ v, u.headTx e = some v ∧ v.phase = .pausing ∧ v.due = some (u.eng e).idleAt ∧ v.fails = t.fails + 1) ∧
           (r ≤ t.fails → ∃ v, u.headTx e = some v ∧ v.phase = .decided ∧ v.outcome = if r = 0 then (if k = .bit then 5 else 4) else 6))) ∧
        s.dev.onlyEngine e u) ∧
    (s.dev.canHears e = true → s.dev.engRole e = 0 → 247 < (s.dev.eng e).tec → GivesDdr (.canFrameError e .bit true) s fun u =>
        (u.eng e).busOff = true ∧ u.flag (aENG e 0x24) 1 = true ∧ s.dev.onlyEngine e u) ∧
    (∀ t, s.dev.canHears e = true → s.dev.headTx e = some t → t.phase = .sending →
      (∀ b, t.fails < s.dev.fget (aENG e 0x18) 0 4 → GivesDdr (.canFrameError e .arbitration b) s fun u =>
        (∃ v, u.headTx e = some v ∧ v.phase = .pausing ∧ v.due = none) ∧ (u.eng e).wave = none ∧ s.dev.onlyEngine e u) ∧
      (∀ b v, s.dev.measures e t.frame = true → delayBad (BitVec.toNat v) = false → GivesDdr (.canFrameError e (.loopDelay v) b) s fun u =>
        u.rd (aENG e 0x2C) = BitVec.ofNat 32 v.toNat ∧ u.plant = s.dev.plant ∧ ∀ a, a ≠ aENG e 0x2C → u.rd a = s.dev.rd a)) ∧
    ((s.dev.eng e).busOff = true → s.dev.flag (aENG e 0x18) 4 = true → engKind e = 0 →
      (s.dev.eng e).offAt * tsU + 1408 * (s.dev.canTiming e).nom ≤ s.dev.nowU → GivesDev (.busoffRecovery e) s fun u =>
        u.eng e = { s.dev.eng e with busOff := false, tec := 0, rec_ := 0 } ∧ (∀ a, u.rd a = s.dev.rd a) ∧ s.dev.onlyEngine e u) ∧
    (s.dev.linHears e = true → (∀ t, s.dev.headTx e = some t → t.begun = none ∨ t.phase ≠ .sending) → GivesDev (.linWakeDetect e) s fun u =>
        u.flag (aENG e 0x24) 2 = true ∧ u.plant = s.dev.plant ∧ Device.keepsRegs (fun a => a = aENG e 0x24) s.dev u)) ∧
  (∀ (e : Fin 120) (w : Wr) (s : State),
    (s.dev.admits w (aENG e 0) = true → (s.dev.engOn e = true → s.dev.reachesRws (aENG e 0) w.data = false) →
      GivesDdr (.busEcfgWrite e w) s fun u =>
        u.rd (aENG e 0) = storeWord (aENG e 0) (s.dev.cook (aENG e 0) w.data).1 ∧ (u.eng e).halted = false ∧
        (u.eng e).busOff = ((s.dev.eng e).busOff && s.dev.flag (aENG e 0x18) 4) ∧
        (u.engOn e = true → (u.eng e).txs = (s.dev.eng e).txs) ∧ s.dev.onlyEngine e { u with chan := s.dev.chan } ∧
        (let n := s.dev.fget (aENG e 4) 0 10
         (u.engOn e = s.dev.engOn e → u.chan = s.dev.chan) ∧ (∀ m, m ≠ n → u.ch m = s.dev.ch m) ∧
         u.ch n = { s.dev.ch n with holdUntil := (u.ch n).holdUntil, pinOld := (u.ch n).pinOld, pinWait := (u.ch n).pinWait }) ∧
        (u.engOn e = true ∨ (s.dev.eng e).wave = none → Device.keepsRegs (fun a => a = aENG e 0 ∨ a = aENG e 0x24) s.dev u)) ∧
    (s.dev.admits w (aENG e 0) = true → s.dev.engOn e = true → s.dev.reachesRws (aENG e 0) w.data = true →
      GivesDdr (.busEcfgWrite e w) s fun u =>
        u.plant = s.dev.plant ∧ u.flag (aENG e 0x24) 7 = true ∧ Device.keepsRegs (fun a => a = aENG e 0x24) s.dev u) ∧
    (s.dev.admits w (aENG e 4) = true → (s.dev.engOn e = true → s.dev.reachesRws (aENG e 4) w.data = false) →
      s.dev.pinOwner (bitsOf w.data 0 10) ≠ 1 → GivesDev (.busEpinWrite e w) s fun u =>
        u.rd (aENG e 4) = storeWord (aENG e 4) (s.dev.cook (aENG e 4) w.data).1 ∧ u.engines = s.dev.engines ∧ u.execs = s.dev.execs ∧
        Device.keepsRegs (fun a => a = aENG e 4 ∨ a = aENG e 0x24) s.dev u) ∧
    (s.dev.admits w (aENG e 4) = true → (s.dev.engOn e = true → s.dev.reachesRws (aENG e 4) w.data = false) →
      s.dev.pinOwner (bitsOf w.data 0 10) = 1 → GivesDev (.busEpinWrite e w) s fun u =>
        u.plant = s.dev.plant ∧ u.flag 0x184300 1 = true ∧ Device.keepsRegs (fun a => a = 0x184300) s.dev u))

/-- Timers of a transaction and its end (R220, R233 to R236, R238): N_Bs and N_Cr give TPERR, TMO and TMOX give TIMEOUT; a decided transaction whose
outcome has a response stores it in the bus data area and leaves the engine, and its slot has its record; a keepalive falls due PERIOD ms after the
last one, and on an engine with nothing else to do it is served at once. Forms that complete, each with its own effect: isotpTimerExpiry,
transactionTimeout, busSlotComplete, keepaliveDue. -/
def Obligations.TransactionsEnd : Prop :=
  ∀ (e : Fin 120) (t : Tx) (s : State),
    (s.dev.flag 0x10000 14 = false → s.dev.headTx e = some t →
      (s.dev.teOp t.entry = 3 → t.phase = .flow ∨ t.phase = .taking → t.timer + t.limit ≤ s.dev.edge →
        GivesDev (.isotpTimerExpiry e) s fun u =>
          (∃ v, u.headTx e = some v ∧ v.phase = .decided ∧ v.outcome = 8 ∧ v.decidedAt = s.dev.edge) ∧ s.dev.onlyEngine e u) ∧
      (t.begun.isSome = true → awaits t = true → t.next ≠ .lin ∨ s.dev.engRole e ≠ 0 → t.deadline ≤ s.dev.edge →
        GivesDdr (.transactionTimeout e) s fun u =>
          (∃ v, u.headTx e = some v ∧ v.phase = .decided ∧ v.outcome = 1 ∧ v.decidedAt = s.dev.edge) ∧ (u.eng e).wave = none ∧ s.dev.onlyEngine e u)) ∧
    (s.dev.headTx e = some t → t.phase = .decided → GivesMem (.busSlotComplete e) s fun m u =>
      (let a := s.dev.areaAt (s.dev.te t.entry 7 0 24)
       let bs := if t.outcome = 0 ∨ t.outcome = 2 ∨ t.outcome = 9 then t.got.take (s.dev.te t.entry 8 0 16) else []
       (∀ k b, bs[k]? = some b → m.ddrRead (a + k) 1 = [b]) ∧ (∀ b, b < a ∨ a + bs.length ≤ b → m.ddrRead b 1 = s.mem.ddrRead b 1)) ∧
      m.flash = s.mem.flash ∧ m.host = s.mem.host ∧
      (∀ i x k, t.exec = some i → s.dev.execOf i = some x → x.slots[t.slot]? = some k → k.rec_ = none →
        ∀ y ∈ u.execs, y.id = i → ∃ k, y.slots[t.slot]? = some k ∧ k.rec_.isSome = true) ∧
      (t.exec = none → (s.dev.eng e).keepDue = false → (u.eng e).txs = (s.dev.eng e).txs.tail ∧ s.dev.onlyEngine e u)) ∧
    (s.dev.flag 0x10000 14 = false → (s.dev.eng e).txs = [] → s.dev.flag (aENG e 0x1C) 31 = true → (s.dev.eng e).faulted = false → s.dev.capo ≠ 1 →
      (s.dev.eng e).keepFrom + msTs * s.dev.fget (aENG e 0x1C) 16 13 ≤ s.dev.edge →
      s.dev.opFits e (s.dev.teOp (s.dev.fget (aENG e 0x1C) 0 12)) = true → GivesDev (.keepaliveDue e) s fun u =>
        (u.eng e).txs = [Tx.init none 0 (s.dev.fget (aENG e 0x1C) 0 12) s.dev.edge] ∧ (u.eng e).keepFrom = s.dev.edge ∧
        (∀ a, u.rd a = s.dev.rd a) ∧ s.dev.onlyEngine e u)

/-! Pins (R250 to R268). -/

/-- Pin registers (R251, R258, R262): outside HOLD a write of PIN_SRC that enables no source of an ANALOGUE pin, and one of PIN_FAB or PIN_AXO, is
stored as applied; of the channels only the pin's own function switch can change: when the enabled sources of a DIGITAL pin change, its former sources
stay in force and the hold network takes it for one sample period, or, while a bridge runs or a request waits, the switch waits too; under HOLD, or
where PIN_SRC would enable a source of an ANALOGUE pin, the write is refused. The GPIO banks (R259, R260, R262): outside HOLD the bits written join
those that wait for the next sample edge, in their own bank, and no register changes; under HOLD the write is refused. Forms that complete, each with
its own effect: pinSrcWrite, pinFabWrite, pinAxoWrite, pinSetWrite, pinClrWrite, pinTglWrite. -/
def Obligations.PinsApply : Prop :=
  (∀ (n : Fin 1024) (w : Wr) (s : State),
    (∀ o c, (o, c) ∈ [(0, Instr.pinSrcWrite n w), (4, .pinFabWrite n w), (8, .pinAxoWrite n w)] →
      s.dev.admits w (aPIN n o) = true →
      (s.dev.capo ≠ 1 → (o = 0 → s.dev.pinOwner n ≠ 1 ∨ bitsOf w.data 0 3 = 0) → GivesDev c s fun t =>
        t.rd (aPIN n o) = storeWord (aPIN n o) (s.dev.cook (aPIN n o) w.data).1 ∧
        (∀ m, m ≠ n.val → t.ch m = s.dev.ch m) ∧ t.ch n = { s.dev.ch n with holdUntil := (t.ch n).holdUntil, pinOld := (t.ch n).pinOld, pinWait := (t.ch n).pinWait } ∧
        (o = 0 → bitsOf w.data 0 3 ≠ s.dev.fget (aPIN n 0) 0 3 → s.dev.pinOwner n = 2 →
          (t.ch n).pinOld = some ((s.dev.ch n).pinOld.getD (s.dev.pinSet n)) ∧
          (s.dev.bridging n (s.dev.edge + 1) = false → s.dev.queued n = false → (t.ch n).holdUntil = s.dev.edge + 2) ∧
          (s.dev.bridging n (s.dev.edge + 1) = true ∨ s.dev.queued n = true → (t.ch n).pinWait = true)) ∧
        { t.plant with chan := s.dev.chan } = s.dev.plant ∧ Device.keepsRegs (fun a => a = aPIN n o ∨ a = 0x184300) s.dev t) ∧
      (s.dev.capo = 1 → GivesDev c s fun t =>
        t.plant = s.dev.plant ∧ t.flag 0x184300 1 = true ∧ Device.keepsRegs (fun a => a = 0x184300) s.dev t)) ∧
    (s.dev.admits w (aPIN n 0) = true → s.dev.pinOwner n = 1 → s.dev.fget (aPIN n 0) 0 3 = 0 → bitsOf w.data 0 3 ≠ 0 →
      GivesDev (.pinSrcWrite n w) s fun t =>
        t.plant = s.dev.plant ∧ t.flag 0x184300 1 = true ∧ Device.keepsRegs (fun a => a = 0x184300) s.dev t)) ∧
  (∀ (b : Fin 32) (w : Wr) (s : State),
    ∀ k c, (k, c) ∈ [(0, Instr.pinSetWrite b w), (1, .pinClrWrite b w), (2, .pinTglWrite b w)] →
    s.dev.admits w (aBANK (0x4000 + 0x80 * k) b) = true →
    (s.dev.capo ≠ 1 → GivesDev c s fun t =>
      t.gpioWait b = { set := (s.dev.gpioWait b).set ||| (if k = 0 then w.data.toNat else 0),
                       clr := (s.dev.gpioWait b).clr ||| (if k = 1 then w.data.toNat else 0),
                       tgl := (s.dev.gpioWait b).tgl ^^^ (if k = 2 then w.data.toNat else 0) } ∧
      (∀ m, m ≠ b.val → t.gpioWait m = s.dev.gpioWait m) ∧ { t.plant with gpio := s.dev.gpio } = s.dev.plant ∧ ∀ a, t.rd a = s.dev.rd a) ∧
    (s.dev.capo = 1 → GivesDev c s fun t => t.plant = s.dev.plant ∧ t.flag 0x184300 1 = true ∧ Device.keepsRegs (fun a => a = 0x184300) s.dev t))

/-! Frets, the loader, the scrubber (R270 to R301). -/

/-- A request with GO (R281, R282): one that can be accepted cancels the Fret's retry; it is taken at once when the loader is idle outside HOLD, else
it replaces a waiting request of the same Fret at the queue's end; any other is refused and changes no request. The scrubber (R290, R291, R292, R296),
while its clock runs and 20 Ts after its last frame: it goes on by one frame of 12,288; an upset of a live Fret is counted as essential or not by the
image's essential map, and an essential one sets its event; the end of a pass counts it and says whether it was good. Forms that complete, each with
its own effect: fretLoad, fretUnload, fretReset, scrubFrame. -/
def Obligations.FretRequestsAndScrubber : Prop :=
  (∀ (w : Wr) (s : State),
    ∀ raw c, (raw, c) ∈ [(setBits w.data 16 2 0, Instr.fretLoad w), (setBits w.data 16 2 1, .fretUnload w), (setBits w.data 17 1 1, .fretReset w)] →
    s.dev.admits w 0xE0008 = true → bitOf w.data 31 = true →
    (let v := (s.dev.cook 0xE0008 raw).1
     let r : FretReq := ⟨bitsOf v 0 6, bitsOf v 8 8, bitsOf v 16 2, false, false⟩
     (s.dev.reqOk r = true → GivesDev c s fun t =>
       (s.dev.loader.cur = none → s.dev.loader.queue = [] → s.dev.capo ≠ 1 →
         t.loader = { s.dev.loader with cur := some r, isolated := false, since := s.dev.edge }) ∧
       (s.dev.loader.cur.isSome = true ∨ s.dev.capo = 1 →
         t.loader = { s.dev.loader with queue := (s.dev.loader.queue.filter fun x => x.fret != r.fret) ++ [r] }) ∧
       (t.fret r.fret).retry = none ∧ (∀ g, g ≠ r.fret → t.fret g = s.dev.fret g) ∧
       { t.plant with loader := s.dev.loader, frets := s.dev.frets } = s.dev.plant) ∧
     (s.dev.reqOk r = false → GivesDev c s fun t =>
       t.plant = s.dev.plant ∧ t.flag 0xE0004 1 = true ∧ Device.keepsRegs (fun a => a = 0xE0004) s.dev t))) ∧
  (∀ s : State, s.dev.fabricOn = true → s.dev.scrub.last + 20 ≤ s.dev.edge →
    (let f := s.dev.scrub.next / 256
     (s.dev.scrub.next + 1 < 12288 → GivesDev (.scrubFrame .clean) s fun t =>
       t = { s.dev with scrub := { next := s.dev.scrub.next + 1, last := s.dev.edge, good := s.dev.scrub.good } }) ∧
     (s.dev.scrub.next + 1 = 12288 → GivesDev (.scrubFrame .clean) s fun t =>
       t.scrub = { next := 0, last := s.dev.edge, good := true } ∧ t.fget 0xE000C 0 16 = (s.dev.fget 0xE000C 0 16 + 1) % 2 ^ 16 ∧ t.flag 0xE000C 16 = s.dev.scrub.good ∧
       { t.plant with scrub := s.dev.scrub } = s.dev.plant ∧ ∀ a, a ≠ 0xE000C → t.rd a = s.dev.rd a) ∧
     (∀ x, x = .multi ∨ (∃ b, x = FrameCheck.single b) → s.dev.scrub.next + 1 < 12288 → s.dev.fretLive f = true → GivesDev (.scrubFrame x) s fun t =>
       (let ess := s.dev.essential f (s.dev.scrub.next % 256) x
        t.fget (aFRET f 0xC) (if ess then 16 else 0) 16 = (s.dev.fget (aFRET f 0xC) (if ess then 16 else 0) 16 + 1) % 2 ^ 16 ∧
        (ess = true → t.flag (aFRET f 8) 0 = true) ∧ (ess = false → t.frets = s.dev.frets ∧ ∀ a, a ≠ aFRET f 0xC → t.rd a = s.dev.rd a)) ∧
       t.scrub.next = s.dev.scrub.next + 1)))

/-- A load (R280, R283, R286, R288, R289): a good image reaches the cache; one that cannot be read or used leaves LASTERR and schedules a repeat. Once
the Fret is isolated and its frames are written, 40 Ts each, a good load holds them and releases the Fret, a bad record or a window CRC that differs
leaves it EMPTY with LASTERR, an UNLOAD leaves it EMPTY, a frame that cannot be written faults it; a RESET releases it again. RELDLY fabric clocks
after the release it is RUNNING; when the wait is over the repeat is requested again. Forms that complete, each with its own effect:
regionImageCached, regionLoadComplete, fretBorderConnect, regionRetry. -/
def Obligations.FretLoadsRun : Prop :=
  ∀ (r : FretReq) (s : State), r.fret < 48 → r.region < 256 →
    (s.dev.loader.cur = some r →
      (let failed := fun (code : Nat) (t : Device) =>
         let n := min 65535 (s.dev.fget (aFRET r.fret 4) 0 16 + 1)
         t.fget (aFRET r.fret 4) 28 4 = code ∧ t.fget (aFRET r.fret 4) 0 16 = n ∧
         (t.fret r.fret).retry = some ({ r with again := true }, s.dev.edge + 20480 * retryWait n)
       (r.op = 0 → s.dev.loader.isolated = false →
        (s.dev.cached (reqKey r) = false →
          (∀ segs img, s.dev.regionRead s.mem r segs = .ok img → GivesDev (.regionImageCached (.read segs)) s fun t =>
            t.cachedImg (reqKey r) = some img ∧ t.frets = s.dev.frets ∧ t.loader.cur = some r) ∧
          (∀ segs code, s.dev.regionRead s.mem r segs = .error code → GivesDev (.regionImageCached (.read segs)) s (failed code)) ∧
          GivesDev (.regionImageCached .flashError) s (failed 1)) ∧
        (s.dev.cached (reqKey r) = true → GivesDev (.regionLoadComplete .cacheCrc) s fun t => failed 4 t ∧ t.cached (reqKey r) = false)) ∧
       (s.dev.loader.isolated = true → s.dev.fretState r.fret = 1 → s.dev.fabricOn = true →
        (let others := fun (t : Device) => ∀ g, g ≠ r.fret → t.fret g = s.dev.fret g
         (r.op = 2 → s.dev.loader.since + 64 ≤ s.dev.edge → GivesDev (.regionLoadComplete .ok) s fun t =>
           t.fretState r.fret = 2 ∧ (t.fret r.fret).content = (s.dev.fret r.fret).content ∧ t.frames = s.dev.frames ∧ others t) ∧
         (s.dev.rejects r = none → 256 ≤ s.dev.framesDone → r.op < 2 → GivesDev (.regionLoadComplete .ok) s fun t =>
           (let d := s.dev.writeFrames r 256
            t.frames = d.frames ∧ others t ∧
            (r.op = 1 → t.fretState r.fret = 0 ∧ (t.fret r.fret).content = 0) ∧
            (r.op = 0 → some (d.framesCrc (256 * r.fret) 256) = (s.dev.cachedImg (reqKey r)).map RegionImg.wcrc →
              t.fretState r.fret = 2 ∧ (t.fret r.fret).content = reqKey r ∧ t.fget (aFRET r.fret 0) 8 8 = r.region) ∧
            (r.op = 0 → some (d.framesCrc (256 * r.fret) 256) ≠ (s.dev.cachedImg (reqKey r)).map RegionImg.wcrc →
              t.fretState r.fret = 0 ∧ failed 7 t))) ∧
         (∀ k code, s.dev.rejects r = some (k, code) → k ≤ s.dev.framesDone → s.dev.loader.since + 32 ≤ s.dev.edge →
           GivesDev (.regionLoadComplete .ok) s fun t => t.fretState r.fret = 0 ∧ t.frames = (s.dev.writeFrames r k).frames ∧ failed code t ∧ others t) ∧
         (s.dev.rejects r = none → 0 < s.dev.framesDone → r.op < 2 → GivesDev (.regionLoadComplete .frameWriteFailed) s fun t =>
           t.fretState r.fret = 4 ∧ t.flag 0xE0004 7 = true ∧ others t))))) ∧
    (∀ f : Fin 48, s.dev.fabricOn = true → s.dev.fretState f = 2 →
      20480 * s.dev.fget (aFRET f 0x10) 16 10 ≤ (s.dev.edge - (s.dev.fret f).released) * s.dev.fabricKhz →
      GivesDev (.fretBorderConnect f) s fun t => t.fretState f = 3 ∧ (∀ sig, t.border f sig = tabGet (fun _ => false) (s.dev.fret f).live sig) ∧
        ∀ g, g ≠ f.val → t.fret g = s.dev.fret g) ∧
    (∀ (f : Fin 48) (e : Nat), (s.dev.fret f).retry = some (r, e) → e ≤ s.dev.edge → s.dev.capo ≠ 1 → s.dev.fretState f ≠ 4 →
      GivesDev (.regionRetry f) s fun t => (t.fret f).retry = none ∧ (t.loader.cur = some r ∨ r ∈ t.loader.queue) ∧ ∀ g, g ≠ f.val → t.fret g = s.dev.fret g)

/-- The ports of a Fret (R259, R273, R275, R276, R285, R297), while the fabric clock runs: a granted write to a GPIO bank by a Fret that receives its
inputs waits for the next sample edge; an isolated Fret writes nothing; its window answers what the design gives, or zero with its event; a border
output follows the design. Forms that complete, each with its own effect: shellWrite, fretWindowAccess, fretWindowTimeout, borderOutputChange. -/
def Obligations.FretPortsAct : Prop :=
  ∀ (f : Fin 48) (s : State),
    (∀ (b : Fin 32) (data : Word), s.dev.fretLive f = true → s.dev.fabricOn = true → s.dev.admits ⟨.shell f, 15, data⟩ (aBANK 0x4000 b) = true → s.dev.capo ≠ 1 →
      GivesDdr (.shellWrite f (BitVec.ofNat 24 (aBANK 0x4000 b)) 15 data) s fun t =>
        (t.gpioWait b).set = (s.dev.gpioWait b).set ||| data.toNat ∧ (∀ m, m ≠ b.val → t.gpioWait m = s.dev.gpioWait m) ∧
        { t.plant with gpio := s.dev.gpio } = s.dev.plant ∧ ∀ a, t.rd a = s.dev.rd a) ∧
    (∀ (addr : BitVec 24) (be : BitVec 4) (data : Word), s.dev.fretLive f = false → GivesDdr (.shellWrite f addr be data) s fun t =>
      t.plant = s.dev.plant ∧ ∀ a, t.rd a = s.dev.rd a) ∧
    (∀ (addr : BitVec 24) (data : Word), s.dev.fretLive f = true → s.dev.fabricOn = true → s.dev.dead addr.toNat = false → s.dev.shellGrants f addr.toNat data = false →
      GivesDdr (.shellWrite f addr 15 data) s fun t =>
        t.plant = s.dev.plant ∧ t.flag 0xE0004 5 = true ∧ Device.keepsRegs (fun a => a = 0xE0004) s.dev t) ∧
    (∀ o v, GivesDev (.fretWindowAccess f (.read o v)) s fun t =>
      (s.dev.windowOpen f = true → t.answer = leBytes 4 v.toNat ∧ ∀ a, t.rd a = s.dev.rd a) ∧
      (s.dev.windowOpen f = false → t.answer = leBytes 4 0 ∧ t.flag 0xE0004 6 = true) ∧ { t.plant with answer := s.dev.answer } = s.dev.plant) ∧
    (s.dev.windowOpen f = true → GivesDev (.fretWindowTimeout f) s fun t =>
      t.answer = leBytes 4 0 ∧ t.flag 0xE0004 6 = true ∧ { t.plant with answer := s.dev.answer } = s.dev.plant) ∧
    (∀ (sig : Fin 256) (level : Bool), s.dev.fretLive f = true → s.dev.fabricOn = true → GivesDev (.borderOutputChange f sig level) s fun t =>
      tabGet (fun _ => false) (t.fret f).live sig = level ∧ (∀ g, g ≠ sig.val → tabGet (fun _ => false) (t.fret f).live g = tabGet (fun _ => false) (s.dev.fret f).live g) ∧
      (∀ g, g ≠ f.val → t.fret g = s.dev.fret g) ∧ ∀ a, t.rd a = s.dev.rd a)

/-! Calibration (R302 to R333). -/

/-- CAL_CMD with GO (R318, R331): a request of FULL, RANGE, QUICK, TAPS or RMU joins those that wait, up to 64, and PENDING counts it; with 64 waiting
it is refused. Runs of the Tuning engine (R305, R313, R315, R318, R319): a range that falls due under AUTO joins the requests; the engine takes the
first request that can be taken while it is enabled, Capo is NONE and the reference is good, and takes none with a bad reference, which it reports.
Meter ranges that ended DISTURBED wait among the requests once their second is over; ABORT and EN zero end the run; a disturbed range may be scheduled
again when its second has passed. Forms that complete, each with its own effect: calCmdFull, calCmdRange, calCmdQuick, calCmdTaps, calCmdRmu,
autoCalDue, calibrationStart, calCmdAbort, calCtlWrite, disturbedReschedule. -/
def Obligations.CalibrationRuns : Prop :=
  (∀ (w : Wr) (s : State),
    ∀ op c, (op, c) ∈ [(0, Instr.calCmdFull w), (1, .calCmdRange w), (2, .calCmdQuick w), (3, .calCmdTaps w), (4, .calCmdRmu w)] →
    s.dev.admits w 0x60014 = true → bitOf w.data 31 = true →
    (let v := (s.dev.cook 0x60014 (setBits w.data 16 3 op)).1
     let n := bitsOf v 0 10
     let k := if bitOf v 10 ∨ s.dev.flag (aCH n 0x38) 14 then 32 else n % 32
     let q : CalReq := ⟨op, if op ≤ 2 then 33 * (n / 32) + k else if op = 3 then n else n % 4, if op = 1 ∨ op = 2 then bitsOf v 12 3 else 0⟩
     (s.dev.cal.reqs.length < 64 → GivesDev c s fun t =>
       t.cal = { s.dev.cal with reqs := s.dev.cal.reqs ++ [q] } ∧ t.fget 0x60004 8 7 = s.dev.cal.reqs.length + 1 ∧
       { t.plant with cal := s.dev.cal } = s.dev.plant ∧ Device.keepsRegs (fun a => a = 0x60004 ∨ a = 0x60008) s.dev t) ∧
     (64 ≤ s.dev.cal.reqs.length → GivesDev c s fun t =>
       t.plant = s.dev.plant ∧ t.flag 0x60008 1 = true ∧ Device.keepsRegs (fun a => a = 0x60008) s.dev t))) ∧
  ((∀ (i : Fin 1056) (r : Fin 8) (s : State), s.dev.flag 0x60000 1 = true → s.dev.calDue i r = true → s.dev.cal.auto.contains ⟨1, i, r⟩ = false → s.dev.cal.run = none →
    GivesDev (.autoCalDue i r) s fun t =>
      (∀ q, q ∈ t.cal.auto ↔ q = ⟨1, i, r⟩ ∨ q ∈ s.dev.cal.auto) ∧ t = { s.dev with cal := { s.dev.cal with auto := t.cal.auto } }) ∧
  (∀ (q : CalReq) (v : CalVia) (s : State), s.dev.flag 0x60000 0 = true → s.dev.capo = 0 → s.dev.cal.run = none →
    (let d := s.dev.ripenRmu
     d.pickCal (d.cal.boot ++ d.cal.reqs ++ (if d.flag 0x60000 1 then d.cal.auto else []) ++ d.cal.again) = some (q, v)) → ∀ vref : Int,
    (refGood vref = true → GivesDev (.calibrationStart vref) s fun t => (∃ r, t.cal.run = some r ∧ r.req = q ∧ r.via = v) ∧ t.flag 0x60004 4 = true ∧ t.chan = s.dev.chan ∧ t.execs = s.dev.execs) ∧
    (refGood vref = false → GivesDev (.calibrationStart vref) s fun t =>
      t.plant = s.dev.ripenRmu.plant ∧ t.flag 0x60004 5 = true ∧ t.flag 0x60008 8 = true ∧ Device.keepsRegs (fun a => a = 0x60004 ∨ a = 0x60008) s.dev t)) ∧
  (∀ (w : Wr) (r : CalRun) (s : State), s.dev.cal.run = some r →
    (s.dev.admits w 0x60014 = true → bitOf w.data 31 = true → GivesDev (.calCmdAbort w) s fun t =>
      t.cal = { s.dev.cal with run := none } ∧ t.calP = 0 ∧ t.flag 0x60004 4 = false ∧ t.flag 0x60008 5 = true ∧ t.execs = s.dev.execs) ∧
    (s.dev.admits w 0x60000 = true → bitOf w.data 0 = false → GivesDev (.calCtlWrite w) s fun t =>
      t.flag 0x60000 0 = false ∧ t.cal = { s.dev.cal with run := none, again := restOf r ++ s.dev.cal.again } ∧ t.flag 0x60004 4 = false ∧ t.execs = s.dev.execs) ∧
    (s.dev.admits w 0x60000 = true → bitOf w.data 0 = true → GivesDev (.calCtlWrite w) s fun t =>
      t.flag 0x60000 0 = true ∧ t.plant = s.dev.plant ∧ Device.keepsRegs (fun a => a = 0x60000 ∨ a = 0x60008) s.dev t)) ∧
  (∀ (i : Fin 1056) (r : Fin 8) (p : CalReq × Nat) (s : State),
    (s.dev.cal.dist.find? fun p => p.1.target == i.val && p.1.range == r.val && decide (p.1.op ≤ 2) && decide (p.2 ≤ s.dev.edge)) = some p →
    GivesDev (.disturbedReschedule i r) s fun t => t = { s.dev with cal := { s.dev.cal with dist := s.dev.cal.dist.erase p, again := s.dev.cal.again ++ [p.1] } }))

/-- Results of the Tuning engine (R310 to R313, R316, R321, R322): no range, tap or meter range ends before its phases are over, and a range that
would outlast its idle gap ends the run. A range whose fit commits is no longer UNCAL; one that fails by 50 ppm or less is UNCAL; a disturbed one is
marked and waits. A tap's resistance goes into the table once a pair agrees within 0.1 ohm. A meter range takes its values and quality figure; a
disturbed one waits; one whose pairs do not agree is UNCAL. The store and the values (R307, R325, R327, R332): a save whose readback matches makes the
other copy active with the next sequence number, clears DIRTY and writes header, body and marker to flash, on command or when the interval has passed;
one whose readback does not match is reported and leaves the active copy and DIRTY; a write of CAL_VU takes the nearest valid user value; CAL_EPOCH
takes what is written and counts each second that has passed from then on; the sensors read what was measured, every 20,480 Ts. How a body holds the
values is the model's choice (log entry 88). Forms that complete, each with its own effect: calRangeEnd, tapMeasureEnd, rmuCalEnd, calCmdSave,
calSaveTimer, calVuWrite, calEpochWrite, epochTick, sensorRead. -/
def Obligations.CalibrationCommitsAndStores : Prop :=
  (∀ (r : CalRun) (b : Nat) (s : State) (vref : Int), s.dev.cal.run = some r → r.start = some b →
    (∀ (i : Nat) (rest : List Nat) (m : CalMeas), r.left = i :: rest → i < 8 → r.req.op ≤ 2 → r.req.target < 1056 →
      (let ends := b + rangeTicks r.req.op (s.dev.fget 0x6000C 0 7) i m
       let x := s.dev.judge r.req.op r.req.target i m
       let commit (sense force : Fit) (q : Nat) : Option Device :=
         if r.req.op = 2 then s.dev.quickCommit r.req.target i sense force else s.dev.fullCommit r.req.target i sense force q
       (s.dev.gapShort r ends = true → GivesDev (.calRangeEnd m vref) s fun t =>
         t.cal = { s.dev.cal with run := none, again := restOf r ++ s.dev.cal.again } ∧ t.calP = 0 ∧ t.flag 0x60008 5 = true ∧ t.execs = s.dev.execs) ∧
       (s.dev.gapShort r ends = false → s.dev.edge < ends → GivesDev (.calRangeEnd m vref) s fun t => t = s.dev) ∧
       (s.dev.gapShort r ends = false → ends ≤ s.dev.edge →
         (∀ sense force q res u, x = .fitted sense force q res → commit sense force q = some u → GivesDev (.calRangeEnd m vref) s fun t =>
           t.cal.user = u.cal.user ∧ t.cal.tcal = u.cal.tcal ∧ t.cal.marks = u.cal.marks ∧ t.flag (aCAL r.req.target 0x18) i = false ∧
           t.flag 0x60008 2 = true ∧ t.execs = s.dev.execs) ∧
         (x = .disturbed → GivesDev (.calRangeEnd m vref) s fun t =>
           t.cal.user = s.dev.cal.user ∧ t.flag (aCAL r.req.target 0x18) (8 + i) = true ∧ t.flag 0x60008 4 = true ∧ t.execs = s.dev.execs ∧
           t.cal.dist = s.dev.cal.dist ++ [(⟨if r.req.op = 0 then 1 else r.req.op, r.req.target, i⟩, s.dev.edge + secTs)]) ∧
         (∀ res, res ≤ 50 → s.dev.tooMany (.slice (Fin.ofNat 1056 r.req.target)) = false →
           (x = .disagreed res ∨ ∃ sense force q, x = .fitted sense force q res ∧ commit sense force q = none) →
           GivesDev (.calRangeEnd m vref) s fun t =>
             t.cal.user = s.dev.cal.user ∧ t.flag (aCAL r.req.target 0x18) i = true ∧ t.flag 0x60008 3 = true ∧ t.execs = s.dev.execs)))) ∧
    (∀ (p : Fin 34) (rest : List Nat) (pairs : List (Nat × Nat)) (z : Int × Int), r.left = p.val :: rest → r.req.op = 3 →
      (let ps := triedBy 100 3 (pairs.map fun x => ((x.1 : Int), (x.2 : Int)))
       let k := 34 * r.req.target + p.val
       ps.getLast? = some z →
       (s.dev.edge < b + 256 * ps.length → GivesDev (.tapMeasureEnd p pairs vref) s fun t => t = s.dev) ∧
       (b + 256 * ps.length ≤ s.dev.edge → agrees 100 z = true → (roundDiv (pairSum z) 2).toNat ≤ 36000 → GivesDev (.tapMeasureEnd p pairs vref) s fun t =>
         tabGet (fun _ => 0xFFFF) t.cal.taps k = (roundDiv (pairSum z) 2).toNat ∧
         (∀ j, j ≠ k → tabGet (fun _ => 0xFFFF) t.cal.taps j = tabGet (fun _ => 0xFFFF) s.dev.cal.taps j) ∧ t.cal.user = s.dev.cal.user ∧
         t.execs = s.dev.execs) ∧
       (b + 256 * ps.length ≤ s.dev.edge → agrees 100 z = false → GivesDev (.tapMeasureEnd p pairs vref) s fun t =>
         t.cal.taps = s.dev.cal.taps ∧ t.cal.user = s.dev.cal.user ∧ t.execs = s.dev.execs))) ∧
    (∀ (i : Nat) (rest : List Nat) (x : RmuCal), r.left = i :: rest → r.req.op = 4 → r.req.target < 4 →
      (let tol := 10 * s.dev.fget 0x6000C 0 7
       let zs := triedBy tol 3 x.zeros
       let fs := triedBy tol 3 x.fulls
       let good := zs.getLast?.any (agrees tol) && fs.getLast?.any (agrees tol)
       let key := 32 * r.req.target + i
       (x.disturbed = true → GivesDev (.rmuCalEnd x vref) s fun t =>
         t.cal.rmuQ = s.dev.cal.rmuQ ∧ t.cal.rmuVals = s.dev.cal.rmuVals ∧ t.flag 0x60008 4 = true ∧
         t.cal.dist = s.dev.cal.dist ++ [(r.req, s.dev.edge + secTs)] ∧ t.execs = s.dev.execs) ∧
       (x.disturbed = false → s.dev.edge < b + 81920 * (zs.length + fs.length) → GivesDev (.rmuCalEnd x vref) s fun t => t = s.dev) ∧
       (x.disturbed = false → b + 81920 * (zs.length + fs.length) ≤ s.dev.edge → good = true → GivesDev (.rmuCalEnd x vref) s fun t =>
         tabGet (fun _ => 0xFFFF) t.cal.rmuQ key = min x.quality 0xFFFE ∧ tabGet (fun _ => (0, 0)) t.cal.rmuVals key = (x.gain, x.offset) ∧
         key ∉ t.cal.rmuUncal ∧ t.flag 0x60008 2 = true ∧ t.execs = s.dev.execs) ∧
       (x.disturbed = false → b + 81920 * (zs.length + fs.length) ≤ s.dev.edge → good = false → x.residual ≤ 50 →
         s.dev.tooMany (.rmu (Fin.ofNat 4 r.req.target)) = false → GivesDev (.rmuCalEnd x vref) s fun t =>
           t.cal.rmuQ = s.dev.cal.rmuQ ∧ key ∈ t.cal.rmuUncal ∧ t.flag 0x60008 3 = true ∧ t.execs = s.dev.execs)))) ∧
  (∀ s : State,
    (∀ (c : Instr) (w : Wr) (e : Nat),
      (c = .calCmdSave w true ∧ s.dev.admits w 0x60014 = true ∧ bitOf w.data 31 = true) ∨
        (c = .calSaveTimer true ∧ s.dev.cal.dirtySince = some e ∧ e + secTs * s.dev.fget 0x6000C 16 12 ≤ s.dev.edge) →
      GivesMem c s fun m t =>
        (let b := !s.dev.flag 0x60004 2
         t.flag 0x60004 2 = b ∧ t.rd 0x6001C = s.dev.rd 0x6001C + 1 ∧ t.flag 0x60004 3 = false ∧ t.flag 0x60008 6 = true ∧ t.cal.dirtySince = none ∧
         t.cal.user = s.dev.cal.user ∧
         m.flashRead (copyBase b) 64 = storeHead (s.dev.rd 0x6001C + 1) s.dev.storeBody ∧
         m.flashRead (copyBase b + 0x40) s.dev.storeBody.length = s.dev.storeBody ∧
         m.flashRead (copyBase b + 0x3FF000) 16 = markerBytes (s.dev.rd 0x6001C + 1) ∧
         (∀ a, a < copyBase b ∨ copyBase b + 0x400000 ≤ a → m.flashRead a 1 = s.mem.flashRead a 1) ∧ m.ddr = s.mem.ddr ∧ m.host = s.mem.host ∧
         ∀ a, a ≠ 0x60004 → a ≠ 0x6001C → a ≠ 0x60008 → a ≠ 0xD9000 → t.rd a = s.dev.rd a)) ∧
    (∀ w : Wr, s.dev.admits w 0x60014 = true → bitOf w.data 31 = true → GivesMem (.calCmdSave w false) s fun m t =>
      t.flag 0x60008 7 = true ∧ t.flag 0x60004 2 = s.dev.flag 0x60004 2 ∧ t.flag 0x60004 3 = s.dev.flag 0x60004 3 ∧ t.rd 0x6001C = s.dev.rd 0x6001C ∧
      t.cal.user = s.dev.cal.user ∧ m.ddr = s.mem.ddr ∧ m.host = s.mem.host ∧
      ∀ a, (let b := !s.dev.flag 0x60004 2
            a < copyBase b ∨ copyBase b + 0x400000 ≤ a) → m.flashRead a 1 = s.mem.flashRead a 1) ∧
    (∀ w : Wr, s.dev.admits w 0x6002C = true →
      (let v := s.dev.rd 0x60024
       let k := calKey (bitsOf v 0 11) (bitsOf v 12 3) (bitsOf v 15 1) (bitsOf v 16 4)
       s.dev.calibrates (bitsOf v 0 11) = false → ¬ (bitsOf v 15 1 = 1 ∧ 2 < bitsOf v 12 3) → bitsOf v 16 4 ≠ 12 → GivesDev (.calVuWrite w) s fun t =>
         t.userVal k = clampInt (itemLim (bitsOf v 15 1) (bitsOf v 16 4)).1 (itemLim (bitsOf v 15 1) (bitsOf v 16 4)).2 (toSigned 32 w.data.toNat) ∧
         (∀ j, j ≠ k → t.userVal j = s.dev.userVal j) ∧ t.chan = s.dev.chan ∧ t.execs = s.dev.execs)) ∧
    (∀ w : Wr, s.dev.admits w 0x60018 = true → GivesDev (.calEpochWrite w) s fun t =>
      t.rd 0x60018 = w.data ∧ t.cal = { s.dev.cal with epochSet := true } ∧ { t.plant with cal := s.dev.cal } = s.dev.plant ∧
      ∀ a, a ≠ 0x60018 → t.rd a = s.dev.rd a) ∧
    (s.dev.edge < s.dev.cal.tickAt + secTs → GivesDev .epochTick s fun t => t = s.dev) ∧
    (s.dev.cal.tickAt + secTs ≤ s.dev.edge → GivesDev .epochTick s fun t =>
      t.rd 0x60018 = (if s.dev.cal.epochSet then s.dev.rd 0x60018 + 1 else s.dev.rd 0x60018) ∧
      t.cal = { s.dev.cal with seconds := s.dev.cal.seconds + 1, tickAt := s.dev.cal.tickAt + secTs } ∧
      { t.plant with cal := s.dev.cal } = s.dev.plant ∧ ∀ a, a ≠ 0x60018 → t.rd a = s.dev.rd a) ∧
    (∀ ts : List Int,
      (s.dev.edge < s.dev.cal.sensedAt + 20480 → GivesDev (.sensorRead ts) s fun t => t = s.dev) ∧
      (s.dev.cal.sensedAt + 20480 ≤ s.dev.edge → GivesDev (.sensorRead ts) s fun t =>
        (∀ i x, i < 16 → ts[i]? = some x → t.fget (0x60080 + 4 * i) 0 16 = ofSigned 16 x) ∧
        t.plant = { s.dev.plant with cal := { s.dev.cal with sensedAt := s.dev.edge } } ∧
        ∀ a, (∀ i, i < 16 → a ≠ 0x60080 + 4 * i) → t.rd a = s.dev.rd a)))

/-! Faults, Capo, the watchdog (R33 to R35, R202, R244, R334 to R356). -/

/-- Detectors and retests (R115, R335, R337, R341, R354): an event on a resource that no slot uses begins its retest, from 64 Ts to 40,960 Ts later; a
test passed makes it one of class T, a first or second one failed counts, also against the budget of a slot that has started on the resource since; a
third one, or one too late, takes a meter out of service, as a wire fault of it does at once; an event on a resource already out of service, or under
a condition that R337 excludes, does nothing; the copying of one second empties the items that wait and writes an only one to its place in flash.
Forms that complete, each with its own effect: faultDetected, deviceRetest, eventLogCopy. -/
def Obligations.FaultsAreRetested : Prop :=
  ∀ (x : Detect) (s : State),
    (s.dev.outOfService x.res = true ∨ s.dev.excluded x.res x.code.toNat = true → GivesDdr (.faultDetected x) s fun t => t = { s.dev with ddrOut := [] }) ∧
    (s.dev.outOfService x.res = false → s.dev.excluded x.res x.code.toNat = false → atOnceP x.code.toNat = false →
      (∀ e, x.res = .engine e → s.dev.txSlot e = none) →
      ((∀ e, x.res ≠ .engine e) → (s.dev.firstHit fun e k => s.dev.servesSlot x.res e.words k) = none) → (s.dev.rec_.retests.any fun t => t.res == x.res) = false →
      GivesDdr (.faultDetected x) s fun t =>
        t = { s.dev with ddrOut := [], rec_ := { s.dev.rec_ with retests := ⟨x.res, x.code.toNat, s.dev.edge, x.detail.toNat, 0⟩ :: s.dev.rec_.retests } }) ∧
    (∀ (r : Fin 4), x.res = .rmu r → atOnceP x.code.toNat = true → s.dev.flag (aRMU r 0x14) 3 = false → GivesDdr (.faultDetected x) s fun t =>
        t.flag (aRMU r 0x14) 3 = true ∧ t.flag 0x50300 r = true ∧ t.owner (resRmu r) = .free ∧ t.chan = s.dev.chan ∧ t.axes = s.dev.axes) ∧
    (∀ (r : Resource) (k : Retest) (pass : Bool), (s.dev.rec_.retests.find? fun y => y.res == r) = some k →
      (s.dev.edge < k.edge + 64 → GivesDdr (.deviceRetest r pass) s fun t => t = { s.dev with ddrOut := [] }) ∧
      (pass = true → k.edge + 64 ≤ s.dev.edge → s.dev.edge ≤ k.edge + 40960 → s.dev.tooMany r = false → GivesDdr (.deviceRetest r pass) s fun t =>
        t.rec_.retests = s.dev.rec_.retests.filter (fun y => y.res != r) ∧ t.rd 0x50040 = s.dev.rd 0x50040 + 1 ∧ t.flag 0x50004 0 = true ∧ t.execs = s.dev.execs ∧
        t.chan = s.dev.chan) ∧
      (pass = false → k.edge + 64 ≤ s.dev.edge → s.dev.edge < k.edge + 40960 → k.fails < 2 → GivesDdr (.deviceRetest r pass) s fun t =>
        t = { s.dev with ddrOut := [],
                         rec_ := { s.dev.rec_ with retests := s.dev.rec_.retests.map fun y => if y.res = r then { y with fails := y.fails + 1 } else y },
                         execs := s.dev.execs.map fun e => { e with slots := e.slots.map fun c =>
                           if c.rec_.isNone = true ∧ k.edge ≤ e.startEdge ∧ s.dev.servesSlot r e.words c = true then
                             { c with retries := c.retries + 1, firstFault := some (c.firstFault.getD k.edge) } else c } }) ∧
      (∀ m : Fin 4, r = .rmu m → s.dev.flag (aRMU m 0x14) 3 = false →
        k.edge + 40960 < s.dev.edge ∨ (pass = false ∧ k.edge + 64 ≤ s.dev.edge ∧ (2 ≤ k.fails ∨ k.edge + 40960 ≤ s.dev.edge)) →
        GivesDdr (.deviceRetest r pass) s fun t =>
          t.flag (aRMU m 0x14) 3 = true ∧ t.rec_.retests = s.dev.rec_.retests.filter (fun y => y.res != r) ∧ t.rd 0x50044 = s.dev.rd 0x50044 + 1)) ∧
    (∀ (i : LogItem), s.dev.logQ = [i] → (∀ e, s.dev.logAt = some e → e + 20480000 ≤ s.dev.edge) → GivesMem .eventLogCopy s fun m t =>
      t.logQ = [] ∧ t.logAt = some s.dev.edge ∧ m.flashRead (0x0FB00000 + 4096 * s.dev.fget 0x50030 0 11 + 32 * s.dev.logIdx) 32 = i.bytes ∧
      m.ddr = s.mem.ddr ∧ m.host = s.mem.host ∧ ∀ a, a ≠ 0x50030 → t.rd a = s.dev.rd a)

/-- SAFE (R35, R202, R244, R346, R347): CAPO_N low that is masked changes nothing but what the pin shows; an out-of-window rail, an over-temperature,
CAPO_N low and not masked, and CAPO_CMD.SAFE each latch and show their cause and take Capo to SAFE, where no list is ARMED or RUNNING, every enabled
engine is HALTED with nothing to serve, and a clock output with CAPOSTOP is low (R380). The end of a cause (R346): CAPO_ACTIVE shows it no longer, and
Capo keeps its state; no list, context or pin changes. The release from SAFE (R348, R349): with no cause present, a clock and firmware running,
CAPO_CMD.RELEASE under policy HOST, or RDELAY ms under policy AUTO, ends SAFE; while a condition fails the command is refused and Capo stays. Forms
that complete, each with its own effect: capoNAssert, supplyOutOfWindow, overtempTrip, capoCmdSafe, supplyRestored, overtempClear, capoNRelease,
capoCmdClrhost, capoCmdRelease, capoRdelayExpiry. -/
def Obligations.SafeEnteredAndReleased : Prop :=
  ((∀ s : State, s.dev.flag 0x4000C 4 = true → GivesDdr .capoNAssert s fun t =>
    t = { s.dev with ddrOut := [], sys := { s.dev.sys with capo := { s.dev.sys.capo with pinLow := true } } }) ∧
  ∀ (c : Instr) (i : Nat) (s : State),
    (∃ r, c = .supplyOutOfWindow r ∧ i = 2) ∨ (c = .overtempTrip ∧ i = 3) ∨ (c = .capoNAssert ∧ i = 4 ∧ s.dev.flag 0x4000C 4 = false) ∨
      (∃ w, c = .capoCmdSafe w ∧ i = 6 ∧ s.dev.admits w 0x40010 = true ∧ bitOf w.data 31 = false) →
    GivesDdr c s fun t =>
      t.capo = 2 ∧ t.flag 0x40004 i = true ∧ t.flag 0x40008 i = true ∧
      (s.dev.capo ≠ 2 → t.fget 0x40018 0 16 = (s.dev.fget 0x40018 0 16 + 1) % 2 ^ 16 ∧ (∀ l < 256, t.lstState l = 0 ∨ t.lstState l = 3) ∧
        ∀ e < 120, t.flag (aENG e 0) 0 = true → (t.eng e).halted = true ∧ (t.eng e).txs = []) ∧
      (∀ n < 4, t.flag (aOUT n 8) 1 = true → t.clkOut n = .low) ∧
      (s.dev.capo = 2 → t.execs = s.dev.execs ∧ t.chan = s.dev.chan ∧ t.lists = s.dev.lists)) ∧
  (∀ (c : Instr) (i : Nat) (s : State),
    (c = .supplyRestored ∧ i = 2) ∨ (c = .overtempClear ∧ i = 3) ∨ (c = .capoNRelease ∧ i = 4) ∨
      (∃ w, c = .capoCmdClrhost w ∧ i = 6 ∧ s.dev.admits w 0x40010 = true ∧ bitOf w.data 31 = false ∧ (w.by_ = .firmware ∨ s.dev.writesOn = true)) →
    GivesDdr c s fun t =>
      t.flag 0x40008 i = false ∧ (∀ j < 32, j ≠ i → t.flag 0x40008 j = s.dev.flag 0x40008 j) ∧ t.capo = s.dev.capo ∧
      t.execs = s.dev.execs ∧ t.chan = s.dev.chan ∧ t.lists = s.dev.lists ∧ t.engines = s.dev.engines ∧
      Device.keepsRegs (fun a => a = 0x40008 ∨ a = 0x40000) s.dev t) ∧
  ((∀ (w : Wr) (s : State), s.dev.admits w 0x40010 = true → w.by_ = .firmware ∨ s.dev.writesOn = true → s.dev.flag 0x4000C 0 = true → s.dev.capo = 2 →
    (s.dev.mayRelease = true → GivesDdr (.capoCmdRelease w) s fun t =>
      t.capo = 0 ∧ t.flag 0x40000 2 = false ∧ t.rd 0x40004 = s.dev.rd 0x40004 ∧ t.rd 0x40008 = s.dev.rd 0x40008 ∧ t.mx = s.dev.mx) ∧
    (s.dev.mayRelease = false → GivesDdr (.capoCmdRelease w) s fun t =>
      t.capo = 2 ∧ t.plant = s.dev.plant ∧ Device.keepsRegs (fun _ => False) s.dev t)) ∧
  (∀ (e : Nat) (s : State), s.dev.sys.capo.ready = some e → s.dev.flag 0x4000C 0 = false → s.dev.capo = 2 → s.dev.mayRelease = true →
    e + 20480 * s.dev.fget 0x4000C 8 8 ≤ s.dev.edge → GivesDev .capoRdelayExpiry s fun t =>
      t.capo = 0 ∧ t.flag 0x40000 2 = false ∧ t.rd 0x40004 = s.dev.rd 0x40004 ∧ t.mx = s.dev.mx))

/-- The watchdog (R351): firmware's kick with the key restarts the period, any other write of it, and a kick in the third stage, does nothing; the
period without a kick begins a warm start under HOLD and disarms the step engine; 40 ms more bring SAFE with cause WATCHDOG; one second more keeps the
supervisor in reset. Forms that complete, each with its own effect: watchdogKick, watchdogExpiry, watchdogStage2, watchdogStage3. -/
def Obligations.WatchdogStages : Prop :=
  ∀ s : State,
    (∀ w : Wr, s.dev.admits w 0x5000C = true →
      (w.by_ = .firmware → w.data = 0xC3A5 → s.dev.fget 0x50010 0 2 ≠ 3 → GivesDev (.watchdogKick w) s fun t =>
        t.sys.capo.kicked = true ∧ (s.dev.fget 0x50010 0 2 = 0 → t.sys.capo.wdFrom = s.dev.edge) ∧ t.execs = s.dev.execs ∧ t.chan = s.dev.chan) ∧
      (w.by_ ≠ .firmware ∨ w.data ≠ 0xC3A5 ∨ s.dev.fget 0x50010 0 2 = 3 → GivesDev (.watchdogKick w) s fun t => t = s.dev)) ∧
    (s.dev.flag 0x50008 31 = true → s.dev.fget 0x50010 0 2 = 0 → s.dev.sys.capo.wdFrom + 20480 * s.dev.fget 0x50008 0 10 ≤ s.dev.edge →
      GivesDdr .watchdogExpiry s fun t =>
        t.fget 0x50010 0 2 = 1 ∧ t.fget 0x50010 16 16 = (s.dev.fget 0x50010 16 16 + 1) % 2 ^ 16 ∧ t.capo = (if s.dev.capo = 0 then 1 else s.dev.capo) ∧
        t.flag 0x40008 9 = true ∧ t.armed = false ∧ t.fget 0x20000 0 5 = 11 ∧ t.sys.warm.isSome = true) ∧
    (s.dev.fget 0x50010 0 2 = 1 → (s.dev.sys.capo.rearmed && s.dev.sys.capo.kicked) = false → s.dev.sys.capo.wdFrom + 819200 ≤ s.dev.edge →
      GivesDdr .watchdogStage2 s fun t => t.fget 0x50010 0 2 = 2 ∧ t.capo = 2 ∧ t.flag 0x40008 5 = true ∧ t.armed = false ∧ t.sys.capo.kicked = false) ∧
    (s.dev.fget 0x50010 0 2 = 2 → s.dev.sys.capo.kicked = false → s.dev.sys.capo.wdFrom + 20480000 ≤ s.dev.edge →
      GivesDev .watchdogStage3 s fun t => t.fget 0x50010 0 2 = 3 ∧ t.capo = s.dev.capo ∧ t.execs = s.dev.execs ∧ t.chan = s.dev.chan ∧
        Device.keepsRegs (fun a => a = 0x50010 ∨ a = 0x40000) s.dev t)

/-! Clocks and references (R357 to R382). -/

/-- Judging the references (R359, R360): a complete count stands and makes an active reference READY; a missing edge of a reference that is not in use
clears its count and its READY, and with REFA that of the PCIe PHY; a window of 65,536 cycles gives the difference in ppm, saturated, and beyond 1,000
ppm clears the count of the other reference. The loss of the active reference while the domains run from the root PLL, and the switch (R368 to R375):
SAFE with its cause, the PLL without lock, the count zero; under FAILOVER AUTO the switch to a complete other reference is requested at once; 1 ms
later the gated domains stop and a calibration ends; the switch done, the PLL is locked, the cause gone and the domains run. Forms that complete, each
with its own effect: refCountComplete, refMissingEdge, refWindowEnd, activeRefLoss, refSwitchComplete, gatedDomainsStop. -/
def Obligations.ReferencesJudgedAndLost : Prop :=
  (∀ s : State,
    (∀ b, GivesDdr (.refCountComplete b) s fun t =>
      t.refCount b = 8192 ∧ (s.dev.hasActive = true → s.dev.activeRef = b → t.flag 0x10000 (refBit b) = true)) ∧
    (∀ b, ¬ (s.dev.hasActive = true ∧ s.dev.activeRef = b ∧ s.dev.sys.clk.lossAt = none) → s.dev.sys.clk.switching ≠ some b → GivesDev (.refMissingEdge b) s fun t =>
      t.refCount b = 0 ∧ t.flag 0x10000 (refBit b) = false ∧ (b = false → t.flag 0x10000 5 = false) ∧ t.refCount (!b) = s.dev.refCount (!b) ∧ t.execs = s.dev.execs ∧ t.chan = s.dev.chan) ∧
    (∀ n : Nat, s.dev.hasActive = true → s.dev.refReady s.dev.activeRef = true → GivesDdr (.refWindowEnd n) s fun t =>
      (let diff : Int := if s.dev.activeRef then 100 * (n : Int) - 4194304 else (n : Int) - 102400
       let nominal : Nat := if s.dev.activeRef then 4194304 else 102400
       t.fget 0x1001C 0 16 = ofSigned 16 (clampInt (-32767) 32767 (roundDiv (diff * 1000000) nominal)) ∧ t.flag 0x1001C 16 = true ∧
       (nominal < diff.natAbs * 1000 → t.refCount (!s.dev.activeRef) = 0 ∧ t.flag 0x10004 (2 + refBit (!s.dev.activeRef)) = true)))) ∧
  (∀ s : State,
    (s.dev.hasActive = true → s.dev.sys.clk.lossAt = none → s.dev.flag 0x10000 16 = true → GivesDdr .activeRefLoss s fun t =>
      t.capo = 2 ∧ t.flag 0x40008 1 = true ∧ t.sys.clk.lossAt = some s.dev.edge ∧ t.flag 0x10000 2 = false ∧ t.flag 0x10000 13 = true ∧
      t.refCount s.dev.activeRef = 0 ∧
      (s.dev.flag 0x10008 0 = true → t.sys.clk.switching = none ∧ t.activeRef = s.dev.activeRef) ∧
      (s.dev.flag 0x10008 0 = false → s.dev.refCount (!s.dev.activeRef) = 8192 →
        t.sys.clk.switching = some (!s.dev.activeRef) ∧ t.activeRef = !s.dev.activeRef)) ∧
    (∀ b, s.dev.sys.clk.switching = some b → GivesDdr .refSwitchComplete s fun t =>
      t.sys.clk.switching = none ∧ t.sys.clk.lossAt = none ∧ t.flag 0x10000 2 = true ∧ t.flag 0x10000 13 = false ∧ t.flag 0x40008 1 = false ∧
      t.fget 0x10020 0 16 = (s.dev.fget 0x10020 0 16 + 1) % 2 ^ 16 ∧ (s.dev.quiet = false → t.flag 0x10000 14 = false) ∧
      (s.dev.flag 0x10000 14 = false → t.execs = s.dev.execs)) ∧
    (∀ e, s.dev.sys.clk.lossAt = some e → e + 20480 ≤ s.dev.edge → s.dev.flag 0x10000 14 = false → GivesDdr .gatedDomainsStop s fun t =>
      t.flag 0x10000 14 = true ∧ t.flag 0x10004 8 = true ∧ t.cal.run = none ∧ t.execs = s.dev.execs))

/-- A requested switch to a source whose READY flag reads zero is refused: nothing changes, CLK_EVENT.REFUSED is set and a REFUSED notice that names
CLK_CMD is written (R369). A request for the reference that is active is none (the description of CLK_CMD.GO). -/
def Obligations.UnreadySwitchRefused : Prop :=
  ∀ (w : Wr) (s : State), s.dev.admits w 0x10010 = true → bitOf w.data 0 ≠ s.dev.activeRef → s.dev.refReady (bitOf w.data 0) = false →
    GivesDdr (.clkCmdSwitch w) s fun t =>
      t = { (s.dev.event 0x10004 6).notice 0x0C 0x01 0x31 0x10010 with ddrOut := [] } ∧ t.plant = s.dev.plant ∧ t.flag 0x10004 6 = true ∧
      Device.keepsRegs (fun a => a = 0x10004) s.dev t

/-- CLK_CMD (R369 to R371): a switch to a READY reference, with the active one in order, is hitless and takes effect at once; to the active one it
does nothing; the end of the move counts the switch. The fabric clock and the clock outputs (R361, R367, R378, R379): settings of a fabric that stands
still are stored, and a new setting in FREE takes the lock from the fabric PLL; a change while it runs is refused; a free fabric PLL locks; an output
takes its settings, with the depth of a spread so that its sweep stays inside, and is READY no longer when it is started or stopped; an enabled output
locks while the domains run. Forms that complete, each with its own effect: clkCmdSwitch, hitlessSlewEnd, fabricClockWrite, fabPllLock, clkoutWrite,
clkoutRelock. -/
def Obligations.ClocksFollow : Prop :=
  (∀ (w : Wr) (s : State),
    (s.dev.admits w 0x10010 = true → s.dev.sys.clk.lossAt = none →
      (bitOf w.data 0 = s.dev.activeRef → GivesDdr (.clkCmdSwitch w) s fun t => t.plant = s.dev.plant ∧ ∀ a, t.rd a = s.dev.rd a) ∧
      (bitOf w.data 0 ≠ s.dev.activeRef → s.dev.refReady (bitOf w.data 0) = true → GivesDdr (.clkCmdSwitch w) s fun t =>
        t.activeRef = bitOf w.data 0 ∧ t.flag 0x10000 15 = true ∧ t.capo = s.dev.capo ∧ t.chan = s.dev.chan)) ∧
    (s.dev.flag 0x10000 15 = true → GivesDev .hitlessSlewEnd s fun t =>
      t.flag 0x10000 15 = false ∧ t.fget 0x10020 0 16 = (s.dev.fget 0x10020 0 16 + 1) % 2 ^ 16 ∧ t.plant = s.dev.plant ∧
      Device.keepsRegs (fun a => a = 0x10000 ∨ a = 0x10004 ∨ a = 0x10020) s.dev t)) ∧
  ((∀ (r : Fin 2) (w : Wr) (s : State), s.dev.admits w (0x10008 + 4 * r) = true →
    (s.dev.fabricRuns = false ∨ s.dev.reachesRws (0x10008 + 4 * r) w.data = false → GivesDev (.fabricClockWrite r w) s fun t =>
      t.rd (0x10008 + 4 * r) = storeWord (0x10008 + 4 * r) (s.dev.cook (0x10008 + 4 * r) w.data).1 ∧ (t.flag 0x10008 1 = false → t.flag 0x10000 3 = false) ∧
      (let new : Prop := t.flag 0x10008 1 = true ∧ (s.dev.flag 0x10008 1 = false ∨ t.rd 0x1000C ≠ s.dev.rd 0x1000C)
       (new → t.flag 0x10000 3 = false ∧ t.sys.clk.fabOld = s.dev.fabricKhz) ∧ (¬ new → t.sys.clk.fabOld = s.dev.sys.clk.fabOld)) ∧
      t.plant = { s.dev.plant with sys := { s.dev.sys with clk := { s.dev.sys.clk with fabOld := t.sys.clk.fabOld } } } ∧ Device.keepsRegs (fun a => a = 0x10008 + 4 * r ∨ a = 0x10000 ∨ a = 0x10004) s.dev t) ∧
    (s.dev.fabricRuns = true → s.dev.reachesRws (0x10008 + 4 * r) w.data = true → GivesDev (.fabricClockWrite r w) s fun t =>
      t.plant = s.dev.plant ∧ t.flag 0x10004 6 = true ∧ Device.keepsRegs (fun a => a = 0x10004) s.dev t)) ∧
  (∀ s : State, s.dev.flag 0x10008 1 = true → s.dev.flag 0x10000 3 = false → GivesDev .fabPllLock s fun t =>
    t.flag 0x10000 3 = true ∧ t.plant = s.dev.plant ∧ Device.keepsRegs (fun a => a = 0x10000 ∨ a = 0x10004 ∨ a = 0x10020) s.dev t) ∧
  (∀ (n : Fin 4) (r : Fin 3) (w : Wr) (s : State), s.dev.admits w (aOUT n (4 * r)) = true → GivesDev (.clkoutWrite n r w) s fun t =>
    (r ≠ 1 → t.rd (aOUT n (4 * r)) = storeWord (aOUT n (4 * r)) (s.dev.cook (aOUT n (4 * r)) w.data).1) ∧
    (sweepOk (t.fget (aOUT n 4) 0 2) (t.fget (aOUT n 0) 0 28) (t.fget (aOUT n 4) 8 6) = true ∨ t.fget (aOUT n 4) 8 6 = 0) ∧
    (t.flag (aOUT n 8) 0 ≠ s.dev.flag (aOUT n 8) 0 → t.flag 0x10000 (6 + n) = false) ∧
    (t.flag (aOUT n 8) 0 = s.dev.flag (aOUT n 8) 0 → t.rd (aOUT n 0) = s.dev.rd (aOUT n 0) → t.rd (aOUT n 4) = s.dev.rd (aOUT n 4) →
      t.flag 0x10000 (6 + n) = s.dev.flag 0x10000 (6 + n)) ∧
    t.plant = { s.dev.plant with freeCtr := t.freeCtr } ∧ Device.keepsRegs (fun a => a = aOUT n (4 * r) ∨ a = aOUT n 4 ∨ a = 0x10000 ∨ a = 0x10004) s.dev t) ∧
  (∀ (n : Fin 4) (s : State),
    (s.dev.flag (aOUT n 8) 0 = true → s.dev.fabricOn = true → GivesDev (.clkoutRelock n) s fun t =>
      t.flag 0x10000 (6 + n) = true ∧ t.plant = s.dev.plant ∧ ∀ a, a ≠ 0x10000 → t.rd a = s.dev.rd a) ∧
    (s.dev.flag (aOUT n 8) 0 = false ∨ s.dev.fabricOn = false → GivesDev (.clkoutRelock n) s fun t => t = s.dev)))

/-! Start-up, warm start, QUIET (R34, R265, R383 to R409, R456). -/

/-- Cold start (R383, R397, R455): supply-good samples the straps and begins reference detection; PROG_N and REPROG leave what a reset leaves, with
fuses, calibration copies and isolated segments kept and DDR5 lost; at root PLL lock a header that passes R414, R415 and R442, else its copy, lets the
domains run, two that fail lead to the failed state; the DDR5 PLL locks once SYSTEM has started it, and training succeeds or is repeated. The base
image (R383, R385, R394, R395, R409, R425): a bad factory store leads to the failed state; a slot whose manifest, a section or the frames' CRC fails
leaves its code and section, empties the clamp report and lets slot B be tried, or after slot B leads to the failed state; once SYSTEM is applied the
load waits for DDR5; a slot whose sections all load begins the release phases, with its manifest in use. The checks are those of `manifestFails` and
`loadSections`; that a CRC mismatch names FABRIC_BASE is the model's choice (log entry 86). The release phases (R384, R389, R391, R392): the phase at
the present position of BOOT_ORDER waits and says for what, or completes and shows it; without a delay the next position follows at once, else when
its delay is over; after the last the calibrations of the start-up follow; when they are done the step engine is armed and DONE reads one. Forms that
complete, each with its own effect: supplyGood, progN, bootCtlReprog, rootPllLock, ddrPllLock, ddrTrained, ddrTrainRetry, baseImageLoaded,
releasePhase, bootDelayExpiry, stepEngineArm. -/
def Obligations.StartUpRuns : Prop :=
  (∀ s : State,
    (∀ st : Straps, s.dev.phase = 0 → s.dev.refCount false ≠ 8192 → s.dev.refCount true ≠ 8192 → GivesDev (.supplyGood st) s fun t =>
      t.phase = 1 ∧ t.flag 0x10000 17 = st.root ∧ t.fget 0xC0000 2 4 = st.ddrOrg ∧ t.fget 0xC0000 8 7 = capGib st.ddrOrg % 2 ^ 7 ∧
      t.flag 0x30000 9 = st.tamperN ∧ t.flag 0x30000 10 = st.vbatOk ∧ (st.root = true → t.chordState = 6 ∧ t.chordId = 0) ∧ t.chan = s.dev.chan) ∧
    (∀ (c : Instr), (c = .progN ∨ ∃ w, c = .bootCtlReprog w ∧ s.dev.admits w 0x20020 = true) → GivesMem c s fun m t =>
      m.ddr = [] ∧ m.flash = s.mem.flash ∧ m.host = s.mem.host ∧
      t.phase = (if s.dev.phase = 0 ∨ s.dev.flag 0x40008 2 = true then 0 else 1) ∧ t.capo = 2 ∧ t.flag 0x40008 0 = true ∧
      t.chan = [] ∧ t.execs = [] ∧ t.lists = [] ∧ t.mx = { Matrix.init with isolated := s.dev.mx.isolated } ∧ t.engines = [] ∧ t.frets = [] ∧ t.axes = [] ∧ t.queues = [] ∧
      t.sys.sec.hashes = s.dev.sys.sec.hashes ∧ t.sys.sec.fkey = s.dev.sys.sec.fkey ∧ t.sys.sec.bbKey = s.dev.sys.sec.bbKey ∧
      t.cal.factory = s.dev.cal.factory ∧ t.cal.copyA = s.dev.cal.copyA ∧ t.cal.copyB = s.dev.cal.copyB ∧ ∀ a, 0x100000 ≤ a → t.rd a = resetWord a) ∧
    (∀ sigOk copyOk : Bool,
      (let first := s.dev.headerPasses (headerAt s.mem false) sigOk
       let second := s.dev.headerPasses (headerAt s.mem true) copyOk
       (s.dev.phase = 2 → first = true ∨ second = true → GivesDdr (.rootPllLock ⟨sigOk, copyOk⟩) s fun t =>
         t.phase = 5 ∧ t.flag 0x10000 2 = true ∧ t.flag 0x10000 16 = true ∧ t.flag 0x10000 14 = false ∧ t.flag 0x20000 9 = !first ∧ (first = false → t.flag 0x20004 2 = true) ∧
         t.plant = { s.dev.plant with sys := { s.dev.sys with boot := { s.dev.sys.boot with header := headerAt s.mem (!first) } } } ∧
         Device.keepsRegs (fun a => a = 0x10000 ∨ a = 0x20000 ∨ a = 0x20004) s.dev t) ∧
       (s.dev.phase = 2 → first = false → second = false → GivesDdr (.rootPllLock ⟨sigOk, copyOk⟩) s fun t =>
         t.phase = 12 ∧ t.fget 0x20008 24 4 = 6 ∧ t.flag 0x20004 2 = true ∧ t.capo = 2) ∧
       (s.dev.phase ≠ 2 → GivesDdr (.rootPllLock ⟨sigOk, copyOk⟩) s fun t => t = { s.dev with ddrOut := [] }))) ∧
    (s.dev.systemLoaded = true → GivesDev .ddrPllLock s fun t => t.flag 0x10000 4 = true ∧ t.plant = s.dev.plant ∧ ∀ a, a ≠ 0x10000 → t.rd a = s.dev.rd a) ∧
    (s.dev.systemLoaded = false → GivesDev .ddrPllLock s fun t => t = s.dev) ∧
    (s.dev.flag 0x10000 4 = true →
      (GivesDev .ddrTrained s fun t =>
        t.flag 0xC0000 0 = true ∧ t.sys.patrol = (s.dev.patrolTime, some s.dev.edge) ∧ t.plant = { s.dev.plant with sys := { s.dev.sys with patrol := t.sys.patrol } } ∧
        (s.dev.phase = 5 → t.fget 0x20000 13 3 = 0) ∧ ∀ a, a ≠ 0xC0000 → a ≠ 0x20000 → t.rd a = s.dev.rd a) ∧
      (s.dev.flag 0xC0000 0 = false → GivesDev .ddrTrainRetry s fun t =>
        t.flag 0xC0004 2 = true ∧ t.plant = s.dev.plant ∧ Device.keepsRegs (fun a => a = 0xC0004) s.dev t))) ∧
  (∀ (s : State) (l : SlotLoad),
    (let man := s.mem.flashRead s.dev.slotBase 18688
     let g := s.dev.slotBody s.mem man l.segs
     let bad := l.readError.map BitVec.toNat
     let fails (u : Device) (code sect : Nat) : Prop :=
       (u.slotB = false → GivesDdr (.baseImageLoaded l) s fun t =>
         t.phase = u.phase ∧ t.fget 0x20008 0 4 = code % 16 ∧ t.fget 0x20008 8 8 = sect % 256 ∧ t.clampRep = [] ∧ t.flag 0x20004 0 = true ∧ t.sys.boot.system = none ∧ t.chan = u.chan) ∧
       (u.slotB = true → GivesDdr (.baseImageLoaded l) s fun t =>
         t.phase = 12 ∧ t.fget 0x20008 4 4 = code % 16 ∧ t.fget 0x20008 16 8 = sect % 256 ∧ t.fget 0x20008 24 4 = code % 16 ∧ t.flag 0x20004 1 = true ∧ t.capo = 2)
     (s.dev.loading = false → GivesDdr (.baseImageLoaded l) s fun t => t = { s.dev with ddrOut := [] }) ∧
     (s.dev.loading = true → l.factoryBad = true → GivesDdr (.baseImageLoaded l) s fun t => t.phase = 12 ∧ t.fget 0x20008 24 4 = 7 ∧ t.capo = 2) ∧
     (s.dev.loading = true → l.factoryBad = false →
       (∀ code, s.dev.manifestFails man l = some code → fails s.dev code 1) ∧
       (s.dev.manifestFails man l = none → s.dev.sys.boot.system = none →
         (∀ u code sect, loadSections g man bad s.dev.cseq.toNat [0x0E] s.dev = (u, some (code, sect)) → fails u code sect) ∧
         (∀ u, loadSections g man bad s.dev.cseq.toNat [0x0E] s.dev = (u, none) → u.flag 0xC0000 0 = false → GivesDdr (.baseImageLoaded l) s fun t =>
           t = { u.setBoot { u.sys.boot with system := some (u.edge, s.dev.cseq) } with ddrOut := [] })) ∧
       (∀ e since, s.dev.manifestFails man l = none → s.dev.sys.boot.system = some (e, since) →
         (s.dev.flag 0xC0000 0 = false → GivesDdr (.baseImageLoaded l) s fun t => t = { s.dev with ddrOut := [] }) ∧
         (s.dev.flag 0xC0000 0 = true →
           (∀ u code sect, loadSections g man bad since.toNat sectOrder s.dev = (u, some (code, sect)) → fails u code sect) ∧
           (∀ u, loadSections g man bad since.toNat sectOrder s.dev = (u, none) →
             (u.framesCrc 0 12288 ≠ numAt man 0x24 4 → fails u 3 2) ∧
             (u.framesCrc 0 12288 = numAt man 0x24 4 → GivesDdr (.baseImageLoaded l) s fun t =>
               t.phase = 7 ∧ t.sys.boot.pos = 0 ∧ t.sys.boot.doneAt = none ∧
               (l.selfTest = [] → l.badFrets = [] → t.sys.boot.manifest = man.take 0x4884 ∧ t.sys.boot.system = none ∧ t.chan = u.chan)))))))) ∧
  ((∀ (k : Fin 4) (s : State), s.dev.phase = 7 → s.dev.sys.boot.pos = k →
    (s.dev.sys.boot.doneAt = none →
      (∀ w, s.dev.waitsOn (s.dev.orderVal k) = some w → GivesDev (.releasePhase k) s fun t =>
        t.fget 0x20000 13 3 = w ∧ t.plant = s.dev.plant ∧ ∀ a, a ≠ 0x20000 → t.rd a = s.dev.rd a) ∧
      (s.dev.waitsOn (s.dev.orderVal k) = none →
        (s.dev.fget (0x20010 + 4 * k) 0 10 ≠ 0 → GivesDev (.releasePhase k) s fun t =>
          t.flag 0x20000 (16 + s.dev.orderVal k) = true ∧ t.sys.boot.doneAt = some s.dev.edge ∧ t.sys.boot.pos = k ∧ t.phase = 7 ∧
          (s.dev.orderVal k = 1 → t.capo = 0)) ∧
        (s.dev.fget (0x20010 + 4 * k) 0 10 = 0 → k.val < 3 → GivesDev (.releasePhase k) s fun t =>
          t.flag 0x20000 (16 + s.dev.orderVal k) = true ∧ t.sys.boot.doneAt = none ∧ t.sys.boot.pos = k + 1 ∧ t.phase = 7 ∧
          (s.dev.orderVal k = 1 → t.capo = 0)) ∧
        (s.dev.fget (0x20010 + 4 * k) 0 10 = 0 → k.val = 3 → GivesDev (.releasePhase k) s fun t =>
          t.flag 0x20000 (16 + s.dev.orderVal k) = true ∧ t.sys.boot.pos = 4 ∧ t.phase = 9))) ∧
    (∀ e, s.dev.sys.boot.doneAt = some e → e + 20480 * s.dev.fget (0x20010 + 4 * k) 0 10 ≤ s.dev.edge → GivesDev (.bootDelayExpiry k) s fun t =>
      t.sys.boot.pos = k + 1 ∧ t.sys.boot.doneAt = none ∧ t.phase = (if k.val < 3 then 7 else 9))) ∧
  (∀ s : State, s.dev.phase = 9 → s.dev.sys.boot.pos = 4 → s.dev.cal.boot = [] → s.dev.cal.run = none → GivesDev .stepEngineArm s fun t =>
    t.phase = 10 ∧ t.bootDone = true ∧ t.armed = true ∧ t.fget 0x2002C 0 20 = min (2 ^ 20 - 1) ((s.dev.edge - s.dev.sys.boot.supplyAt) / 20480) ∧
      t.execs = s.dev.execs ∧ ∀ n, (∀ e < 120, s.dev.flag (aENG e 0) 0 = true → s.dev.fget (aENG e 4) 0 10 ≠ n) → t.ch n = s.dev.ch n))

/-- Warm start, reload, patches (R34, R388, R398 to R401): WARM after a completed start-up puts an unsafe Capo to HOLD and disarms the step engine;
its end arms again and ends HOLD; with a bad pass it becomes a reload, which begins at the base image with DDR5 lost under SAFE; a patch copy that
passes R442, R447 and R448 at a retry becomes active by a warm start, one that fails is reported. The end of QUIET (R265, R404 to R406, R408): a wake
comparator whose pin has held a new state for its time in the direction that its slot selects, the lowest slot of several, WAKE_N and BOOT_CTL.WAKE
end it and leave their cause; comparators that see no such change go on; the end of the exit returns to the phase before; CLRCLAMP empties the clamp
report. Forms that complete, each with its own effect: bootCtlWarm, warmStartRearm, patchRetry, wakePinEvent, wakeNLow, bootCtlWake, quietExitArm,
bootCtlClrclamp. -/
def Obligations.WarmStartAndQuietEnd : Prop :=
  (∀ s : State,
    (∀ (w : Wr) (ok : Bool), s.dev.admits w 0x20020 = true → bitsOf w.data 1 3 = 0 → s.dev.bootDone = true → s.dev.sys.warm = none → s.dev.quiet = false →
      GivesMem (.bootCtlWarm w ok) s fun m t =>
        t.phase = 11 ∧ t.armed = false ∧ t.capo = (if s.dev.capo = 0 then 1 else s.dev.capo) ∧ t.sys.warm.isSome = true ∧ t.flag 0x40008 9 = true ∧ t.chan = s.dev.chan ∧
        (s.dev.flag 0x60004 3 = false → m.flash = s.mem.flash) ∧ m.host = s.mem.host) ∧
    (∀ w : WarmRun, s.dev.sys.warm = some w → w.phase < 32 → s.dev.fget 0x50010 0 2 ≠ 3 →
      (s.dev.bootDone = false ∨ s.dev.flag 0xE000C 16 = true → GivesMem .warmStartRearm s fun m t =>
        t.sys.warm = none ∧ t.phase = (if s.dev.quiet then 13 else w.phase) ∧ t.capo = (if s.dev.capo = 1 then 0 else s.dev.capo) ∧ t.flag 0x40008 9 = false ∧
        t.chan = s.dev.chan ∧ m.flash = s.mem.flash ∧ m.host = s.mem.host) ∧
      (s.dev.bootDone = true → s.dev.flag 0xE000C 16 = false → GivesMem .warmStartRearm s fun m t =>
        t.phase = 5 ∧ t.fget 0x20000 5 2 = 2 ∧ t.capo = 2 ∧ t.flag 0x40008 0 = true ∧ t.execs = [] ∧ t.lists = [] ∧ t.sys.warm = none ∧
        m.ddr = [] ∧ m.flash = s.mem.flash ∧ m.host = s.mem.host)) ∧
    (∀ (k : Nat) (x : PatchIn) (saveOk : Bool), s.dev.flag 0x30010 2 = true → patchCopy s.mem = some k →
      (∀ p, s.dev.verifyPatch s.mem k x = .ok p →
        (s.dev.bootDone = true ∧ s.dev.sys.warm = none ∧ s.dev.quiet = false → GivesMem (.patchRetry x saveOk) s fun _ t =>
          t.phase = 11 ∧ t.sys.sec.patch = some p ∧ t.flag 0x30010 2 = false ∧ t.flag 0x30010 1 = true ∧ t.rd 0x30014 = p.seq ∧ t.flag 0x30004 4 = true) ∧
        (¬ (s.dev.bootDone = true ∧ s.dev.sys.warm = none ∧ s.dev.quiet = false) → GivesMem (.patchRetry x saveOk) s fun m t =>
          t = { s.dev with ddrOut := [] } ∧ m.flash = s.mem.flash ∧ m.host = s.mem.host)) ∧
      (∀ r, s.dev.verifyPatch s.mem k x = .error r → GivesMem (.patchRetry x saveOk) s fun m t =>
        t.plant = s.dev.plant ∧ t.flag 0x20004 4 = true ∧ t.flag 0x30004 5 = true ∧ m.flash = s.mem.flash ∧ m.host = s.mem.host ∧
        Device.keepsRegs (fun a => a = 0x20004 ∨ a = 0x30004) s.dev t))) ∧
  (∀ s : State,
    (s.dev.quiet = true →
      (∀ pins : List PinVolt,
        (let rs := s.dev.sys.boot.wakes.map fun c => wakeSee c pins
         (∀ c ev, (rs.filter Prod.snd).head? = some (c, ev) → GivesDdr (.wakePinEvent pins) s fun t =>
           t.quiet = false ∧ t.fget 0x20028 0 2 = 0 ∧ t.fget 0x184304 0 5 = c.slot % 32 ∧ t.flag 0x184304 8 = true ∧ t.flag 0x184300 2 = true ∧ t.phase = s.dev.phase) ∧
         ((rs.filter Prod.snd).head? = none → GivesDdr (.wakePinEvent pins) s fun t =>
           t = { s.dev.setBoot { s.dev.sys.boot with wakes := rs.map Prod.fst } with ddrOut := [] }))) ∧
      (GivesDdr .wakeNLow s fun t => t.quiet = false ∧ t.fget 0x20028 0 2 = 1 ∧ t.phase = s.dev.phase) ∧
      (∀ w, s.dev.admits w 0x20020 = true → bitsOf w.data 3 1 = 0 → GivesMem (.bootCtlWake w) s fun m t =>
        t.quiet = false ∧ t.fget 0x20028 0 2 = 3 ∧ t.phase = s.dev.phase ∧ m.flash = s.mem.flash ∧ m.host = s.mem.host)) ∧
    (s.dev.quiet = false → (GivesDdr .wakeNLow s fun t => t = { s.dev with ddrOut := [] }) ∧
      ∀ pins, GivesDdr (.wakePinEvent pins) s fun t => t = { s.dev with ddrOut := [] }) ∧
    (s.dev.phase = 13 → s.dev.quiet = false → s.dev.sys.boot.quietPhase < 32 → s.dev.sys.boot.quietPhase ≠ 1 → GivesDev .quietExitArm s fun t =>
      t.phase = s.dev.sys.boot.quietPhase ∧ (s.dev.sys.boot.quietPhase = 10 → t.armed = s.dev.flag 0x80000 0) ∧
      (s.dev.capo ≠ 2 → ∀ e, s.dev.engOn e = true → (t.eng e).halted = false) ∧ t.chan = s.dev.chan ∧ t.execs = s.dev.execs) ∧
    (∀ w, s.dev.admits w 0x20020 = true → GivesMem (.bootCtlClrclamp w) s fun m t =>
      t.clampRep = [] ∧ t.fget 0x20040 0 11 = 0 ∧ t.plant = s.dev.plant ∧ m.flash = s.mem.flash ∧ m.host = s.mem.host ∧ ∀ a, a ≠ 0x20040 → t.rd a = s.dev.rd a))

/-- A write of one to BOOT_CTL.QUIET requests QUIET (R402): while a list is ARMED or RUNNING, a Fret is LOADING, a calibration runs or Capo is in HOLD
the request is refused and reported; any other, under SAFE too, is accepted, and QUIET then holds: every switch open, every channel OFF, the engines
halted, the frames lost, a wake comparator for every enabled slot. Forms that complete, each with its own effect: bootCtlQuiet. -/
def Obligations.QuietRequestAnswered : Prop :=
  ∀ s : State,
    (∀ (w : Wr) (ok : Bool), s.dev.admits w 0x20020 = true → bitsOf w.data 2 2 = 0 → s.dev.quiet = false →
      (s.dev.listsBusy = false → s.dev.fretLoading = false → s.dev.cal.run = none → s.dev.capo ≠ 1 → GivesMem (.bootCtlQuiet w ok) s fun m t =>
        t.quiet = true ∧ t.phase = 13 ∧ t.armed = false ∧ t.mx.closed = [] ∧ (∀ n < 1024, t.mode n = 0 ∧ (t.ch n).waiting = []) ∧
        (∀ e < 120, s.dev.flag (aENG e 0) 0 = true → (t.eng e).halted = true) ∧ t.frames = [] ∧
        t.sys.boot.wakes.map WakeCmp.slot = ((List.range 32).filter fun k => s.dev.flag (aWAKE k 0) 31) ∧ (s.dev.flag 0x60004 3 = false → m.flash = s.mem.flash) ∧ m.host = s.mem.host) ∧
      (s.dev.listsBusy = true ∨ s.dev.fretLoading = true ∨ s.dev.cal.run.isSome = true ∨ s.dev.capo = 1 → GivesMem (.bootCtlQuiet w ok) s fun m t =>
        t.plant = s.dev.plant ∧ t.flag 0x20004 6 = true ∧ m.flash = s.mem.flash ∧ m.host = s.mem.host ∧ Device.keepsRegs (fun a => a = 0x20004) s.dev t))

/-! The security block and the JTAG port (R434 to R454). -/

/-- SEC_CMD with GO while a command may be given (R444, R445, R446, R448, R450, R451): ATTEST runs with the report of the device now, PATCHACT for a
copy that is newer than an active patch; a signed request whose checks pass blows its fuse with its key, one whose checks fail ends with their result;
BBWRITE takes the key and zeroes its bytes, BBCLEAR clears it; GETID answers in the mailbox. A command that may not be given is refused. The ends of
the commands that run, and what happens outside commands (R436, R443, R448, R451, R452, R453): the report with its signature stands in the mailbox; a
patch copy that passes R442, R447 and R448 becomes active by a warm start, one that fails leaves its result; tampering and the loss of the battery
clear the BBRAM key; fuses can be programmed through JTAG until a key slot is; a challenge serves one attempt to unlock; only EXTEST drives balls.
Forms that complete, each with its own effect: secAttest, secPatchact, secKeyprog, secFkeyprog, secRevoke, secBbwrite, secBbclear, secGetid,
attestComplete, patchVerified, tamperEvent, vbatLoss, jtagFuseprog, jtagDbgchal, jtagDbgunlock, jtagBypass, jtagIdcode, jtagSamplePreload, jtagExtest.
-/
def Obligations.SecurityCommandsAct : Prop :=
  (∀ (w : Wr) (s : State), s.dev.admits w 0x30008 = true → bitOf w.data 31 = true →
    (s.dev.secReady = true →
      (GivesDev (.secAttest w) s fun t => t.flag 0x30000 0 = true ∧ t.sys.sec.task = some (.attest (s.dev.attReport s.mem))) ∧
      (let k := (s.dev.rd 0x31000).toNat
       let old : Prop := s.dev.flag 0x30010 1 = true ∧ copyPseq s.mem k ≤ (s.dev.rd 0x30014).toNat
       (k ≤ 1 → ¬ old → GivesDev (.secPatchact w) s fun t => t.flag 0x30000 0 = true ∧ t.sys.sec.task = some (.patch k)) ∧
       (1 < k → GivesDev (.secPatchact w) s fun t => t.secResult = some 4) ∧ (k ≤ 1 → old → GivesDev (.secPatchact w) s fun t => t.secResult = some 7)) ∧
      (∀ ok, s.dev.reqResult s.dev.mboxReq 3 ok = 0 → s.dev.flag 0x3000C (numAt s.dev.mboxReq 8 4) = false → GivesDev (.secKeyprog w ok) s fun t =>
        tabGet (fun _ => []) t.sys.sec.hashes (numAt s.dev.mboxReq 8 4) = s.dev.mbox 0x20 64 ∧ t.flag 0x3000C (numAt s.dev.mboxReq 8 4) = true ∧ t.secResult = some 0) ∧
      (∀ ok, s.dev.reqResult s.dev.mboxReq 3 ok ≠ 0 → GivesDev (.secKeyprog w ok) s fun t =>
        t.secResult = some (s.dev.reqResult s.dev.mboxReq 3 ok) ∧ t.sys.sec.hashes = s.dev.sys.sec.hashes ∧ t.rd 0x3000C = s.dev.rd 0x3000C) ∧
      (∀ ok, s.dev.reqResult s.dev.mboxReq 4 ok = 0 → s.dev.flag 0x3000C 8 = false → GivesDev (.secFkeyprog w ok) s fun t =>
        t.sys.sec.fkey.isSome = true ∧ t.flag 0x3000C 8 = true ∧ t.secResult = some 0) ∧
      (∀ ok, s.dev.reqResult s.dev.mboxReq 2 ok = 0 → s.dev.flag 0x3000C (4 + numAt s.dev.mboxReq 8 4) = false → numAt s.dev.mboxReq 12 4 ≠ numAt s.dev.mboxReq 8 4 →
        GivesDev (.secRevoke w ok) s fun t => t.flag 0x3000C (4 + numAt s.dev.mboxReq 8 4) = true ∧ t.secResult = some 0) ∧
      (s.dev.fget 0x30000 6 2 ≠ 1 → GivesDev (.secBbwrite w) s fun t =>
        t.sys.sec.bbKey = some (s.dev.mbox 0 32) ∧ t.mbox 0 32 = zeros 32 ∧ t.fget 0x30000 6 2 = 1 ∧ t.secResult = some 0) ∧
      (GivesDev (.secBbclear w) s fun t => t.sys.sec.bbKey = none ∧ t.fget 0x30000 6 2 = 2 ∧ t.secResult = some 0) ∧
      (GivesDev (.secGetid w) s fun t => t.mbox 0 133 = devBytes 1 133 ∧ t.mbox 0x100 2048 = devBytes 2 2048 ∧ t.secResult = some 0 ∧ t.sys = { s.dev.sys with sec := { s.dev.sys.sec with task := none } })) ∧
    (s.dev.secReady = false → s.dev.flag 0x30000 0 = false → GivesDev (.secBbwrite w) s fun t =>
      t.secResult = some 1 ∧ t.sys.sec = { s.dev.sys.sec with task := none } ∧ t.flag 0x30004 0 = true ∧
      Device.keepsRegs (fun a => a = 0x30000 ∨ a = 0x30004) s.dev t)) ∧
  (∀ s : State,
    (∀ r, s.dev.sys.sec.task = some (.attest r) → r.length = 3648 → GivesDev .attestComplete s fun t =>
      t.mbox 0 3780 = r ++ signBytes r ∧ t.secResult = some 0 ∧ t.flag 0x30004 6 = true ∧ t.sys.sec.task = none) ∧
    (∀ k saveOk, s.dev.sys.sec.task = some (.patch k) →
      (∀ x p, s.dev.verifyPatch s.mem k x = .ok p → GivesMem (.patchVerified x saveOk) s fun _ t =>
        t.phase = 11 ∧ t.armed = false ∧ t.sys.sec.patch = some p ∧ t.rd 0x30014 = p.seq ∧ t.flag 0x30010 1 = true ∧ t.secResult = some 0 ∧ t.flag 0x30004 4 = true) ∧
      (∀ x r, s.dev.verifyPatch s.mem k x = .error r → GivesMem (.patchVerified x saveOk) s fun m t =>
        t.secResult = some r ∧ t.sys.sec = { s.dev.sys.sec with task := none } ∧ t.phase = s.dev.phase ∧ t.flag 0x30004 5 = true ∧
        m.flash = s.mem.flash ∧ m.host = s.mem.host)) ∧
    (GivesDev .tamperEvent s fun t => t.sys.sec.bbKey = none ∧ t.sys.sec.tamper = true ∧ t.fget 0x30000 6 2 = 2 ∧ t.flag 0x30000 9 = true ∧ ∀ a, a ≠ 0x30000 → t.rd a = s.dev.rd a) ∧
    (GivesDev .vbatLoss s fun t => t.sys.sec.bbKey = none ∧ t.sys.sec.vbatLoss = true ∧ t.fget 0x30000 6 2 = 2 ∧ t.flag 0x30000 10 = false ∧ ∀ a, a ≠ 0x30000 → t.rd a = s.dev.rd a) ∧
    (∀ op, s.dev.fget 0x3000C 0 3 ≠ 0 → GivesDev (.jtagFuseprog op) s fun t => t = s.dev) ∧
    (∀ h, s.dev.fget 0x3000C 0 3 = 0 → GivesDev (.jtagFuseprog (.keyHash h)) s fun t =>
      tabGet (fun _ => []) t.sys.sec.hashes 0 = h ∧ t.flag 0x3000C 0 = true ∧ Device.keepsRegs (fun a => a = 0x3000C ∨ a = 0x30004) s.dev t) ∧
    (∀ k, s.dev.fget 0x3000C 0 3 = 0 → s.dev.flag 0x3000C 8 = false → GivesDev (.jtagFuseprog (.fkey k)) s fun t =>
      t.sys.sec.fkey = some k ∧ t.flag 0x3000C 8 = true ∧ Device.keepsRegs (fun a => a = 0x3000C ∨ a = 0x30004) s.dev t) ∧
    (GivesDev .jtagDbgchal s fun t => 
      t.sys.sec.challenge = some (t.answer.take 32) ∧ t.answer.drop 32 = s.dev.devId ∧ t.answer.length = 48 ∧ ∀ a, t.rd a = s.dev.rd a) ∧
    (∀ req ok, GivesDev (.jtagDbgunlock req ok) s fun t =>
      t.sys.sec.challenge = none ∧
      (s.dev.reqResult req 0x100 ok = 0 → s.dev.sys.sec.challenge = some ((req.drop 0x20).take 32) → t.flag 0x30000 8 = true ∧ ∀ a, a ≠ 0x30000 → t.rd a = s.dev.rd a) ∧
      (s.dev.reqResult req 0x100 ok ≠ 0 ∨ s.dev.sys.sec.challenge ≠ some ((req.drop 0x20).take 32) →
        t.flag 0x30004 0 = true ∧ Device.keepsRegs (fun a => a = 0x30004) s.dev t)) ∧
    (GivesDev .jtagBypass s fun t => t = { s.dev with sys := { s.dev.sys with jtag := { s.dev.sys.jtag with op := .bypass, drive := none } } }) ∧
    (GivesDev .jtagIdcode s fun t => t.sys.jtag.op = .idcode ∧ t.sys.jtag.drive = none ∧ t.answer = devBytes 3 4 ∧ ∀ a, t.rd a = s.dev.rd a) ∧
    (∀ pads pre, GivesDev (.jtagSamplePreload pads pre) s fun t => t = { s.dev with sys := { s.dev.sys with jtag := ⟨.sample, pads, pre, none⟩ } }) ∧
    (∀ drive, GivesDev (.jtagExtest drive) s fun t => t = { s.dev with sys := { s.dev.sys with jtag := { s.dev.sys.jtag with op := .extest, drive := some drive } } }))

/-! The host interface and DDR5 (R455 to R478). -/

/-- The PCIe endpoint (R457, R469, R472, R473): a link-down and a hot reset return HOSTIF to reset and end its transfers, an FLR keeps the link; a
link that comes up shows its speed and width; BAR2 stores the bytes enabled where DDR5 answers and no region cache lies, and reads what is there, a
read that meets an uncorrectable error ending poisoned; its base is taken as applied; errors of DDR5 are counted. Transfers of the device (R474,
R475): queue DMA copies what the writer has passed, each record to its place in the host's ring, and writes the sequence number back; a DMA channel
begins its transfer on GO, moves its bytes, and ends with its result; a busy channel refuses. Forms that complete, each with its own effect:
pcieReset, pcieLinkUp, bar2Access, bar2baseWrite, ddrUncorrectable, ddrCorrected, queueDmaCopy, dmaGo, dmaComplete. -/
def Obligations.HostAndTransfersAct : Prop :=
  (∀ s : State,
    (∀ k, GivesDev (.pcieReset k) s fun t =>
      (∀ a, a / 0x10000 ≠ 0x0D → t.rd a = s.dev.rd a) ∧ t.sys.dma = [] ∧ (s.dev.sys.flOp.isSome = true → t.rd 0xD0050 = s.dev.rd 0xD0050) ∧
      (k = .flr → t.flag 0xD0004 4 = true ∧ t.linkUp = s.dev.linkUp) ∧ (k ≠ .flr → t.linkUp = false ∧ t.sys.linkLost = true) ∧ t.chan = s.dev.chan ∧ t.execs = s.dev.execs) ∧
    (∀ speed width, s.dev.refCount false = 8192 → GivesDev (.pcieLinkUp speed width) s fun t =>
      t.linkUp = true ∧ t.fget 0xD0000 1 2 = max 1 speed.val ∧ t.fget 0xD0000 3 3 = 2 ^ width.val ∧ t.flag 0x10000 5 = true ∧ t.sys.linkLost = false ∧
      (s.dev.sys.linkLost = true → t.flag 0xD0004 3 = true) ∧ Device.keepsRegs (fun a => a = 0xD0000 ∨ a = 0xD0004 ∨ a = 0x10000) s.dev t) ∧
    (∀ (off : BitVec 28) (bs : List (Option Byte)),
      (let a := s.dev.fget 0xD000C 0 16 * 2 ^ 20 + off.toNat
       (s.dev.writesOn = true → GivesMem (.bar2Access (.write off bs)) s fun m t =>
         (∀ q, m.ddrRead q 1 =
           match (if a ≤ q ∧ q < a + (2 ^ 28 - off.toNat) ∧ s.dev.ddrAt q = true ∧ s.dev.inCache q = false then (bs[q - a]?).join else none) with
           | some b => [b]
           | none => s.mem.ddrRead q 1) ∧
         m.flash = s.mem.flash ∧ m.host = s.mem.host ∧ t.plant = s.dev.plant ∧ Device.keepsRegs (fun r => r = 0xD0004) s.dev t) ∧
       (s.dev.writesOn = false → GivesMem (.bar2Access (.write off bs)) s fun m t =>
         m = s.mem ∧ t.plant = s.dev.plant ∧ t.flag 0xD0004 5 = true ∧ Device.keepsRegs (fun r => r = 0xD0004) s.dev t) ∧
       (∀ len bad, len ≤ 2 ^ 28 - off.toNat → bad = false ∨ s.dev.ddrOpen = false → GivesMem (.bar2Access (.read off len bad)) s fun m t =>
         m = s.mem ∧ t.answer.length = len ∧ (∀ i < len, t.answer[i]? = some (if s.dev.ddrAt (a + i) then (s.mem.ddrRead (a + i) 1).headD 0 else 0)) ∧
         t.poisoned = false ∧ { t.plant with answer := s.dev.answer, poisoned := s.dev.poisoned } = s.dev.plant ∧ Device.keepsRegs (fun r => r = 0xD0004) s.dev t) ∧
       ∀ len, len ≤ 2 ^ 28 - off.toNat → s.dev.ddrOpen = true → GivesMem (.bar2Access (.read off len true)) s fun m t =>
         m = s.mem ∧ t.answer.length = len ∧ t.poisoned = true ∧
         { t.plant with answer := s.dev.answer, poisoned := s.dev.poisoned, freeCtr := s.dev.freeCtr } = s.dev.plant ∧ Device.keepsRegs (fun r => r = 0xD0004) s.dev t)) ∧
    (∀ w, s.dev.admits w 0xD000C = true → GivesDev (.bar2baseWrite w) s fun t =>
      t.rd 0xD000C = storeWord 0xD000C (s.dev.cook 0xD000C w.data).1 ∧ t.plant = s.dev.plant ∧ Device.keepsRegs (fun a => a = 0xD000C ∨ a = 0xD0004) s.dev t) ∧
    (∀ addr : BitVec 36,
      (s.dev.ddrOpen = true → GivesDev (.ddrUncorrectable addr) s fun t =>
        t.rd 0xC000C = s.dev.rd 0xC000C + 1 ∧ t.rd 0xC0010 = BitVec.ofNat 32 (addr.toNat / 16) ∧ t.flag 0xC0004 1 = true ∧ t.rd 0x50040 = s.dev.rd 0x50040 + 1 ∧
        t.plant = s.dev.plant ∧ Device.keepsRegs (fun a => a = 0xC0004 ∨ a = 0xC000C ∨ a = 0xC0010) s.dev t) ∧
      (s.dev.ddrOpen = true → GivesDev .ddrCorrected s fun t =>
        t.rd 0xC0008 = s.dev.rd 0xC0008 + 1 ∧ t.flag 0xC0004 0 = true ∧ t.plant = s.dev.plant ∧ Device.keepsRegs (fun a => a = 0xC0004 ∨ a = 0xC0008) s.dev t) ∧
      (s.dev.ddrOpen = false → GivesDev (.ddrUncorrectable addr) s fun t => t = s.dev))) ∧
  (∀ s : State,
    (∀ q : Fin 16,
      (let w := (s.dev.rd (aRESQ q 0x10)).toNat
       let x := s.dev.que q
       let n := (w + 2 ^ 32 - x.dmaSeq) % 2 ^ 32
       let size := 2 ^ s.dev.fget (aRESQ q 8) 0 5
       let h := s.dev.hostAddr (aHQ q 0)
       let b := s.dev.hostAddr (aHQ q 8)
       s.dev.flag (aHQ q 0x10) 0 = true → s.dev.linkUp = true → s.dev.ddrOpen = true → n ≠ 0 → n ≤ size → b + 4 ≤ h ∨ h + 32 * size ≤ b →
       GivesMem (.queueDmaCopy q) s fun m t =>
         (t.que q).dmaSeq = w ∧ m.hostRead b 4 = leBytes 4 w ∧
         (∀ j < n, m.hostRead (h + 32 * ((x.dmaSeq + j) % size)) 32 = s.mem.ddrRead (s.dev.regBase (3 + q) + 32 * ((x.dmaSeq + j) % size)) 32) ∧
         (∀ a, (a < b ∨ b + 4 ≤ a) → (a < h ∨ h + 32 * size ≤ a) → m.hostRead a 1 = s.mem.hostRead a 1) ∧
         m.ddr = s.mem.ddr ∧ m.flash = s.mem.flash ∧ (∀ p, p ≠ q.val → t.que p = s.dev.que p) ∧ ∀ a, a ≠ 0xD9000 → t.rd a = s.dev.rd a)) ∧
    (∀ (n : Fin 8) (w : Wr), s.dev.admits w (aHD n 0x10) = true →
      (s.dev.flag (aHD n 0x14) 0 = false → GivesDev (.dmaGo n w) s fun t =>
        t.rd (aHD n 0x14) = 1 ∧
        tabGet (fun _ => none) t.sys.dma n = some ⟨bitOf w.data 0, (s.dev.rd (aHD n 0)).toNat * 16, s.dev.hostAddr (aHD n 4), (s.dev.rd (aHD n 0xC)).toNat⟩ ∧
        (∀ k, k ≠ n.val → tabGet (fun _ => none) t.sys.dma k = tabGet (fun _ => none) s.dev.sys.dma k) ∧
        Device.keepsRegs (fun a => a = aHD n 0x10 ∨ a = aHD n 0x14 ∨ a = 0xD0004) s.dev t) ∧
      (s.dev.flag (aHD n 0x14) 0 = true → GivesDev (.dmaGo n w) s fun t =>
        t.plant = s.dev.plant ∧ t.flag 0xD0004 5 = true ∧ Device.keepsRegs (fun a => a = 0xD0004) s.dev t)) ∧
    (∀ (n : Fin 8) (j : DmaJob), tabGet (fun _ => none) s.dev.sys.dma n = some j →
      (s.dev.linkUp = false → ∀ r, GivesMem (.dmaComplete n r) s fun m t => m = s.mem ∧ t.fget (aHD n 0x14) 0 3 = 2 ∧ tabGet (fun _ => none) t.sys.dma n = none) ∧
      (s.dev.linkUp = true → s.dev.ddrMissing j.ddr j.len = false → j.toDdr = false → GivesMem (.dmaComplete n .ok) s fun m t =>
        m.hostRead j.host j.len = s.mem.ddrRead j.ddr j.len ∧ (∀ a, a < j.host ∨ j.host + j.len ≤ a → m.hostRead a 1 = s.mem.hostRead a 1) ∧
        m.ddr = s.mem.ddr ∧ m.flash = s.mem.flash ∧ t.fget (aHD n 0x14) 0 3 = 0 ∧ tabGet (fun _ => none) t.sys.dma n = none) ∧
      (s.dev.linkUp = true → s.dev.ddrMissing j.ddr j.len = false → s.dev.hitsCache j.ddr j.len = false → j.toDdr = true → GivesMem (.dmaComplete n .ok) s fun m t =>
        m.ddrRead j.ddr j.len = s.mem.hostRead j.host j.len ∧ (∀ a, a < j.ddr ∨ j.ddr + j.len ≤ a → m.ddrRead a 1 = s.mem.ddrRead a 1) ∧
        m.host = s.mem.host ∧ m.flash = s.mem.flash ∧ t.fget (aHD n 0x14) 0 3 = 0 ∧ tabGet (fun _ => none) t.sys.dma n = none) ∧
      (s.dev.linkUp = true → GivesMem (.dmaComplete n .poisoned) s fun _ t => t.fget (aHD n 0x14) 0 3 = 4 ∧ tabGet (fun _ => none) t.sys.dma n = none)))

/-- Flash access and capture buffers (R411, R466, R476, R477): an operation with GO runs where its offset and length allow, else it is refused; ERASE
leaves ones, PROGRAM leaves the bytes of DDR5 where flash was erased, READ brings flash to DDR5; a buffer without open runs is emptied by RESET; a
read of DDR_CBWR gives the count and latches its high part. Forms that complete, each with its own effect: flashRead, flashProgram, flashErase,
flashOpComplete, cbReset, ddrCbwrRead. -/
def Obligations.FlashAndBuffersFollow : Prop :=
  ∀ s : State,
    (∀ w : Wr, ∀ raw c, (raw, c) ∈ [(setBits w.data 0 2 0, Instr.flashRead w), (setBits w.data 0 2 1, .flashProgram w), (setBits w.data 1 1 1, .flashErase w)] →
      s.dev.admits w 0xD0040 = true → bitOf w.data 31 = true →
      (let j : FlashJob := ⟨bitsOf (s.dev.cook 0xD0040 raw).1 0 2, s.dev.fget 0xD0044 0 28, s.dev.fget 0xD0048 0 25, (s.dev.rd 0xD004C).toNat * 16⟩
       (s.dev.sys.flOp = none → flashOk j = true → GivesDev c s fun t =>
         t.sys = { s.dev.sys with flOp := some j } ∧ t.rd 0xD0050 = 1 ∧ Device.keepsRegs (fun a => a = 0xD0050 ∨ a = 0xD0004) s.dev t) ∧
       (s.dev.sys.flOp = none → flashOk j = false → GivesDev c s fun t =>
         t.plant = s.dev.plant ∧ t.rd 0xD0050 = 2 ∧ t.flag 0xD0004 5 = true ∧ Device.keepsRegs (fun a => a = 0xD0050 ∨ a = 0xD0004) s.dev t) ∧
       (s.dev.sys.flOp.isSome = true → GivesDev c s fun t =>
         t.plant = s.dev.plant ∧ t.flag 0xD0004 5 = true ∧ Device.keepsRegs (fun a => a = 0xD0004) s.dev t))) ∧
    (∀ j, s.dev.sys.flOp = some j →
      (j.op = 2 → GivesMem (.flashOpComplete true) s fun m t =>
        (∀ a, m.flashRead a 1 = if j.ofs ≤ a ∧ a < j.ofs + j.len then [0xFF] else s.mem.flashRead a 1) ∧ m.ddr = s.mem.ddr ∧ m.host = s.mem.host ∧
        t.sys.flOp = none ∧ t.rd 0xD0050 = 0) ∧
      (j.op = 1 → s.dev.ddrMissing j.ddr j.len = false → s.dev.ddrOpen = true → s.mem.flashRead j.ofs j.len = List.replicate j.len 0xFF → GivesMem (.flashOpComplete true) s fun m t =>
        m.flashRead j.ofs j.len = s.mem.ddrRead j.ddr j.len ∧ (∀ a, a < j.ofs ∨ j.ofs + j.len ≤ a → m.flashRead a 1 = s.mem.flashRead a 1) ∧
        m.ddr = s.mem.ddr ∧ m.host = s.mem.host ∧ t.sys.flOp = none ∧ t.rd 0xD0050 = 0) ∧
      (j.op = 0 → s.dev.ddrMissing j.ddr j.len = false → s.dev.ddrOpen = true → s.dev.hitsCache j.ddr j.len = false →
        GivesMem (.flashOpComplete true) s fun m t =>
          m.ddrRead j.ddr j.len = s.mem.flashRead j.ofs j.len ∧ (∀ a, a < j.ddr ∨ j.ddr + j.len ≤ a → m.ddrRead a 1 = s.mem.ddrRead a 1) ∧
          m.flash = s.mem.flash ∧ m.host = s.mem.host ∧ t.sys.flOp = none ∧ t.rd 0xD0050 = 0) ∧
      GivesMem (.flashOpComplete false) s fun _ t => t.sys.flOp = none ∧ t.rd 0xD0050 = 4) ∧
    (∀ (b : Fin 64) (w : Wr), s.dev.admits w (aCB b 0x1C) = true →
      (s.dev.openRuns b = [] → GivesDev (.cbReset b w) s fun t =>
        tabGet (fun _ => CapBuf.init) t.capBufs b = CapBuf.init ∧ t.flag (aCB b 0x14) 0 = false ∧ t.rd (aCB b 0x18) = 0 ∧
        (∀ c, c ≠ b.val → tabGet (fun _ => CapBuf.init) t.capBufs c = tabGet (fun _ => CapBuf.init) s.dev.capBufs c) ∧
        Device.keepsRegs (fun a => a = aCB b 0x14 ∨ a = aCB b 0x18) s.dev t) ∧
      (s.dev.openRuns b ≠ [] → GivesDev (.cbReset b w) s fun t =>
        t.plant = s.dev.plant ∧ t.flag 0xC0004 4 = true ∧ Device.keepsRegs (fun a => a = 0xC0004) s.dev t)) ∧
    (∀ b : Fin 64, 5 ≤ s.dev.fget 0x20000 0 5 → s.dev.dead (aCB b 0xC) = false → GivesDev (.ddrCbwrRead b) s fun t =>
      t.answer = leBytes 4 (s.dev.cbCount b) ∧ t.fget (aCB b 0x10) 0 16 = s.dev.cbCount b / 2 ^ 32 % 2 ^ 16 ∧
      { t.plant with answer := s.dev.answer } = s.dev.plant ∧ ∀ a, a ≠ aCB b 0xC → a ≠ aCB b 0x10 → t.rd a = s.dev.rd a)

/-! The Chord link (R480 to R497). -/

/-- Ports and members of the link (R481, R482, R484, R485, R493): a port that goes DOWN shows it and is counted, and a member whose UP port it is
leaves the tree with its ID; a port that is UP again shows it, a device on whose UP port this happens asks to join, and the origins learned there are
those of the far end; the root answers a join with the ID of its path, else the lowest free one, else a refusal; an assignment gives the device its ID
or refuses it; an enumeration numbers the members in preorder and empties the token table, and is refused off the root or while a list is ARMED or
RUNNING or an origin is asserted. Capo over the link (R486, R492): a CAPO message that has not acted yet changes the set of origins as it says, a
further copy of it does nothing; ASSERT goes out again each millisecond while a cause stands. Forms that complete, each with its own effect:
chordPortDown, chordPortUp, joinMessage, assignMessage, chordEnum, chordClrorig, capoMessage, capoAssertRepeat. -/
def Obligations.TreeAndCapoFollowLink : Prop :=
  (∀ s : State,
    (∀ p : Fin 4, s.dev.fget (aPORT p 0) 0 2 ≠ 0 → GivesDdr (.chordPortDown p) s fun t =>
      t.fget (aPORT p 0) 0 2 = 0 ∧ t.fget (aPORT p 0) 16 16 = (s.dev.fget (aPORT p 0) 16 16 + 1) % 2 ^ 16 ∧ t.flag 0xB0004 2 = true ∧
      t.chordState = (if p = 0 ∧ s.dev.chordState ≠ 6 then 0 else s.dev.chordState) ∧ t.chordId = s.dev.chordId ∧ t.link.origins = s.dev.link.origins) ∧
    (∀ (p : Fin 4) (far : List (BitVec 11)), s.dev.fget (aPORT p 0) 0 2 < 2 → GivesDdr (.chordPortUp p far) s fun t =>
      t.fget (aPORT p 0) 0 2 = 2 ∧ t.flag 0xB0004 3 = true ∧ t.chordState = (if p = 0 ∧ s.dev.chordState ≠ 6 then 1 else s.dev.chordState) ∧
      (p = 0 → s.dev.chordState ≠ 6 → s.dev.failedState = false → (0, LinkMsg.join 0 []) ∈ t.link.sent) ∧
      (∀ o ∈ far, o.toNat ≠ s.dev.chordId → o.toNat ∈ t.link.origins.map Prod.fst) ∧
      (∀ o, o.2 ≠ p.val → (o ∈ t.link.origins ↔ o ∈ s.dev.link.origins)) ∧ ∀ o ∈ t.link.origins, o.2 = p.val → o.1 ∈ far.map BitVec.toNat) ∧
    (∀ j : JoinMsg, s.dev.failedState = false →
      (let path := j.path.map Fin.val
       (j.unit_ = 0 → s.dev.chordState = 1 → s.dev.portUp 0 = true → GivesDdr (.joinMessage j) s fun t =>
         t = { s.dev with ddrOut := [], link := { s.dev.link with sent := s.dev.link.sent ++ [(0, .join 0 path)] } }) ∧
       (j.unit_ ≠ 0 → s.dev.chordState = 6 → GivesDdr (.joinMessage j) s fun t =>
         t.link.sent = s.dev.link.sent ++
           ((path[s.dev.fget 0xB0000 4 4]?.map (· + 1)).toList.filter s.dev.portSends).map (fun q => (q, .assign j.unit_ path (s.dev.idFor path))) ∧
         (∀ i, s.dev.idFor path = some i → (path, i) ∈ t.link.members ∧ ∀ m ∈ s.dev.link.members, m ∈ t.link.members) ∧
         (s.dev.idFor path = none → t.link.members = s.dev.link.members ∧ t.flag 0xB0004 4 = true) ∧
         Device.keepsRegs (fun a => a = 0xB0004 ∨ a = 0xB0028) s.dev t))) ∧
    (∀ j : AssignMsg, j.unit_ = 0 → s.dev.chordState ≠ 6 → GivesDdr (.assignMessage j) s fun t =>
      (∀ i, j.ident = some i → t.chordId = i.toNat ∧ t.chordState = (if s.dev.chordState = 1 ∨ s.dev.chordState = 5 then 2 else s.dev.chordState) ∧
        t.fget 0xB0000 4 4 = j.path.length % 2 ^ 4) ∧
      (j.ident = none → t.chordState = 5 ∧ t.fget (aPORT 0 0) 0 2 = 3 ∧ t.flag 0xB0004 4 = true)) ∧
    (∀ w : Wr, s.dev.admits w 0xB000C = true →
      (bitOf w.data 1 = false → s.dev.chordState = 6 → s.dev.listsBusy = false → s.dev.sys.capo.asserting = false → s.dev.link.origins = [] →
        GivesDdr (.chordEnum w) s fun t =>
          t.link.members.map Prod.snd = (List.range s.dev.link.members.length).map (· + 1) ∧
          (∀ p, p ∈ t.link.members.map Prod.fst ↔ p ∈ s.dev.link.members.map Prod.fst) ∧
          t.link.members.Pairwise (fun x y => pathLe x.1 y.1 = true) ∧ (∀ i < 2047, t.flag (aTOK i) 3 = false) ∧
          t.lists = s.dev.lists ∧ t.execs = s.dev.execs ∧ t.chan = s.dev.chan) ∧
      (bitOf w.data 1 = false → s.dev.chordState ≠ 6 ∨ s.dev.listsBusy = true ∨ s.dev.sys.capo.asserting = true ∨ s.dev.link.origins ≠ [] → GivesDdr (.chordEnum w) s fun t =>
        t.plant = s.dev.plant ∧ t.flag 0xB0004 9 = true ∧ Device.keepsRegs (fun a => a = 0xB0004) s.dev t) ∧
      GivesDdr (.chordClrorig w) s fun t =>
        t.link.origins = s.dev.link.origins.filter (fun o => decide (2 ≤ s.dev.fget (aPORT o.2 0) 0 2)) ∧ t.fget 0xB0024 0 11 = t.link.origins.length % 2 ^ 11)) ∧
  (∀ s : State,
    (∀ m : CapoMsg, s.dev.portUp m.port = true → s.dev.chordState ≠ 5 →
      (let o := m.origin.toNat
       (s.dev.link.seenCapo.contains (o, m.seq) = false → GivesDdr (.capoMessage m) s fun t =>
         t.link.seenCapo.contains (o, m.seq) = true ∧ (o ≠ s.dev.chordId → (o ∈ t.link.origins.map Prod.fst ↔ m.assert_ = true)) ∧
         (∀ x, x.1 ≠ o → (x ∈ t.link.origins ↔ x ∈ s.dev.link.origins)) ∧
         (s.dev.failedState = false → ∀ q < 4, q ≠ m.port.val → s.dev.portSends q = true → (q, LinkMsg.capo o m.assert_) ∈ t.link.sent)) ∧
       (s.dev.link.seenCapo.contains (o, m.seq) = true → GivesDdr (.capoMessage m) s fun t => t.plant = s.dev.plant ∧ ∀ a, t.rd a = s.dev.rd a))) ∧
    (s.dev.sys.capo.asserting = true → s.dev.sys.capo.sentAt + 20480 ≤ s.dev.edge → s.dev.chordState ≠ 5 → s.dev.failedState = false →
      GivesDev .capoAssertRepeat s fun t =>
        t.link = { s.dev.link with sent := s.dev.link.sent ++ ([0, 1, 2, 3].filter s.dev.portSends).map fun q => (q, .capo s.dev.chordId true) } ∧ t.sys.capo = { s.dev.sys.capo with sentAt := s.dev.edge } ∧
        ∀ a, t.rd a = s.dev.rd a))

/-- Triggers over the link (R486, R490, R491): a TRIG for this device waits for its edge, or acts at the next edge with CHORD_EVENT.LATE when that
edge has passed; one for another device only goes on; CHORD_SEND with GO sends one and, where the destination names the device, waits for it too, and
is refused off the tree's aligned part. Alignment and time over the link (R486 to R489, R497): the sixteenth POS message in a row within the limits
makes a device ALIGNED and sets its sample-edge count; the fourth in a row beyond them takes it out; a device too far from the root stays JOINED; the
root sends POS with its count and its axes; a latency exchange goes out and its reply sets the hop latency and the latency from the root; a read of
the count gives its low word and latches the high one. Tokens and wake (R404, R494, R495): a joined device sends its token; the root keeps the token
of each ID until it is older than 5 ms; a WAKE message ends QUIET with cause CHORD. Forms that complete, each with its own effect: trigMessage,
chordSendGo, posMessage, posSend, timeExchange, timeReply, chordSedgeloRead, statusSend, statusToken, tokenAgeExpiry, wakeMessage. -/
def Obligations.LinkCarriesTriggersAndTime : Prop :=
  (∀ s : State,
    (∀ m : TrigMsg, s.dev.portUp m.port = true → s.dev.inTree = true → s.dev.quiet = false → s.dev.link.seenTrig.contains (m.sender.toNat, m.seq) = false →
      (let ahead := fwd s.dev.link.sedge m.edgeN.toNat
       let mine := m.dest.toNat = 2047 ∨ m.dest.toNat = s.dev.chordId
       GivesDev (.trigMessage m) s fun t =>
         (mine → 0 < ahead → ahead < 2 ^ 47 → t.link.trigs = s.dev.link.trigs ++ [(m.list.val, s.dev.edge + ahead)] ∧ ∀ a, t.rd a = s.dev.rd a) ∧
         (mine → ahead = 0 ∨ 2 ^ 47 ≤ ahead → t.link.trigs = s.dev.link.trigs ++ [(m.list.val, s.dev.edge + 1)] ∧ t.flag 0xB0004 5 = true) ∧
         (¬ mine → t.link.trigs = s.dev.link.trigs ∧ ∀ a, t.rd a = s.dev.rd a) ∧
         (s.dev.failedState = false → ∀ q < 4, q ≠ m.port.val → s.dev.portSends q = true →
           (q, LinkMsg.trig m.sender.toNat m.dest.toNat m.list m.edgeN.toNat) ∈ t.link.sent) ∧ t.lists = s.dev.lists ∧ t.execs = s.dev.execs)) ∧
    (∀ w : Wr, s.dev.admits w 0xB0010 = true →
      (let dest := bitsOf w.data 8 11
       let l := bitsOf w.data 0 8
       let n := (s.dev.link.sedge + 1 + s.dev.fget 0xB0008 0 11) % 2 ^ 48
       (s.dev.maySend = true → s.dev.failedState = false → GivesDev (.chordSendGo w) s fun t =>
         t.link.sent = s.dev.link.sent ++ ([0, 1, 2, 3].filter s.dev.portSends).map (fun q => (q, .trig s.dev.chordId dest l n)) ∧
         (dest = 2047 ∨ dest = s.dev.chordId → t.link.trigs = s.dev.link.trigs ++ [(l, s.dev.edge + 1 + s.dev.fget 0xB0008 0 11)]) ∧
         (dest ≠ 2047 → dest ≠ s.dev.chordId → t.link.trigs = s.dev.link.trigs) ∧ t.lists = s.dev.lists ∧ t.execs = s.dev.execs) ∧
       (s.dev.maySend = false → GivesDev (.chordSendGo w) s fun t =>
         t.plant = s.dev.plant ∧ t.flag 0xB0004 9 = true ∧ Device.keepsRegs (fun a => a = 0xB0004) s.dev t)))) ∧
  (∀ s : State,
    (∀ m : PosMsg, s.dev.portUp 0 = true → s.dev.quiet = false → s.dev.flag 0x10000 14 = false → s.dev.flag 0x10000 12 = true →
      (s.dev.chordState = 3 → s.dev.horizon ≤ 1024 → 15 ≤ s.dev.link.inRow → m.phaseErr.natAbs ≤ 50 → GivesDdr (.posMessage m) s fun t =>
        t.chordState = 4 ∧ t.flag 0xB0004 0 = true ∧ t.link.sedge = (m.sedge.toNat + (s.dev.edge - m.localEdge)) % 2 ^ 48 ∧ t.edge = s.dev.edge) ∧
      (s.dev.chordState = 4 → s.dev.horizon ≤ 1024 → 3 ≤ s.dev.link.outRow → 100 < m.phaseErr.natAbs → GivesDdr (.posMessage m) s fun t =>
        t.chordState = 3 ∧ t.flag 0xB0004 1 = true ∧ t.link.sedge = s.dev.link.sedge) ∧
      (s.dev.chordState = 2 ∨ s.dev.chordState = 3 → 1024 < s.dev.horizon → GivesDdr (.posMessage m) s fun t =>
        t.chordState = 2 ∧ t.flag 0xB0004 7 = true)) ∧
    (s.dev.chordState = 6 → s.dev.quiet = false → s.dev.failedState = false → s.dev.link.posDue ≤ 100000 * s.dev.edge → GivesDev .posSend s fun t =>
      ∃ (p : PosMsg) (due : Nat),
        t = { s.dev with link := { s.dev.link with posDue := due, sent := s.dev.link.sent ++ ([1, 2, 3].filter s.dev.portSends).map fun q => (q, .pos p) } } ∧
        100000 * s.dev.edge < due ∧ due ≤ 100000 * s.dev.edge + 524288 ∧ p.sedge = BitVec.ofNat 48 s.dev.link.sedge ∧
        p.axes.map PosAxis.count = (List.range 4).map fun a => BitVec.ofNat 48 (s.dev.ax a).c) ∧
    (s.dev.portSends 0 = true → s.dev.chordState ≠ 5 → s.dev.failedState = false → s.dev.passed 2048 s.dev.link.timeAt = true → GivesDev .timeExchange s fun t =>
      t = { s.dev with link := { s.dev.link with timeAt := some s.dev.edge, sent := s.dev.link.sent ++ [(0, .time)] } }) ∧
    (∀ x : TimeStamps, s.dev.portSends 0 = true → GivesDev (.timeReply 0 x) s fun t =>
      (let hop := ((x.t4 - x.t1) - (x.t3 - x.t2) + s.dev.fgetS (aPORT 0 8) 0 16) / 2
       t.link = { s.dev.link with hops := (hop :: s.dev.link.hops).take 16 } ∧ t.fget 0xB0020 0 24 = (x.parentLat + hop.toNat) % 2 ^ 24 ∧
       ∀ a, a ≠ aPORT 0 4 → a ≠ 0xB0020 → t.rd a = s.dev.rd a)) ∧
    (5 ≤ s.dev.fget 0x20000 0 5 → s.dev.dead 0xB0014 = false → GivesDev .chordSedgeloRead s fun t =>
      t.answer = leBytes 4 s.dev.link.sedge ∧ t.fget 0xB0018 0 16 = s.dev.link.sedge / 2 ^ 32 % 2 ^ 16 ∧ t.link = s.dev.link ∧
      ∀ a, a ≠ 0xB0014 → a ≠ 0xB0018 → t.rd a = s.dev.rd a)) ∧
  (∀ s : State,
    (s.dev.inTree = true → s.dev.chordState ≠ 6 → s.dev.quiet = false → s.dev.failedState = false → s.dev.portUp 0 = true →
      s.dev.passed 20480 s.dev.link.statusAt = true → GivesDev .statusSend s fun t =>
      t = { s.dev with link := { s.dev.link with statusAt := some s.dev.edge, sent := s.dev.link.sent ++ [(0, .status s.dev.ownToken)] } }) ∧
    (∀ k : Token, s.dev.chordState = 6 → k.id.toNat ≤ 2046 → GivesDev (.statusToken k) s fun t =>
      (let a := aTOK k.id.toNat
       t.fget a 0 2 = k.capo.toNat ∧ t.flag a 2 = k.aligned ∧ t.flag a 3 = true ∧ t.fget a 8 8 = min 255 k.running ∧ t.fget a 16 16 = k.cntp.toNat ∧
       ∀ b, b ≠ a → t.rd b = s.dev.rd b)) ∧
    (∀ i : Fin 2047, s.dev.flag (aTOK i) 3 = true → tabGet (fun _ => 0) s.dev.link.tokenAt i + 102400 < s.dev.edge →
      GivesDev (.tokenAgeExpiry i) s fun t => t.flag (aTOK i) 3 = false ∧ t.plant = s.dev.plant ∧ ∀ b, b ≠ aTOK i → t.rd b = s.dev.rd b) ∧
    (∀ (p : Fin 4) (sender : BitVec 11), s.dev.portUp p = true → s.dev.chordState ≠ 5 → GivesDdr (.wakeMessage p sender) s fun t =>
      t.flag 0xB0004 8 = true ∧ t.quiet = false ∧ (s.dev.quiet = true → t.fget 0x20028 0 2 = 2) ∧ (s.dev.quiet = false → t.chan = s.dev.chan ∧ t.execs = s.dev.execs)))

end
end

