-- ==== Sys2Proof/Laws/Bits.lean ====
section
/-!
SUPPORT. Laws of bit fields: a field read after it is written, and the fields beside it.
-/

namespace Sys2Proof.Machine

theorem bitsOf_lt (v : Word) (lo n : Nat) : bitsOf v lo n < 2 ^ n := Nat.mod_lt _ (by positivity)

theorem setBits_toNat (v : Word) {lo n : Nat} (x : Nat) (h : lo + n ≤ 32) :
    (setBits v lo n x).toNat = v.toNat % 2 ^ lo + (x % 2 ^ n) * 2 ^ lo + (v.toNat / 2 ^ (lo + n)) * 2 ^ (lo + n) := by
  rw [setBits, BitVec.toNat_ofNat, Nat.mod_eq_of_lt]
  have h1 : v.toNat % 2 ^ lo < 2 ^ lo := Nat.mod_lt _ (by positivity)
  have h2 : x % 2 ^ n < 2 ^ n := Nat.mod_lt _ (by positivity)
  have h3 : v.toNat < 2 ^ 32 := v.isLt
  have h4 : v.toNat / 2 ^ (lo + n) < 2 ^ (32 - (lo + n)) := by
    rw [Nat.div_lt_iff_lt_mul (by positivity), ← Nat.pow_add]
    have : 32 - (lo + n) + (lo + n) = 32 := by omega
    rwa [this]
  have h5 : v.toNat % 2 ^ lo + (x % 2 ^ n) * 2 ^ lo < 2 ^ (lo + n) := by
    rw [Nat.pow_add]
    calc v.toNat % 2 ^ lo + (x % 2 ^ n) * 2 ^ lo < 2 ^ lo + (x % 2 ^ n) * 2 ^ lo := by omega
      _ = (x % 2 ^ n + 1) * 2 ^ lo := by ring
      _ ≤ 2 ^ n * 2 ^ lo := Nat.mul_le_mul_right _ h2
      _ = 2 ^ lo * 2 ^ n := by ring
  calc _ < 2 ^ (lo + n) + (v.toNat / 2 ^ (lo + n)) * 2 ^ (lo + n) := by omega
    _ = (v.toNat / 2 ^ (lo + n) + 1) * 2 ^ (lo + n) := by ring
    _ ≤ 2 ^ (32 - (lo + n)) * 2 ^ (lo + n) := Nat.mul_le_mul_right _ h4
    _ = 2 ^ 32 := by rw [← Nat.pow_add]; congr 1; omega

/-- The bits of a word after a field of it is replaced. -/
theorem setBits_testBit (v : Word) {lo n : Nat} (x : Nat) (h : lo + n ≤ 32) (i : Nat) :
    (setBits v lo n x).toNat.testBit i =
      if i < lo then v.toNat.testBit i else if i < lo + n then x.testBit (i - lo) else v.toNat.testBit i := by
  rw [setBits_toNat v x h]
  have e : v.toNat % 2 ^ lo + (x % 2 ^ n) * 2 ^ lo + (v.toNat / 2 ^ (lo + n)) * 2 ^ (lo + n)
      = 2 ^ lo * (2 ^ n * (v.toNat / 2 ^ (lo + n)) + x % 2 ^ n) + v.toNat % 2 ^ lo := by
    rw [Nat.pow_add]; ring
  rw [e, Nat.testBit_two_pow_mul_add _ (Nat.mod_lt _ (by positivity))]
  by_cases h1 : i < lo
  · simp [h1, Nat.testBit_mod_two_pow]
  · rw [if_neg h1, if_neg h1, Nat.testBit_two_pow_mul_add _ (Nat.mod_lt _ (by positivity))]
    by_cases h2 : i - lo < n
    · have h3 : i < lo + n := by omega
      simp [h2, h3, Nat.testBit_mod_two_pow]
    · have h3 : ¬ i < lo + n := by omega
      rw [if_neg h2, if_neg h3, Nat.testBit_div_two_pow]
      congr 1; omega

theorem bitsOf_testBit (v : Word) (lo n i : Nat) : (bitsOf v lo n).testBit i = (decide (i < n) && v.toNat.testBit (lo + i)) := by
  simp [bitsOf, Nat.testBit_mod_two_pow, Nat.testBit_shiftRight]

/-- A field holds what was written to it, cut to its width. -/
@[simp] theorem bitsOf_setBits_same (v : Word) {lo n : Nat} (x : Nat) (h : lo + n ≤ 32) :
    bitsOf (setBits v lo n x) lo n = x % 2 ^ n := by
  apply Nat.eq_of_testBit_eq
  intro i
  rw [bitsOf_testBit, setBits_testBit v x h, Nat.testBit_mod_two_pow]
  by_cases hi : i < n
  · simp [hi]
  · simp [hi]

/-- A field that shares no bit with the one written keeps its value. -/
theorem bitsOf_setBits_disjoint (v : Word) {lo n : Nat} (x : Nat) {lo' n' : Nat} (h : lo + n ≤ 32)
    (hd : lo' + n' ≤ lo ∨ lo + n ≤ lo') : bitsOf (setBits v lo n x) lo' n' = bitsOf v lo' n' := by
  apply Nat.eq_of_testBit_eq
  intro i
  rw [bitsOf_testBit, bitsOf_testBit, setBits_testBit v x h]
  by_cases hi : i < n'
  · rcases hd with hd | hd
    · have : lo' + i < lo := by omega
      simp [this]
    · have h1 : ¬ lo' + i < lo := by omega
      have h2 : ¬ lo' + i < lo + n := by omega
      simp [h1, h2]
  · simp [hi]

/-- Writing a field twice leaves the second value. -/
theorem setBits_setBits (v : Word) {lo n : Nat} (x y : Nat) (h : lo + n ≤ 32) :
    setBits (setBits v lo n x) lo n y = setBits v lo n y := by
  apply BitVec.eq_of_toNat_eq
  apply Nat.eq_of_testBit_eq
  intro i
  simp only [setBits_testBit _ _ h]
  split
  · rfl
  · split <;> rfl

end Sys2Proof.Machine
end

