-- ==== Sys2Proof/Laws/Sparse.lean ====
section
/-!
SUPPORT. Laws of sparse tables: a read after a write, and the canonical form kept by every write.
-/

namespace Sys2Proof.Machine

variable {α : Type}

theorem tabGet_tabPut (d : Nat → α) (k : Nat) (v : α) (t : Tab α) (j : Nat) :
    tabGet d (tabPut k v t) j = if j = k then v else tabGet d t j := by
  induction t with
  | nil =>
    by_cases h : j = k
    · subst h; simp [tabPut, tabGet]
    · simp [tabPut, tabGet, h, Ne.symm h]
  | cons p r ih =>
    obtain ⟨i, w⟩ := p
    by_cases hlt : k < i
    · by_cases hj : j = k
      · subst hj; simp [tabPut, tabGet, hlt]
      · simp [tabPut, tabGet, hlt, hj, Ne.symm hj]
    · by_cases hik : i = k
      · subst hik
        by_cases hj : j = i
        · subst hj; simp [tabPut, tabGet]
        · simp [tabPut, tabGet, hj, Ne.symm hj]
      · by_cases hij : i = j
        · subst hij; simp [tabPut, tabGet, hlt, hik]
        · simp [tabPut, tabGet, hlt, hik, hij, ih]

theorem tabGet_tabDrop (d : Nat → α) (k : Nat) (t : Tab α) (j : Nat) :
    tabGet d (tabDrop k t) j = if j = k then d k else tabGet d t j := by
  induction t with
  | nil => by_cases h : j = k <;> simp [tabDrop, tabGet, h]
  | cons p r ih =>
    obtain ⟨i, w⟩ := p
    by_cases hik : i = k
    · subst hik
      by_cases hj : j = i
      · subst hj; simpa [tabDrop, tabGet] using ih
      · simp [tabDrop, tabGet, hj, Ne.symm hj, ih]
    · by_cases hij : i = j
      · subst hij; simp [tabDrop, tabGet, hik]
      · simp [tabDrop, tabGet, hik, hij, ih]

/-- A read after a write gives the value written at its index and what was there before elsewhere. -/
theorem tabGet_tabSet [DecidableEq α] (d : Nat → α) (k : Nat) (v : α) (t : Tab α) (j : Nat) :
    tabGet d (tabSet d k v t) j = if j = k then v else tabGet d t j := by
  unfold tabSet
  split
  · rename_i h; rw [tabGet_tabDrop]; split <;> simp_all
  · exact tabGet_tabPut d k v t j

@[simp] theorem tabGet_tabSet_same [DecidableEq α] (d : Nat → α) (k : Nat) (v : α) (t : Tab α) :
    tabGet d (tabSet d k v t) k = v := by simp [tabGet_tabSet]

theorem tabGet_tabSet_other [DecidableEq α] (d : Nat → α) {k j : Nat} (v : α) (t : Tab α) (h : j ≠ k) :
    tabGet d (tabSet d k v t) j = tabGet d t j := by simp [tabGet_tabSet, h]

/-- What a modification leaves. -/
theorem tabGet_tabMod [DecidableEq α] (d : Nat → α) (k : Nat) (f : α → α) (t : Tab α) (j : Nat) :
    tabGet d (tabMod d k f t) j = if j = k then f (tabGet d t k) else tabGet d t j := by
  simp [tabMod, tabGet_tabSet]

@[simp] theorem tabGet_nil (d : Nat → α) (j : Nat) : tabGet d [] j = d j := rfl

theorem tabAbove_mono {b c : Nat} (h : b ≤ c) {t : Tab α} (ht : tabAbove c t = true) : tabAbove b t = true := by
  simp only [tabAbove, List.all_eq_true, decide_eq_true_eq] at *
  intro p hp
  exact lt_of_le_of_lt h (ht p hp)

theorem tabAbove_tabPut {b k : Nat} {v : α} {t : Tab α} (hk : b < k) (ht : tabAbove b t = true) :
    tabAbove b (tabPut k v t) = true := by
  induction t with
  | nil => simpa [tabPut, tabAbove] using hk
  | cons p r ih =>
    obtain ⟨i, w⟩ := p
    simp only [tabAbove, List.all_cons, Bool.and_eq_true, decide_eq_true_eq] at ht ih
    simp only [tabPut]
    split
    · simp only [tabAbove, List.all_cons, Bool.and_eq_true, decide_eq_true_eq]; exact ⟨hk, ht⟩
    · split
      · simp only [tabAbove, List.all_cons, Bool.and_eq_true, decide_eq_true_eq]; exact ⟨hk, ht.2⟩
      · simp only [tabAbove, List.all_cons, Bool.and_eq_true, decide_eq_true_eq]; exact ⟨ht.1, ih ht.2⟩

theorem tabAbove_tabDrop {b k : Nat} {t : Tab α} (ht : tabAbove b t = true) : tabAbove b (tabDrop k t) = true := by
  induction t with
  | nil => simp [tabDrop, tabAbove]
  | cons p r ih =>
    obtain ⟨i, w⟩ := p
    simp only [tabAbove, List.all_cons, Bool.and_eq_true, decide_eq_true_eq] at ht ih
    simp only [tabDrop]
    split
    · exact ih ht.2
    · simp only [tabAbove, List.all_cons, Bool.and_eq_true, decide_eq_true_eq]; exact ⟨ht.1, ih ht.2⟩

variable [DecidableEq α]

theorem tabWf_cons {d : Nat → α} {i : Nat} {w : α} {r : Tab α} :
    tabWf d ((i, w) :: r) = true ↔ w ≠ d i ∧ tabAbove i r = true ∧ tabWf d r = true := by
  simp [tabWf, and_assoc]

theorem tabWf_tabPut {d : Nat → α} {k : Nat} {v : α} {t : Tab α} (hv : v ≠ d k) (ht : tabWf d t = true) :
    tabWf d (tabPut k v t) = true := by
  induction t with
  | nil => simp [tabPut, tabWf, tabAbove, hv]
  | cons p r ih =>
    obtain ⟨i, w⟩ := p
    obtain ⟨hw, ha, hr⟩ := tabWf_cons.1 ht
    simp only [tabPut]
    split
    · rename_i hlt
      refine tabWf_cons.2 ⟨hv, ?_, ht⟩
      simp only [tabAbove, List.all_cons, Bool.and_eq_true, decide_eq_true_eq]
      exact ⟨hlt, by simpa [tabAbove] using tabAbove_mono hlt.le ha⟩
    · split
      · rename_i _ he
        subst he
        exact tabWf_cons.2 ⟨hv, ha, hr⟩
      · rename_i h1 h2
        exact tabWf_cons.2 ⟨hw, tabAbove_tabPut (by omega) ha, ih hr⟩

theorem tabWf_tabDrop {d : Nat → α} {k : Nat} {t : Tab α} (ht : tabWf d t = true) : tabWf d (tabDrop k t) = true := by
  induction t with
  | nil => simp [tabDrop, tabWf]
  | cons p r ih =>
    obtain ⟨i, w⟩ := p
    obtain ⟨hw, ha, hr⟩ := tabWf_cons.1 ht
    simp only [tabDrop]
    split
    · exact ih hr
    · exact tabWf_cons.2 ⟨hw, tabAbove_tabDrop ha, ih hr⟩

/-- Every write keeps the canonical form. -/
theorem tabWf_tabSet {d : Nat → α} {k : Nat} {v : α} {t : Tab α} (ht : tabWf d t = true) :
    tabWf d (tabSet d k v t) = true := by
  unfold tabSet
  split
  · exact tabWf_tabDrop ht
  · rename_i h; exact tabWf_tabPut h ht

theorem tabWf_tabMod {d : Nat → α} {k : Nat} {f : α → α} {t : Tab α} (ht : tabWf d t = true) :
    tabWf d (tabMod d k f t) = true := tabWf_tabSet ht

end Sys2Proof.Machine
end

