-- ==== Sys2Proof/Laws/State.lean ====
section
/-!
SUPPORT. What each update of the state leaves: one lemma for each field and each of the updates that every command is made of.
-/

namespace Sys2Proof.Machine

variable (s : State) (d : Device) (f : Device → Device) (g : Mem → Device → Mem × Device) (r : Device → Mem → Device) (m : Mem)

@[simp] theorem State.onDev_pending : (s.onDev f).pending = s.pending := rfl
@[simp] theorem State.onDev_mem : (s.onDev f).mem = s.mem := rfl
@[simp] theorem State.onDev_dev : (s.onDev f).dev = { f s.dev with ddrOut := s.dev.ddrOut } := rfl
@[simp] theorem State.onDdr_pending : (s.onDdr f).pending = s.pending := rfl
@[simp] theorem State.onDdr_mem : (s.onDdr f).mem = s.mem.drain (f s.dev).ddrOut := rfl
@[simp] theorem State.onDdr_dev : (s.onDdr f).dev = { f s.dev with ddrOut := [] } := rfl
@[simp] theorem State.onMem_pending : (s.onMem g).pending = s.pending := rfl
@[simp] theorem State.onMem_mem : (s.onMem g).mem = (g s.mem s.dev).1 := rfl
@[simp] theorem State.onMem_dev : (s.onMem g).dev = { (g s.mem s.dev).2 with ddrOut := s.dev.ddrOut } := rfl
@[simp] theorem State.onBoth_pending : (s.onBoth g).pending = s.pending := rfl
@[simp] theorem State.onBoth_mem : (s.onBoth g).mem = (g s.mem s.dev).1.drain (g s.mem s.dev).2.ddrOut := rfl
@[simp] theorem State.onBoth_dev : (s.onBoth g).dev = { (g s.mem s.dev).2 with ddrOut := [] } := rfl
@[simp] theorem State.onRead_pending : (s.onRead r).pending = s.pending := rfl
@[simp] theorem State.onRead_mem : (s.onRead r).mem = s.mem := rfl
@[simp] theorem State.onRead_dev : (s.onRead r).dev = { r s.dev s.mem with ddrOut := s.dev.ddrOut } := rfl
@[simp] theorem State.onReadDdr_pending : (s.onReadDdr r).pending = s.pending := rfl
@[simp] theorem State.onReadDdr_mem : (s.onReadDdr r).mem = s.mem.drain (r s.dev s.mem).ddrOut := rfl
@[simp] theorem State.onReadDdr_dev : (s.onReadDdr r).dev = { r s.dev s.mem with ddrOut := [] } := rfl

@[simp] theorem Mem.ddrWrite_flash (a : Nat) (bs : List Byte) : (m.ddrWrite a bs).flash = m.flash := rfl
@[simp] theorem Mem.ddrWrite_host (a : Nat) (bs : List Byte) : (m.ddrWrite a bs).host = m.host := rfl
@[simp] theorem Mem.flashWrite_ddr (a : Nat) (bs : List Byte) : (m.flashWrite a bs).ddr = m.ddr := rfl
@[simp] theorem Mem.flashWrite_host (a : Nat) (bs : List Byte) : (m.flashWrite a bs).host = m.host := rfl
@[simp] theorem Mem.hostWrite_ddr (a : Nat) (bs : List Byte) : (m.hostWrite a bs).ddr = m.ddr := rfl
@[simp] theorem Mem.hostWrite_flash (a : Nat) (bs : List Byte) : (m.hostWrite a bs).flash = m.flash := rfl
@[simp] theorem Mem.drain_nil : m.drain [] = m := rfl

/-! A register write changes the registers only. -/

@[simp] theorem Device.wr_edge (a : Nat) (v : Word) : (d.wr a v).edge = d.edge := rfl
@[simp] theorem Device.wr_freeCtr (a : Nat) (v : Word) : (d.wr a v).freeCtr = d.freeCtr := rfl
@[simp] theorem Device.wr_chan (a : Nat) (v : Word) : (d.wr a v).chan = d.chan := rfl
@[simp] theorem Device.wr_course (a : Nat) (v : Word) : (d.wr a v).course = d.course := rfl
@[simp] theorem Device.wr_mx (a : Nat) (v : Word) : (d.wr a v).mx = d.mx := rfl
@[simp] theorem Device.wr_rmu (a : Nat) (v : Word) : (d.wr a v).rmu = d.rmu := rfl
@[simp] theorem Device.wr_calP (a : Nat) (v : Word) : (d.wr a v).calP = d.calP := rfl
@[simp] theorem Device.wr_cal (a : Nat) (v : Word) : (d.wr a v).cal = d.cal := rfl
@[simp] theorem Device.wr_rec (a : Nat) (v : Word) : (d.wr a v).rec_ = d.rec_ := rfl
@[simp] theorem Device.wr_chains (a : Nat) (v : Word) : (d.wr a v).chains = d.chains := rfl
@[simp] theorem Device.wr_thrs (a : Nat) (v : Word) : (d.wr a v).thrs = d.thrs := rfl
@[simp] theorem Device.wr_lanePend (a : Nat) (v : Word) : (d.wr a v).lanePend = d.lanePend := rfl
@[simp] theorem Device.wr_laneOut (a : Nat) (v : Word) : (d.wr a v).laneOut = d.laneOut := rfl
@[simp] theorem Device.wr_axes (a : Nat) (v : Word) : (d.wr a v).axes = d.axes := rfl
@[simp] theorem Device.wr_cmps (a : Nat) (v : Word) : (d.wr a v).cmps = d.cmps := rfl
@[simp] theorem Device.wr_posMsgs (a : Nat) (v : Word) : (d.wr a v).posMsgs = d.posMsgs := rfl
@[simp] theorem Device.wr_lists (a : Nat) (v : Word) : (d.wr a v).lists = d.lists := rfl
@[simp] theorem Device.wr_execs (a : Nat) (v : Word) : (d.wr a v).execs = d.execs := rfl
@[simp] theorem Device.wr_nextExec (a : Nat) (v : Word) : (d.wr a v).nextExec = d.nextExec := rfl
@[simp] theorem Device.wr_queues (a : Nat) (v : Word) : (d.wr a v).queues = d.queues := rfl
@[simp] theorem Device.wr_capRuns (a : Nat) (v : Word) : (d.wr a v).capRuns = d.capRuns := rfl
@[simp] theorem Device.wr_capBufs (a : Nat) (v : Word) : (d.wr a v).capBufs = d.capBufs := rfl
@[simp] theorem Device.wr_engines (a : Nat) (v : Word) : (d.wr a v).engines = d.engines := rfl
@[simp] theorem Device.wr_frets (a : Nat) (v : Word) : (d.wr a v).frets = d.frets := rfl
@[simp] theorem Device.wr_frames (a : Nat) (v : Word) : (d.wr a v).frames = d.frames := rfl
@[simp] theorem Device.wr_loader (a : Nat) (v : Word) : (d.wr a v).loader = d.loader := rfl
@[simp] theorem Device.wr_scrub (a : Nat) (v : Word) : (d.wr a v).scrub = d.scrub := rfl
@[simp] theorem Device.wr_gpio (a : Nat) (v : Word) : (d.wr a v).gpio = d.gpio := rfl
@[simp] theorem Device.wr_link (a : Nat) (v : Word) : (d.wr a v).link = d.link := rfl
@[simp] theorem Device.wr_heldIn (a : Nat) (v : Word) : (d.wr a v).heldIn = d.heldIn := rfl
@[simp] theorem Device.wr_ddrOut (a : Nat) (v : Word) : (d.wr a v).ddrOut = d.ddrOut := rfl
@[simp] theorem Device.wr_answer (a : Nat) (v : Word) : (d.wr a v).answer = d.answer := rfl
@[simp] theorem Device.wr_poisoned (a : Nat) (v : Word) : (d.wr a v).poisoned = d.poisoned := rfl
@[simp] theorem Device.wr_fq (a : Nat) (v : Word) : (d.wr a v).fq = d.fq := rfl
@[simp] theorem Device.wr_fqSince (a : Nat) (v : Word) : (d.wr a v).fqSince = d.fqSince := rfl
@[simp] theorem Device.wr_cseq (a : Nat) (v : Word) : (d.wr a v).cseq = d.cseq := rfl
@[simp] theorem Device.wr_clampRep (a : Nat) (v : Word) : (d.wr a v).clampRep = d.clampRep := rfl
@[simp] theorem Device.wr_logQ (a : Nat) (v : Word) : (d.wr a v).logQ = d.logQ := rfl
@[simp] theorem Device.wr_logIdx (a : Nat) (v : Word) : (d.wr a v).logIdx = d.logIdx := rfl
@[simp] theorem Device.wr_logAt (a : Nat) (v : Word) : (d.wr a v).logAt = d.logAt := rfl
@[simp] theorem Device.wr_logSeq (a : Nat) (v : Word) : (d.wr a v).logSeq = d.logSeq := rfl
@[simp] theorem Device.wr_msix (a : Nat) (v : Word) : (d.wr a v).msix = d.msix := rfl
@[simp] theorem Device.wr_sys (a : Nat) (v : Word) : (d.wr a v).sys = d.sys := rfl

/-! What reports do not touch. -/

@[simp] theorem Device.wr_plant (a : Nat) (v : Word) : (d.wr a v).plant = d.plant := by cases d; rfl
@[simp] theorem Device.plant_edge : d.plant.edge = d.edge := rfl
@[simp] theorem Device.plant_freeCtr : d.plant.freeCtr = d.freeCtr := rfl
@[simp] theorem Device.plant_chan : d.plant.chan = d.chan := rfl
@[simp] theorem Device.plant_course : d.plant.course = d.course := rfl
@[simp] theorem Device.plant_mx : d.plant.mx = d.mx := rfl
@[simp] theorem Device.plant_rmu : d.plant.rmu = d.rmu := rfl
@[simp] theorem Device.plant_calP : d.plant.calP = d.calP := rfl
@[simp] theorem Device.plant_cal : d.plant.cal = d.cal := rfl
@[simp] theorem Device.plant_rec : d.plant.rec_ = d.rec_ := rfl
@[simp] theorem Device.plant_chains : d.plant.chains = d.chains := rfl
@[simp] theorem Device.plant_thrs : d.plant.thrs = d.thrs := rfl
@[simp] theorem Device.plant_lanePend : d.plant.lanePend = d.lanePend := rfl
@[simp] theorem Device.plant_laneOut : d.plant.laneOut = d.laneOut := rfl
@[simp] theorem Device.plant_axes : d.plant.axes = d.axes := rfl
@[simp] theorem Device.plant_cmps : d.plant.cmps = d.cmps := rfl
@[simp] theorem Device.plant_posMsgs : d.plant.posMsgs = d.posMsgs := rfl
@[simp] theorem Device.plant_lists : d.plant.lists = d.lists := rfl
@[simp] theorem Device.plant_execs : d.plant.execs = d.execs := rfl
@[simp] theorem Device.plant_nextExec : d.plant.nextExec = d.nextExec := rfl
@[simp] theorem Device.plant_queues : d.plant.queues = d.queues := rfl
@[simp] theorem Device.plant_capRuns : d.plant.capRuns = d.capRuns := rfl
@[simp] theorem Device.plant_capBufs : d.plant.capBufs = d.capBufs := rfl
@[simp] theorem Device.plant_engines : d.plant.engines = d.engines := rfl
@[simp] theorem Device.plant_frets : d.plant.frets = d.frets := rfl
@[simp] theorem Device.plant_frames : d.plant.frames = d.frames := rfl
@[simp] theorem Device.plant_loader : d.plant.loader = d.loader := rfl
@[simp] theorem Device.plant_scrub : d.plant.scrub = d.scrub := rfl
@[simp] theorem Device.plant_gpio : d.plant.gpio = d.gpio := rfl
@[simp] theorem Device.plant_link : d.plant.link = d.link := rfl
@[simp] theorem Device.plant_heldIn : d.plant.heldIn = d.heldIn := rfl
@[simp] theorem Device.plant_answer : d.plant.answer = d.answer := rfl
@[simp] theorem Device.plant_poisoned : d.plant.poisoned = d.poisoned := rfl
@[simp] theorem Device.plant_logIdx : d.plant.logIdx = d.logIdx := rfl
@[simp] theorem Device.plant_logAt : d.plant.logAt = d.logAt := rfl
@[simp] theorem Device.plant_logSeq : d.plant.logSeq = d.logSeq := rfl
@[simp] theorem Device.plant_sys : d.plant.sys = d.sys := rfl

/-! The update of one part leaves the others, and the part reads back. -/

@[simp] theorem Device.setCh_regs (n : Nat) (c : Chan) : (d.setCh n c).regs = d.regs := rfl
@[simp] theorem Device.setCh_edge (n : Nat) (c : Chan) : (d.setCh n c).edge = d.edge := rfl
@[simp] theorem Device.setCh_freeCtr (n : Nat) (c : Chan) : (d.setCh n c).freeCtr = d.freeCtr := rfl
@[simp] theorem Device.setCh_course (n : Nat) (c : Chan) : (d.setCh n c).course = d.course := rfl
@[simp] theorem Device.setCh_mx (n : Nat) (c : Chan) : (d.setCh n c).mx = d.mx := rfl
@[simp] theorem Device.setCh_rmu (n : Nat) (c : Chan) : (d.setCh n c).rmu = d.rmu := rfl
@[simp] theorem Device.setCh_calP (n : Nat) (c : Chan) : (d.setCh n c).calP = d.calP := rfl
@[simp] theorem Device.setCh_cal (n : Nat) (c : Chan) : (d.setCh n c).cal = d.cal := rfl
@[simp] theorem Device.setCh_rec (n : Nat) (c : Chan) : (d.setCh n c).rec_ = d.rec_ := rfl
@[simp] theorem Device.setCh_chains (n : Nat) (c : Chan) : (d.setCh n c).chains = d.chains := rfl
@[simp] theorem Device.setCh_thrs (n : Nat) (c : Chan) : (d.setCh n c).thrs = d.thrs := rfl
@[simp] theorem Device.setCh_lanePend (n : Nat) (c : Chan) : (d.setCh n c).lanePend = d.lanePend := rfl
@[simp] theorem Device.setCh_laneOut (n : Nat) (c : Chan) : (d.setCh n c).laneOut = d.laneOut := rfl
@[simp] theorem Device.setCh_axes (n : Nat) (c : Chan) : (d.setCh n c).axes = d.axes := rfl
@[simp] theorem Device.setCh_cmps (n : Nat) (c : Chan) : (d.setCh n c).cmps = d.cmps := rfl
@[simp] theorem Device.setCh_posMsgs (n : Nat) (c : Chan) : (d.setCh n c).posMsgs = d.posMsgs := rfl
@[simp] theorem Device.setCh_lists (n : Nat) (c : Chan) : (d.setCh n c).lists = d.lists := rfl
@[simp] theorem Device.setCh_execs (n : Nat) (c : Chan) : (d.setCh n c).execs = d.execs := rfl
@[simp] theorem Device.setCh_nextExec (n : Nat) (c : Chan) : (d.setCh n c).nextExec = d.nextExec := rfl
@[simp] theorem Device.setCh_queues (n : Nat) (c : Chan) : (d.setCh n c).queues = d.queues := rfl
@[simp] theorem Device.setCh_capRuns (n : Nat) (c : Chan) : (d.setCh n c).capRuns = d.capRuns := rfl
@[simp] theorem Device.setCh_capBufs (n : Nat) (c : Chan) : (d.setCh n c).capBufs = d.capBufs := rfl
@[simp] theorem Device.setCh_engines (n : Nat) (c : Chan) : (d.setCh n c).engines = d.engines := rfl
@[simp] theorem Device.setCh_frets (n : Nat) (c : Chan) : (d.setCh n c).frets = d.frets := rfl
@[simp] theorem Device.setCh_frames (n : Nat) (c : Chan) : (d.setCh n c).frames = d.frames := rfl
@[simp] theorem Device.setCh_loader (n : Nat) (c : Chan) : (d.setCh n c).loader = d.loader := rfl
@[simp] theorem Device.setCh_scrub (n : Nat) (c : Chan) : (d.setCh n c).scrub = d.scrub := rfl
@[simp] theorem Device.setCh_gpio (n : Nat) (c : Chan) : (d.setCh n c).gpio = d.gpio := rfl
@[simp] theorem Device.setCh_link (n : Nat) (c : Chan) : (d.setCh n c).link = d.link := rfl
@[simp] theorem Device.setCh_heldIn (n : Nat) (c : Chan) : (d.setCh n c).heldIn = d.heldIn := rfl
@[simp] theorem Device.setCh_ddrOut (n : Nat) (c : Chan) : (d.setCh n c).ddrOut = d.ddrOut := rfl
@[simp] theorem Device.setCh_answer (n : Nat) (c : Chan) : (d.setCh n c).answer = d.answer := rfl
@[simp] theorem Device.setCh_poisoned (n : Nat) (c : Chan) : (d.setCh n c).poisoned = d.poisoned := rfl
@[simp] theorem Device.setCh_fq (n : Nat) (c : Chan) : (d.setCh n c).fq = d.fq := rfl
@[simp] theorem Device.setCh_fqSince (n : Nat) (c : Chan) : (d.setCh n c).fqSince = d.fqSince := rfl
@[simp] theorem Device.setCh_cseq (n : Nat) (c : Chan) : (d.setCh n c).cseq = d.cseq := rfl
@[simp] theorem Device.setCh_clampRep (n : Nat) (c : Chan) : (d.setCh n c).clampRep = d.clampRep := rfl
@[simp] theorem Device.setCh_logQ (n : Nat) (c : Chan) : (d.setCh n c).logQ = d.logQ := rfl
@[simp] theorem Device.setCh_logIdx (n : Nat) (c : Chan) : (d.setCh n c).logIdx = d.logIdx := rfl
@[simp] theorem Device.setCh_logAt (n : Nat) (c : Chan) : (d.setCh n c).logAt = d.logAt := rfl
@[simp] theorem Device.setCh_logSeq (n : Nat) (c : Chan) : (d.setCh n c).logSeq = d.logSeq := rfl
@[simp] theorem Device.setCh_msix (n : Nat) (c : Chan) : (d.setCh n c).msix = d.msix := rfl
@[simp] theorem Device.setCh_sys (n : Nat) (c : Chan) : (d.setCh n c).sys = d.sys := rfl
@[simp] theorem Device.setCh_rd (n : Nat) (c : Chan) (a : Nat) : (d.setCh n c).rd a = d.rd a := rfl
@[simp] theorem Device.setCh_same (n : Nat) (c : Chan) : (d.setCh n c).ch n = c := tabGet_tabSet_same ..
theorem Device.setCh_other (n : Nat) (c : Chan) (m : Nat) (h : m ≠ n) : (d.setCh n c).ch m = d.ch m := tabGet_tabSet_other _ _ _ h

@[simp] theorem Device.setCrs_regs (n : Nat) (c : Course) : (d.setCrs n c).regs = d.regs := rfl
@[simp] theorem Device.setCrs_edge (n : Nat) (c : Course) : (d.setCrs n c).edge = d.edge := rfl
@[simp] theorem Device.setCrs_freeCtr (n : Nat) (c : Course) : (d.setCrs n c).freeCtr = d.freeCtr := rfl
@[simp] theorem Device.setCrs_chan (n : Nat) (c : Course) : (d.setCrs n c).chan = d.chan := rfl
@[simp] theorem Device.setCrs_mx (n : Nat) (c : Course) : (d.setCrs n c).mx = d.mx := rfl
@[simp] theorem Device.setCrs_rmu (n : Nat) (c : Course) : (d.setCrs n c).rmu = d.rmu := rfl
@[simp] theorem Device.setCrs_calP (n : Nat) (c : Course) : (d.setCrs n c).calP = d.calP := rfl
@[simp] theorem Device.setCrs_cal (n : Nat) (c : Course) : (d.setCrs n c).cal = d.cal := rfl
@[simp] theorem Device.setCrs_rec (n : Nat) (c : Course) : (d.setCrs n c).rec_ = d.rec_ := rfl
@[simp] theorem Device.setCrs_chains (n : Nat) (c : Course) : (d.setCrs n c).chains = d.chains := rfl
@[simp] theorem Device.setCrs_thrs (n : Nat) (c : Course) : (d.setCrs n c).thrs = d.thrs := rfl
@[simp] theorem Device.setCrs_lanePend (n : Nat) (c : Course) : (d.setCrs n c).lanePend = d.lanePend := rfl
@[simp] theorem Device.setCrs_laneOut (n : Nat) (c : Course) : (d.setCrs n c).laneOut = d.laneOut := rfl
@[simp] theorem Device.setCrs_axes (n : Nat) (c : Course) : (d.setCrs n c).axes = d.axes := rfl
@[simp] theorem Device.setCrs_cmps (n : Nat) (c : Course) : (d.setCrs n c).cmps = d.cmps := rfl
@[simp] theorem Device.setCrs_posMsgs (n : Nat) (c : Course) : (d.setCrs n c).posMsgs = d.posMsgs := rfl
@[simp] theorem Device.setCrs_lists (n : Nat) (c : Course) : (d.setCrs n c).lists = d.lists := rfl
@[simp] theorem Device.setCrs_execs (n : Nat) (c : Course) : (d.setCrs n c).execs = d.execs := rfl
@[simp] theorem Device.setCrs_nextExec (n : Nat) (c : Course) : (d.setCrs n c).nextExec = d.nextExec := rfl
@[simp] theorem Device.setCrs_queues (n : Nat) (c : Course) : (d.setCrs n c).queues = d.queues := rfl
@[simp] theorem Device.setCrs_capRuns (n : Nat) (c : Course) : (d.setCrs n c).capRuns = d.capRuns := rfl
@[simp] theorem Device.setCrs_capBufs (n : Nat) (c : Course) : (d.setCrs n c).capBufs = d.capBufs := rfl
@[simp] theorem Device.setCrs_engines (n : Nat) (c : Course) : (d.setCrs n c).engines = d.engines := rfl
@[simp] theorem Device.setCrs_frets (n : Nat) (c : Course) : (d.setCrs n c).frets = d.frets := rfl
@[simp] theorem Device.setCrs_frames (n : Nat) (c : Course) : (d.setCrs n c).frames = d.frames := rfl
@[simp] theorem Device.setCrs_loader (n : Nat) (c : Course) : (d.setCrs n c).loader = d.loader := rfl
@[simp] theorem Device.setCrs_scrub (n : Nat) (c : Course) : (d.setCrs n c).scrub = d.scrub := rfl
@[simp] theorem Device.setCrs_gpio (n : Nat) (c : Course) : (d.setCrs n c).gpio = d.gpio := rfl
@[simp] theorem Device.setCrs_link (n : Nat) (c : Course) : (d.setCrs n c).link = d.link := rfl
@[simp] theorem Device.setCrs_heldIn (n : Nat) (c : Course) : (d.setCrs n c).heldIn = d.heldIn := rfl
@[simp] theorem Device.setCrs_ddrOut (n : Nat) (c : Course) : (d.setCrs n c).ddrOut = d.ddrOut := rfl
@[simp] theorem Device.setCrs_answer (n : Nat) (c : Course) : (d.setCrs n c).answer = d.answer := rfl
@[simp] theorem Device.setCrs_poisoned (n : Nat) (c : Course) : (d.setCrs n c).poisoned = d.poisoned := rfl
@[simp] theorem Device.setCrs_fq (n : Nat) (c : Course) : (d.setCrs n c).fq = d.fq := rfl
@[simp] theorem Device.setCrs_fqSince (n : Nat) (c : Course) : (d.setCrs n c).fqSince = d.fqSince := rfl
@[simp] theorem Device.setCrs_cseq (n : Nat) (c : Course) : (d.setCrs n c).cseq = d.cseq := rfl
@[simp] theorem Device.setCrs_clampRep (n : Nat) (c : Course) : (d.setCrs n c).clampRep = d.clampRep := rfl
@[simp] theorem Device.setCrs_logQ (n : Nat) (c : Course) : (d.setCrs n c).logQ = d.logQ := rfl
@[simp] theorem Device.setCrs_logIdx (n : Nat) (c : Course) : (d.setCrs n c).logIdx = d.logIdx := rfl
@[simp] theorem Device.setCrs_logAt (n : Nat) (c : Course) : (d.setCrs n c).logAt = d.logAt := rfl
@[simp] theorem Device.setCrs_logSeq (n : Nat) (c : Course) : (d.setCrs n c).logSeq = d.logSeq := rfl
@[simp] theorem Device.setCrs_msix (n : Nat) (c : Course) : (d.setCrs n c).msix = d.msix := rfl
@[simp] theorem Device.setCrs_sys (n : Nat) (c : Course) : (d.setCrs n c).sys = d.sys := rfl
@[simp] theorem Device.setCrs_rd (n : Nat) (c : Course) (a : Nat) : (d.setCrs n c).rd a = d.rd a := rfl
@[simp] theorem Device.setCrs_same (n : Nat) (c : Course) : (d.setCrs n c).crs n = c := tabGet_tabSet_same ..
theorem Device.setCrs_other (n : Nat) (c : Course) (m : Nat) (h : m ≠ n) : (d.setCrs n c).crs m = d.crs m := tabGet_tabSet_other _ _ _ h

@[simp] theorem Device.setMx_regs (k : Matrix) : (d.setMx k).regs = d.regs := rfl
@[simp] theorem Device.setMx_edge (k : Matrix) : (d.setMx k).edge = d.edge := rfl
@[simp] theorem Device.setMx_freeCtr (k : Matrix) : (d.setMx k).freeCtr = d.freeCtr := rfl
@[simp] theorem Device.setMx_chan (k : Matrix) : (d.setMx k).chan = d.chan := rfl
@[simp] theorem Device.setMx_course (k : Matrix) : (d.setMx k).course = d.course := rfl
@[simp] theorem Device.setMx_rmu (k : Matrix) : (d.setMx k).rmu = d.rmu := rfl
@[simp] theorem Device.setMx_calP (k : Matrix) : (d.setMx k).calP = d.calP := rfl
@[simp] theorem Device.setMx_cal (k : Matrix) : (d.setMx k).cal = d.cal := rfl
@[simp] theorem Device.setMx_rec (k : Matrix) : (d.setMx k).rec_ = d.rec_ := rfl
@[simp] theorem Device.setMx_chains (k : Matrix) : (d.setMx k).chains = d.chains := rfl
@[simp] theorem Device.setMx_thrs (k : Matrix) : (d.setMx k).thrs = d.thrs := rfl
@[simp] theorem Device.setMx_lanePend (k : Matrix) : (d.setMx k).lanePend = d.lanePend := rfl
@[simp] theorem Device.setMx_laneOut (k : Matrix) : (d.setMx k).laneOut = d.laneOut := rfl
@[simp] theorem Device.setMx_axes (k : Matrix) : (d.setMx k).axes = d.axes := rfl
@[simp] theorem Device.setMx_cmps (k : Matrix) : (d.setMx k).cmps = d.cmps := rfl
@[simp] theorem Device.setMx_posMsgs (k : Matrix) : (d.setMx k).posMsgs = d.posMsgs := rfl
@[simp] theorem Device.setMx_lists (k : Matrix) : (d.setMx k).lists = d.lists := rfl
@[simp] theorem Device.setMx_execs (k : Matrix) : (d.setMx k).execs = d.execs := rfl
@[simp] theorem Device.setMx_nextExec (k : Matrix) : (d.setMx k).nextExec = d.nextExec := rfl
@[simp] theorem Device.setMx_queues (k : Matrix) : (d.setMx k).queues = d.queues := rfl
@[simp] theorem Device.setMx_capRuns (k : Matrix) : (d.setMx k).capRuns = d.capRuns := rfl
@[simp] theorem Device.setMx_capBufs (k : Matrix) : (d.setMx k).capBufs = d.capBufs := rfl
@[simp] theorem Device.setMx_engines (k : Matrix) : (d.setMx k).engines = d.engines := rfl
@[simp] theorem Device.setMx_frets (k : Matrix) : (d.setMx k).frets = d.frets := rfl
@[simp] theorem Device.setMx_frames (k : Matrix) : (d.setMx k).frames = d.frames := rfl
@[simp] theorem Device.setMx_loader (k : Matrix) : (d.setMx k).loader = d.loader := rfl
@[simp] theorem Device.setMx_scrub (k : Matrix) : (d.setMx k).scrub = d.scrub := rfl
@[simp] theorem Device.setMx_gpio (k : Matrix) : (d.setMx k).gpio = d.gpio := rfl
@[simp] theorem Device.setMx_link (k : Matrix) : (d.setMx k).link = d.link := rfl
@[simp] theorem Device.setMx_heldIn (k : Matrix) : (d.setMx k).heldIn = d.heldIn := rfl
@[simp] theorem Device.setMx_ddrOut (k : Matrix) : (d.setMx k).ddrOut = d.ddrOut := rfl
@[simp] theorem Device.setMx_answer (k : Matrix) : (d.setMx k).answer = d.answer := rfl
@[simp] theorem Device.setMx_poisoned (k : Matrix) : (d.setMx k).poisoned = d.poisoned := rfl
@[simp] theorem Device.setMx_fq (k : Matrix) : (d.setMx k).fq = d.fq := rfl
@[simp] theorem Device.setMx_fqSince (k : Matrix) : (d.setMx k).fqSince = d.fqSince := rfl
@[simp] theorem Device.setMx_cseq (k : Matrix) : (d.setMx k).cseq = d.cseq := rfl
@[simp] theorem Device.setMx_clampRep (k : Matrix) : (d.setMx k).clampRep = d.clampRep := rfl
@[simp] theorem Device.setMx_logQ (k : Matrix) : (d.setMx k).logQ = d.logQ := rfl
@[simp] theorem Device.setMx_logIdx (k : Matrix) : (d.setMx k).logIdx = d.logIdx := rfl
@[simp] theorem Device.setMx_logAt (k : Matrix) : (d.setMx k).logAt = d.logAt := rfl
@[simp] theorem Device.setMx_logSeq (k : Matrix) : (d.setMx k).logSeq = d.logSeq := rfl
@[simp] theorem Device.setMx_msix (k : Matrix) : (d.setMx k).msix = d.msix := rfl
@[simp] theorem Device.setMx_sys (k : Matrix) : (d.setMx k).sys = d.sys := rfl
@[simp] theorem Device.setMx_rd (k : Matrix) (a : Nat) : (d.setMx k).rd a = d.rd a := rfl
@[simp] theorem Device.setMx_mx (k : Matrix) : (d.setMx k).mx = k := rfl

@[simp] theorem Device.setMeter_regs (n : Nat) (c : Rmu) : (d.setMeter n c).regs = d.regs := rfl
@[simp] theorem Device.setMeter_edge (n : Nat) (c : Rmu) : (d.setMeter n c).edge = d.edge := rfl
@[simp] theorem Device.setMeter_freeCtr (n : Nat) (c : Rmu) : (d.setMeter n c).freeCtr = d.freeCtr := rfl
@[simp] theorem Device.setMeter_chan (n : Nat) (c : Rmu) : (d.setMeter n c).chan = d.chan := rfl
@[simp] theorem Device.setMeter_course (n : Nat) (c : Rmu) : (d.setMeter n c).course = d.course := rfl
@[simp] theorem Device.setMeter_mx (n : Nat) (c : Rmu) : (d.setMeter n c).mx = d.mx := rfl
@[simp] theorem Device.setMeter_calP (n : Nat) (c : Rmu) : (d.setMeter n c).calP = d.calP := rfl
@[simp] theorem Device.setMeter_cal (n : Nat) (c : Rmu) : (d.setMeter n c).cal = d.cal := rfl
@[simp] theorem Device.setMeter_rec (n : Nat) (c : Rmu) : (d.setMeter n c).rec_ = d.rec_ := rfl
@[simp] theorem Device.setMeter_chains (n : Nat) (c : Rmu) : (d.setMeter n c).chains = d.chains := rfl
@[simp] theorem Device.setMeter_thrs (n : Nat) (c : Rmu) : (d.setMeter n c).thrs = d.thrs := rfl
@[simp] theorem Device.setMeter_lanePend (n : Nat) (c : Rmu) : (d.setMeter n c).lanePend = d.lanePend := rfl
@[simp] theorem Device.setMeter_laneOut (n : Nat) (c : Rmu) : (d.setMeter n c).laneOut = d.laneOut := rfl
@[simp] theorem Device.setMeter_axes (n : Nat) (c : Rmu) : (d.setMeter n c).axes = d.axes := rfl
@[simp] theorem Device.setMeter_cmps (n : Nat) (c : Rmu) : (d.setMeter n c).cmps = d.cmps := rfl
@[simp] theorem Device.setMeter_posMsgs (n : Nat) (c : Rmu) : (d.setMeter n c).posMsgs = d.posMsgs := rfl
@[simp] theorem Device.setMeter_lists (n : Nat) (c : Rmu) : (d.setMeter n c).lists = d.lists := rfl
@[simp] theorem Device.setMeter_execs (n : Nat) (c : Rmu) : (d.setMeter n c).execs = d.execs := rfl
@[simp] theorem Device.setMeter_nextExec (n : Nat) (c : Rmu) : (d.setMeter n c).nextExec = d.nextExec := rfl
@[simp] theorem Device.setMeter_queues (n : Nat) (c : Rmu) : (d.setMeter n c).queues = d.queues := rfl
@[simp] theorem Device.setMeter_capRuns (n : Nat) (c : Rmu) : (d.setMeter n c).capRuns = d.capRuns := rfl
@[simp] theorem Device.setMeter_capBufs (n : Nat) (c : Rmu) : (d.setMeter n c).capBufs = d.capBufs := rfl
@[simp] theorem Device.setMeter_engines (n : Nat) (c : Rmu) : (d.setMeter n c).engines = d.engines := rfl
@[simp] theorem Device.setMeter_frets (n : Nat) (c : Rmu) : (d.setMeter n c).frets = d.frets := rfl
@[simp] theorem Device.setMeter_frames (n : Nat) (c : Rmu) : (d.setMeter n c).frames = d.frames := rfl
@[simp] theorem Device.setMeter_loader (n : Nat) (c : Rmu) : (d.setMeter n c).loader = d.loader := rfl
@[simp] theorem Device.setMeter_scrub (n : Nat) (c : Rmu) : (d.setMeter n c).scrub = d.scrub := rfl
@[simp] theorem Device.setMeter_gpio (n : Nat) (c : Rmu) : (d.setMeter n c).gpio = d.gpio := rfl
@[simp] theorem Device.setMeter_link (n : Nat) (c : Rmu) : (d.setMeter n c).link = d.link := rfl
@[simp] theorem Device.setMeter_heldIn (n : Nat) (c : Rmu) : (d.setMeter n c).heldIn = d.heldIn := rfl
@[simp] theorem Device.setMeter_ddrOut (n : Nat) (c : Rmu) : (d.setMeter n c).ddrOut = d.ddrOut := rfl
@[simp] theorem Device.setMeter_answer (n : Nat) (c : Rmu) : (d.setMeter n c).answer = d.answer := rfl
@[simp] theorem Device.setMeter_poisoned (n : Nat) (c : Rmu) : (d.setMeter n c).poisoned = d.poisoned := rfl
@[simp] theorem Device.setMeter_fq (n : Nat) (c : Rmu) : (d.setMeter n c).fq = d.fq := rfl
@[simp] theorem Device.setMeter_fqSince (n : Nat) (c : Rmu) : (d.setMeter n c).fqSince = d.fqSince := rfl
@[simp] theorem Device.setMeter_cseq (n : Nat) (c : Rmu) : (d.setMeter n c).cseq = d.cseq := rfl
@[simp] theorem Device.setMeter_clampRep (n : Nat) (c : Rmu) : (d.setMeter n c).clampRep = d.clampRep := rfl
@[simp] theorem Device.setMeter_logQ (n : Nat) (c : Rmu) : (d.setMeter n c).logQ = d.logQ := rfl
@[simp] theorem Device.setMeter_logIdx (n : Nat) (c : Rmu) : (d.setMeter n c).logIdx = d.logIdx := rfl
@[simp] theorem Device.setMeter_logAt (n : Nat) (c : Rmu) : (d.setMeter n c).logAt = d.logAt := rfl
@[simp] theorem Device.setMeter_logSeq (n : Nat) (c : Rmu) : (d.setMeter n c).logSeq = d.logSeq := rfl
@[simp] theorem Device.setMeter_msix (n : Nat) (c : Rmu) : (d.setMeter n c).msix = d.msix := rfl
@[simp] theorem Device.setMeter_sys (n : Nat) (c : Rmu) : (d.setMeter n c).sys = d.sys := rfl
@[simp] theorem Device.setMeter_rd (n : Nat) (c : Rmu) (a : Nat) : (d.setMeter n c).rd a = d.rd a := rfl
@[simp] theorem Device.setMeter_same (n : Nat) (c : Rmu) : (d.setMeter n c).meter n = c := tabGet_tabSet_same ..
theorem Device.setMeter_other (n : Nat) (c : Rmu) (m : Nat) (h : m ≠ n) : (d.setMeter n c).meter m = d.meter m := tabGet_tabSet_other _ _ _ h

@[simp] theorem Device.setCal_regs (k : Cal) : (d.setCal k).regs = d.regs := rfl
@[simp] theorem Device.setCal_edge (k : Cal) : (d.setCal k).edge = d.edge := rfl
@[simp] theorem Device.setCal_freeCtr (k : Cal) : (d.setCal k).freeCtr = d.freeCtr := rfl
@[simp] theorem Device.setCal_chan (k : Cal) : (d.setCal k).chan = d.chan := rfl
@[simp] theorem Device.setCal_course (k : Cal) : (d.setCal k).course = d.course := rfl
@[simp] theorem Device.setCal_mx (k : Cal) : (d.setCal k).mx = d.mx := rfl
@[simp] theorem Device.setCal_rmu (k : Cal) : (d.setCal k).rmu = d.rmu := rfl
@[simp] theorem Device.setCal_calP (k : Cal) : (d.setCal k).calP = d.calP := rfl
@[simp] theorem Device.setCal_rec (k : Cal) : (d.setCal k).rec_ = d.rec_ := rfl
@[simp] theorem Device.setCal_chains (k : Cal) : (d.setCal k).chains = d.chains := rfl
@[simp] theorem Device.setCal_thrs (k : Cal) : (d.setCal k).thrs = d.thrs := rfl
@[simp] theorem Device.setCal_lanePend (k : Cal) : (d.setCal k).lanePend = d.lanePend := rfl
@[simp] theorem Device.setCal_laneOut (k : Cal) : (d.setCal k).laneOut = d.laneOut := rfl
@[simp] theorem Device.setCal_axes (k : Cal) : (d.setCal k).axes = d.axes := rfl
@[simp] theorem Device.setCal_cmps (k : Cal) : (d.setCal k).cmps = d.cmps := rfl
@[simp] theorem Device.setCal_posMsgs (k : Cal) : (d.setCal k).posMsgs = d.posMsgs := rfl
@[simp] theorem Device.setCal_lists (k : Cal) : (d.setCal k).lists = d.lists := rfl
@[simp] theorem Device.setCal_execs (k : Cal) : (d.setCal k).execs = d.execs := rfl
@[simp] theorem Device.setCal_nextExec (k : Cal) : (d.setCal k).nextExec = d.nextExec := rfl
@[simp] theorem Device.setCal_queues (k : Cal) : (d.setCal k).queues = d.queues := rfl
@[simp] theorem Device.setCal_capRuns (k : Cal) : (d.setCal k).capRuns = d.capRuns := rfl
@[simp] theorem Device.setCal_capBufs (k : Cal) : (d.setCal k).capBufs = d.capBufs := rfl
@[simp] theorem Device.setCal_engines (k : Cal) : (d.setCal k).engines = d.engines := rfl
@[simp] theorem Device.setCal_frets (k : Cal) : (d.setCal k).frets = d.frets := rfl
@[simp] theorem Device.setCal_frames (k : Cal) : (d.setCal k).frames = d.frames := rfl
@[simp] theorem Device.setCal_loader (k : Cal) : (d.setCal k).loader = d.loader := rfl
@[simp] theorem Device.setCal_scrub (k : Cal) : (d.setCal k).scrub = d.scrub := rfl
@[simp] theorem Device.setCal_gpio (k : Cal) : (d.setCal k).gpio = d.gpio := rfl
@[simp] theorem Device.setCal_link (k : Cal) : (d.setCal k).link = d.link := rfl
@[simp] theorem Device.setCal_heldIn (k : Cal) : (d.setCal k).heldIn = d.heldIn := rfl
@[simp] theorem Device.setCal_ddrOut (k : Cal) : (d.setCal k).ddrOut = d.ddrOut := rfl
@[simp] theorem Device.setCal_answer (k : Cal) : (d.setCal k).answer = d.answer := rfl
@[simp] theorem Device.setCal_poisoned (k : Cal) : (d.setCal k).poisoned = d.poisoned := rfl
@[simp] theorem Device.setCal_fq (k : Cal) : (d.setCal k).fq = d.fq := rfl
@[simp] theorem Device.setCal_fqSince (k : Cal) : (d.setCal k).fqSince = d.fqSince := rfl
@[simp] theorem Device.setCal_cseq (k : Cal) : (d.setCal k).cseq = d.cseq := rfl
@[simp] theorem Device.setCal_clampRep (k : Cal) : (d.setCal k).clampRep = d.clampRep := rfl
@[simp] theorem Device.setCal_logQ (k : Cal) : (d.setCal k).logQ = d.logQ := rfl
@[simp] theorem Device.setCal_logIdx (k : Cal) : (d.setCal k).logIdx = d.logIdx := rfl
@[simp] theorem Device.setCal_logAt (k : Cal) : (d.setCal k).logAt = d.logAt := rfl
@[simp] theorem Device.setCal_logSeq (k : Cal) : (d.setCal k).logSeq = d.logSeq := rfl
@[simp] theorem Device.setCal_msix (k : Cal) : (d.setCal k).msix = d.msix := rfl
@[simp] theorem Device.setCal_sys (k : Cal) : (d.setCal k).sys = d.sys := rfl
@[simp] theorem Device.setCal_rd (k : Cal) (a : Nat) : (d.setCal k).rd a = d.rd a := rfl
@[simp] theorem Device.setCal_cal (k : Cal) : (d.setCal k).cal = k := rfl

@[simp] theorem Device.setChain_regs (n : Nat) (c : Chain) : (d.setChain n c).regs = d.regs := rfl
@[simp] theorem Device.setChain_edge (n : Nat) (c : Chain) : (d.setChain n c).edge = d.edge := rfl
@[simp] theorem Device.setChain_freeCtr (n : Nat) (c : Chain) : (d.setChain n c).freeCtr = d.freeCtr := rfl
@[simp] theorem Device.setChain_chan (n : Nat) (c : Chain) : (d.setChain n c).chan = d.chan := rfl
@[simp] theorem Device.setChain_course (n : Nat) (c : Chain) : (d.setChain n c).course = d.course := rfl
@[simp] theorem Device.setChain_mx (n : Nat) (c : Chain) : (d.setChain n c).mx = d.mx := rfl
@[simp] theorem Device.setChain_rmu (n : Nat) (c : Chain) : (d.setChain n c).rmu = d.rmu := rfl
@[simp] theorem Device.setChain_calP (n : Nat) (c : Chain) : (d.setChain n c).calP = d.calP := rfl
@[simp] theorem Device.setChain_cal (n : Nat) (c : Chain) : (d.setChain n c).cal = d.cal := rfl
@[simp] theorem Device.setChain_rec (n : Nat) (c : Chain) : (d.setChain n c).rec_ = d.rec_ := rfl
@[simp] theorem Device.setChain_thrs (n : Nat) (c : Chain) : (d.setChain n c).thrs = d.thrs := rfl
@[simp] theorem Device.setChain_lanePend (n : Nat) (c : Chain) : (d.setChain n c).lanePend = d.lanePend := rfl
@[simp] theorem Device.setChain_laneOut (n : Nat) (c : Chain) : (d.setChain n c).laneOut = d.laneOut := rfl
@[simp] theorem Device.setChain_axes (n : Nat) (c : Chain) : (d.setChain n c).axes = d.axes := rfl
@[simp] theorem Device.setChain_cmps (n : Nat) (c : Chain) : (d.setChain n c).cmps = d.cmps := rfl
@[simp] theorem Device.setChain_posMsgs (n : Nat) (c : Chain) : (d.setChain n c).posMsgs = d.posMsgs := rfl
@[simp] theorem Device.setChain_lists (n : Nat) (c : Chain) : (d.setChain n c).lists = d.lists := rfl
@[simp] theorem Device.setChain_execs (n : Nat) (c : Chain) : (d.setChain n c).execs = d.execs := rfl
@[simp] theorem Device.setChain_nextExec (n : Nat) (c : Chain) : (d.setChain n c).nextExec = d.nextExec := rfl
@[simp] theorem Device.setChain_queues (n : Nat) (c : Chain) : (d.setChain n c).queues = d.queues := rfl
@[simp] theorem Device.setChain_capRuns (n : Nat) (c : Chain) : (d.setChain n c).capRuns = d.capRuns := rfl
@[simp] theorem Device.setChain_capBufs (n : Nat) (c : Chain) : (d.setChain n c).capBufs = d.capBufs := rfl
@[simp] theorem Device.setChain_engines (n : Nat) (c : Chain) : (d.setChain n c).engines = d.engines := rfl
@[simp] theorem Device.setChain_frets (n : Nat) (c : Chain) : (d.setChain n c).frets = d.frets := rfl
@[simp] theorem Device.setChain_frames (n : Nat) (c : Chain) : (d.setChain n c).frames = d.frames := rfl
@[simp] theorem Device.setChain_loader (n : Nat) (c : Chain) : (d.setChain n c).loader = d.loader := rfl
@[simp] theorem Device.setChain_scrub (n : Nat) (c : Chain) : (d.setChain n c).scrub = d.scrub := rfl
@[simp] theorem Device.setChain_gpio (n : Nat) (c : Chain) : (d.setChain n c).gpio = d.gpio := rfl
@[simp] theorem Device.setChain_link (n : Nat) (c : Chain) : (d.setChain n c).link = d.link := rfl
@[simp] theorem Device.setChain_heldIn (n : Nat) (c : Chain) : (d.setChain n c).heldIn = d.heldIn := rfl
@[simp] theorem Device.setChain_ddrOut (n : Nat) (c : Chain) : (d.setChain n c).ddrOut = d.ddrOut := rfl
@[simp] theorem Device.setChain_answer (n : Nat) (c : Chain) : (d.setChain n c).answer = d.answer := rfl
@[simp] theorem Device.setChain_poisoned (n : Nat) (c : Chain) : (d.setChain n c).poisoned = d.poisoned := rfl
@[simp] theorem Device.setChain_fq (n : Nat) (c : Chain) : (d.setChain n c).fq = d.fq := rfl
@[simp] theorem Device.setChain_fqSince (n : Nat) (c : Chain) : (d.setChain n c).fqSince = d.fqSince := rfl
@[simp] theorem Device.setChain_cseq (n : Nat) (c : Chain) : (d.setChain n c).cseq = d.cseq := rfl
@[simp] theorem Device.setChain_clampRep (n : Nat) (c : Chain) : (d.setChain n c).clampRep = d.clampRep := rfl
@[simp] theorem Device.setChain_logQ (n : Nat) (c : Chain) : (d.setChain n c).logQ = d.logQ := rfl
@[simp] theorem Device.setChain_logIdx (n : Nat) (c : Chain) : (d.setChain n c).logIdx = d.logIdx := rfl
@[simp] theorem Device.setChain_logAt (n : Nat) (c : Chain) : (d.setChain n c).logAt = d.logAt := rfl
@[simp] theorem Device.setChain_logSeq (n : Nat) (c : Chain) : (d.setChain n c).logSeq = d.logSeq := rfl
@[simp] theorem Device.setChain_msix (n : Nat) (c : Chain) : (d.setChain n c).msix = d.msix := rfl
@[simp] theorem Device.setChain_sys (n : Nat) (c : Chain) : (d.setChain n c).sys = d.sys := rfl
@[simp] theorem Device.setChain_rd (n : Nat) (c : Chain) (a : Nat) : (d.setChain n c).rd a = d.rd a := rfl
@[simp] theorem Device.setChain_same (n : Nat) (c : Chain) : (d.setChain n c).chain n = c := tabGet_tabSet_same ..
theorem Device.setChain_other (n : Nat) (c : Chain) (m : Nat) (h : m ≠ n) : (d.setChain n c).chain m = d.chain m := tabGet_tabSet_other _ _ _ h

@[simp] theorem Device.setThr_regs (n : Nat) (c : Thr) : (d.setThr n c).regs = d.regs := rfl
@[simp] theorem Device.setThr_edge (n : Nat) (c : Thr) : (d.setThr n c).edge = d.edge := rfl
@[simp] theorem Device.setThr_freeCtr (n : Nat) (c : Thr) : (d.setThr n c).freeCtr = d.freeCtr := rfl
@[simp] theorem Device.setThr_chan (n : Nat) (c : Thr) : (d.setThr n c).chan = d.chan := rfl
@[simp] theorem Device.setThr_course (n : Nat) (c : Thr) : (d.setThr n c).course = d.course := rfl
@[simp] theorem Device.setThr_mx (n : Nat) (c : Thr) : (d.setThr n c).mx = d.mx := rfl
@[simp] theorem Device.setThr_rmu (n : Nat) (c : Thr) : (d.setThr n c).rmu = d.rmu := rfl
@[simp] theorem Device.setThr_calP (n : Nat) (c : Thr) : (d.setThr n c).calP = d.calP := rfl
@[simp] theorem Device.setThr_cal (n : Nat) (c : Thr) : (d.setThr n c).cal = d.cal := rfl
@[simp] theorem Device.setThr_rec (n : Nat) (c : Thr) : (d.setThr n c).rec_ = d.rec_ := rfl
@[simp] theorem Device.setThr_chains (n : Nat) (c : Thr) : (d.setThr n c).chains = d.chains := rfl
@[simp] theorem Device.setThr_lanePend (n : Nat) (c : Thr) : (d.setThr n c).lanePend = d.lanePend := rfl
@[simp] theorem Device.setThr_laneOut (n : Nat) (c : Thr) : (d.setThr n c).laneOut = d.laneOut := rfl
@[simp] theorem Device.setThr_axes (n : Nat) (c : Thr) : (d.setThr n c).axes = d.axes := rfl
@[simp] theorem Device.setThr_cmps (n : Nat) (c : Thr) : (d.setThr n c).cmps = d.cmps := rfl
@[simp] theorem Device.setThr_posMsgs (n : Nat) (c : Thr) : (d.setThr n c).posMsgs = d.posMsgs := rfl
@[simp] theorem Device.setThr_lists (n : Nat) (c : Thr) : (d.setThr n c).lists = d.lists := rfl
@[simp] theorem Device.setThr_execs (n : Nat) (c : Thr) : (d.setThr n c).execs = d.execs := rfl
@[simp] theorem Device.setThr_nextExec (n : Nat) (c : Thr) : (d.setThr n c).nextExec = d.nextExec := rfl
@[simp] theorem Device.setThr_queues (n : Nat) (c : Thr) : (d.setThr n c).queues = d.queues := rfl
@[simp] theorem Device.setThr_capRuns (n : Nat) (c : Thr) : (d.setThr n c).capRuns = d.capRuns := rfl
@[simp] theorem Device.setThr_capBufs (n : Nat) (c : Thr) : (d.setThr n c).capBufs = d.capBufs := rfl
@[simp] theorem Device.setThr_engines (n : Nat) (c : Thr) : (d.setThr n c).engines = d.engines := rfl
@[simp] theorem Device.setThr_frets (n : Nat) (c : Thr) : (d.setThr n c).frets = d.frets := rfl
@[simp] theorem Device.setThr_frames (n : Nat) (c : Thr) : (d.setThr n c).frames = d.frames := rfl
@[simp] theorem Device.setThr_loader (n : Nat) (c : Thr) : (d.setThr n c).loader = d.loader := rfl
@[simp] theorem Device.setThr_scrub (n : Nat) (c : Thr) : (d.setThr n c).scrub = d.scrub := rfl
@[simp] theorem Device.setThr_gpio (n : Nat) (c : Thr) : (d.setThr n c).gpio = d.gpio := rfl
@[simp] theorem Device.setThr_link (n : Nat) (c : Thr) : (d.setThr n c).link = d.link := rfl
@[simp] theorem Device.setThr_heldIn (n : Nat) (c : Thr) : (d.setThr n c).heldIn = d.heldIn := rfl
@[simp] theorem Device.setThr_ddrOut (n : Nat) (c : Thr) : (d.setThr n c).ddrOut = d.ddrOut := rfl
@[simp] theorem Device.setThr_answer (n : Nat) (c : Thr) : (d.setThr n c).answer = d.answer := rfl
@[simp] theorem Device.setThr_poisoned (n : Nat) (c : Thr) : (d.setThr n c).poisoned = d.poisoned := rfl
@[simp] theorem Device.setThr_fq (n : Nat) (c : Thr) : (d.setThr n c).fq = d.fq := rfl
@[simp] theorem Device.setThr_fqSince (n : Nat) (c : Thr) : (d.setThr n c).fqSince = d.fqSince := rfl
@[simp] theorem Device.setThr_cseq (n : Nat) (c : Thr) : (d.setThr n c).cseq = d.cseq := rfl
@[simp] theorem Device.setThr_clampRep (n : Nat) (c : Thr) : (d.setThr n c).clampRep = d.clampRep := rfl
@[simp] theorem Device.setThr_logQ (n : Nat) (c : Thr) : (d.setThr n c).logQ = d.logQ := rfl
@[simp] theorem Device.setThr_logIdx (n : Nat) (c : Thr) : (d.setThr n c).logIdx = d.logIdx := rfl
@[simp] theorem Device.setThr_logAt (n : Nat) (c : Thr) : (d.setThr n c).logAt = d.logAt := rfl
@[simp] theorem Device.setThr_logSeq (n : Nat) (c : Thr) : (d.setThr n c).logSeq = d.logSeq := rfl
@[simp] theorem Device.setThr_msix (n : Nat) (c : Thr) : (d.setThr n c).msix = d.msix := rfl
@[simp] theorem Device.setThr_sys (n : Nat) (c : Thr) : (d.setThr n c).sys = d.sys := rfl
@[simp] theorem Device.setThr_rd (n : Nat) (c : Thr) (a : Nat) : (d.setThr n c).rd a = d.rd a := rfl
@[simp] theorem Device.setThr_same (n : Nat) (c : Thr) : (d.setThr n c).thr n = c := tabGet_tabSet_same ..
theorem Device.setThr_other (n : Nat) (c : Thr) (m : Nat) (h : m ≠ n) : (d.setThr n c).thr m = d.thr m := tabGet_tabSet_other _ _ _ h

@[simp] theorem Device.setAx_regs (n : Nat) (c : Axis) : (d.setAx n c).regs = d.regs := rfl
@[simp] theorem Device.setAx_edge (n : Nat) (c : Axis) : (d.setAx n c).edge = d.edge := rfl
@[simp] theorem Device.setAx_freeCtr (n : Nat) (c : Axis) : (d.setAx n c).freeCtr = d.freeCtr := rfl
@[simp] theorem Device.setAx_chan (n : Nat) (c : Axis) : (d.setAx n c).chan = d.chan := rfl
@[simp] theorem Device.setAx_course (n : Nat) (c : Axis) : (d.setAx n c).course = d.course := rfl
@[simp] theorem Device.setAx_mx (n : Nat) (c : Axis) : (d.setAx n c).mx = d.mx := rfl
@[simp] theorem Device.setAx_rmu (n : Nat) (c : Axis) : (d.setAx n c).rmu = d.rmu := rfl
@[simp] theorem Device.setAx_calP (n : Nat) (c : Axis) : (d.setAx n c).calP = d.calP := rfl
@[simp] theorem Device.setAx_cal (n : Nat) (c : Axis) : (d.setAx n c).cal = d.cal := rfl
@[simp] theorem Device.setAx_rec (n : Nat) (c : Axis) : (d.setAx n c).rec_ = d.rec_ := rfl
@[simp] theorem Device.setAx_chains (n : Nat) (c : Axis) : (d.setAx n c).chains = d.chains := rfl
@[simp] theorem Device.setAx_thrs (n : Nat) (c : Axis) : (d.setAx n c).thrs = d.thrs := rfl
@[simp] theorem Device.setAx_lanePend (n : Nat) (c : Axis) : (d.setAx n c).lanePend = d.lanePend := rfl
@[simp] theorem Device.setAx_laneOut (n : Nat) (c : Axis) : (d.setAx n c).laneOut = d.laneOut := rfl
@[simp] theorem Device.setAx_cmps (n : Nat) (c : Axis) : (d.setAx n c).cmps = d.cmps := rfl
@[simp] theorem Device.setAx_posMsgs (n : Nat) (c : Axis) : (d.setAx n c).posMsgs = d.posMsgs := rfl
@[simp] theorem Device.setAx_lists (n : Nat) (c : Axis) : (d.setAx n c).lists = d.lists := rfl
@[simp] theorem Device.setAx_execs (n : Nat) (c : Axis) : (d.setAx n c).execs = d.execs := rfl
@[simp] theorem Device.setAx_nextExec (n : Nat) (c : Axis) : (d.setAx n c).nextExec = d.nextExec := rfl
@[simp] theorem Device.setAx_queues (n : Nat) (c : Axis) : (d.setAx n c).queues = d.queues := rfl
@[simp] theorem Device.setAx_capRuns (n : Nat) (c : Axis) : (d.setAx n c).capRuns = d.capRuns := rfl
@[simp] theorem Device.setAx_capBufs (n : Nat) (c : Axis) : (d.setAx n c).capBufs = d.capBufs := rfl
@[simp] theorem Device.setAx_engines (n : Nat) (c : Axis) : (d.setAx n c).engines = d.engines := rfl
@[simp] theorem Device.setAx_frets (n : Nat) (c : Axis) : (d.setAx n c).frets = d.frets := rfl
@[simp] theorem Device.setAx_frames (n : Nat) (c : Axis) : (d.setAx n c).frames = d.frames := rfl
@[simp] theorem Device.setAx_loader (n : Nat) (c : Axis) : (d.setAx n c).loader = d.loader := rfl
@[simp] theorem Device.setAx_scrub (n : Nat) (c : Axis) : (d.setAx n c).scrub = d.scrub := rfl
@[simp] theorem Device.setAx_gpio (n : Nat) (c : Axis) : (d.setAx n c).gpio = d.gpio := rfl
@[simp] theorem Device.setAx_link (n : Nat) (c : Axis) : (d.setAx n c).link = d.link := rfl
@[simp] theorem Device.setAx_heldIn (n : Nat) (c : Axis) : (d.setAx n c).heldIn = d.heldIn := rfl
@[simp] theorem Device.setAx_ddrOut (n : Nat) (c : Axis) : (d.setAx n c).ddrOut = d.ddrOut := rfl
@[simp] theorem Device.setAx_answer (n : Nat) (c : Axis) : (d.setAx n c).answer = d.answer := rfl
@[simp] theorem Device.setAx_poisoned (n : Nat) (c : Axis) : (d.setAx n c).poisoned = d.poisoned := rfl
@[simp] theorem Device.setAx_fq (n : Nat) (c : Axis) : (d.setAx n c).fq = d.fq := rfl
@[simp] theorem Device.setAx_fqSince (n : Nat) (c : Axis) : (d.setAx n c).fqSince = d.fqSince := rfl
@[simp] theorem Device.setAx_cseq (n : Nat) (c : Axis) : (d.setAx n c).cseq = d.cseq := rfl
@[simp] theorem Device.setAx_clampRep (n : Nat) (c : Axis) : (d.setAx n c).clampRep = d.clampRep := rfl
@[simp] theorem Device.setAx_logQ (n : Nat) (c : Axis) : (d.setAx n c).logQ = d.logQ := rfl
@[simp] theorem Device.setAx_logIdx (n : Nat) (c : Axis) : (d.setAx n c).logIdx = d.logIdx := rfl
@[simp] theorem Device.setAx_logAt (n : Nat) (c : Axis) : (d.setAx n c).logAt = d.logAt := rfl
@[simp] theorem Device.setAx_logSeq (n : Nat) (c : Axis) : (d.setAx n c).logSeq = d.logSeq := rfl
@[simp] theorem Device.setAx_msix (n : Nat) (c : Axis) : (d.setAx n c).msix = d.msix := rfl
@[simp] theorem Device.setAx_sys (n : Nat) (c : Axis) : (d.setAx n c).sys = d.sys := rfl
@[simp] theorem Device.setAx_rd (n : Nat) (c : Axis) (a : Nat) : (d.setAx n c).rd a = d.rd a := rfl
@[simp] theorem Device.setAx_same (n : Nat) (c : Axis) : (d.setAx n c).ax n = c := tabGet_tabSet_same ..
theorem Device.setAx_other (n : Nat) (c : Axis) (m : Nat) (h : m ≠ n) : (d.setAx n c).ax m = d.ax m := tabGet_tabSet_other _ _ _ h

@[simp] theorem Device.setLst_regs (n : Nat) (c : ListSt) : (d.setLst n c).regs = d.regs := rfl
@[simp] theorem Device.setLst_edge (n : Nat) (c : ListSt) : (d.setLst n c).edge = d.edge := rfl
@[simp] theorem Device.setLst_freeCtr (n : Nat) (c : ListSt) : (d.setLst n c).freeCtr = d.freeCtr := rfl
@[simp] theorem Device.setLst_chan (n : Nat) (c : ListSt) : (d.setLst n c).chan = d.chan := rfl
@[simp] theorem Device.setLst_course (n : Nat) (c : ListSt) : (d.setLst n c).course = d.course := rfl
@[simp] theorem Device.setLst_mx (n : Nat) (c : ListSt) : (d.setLst n c).mx = d.mx := rfl
@[simp] theorem Device.setLst_rmu (n : Nat) (c : ListSt) : (d.setLst n c).rmu = d.rmu := rfl
@[simp] theorem Device.setLst_calP (n : Nat) (c : ListSt) : (d.setLst n c).calP = d.calP := rfl
@[simp] theorem Device.setLst_cal (n : Nat) (c : ListSt) : (d.setLst n c).cal = d.cal := rfl
@[simp] theorem Device.setLst_rec (n : Nat) (c : ListSt) : (d.setLst n c).rec_ = d.rec_ := rfl
@[simp] theorem Device.setLst_chains (n : Nat) (c : ListSt) : (d.setLst n c).chains = d.chains := rfl
@[simp] theorem Device.setLst_thrs (n : Nat) (c : ListSt) : (d.setLst n c).thrs = d.thrs := rfl
@[simp] theorem Device.setLst_lanePend (n : Nat) (c : ListSt) : (d.setLst n c).lanePend = d.lanePend := rfl
@[simp] theorem Device.setLst_laneOut (n : Nat) (c : ListSt) : (d.setLst n c).laneOut = d.laneOut := rfl
@[simp] theorem Device.setLst_axes (n : Nat) (c : ListSt) : (d.setLst n c).axes = d.axes := rfl
@[simp] theorem Device.setLst_cmps (n : Nat) (c : ListSt) : (d.setLst n c).cmps = d.cmps := rfl
@[simp] theorem Device.setLst_posMsgs (n : Nat) (c : ListSt) : (d.setLst n c).posMsgs = d.posMsgs := rfl
@[simp] theorem Device.setLst_execs (n : Nat) (c : ListSt) : (d.setLst n c).execs = d.execs := rfl
@[simp] theorem Device.setLst_nextExec (n : Nat) (c : ListSt) : (d.setLst n c).nextExec = d.nextExec := rfl
@[simp] theorem Device.setLst_queues (n : Nat) (c : ListSt) : (d.setLst n c).queues = d.queues := rfl
@[simp] theorem Device.setLst_capRuns (n : Nat) (c : ListSt) : (d.setLst n c).capRuns = d.capRuns := rfl
@[simp] theorem Device.setLst_capBufs (n : Nat) (c : ListSt) : (d.setLst n c).capBufs = d.capBufs := rfl
@[simp] theorem Device.setLst_engines (n : Nat) (c : ListSt) : (d.setLst n c).engines = d.engines := rfl
@[simp] theorem Device.setLst_frets (n : Nat) (c : ListSt) : (d.setLst n c).frets = d.frets := rfl
@[simp] theorem Device.setLst_frames (n : Nat) (c : ListSt) : (d.setLst n c).frames = d.frames := rfl
@[simp] theorem Device.setLst_loader (n : Nat) (c : ListSt) : (d.setLst n c).loader = d.loader := rfl
@[simp] theorem Device.setLst_scrub (n : Nat) (c : ListSt) : (d.setLst n c).scrub = d.scrub := rfl
@[simp] theorem Device.setLst_gpio (n : Nat) (c : ListSt) : (d.setLst n c).gpio = d.gpio := rfl
@[simp] theorem Device.setLst_link (n : Nat) (c : ListSt) : (d.setLst n c).link = d.link := rfl
@[simp] theorem Device.setLst_heldIn (n : Nat) (c : ListSt) : (d.setLst n c).heldIn = d.heldIn := rfl
@[simp] theorem Device.setLst_ddrOut (n : Nat) (c : ListSt) : (d.setLst n c).ddrOut = d.ddrOut := rfl
@[simp] theorem Device.setLst_answer (n : Nat) (c : ListSt) : (d.setLst n c).answer = d.answer := rfl
@[simp] theorem Device.setLst_poisoned (n : Nat) (c : ListSt) : (d.setLst n c).poisoned = d.poisoned := rfl
@[simp] theorem Device.setLst_fq (n : Nat) (c : ListSt) : (d.setLst n c).fq = d.fq := rfl
@[simp] theorem Device.setLst_fqSince (n : Nat) (c : ListSt) : (d.setLst n c).fqSince = d.fqSince := rfl
@[simp] theorem Device.setLst_cseq (n : Nat) (c : ListSt) : (d.setLst n c).cseq = d.cseq := rfl
@[simp] theorem Device.setLst_clampRep (n : Nat) (c : ListSt) : (d.setLst n c).clampRep = d.clampRep := rfl
@[simp] theorem Device.setLst_logQ (n : Nat) (c : ListSt) : (d.setLst n c).logQ = d.logQ := rfl
@[simp] theorem Device.setLst_logIdx (n : Nat) (c : ListSt) : (d.setLst n c).logIdx = d.logIdx := rfl
@[simp] theorem Device.setLst_logAt (n : Nat) (c : ListSt) : (d.setLst n c).logAt = d.logAt := rfl
@[simp] theorem Device.setLst_logSeq (n : Nat) (c : ListSt) : (d.setLst n c).logSeq = d.logSeq := rfl
@[simp] theorem Device.setLst_msix (n : Nat) (c : ListSt) : (d.setLst n c).msix = d.msix := rfl
@[simp] theorem Device.setLst_sys (n : Nat) (c : ListSt) : (d.setLst n c).sys = d.sys := rfl
@[simp] theorem Device.setLst_rd (n : Nat) (c : ListSt) (a : Nat) : (d.setLst n c).rd a = d.rd a := rfl
@[simp] theorem Device.setLst_same (n : Nat) (c : ListSt) : (d.setLst n c).lst n = c := tabGet_tabSet_same ..
theorem Device.setLst_other (n : Nat) (c : ListSt) (m : Nat) (h : m ≠ n) : (d.setLst n c).lst m = d.lst m := tabGet_tabSet_other _ _ _ h

@[simp] theorem Device.setExec_regs (x : Exec) : (d.setExec x).regs = d.regs := rfl
@[simp] theorem Device.setExec_edge (x : Exec) : (d.setExec x).edge = d.edge := rfl
@[simp] theorem Device.setExec_freeCtr (x : Exec) : (d.setExec x).freeCtr = d.freeCtr := rfl
@[simp] theorem Device.setExec_chan (x : Exec) : (d.setExec x).chan = d.chan := rfl
@[simp] theorem Device.setExec_course (x : Exec) : (d.setExec x).course = d.course := rfl
@[simp] theorem Device.setExec_mx (x : Exec) : (d.setExec x).mx = d.mx := rfl
@[simp] theorem Device.setExec_rmu (x : Exec) : (d.setExec x).rmu = d.rmu := rfl
@[simp] theorem Device.setExec_calP (x : Exec) : (d.setExec x).calP = d.calP := rfl
@[simp] theorem Device.setExec_cal (x : Exec) : (d.setExec x).cal = d.cal := rfl
@[simp] theorem Device.setExec_rec (x : Exec) : (d.setExec x).rec_ = d.rec_ := rfl
@[simp] theorem Device.setExec_chains (x : Exec) : (d.setExec x).chains = d.chains := rfl
@[simp] theorem Device.setExec_thrs (x : Exec) : (d.setExec x).thrs = d.thrs := rfl
@[simp] theorem Device.setExec_lanePend (x : Exec) : (d.setExec x).lanePend = d.lanePend := rfl
@[simp] theorem Device.setExec_laneOut (x : Exec) : (d.setExec x).laneOut = d.laneOut := rfl
@[simp] theorem Device.setExec_axes (x : Exec) : (d.setExec x).axes = d.axes := rfl
@[simp] theorem Device.setExec_cmps (x : Exec) : (d.setExec x).cmps = d.cmps := rfl
@[simp] theorem Device.setExec_posMsgs (x : Exec) : (d.setExec x).posMsgs = d.posMsgs := rfl
@[simp] theorem Device.setExec_lists (x : Exec) : (d.setExec x).lists = d.lists := rfl
@[simp] theorem Device.setExec_nextExec (x : Exec) : (d.setExec x).nextExec = d.nextExec := rfl
@[simp] theorem Device.setExec_queues (x : Exec) : (d.setExec x).queues = d.queues := rfl
@[simp] theorem Device.setExec_capRuns (x : Exec) : (d.setExec x).capRuns = d.capRuns := rfl
@[simp] theorem Device.setExec_capBufs (x : Exec) : (d.setExec x).capBufs = d.capBufs := rfl
@[simp] theorem Device.setExec_engines (x : Exec) : (d.setExec x).engines = d.engines := rfl
@[simp] theorem Device.setExec_frets (x : Exec) : (d.setExec x).frets = d.frets := rfl
@[simp] theorem Device.setExec_frames (x : Exec) : (d.setExec x).frames = d.frames := rfl
@[simp] theorem Device.setExec_loader (x : Exec) : (d.setExec x).loader = d.loader := rfl
@[simp] theorem Device.setExec_scrub (x : Exec) : (d.setExec x).scrub = d.scrub := rfl
@[simp] theorem Device.setExec_gpio (x : Exec) : (d.setExec x).gpio = d.gpio := rfl
@[simp] theorem Device.setExec_link (x : Exec) : (d.setExec x).link = d.link := rfl
@[simp] theorem Device.setExec_heldIn (x : Exec) : (d.setExec x).heldIn = d.heldIn := rfl
@[simp] theorem Device.setExec_ddrOut (x : Exec) : (d.setExec x).ddrOut = d.ddrOut := rfl
@[simp] theorem Device.setExec_answer (x : Exec) : (d.setExec x).answer = d.answer := rfl
@[simp] theorem Device.setExec_poisoned (x : Exec) : (d.setExec x).poisoned = d.poisoned := rfl
@[simp] theorem Device.setExec_fq (x : Exec) : (d.setExec x).fq = d.fq := rfl
@[simp] theorem Device.setExec_fqSince (x : Exec) : (d.setExec x).fqSince = d.fqSince := rfl
@[simp] theorem Device.setExec_cseq (x : Exec) : (d.setExec x).cseq = d.cseq := rfl
@[simp] theorem Device.setExec_clampRep (x : Exec) : (d.setExec x).clampRep = d.clampRep := rfl
@[simp] theorem Device.setExec_logQ (x : Exec) : (d.setExec x).logQ = d.logQ := rfl
@[simp] theorem Device.setExec_logIdx (x : Exec) : (d.setExec x).logIdx = d.logIdx := rfl
@[simp] theorem Device.setExec_logAt (x : Exec) : (d.setExec x).logAt = d.logAt := rfl
@[simp] theorem Device.setExec_logSeq (x : Exec) : (d.setExec x).logSeq = d.logSeq := rfl
@[simp] theorem Device.setExec_msix (x : Exec) : (d.setExec x).msix = d.msix := rfl
@[simp] theorem Device.setExec_sys (x : Exec) : (d.setExec x).sys = d.sys := rfl
@[simp] theorem Device.setExec_rd (x : Exec) (a : Nat) : (d.setExec x).rd a = d.rd a := rfl

@[simp] theorem Device.setQue_regs (n : Nat) (c : Queue) : (d.setQue n c).regs = d.regs := rfl
@[simp] theorem Device.setQue_edge (n : Nat) (c : Queue) : (d.setQue n c).edge = d.edge := rfl
@[simp] theorem Device.setQue_freeCtr (n : Nat) (c : Queue) : (d.setQue n c).freeCtr = d.freeCtr := rfl
@[simp] theorem Device.setQue_chan (n : Nat) (c : Queue) : (d.setQue n c).chan = d.chan := rfl
@[simp] theorem Device.setQue_course (n : Nat) (c : Queue) : (d.setQue n c).course = d.course := rfl
@[simp] theorem Device.setQue_mx (n : Nat) (c : Queue) : (d.setQue n c).mx = d.mx := rfl
@[simp] theorem Device.setQue_rmu (n : Nat) (c : Queue) : (d.setQue n c).rmu = d.rmu := rfl
@[simp] theorem Device.setQue_calP (n : Nat) (c : Queue) : (d.setQue n c).calP = d.calP := rfl
@[simp] theorem Device.setQue_cal (n : Nat) (c : Queue) : (d.setQue n c).cal = d.cal := rfl
@[simp] theorem Device.setQue_rec (n : Nat) (c : Queue) : (d.setQue n c).rec_ = d.rec_ := rfl
@[simp] theorem Device.setQue_chains (n : Nat) (c : Queue) : (d.setQue n c).chains = d.chains := rfl
@[simp] theorem Device.setQue_thrs (n : Nat) (c : Queue) : (d.setQue n c).thrs = d.thrs := rfl
@[simp] theorem Device.setQue_lanePend (n : Nat) (c : Queue) : (d.setQue n c).lanePend = d.lanePend := rfl
@[simp] theorem Device.setQue_laneOut (n : Nat) (c : Queue) : (d.setQue n c).laneOut = d.laneOut := rfl
@[simp] theorem Device.setQue_axes (n : Nat) (c : Queue) : (d.setQue n c).axes = d.axes := rfl
@[simp] theorem Device.setQue_cmps (n : Nat) (c : Queue) : (d.setQue n c).cmps = d.cmps := rfl
@[simp] theorem Device.setQue_posMsgs (n : Nat) (c : Queue) : (d.setQue n c).posMsgs = d.posMsgs := rfl
@[simp] theorem Device.setQue_lists (n : Nat) (c : Queue) : (d.setQue n c).lists = d.lists := rfl
@[simp] theorem Device.setQue_execs (n : Nat) (c : Queue) : (d.setQue n c).execs = d.execs := rfl
@[simp] theorem Device.setQue_nextExec (n : Nat) (c : Queue) : (d.setQue n c).nextExec = d.nextExec := rfl
@[simp] theorem Device.setQue_capRuns (n : Nat) (c : Queue) : (d.setQue n c).capRuns = d.capRuns := rfl
@[simp] theorem Device.setQue_capBufs (n : Nat) (c : Queue) : (d.setQue n c).capBufs = d.capBufs := rfl
@[simp] theorem Device.setQue_engines (n : Nat) (c : Queue) : (d.setQue n c).engines = d.engines := rfl
@[simp] theorem Device.setQue_frets (n : Nat) (c : Queue) : (d.setQue n c).frets = d.frets := rfl
@[simp] theorem Device.setQue_frames (n : Nat) (c : Queue) : (d.setQue n c).frames = d.frames := rfl
@[simp] theorem Device.setQue_loader (n : Nat) (c : Queue) : (d.setQue n c).loader = d.loader := rfl
@[simp] theorem Device.setQue_scrub (n : Nat) (c : Queue) : (d.setQue n c).scrub = d.scrub := rfl
@[simp] theorem Device.setQue_gpio (n : Nat) (c : Queue) : (d.setQue n c).gpio = d.gpio := rfl
@[simp] theorem Device.setQue_link (n : Nat) (c : Queue) : (d.setQue n c).link = d.link := rfl
@[simp] theorem Device.setQue_heldIn (n : Nat) (c : Queue) : (d.setQue n c).heldIn = d.heldIn := rfl
@[simp] theorem Device.setQue_ddrOut (n : Nat) (c : Queue) : (d.setQue n c).ddrOut = d.ddrOut := rfl
@[simp] theorem Device.setQue_answer (n : Nat) (c : Queue) : (d.setQue n c).answer = d.answer := rfl
@[simp] theorem Device.setQue_poisoned (n : Nat) (c : Queue) : (d.setQue n c).poisoned = d.poisoned := rfl
@[simp] theorem Device.setQue_fq (n : Nat) (c : Queue) : (d.setQue n c).fq = d.fq := rfl
@[simp] theorem Device.setQue_fqSince (n : Nat) (c : Queue) : (d.setQue n c).fqSince = d.fqSince := rfl
@[simp] theorem Device.setQue_cseq (n : Nat) (c : Queue) : (d.setQue n c).cseq = d.cseq := rfl
@[simp] theorem Device.setQue_clampRep (n : Nat) (c : Queue) : (d.setQue n c).clampRep = d.clampRep := rfl
@[simp] theorem Device.setQue_logQ (n : Nat) (c : Queue) : (d.setQue n c).logQ = d.logQ := rfl
@[simp] theorem Device.setQue_logIdx (n : Nat) (c : Queue) : (d.setQue n c).logIdx = d.logIdx := rfl
@[simp] theorem Device.setQue_logAt (n : Nat) (c : Queue) : (d.setQue n c).logAt = d.logAt := rfl
@[simp] theorem Device.setQue_logSeq (n : Nat) (c : Queue) : (d.setQue n c).logSeq = d.logSeq := rfl
@[simp] theorem Device.setQue_msix (n : Nat) (c : Queue) : (d.setQue n c).msix = d.msix := rfl
@[simp] theorem Device.setQue_sys (n : Nat) (c : Queue) : (d.setQue n c).sys = d.sys := rfl
@[simp] theorem Device.setQue_rd (n : Nat) (c : Queue) (a : Nat) : (d.setQue n c).rd a = d.rd a := rfl
@[simp] theorem Device.setQue_same (n : Nat) (c : Queue) : (d.setQue n c).que n = c := tabGet_tabSet_same ..
theorem Device.setQue_other (n : Nat) (c : Queue) (m : Nat) (h : m ≠ n) : (d.setQue n c).que m = d.que m := tabGet_tabSet_other _ _ _ h

@[simp] theorem Device.setEng_regs (n : Nat) (c : Engine) : (d.setEng n c).regs = d.regs := rfl
@[simp] theorem Device.setEng_edge (n : Nat) (c : Engine) : (d.setEng n c).edge = d.edge := rfl
@[simp] theorem Device.setEng_freeCtr (n : Nat) (c : Engine) : (d.setEng n c).freeCtr = d.freeCtr := rfl
@[simp] theorem Device.setEng_chan (n : Nat) (c : Engine) : (d.setEng n c).chan = d.chan := rfl
@[simp] theorem Device.setEng_course (n : Nat) (c : Engine) : (d.setEng n c).course = d.course := rfl
@[simp] theorem Device.setEng_mx (n : Nat) (c : Engine) : (d.setEng n c).mx = d.mx := rfl
@[simp] theorem Device.setEng_rmu (n : Nat) (c : Engine) : (d.setEng n c).rmu = d.rmu := rfl
@[simp] theorem Device.setEng_calP (n : Nat) (c : Engine) : (d.setEng n c).calP = d.calP := rfl
@[simp] theorem Device.setEng_cal (n : Nat) (c : Engine) : (d.setEng n c).cal = d.cal := rfl
@[simp] theorem Device.setEng_rec (n : Nat) (c : Engine) : (d.setEng n c).rec_ = d.rec_ := rfl
@[simp] theorem Device.setEng_chains (n : Nat) (c : Engine) : (d.setEng n c).chains = d.chains := rfl
@[simp] theorem Device.setEng_thrs (n : Nat) (c : Engine) : (d.setEng n c).thrs = d.thrs := rfl
@[simp] theorem Device.setEng_lanePend (n : Nat) (c : Engine) : (d.setEng n c).lanePend = d.lanePend := rfl
@[simp] theorem Device.setEng_laneOut (n : Nat) (c : Engine) : (d.setEng n c).laneOut = d.laneOut := rfl
@[simp] theorem Device.setEng_axes (n : Nat) (c : Engine) : (d.setEng n c).axes = d.axes := rfl
@[simp] theorem Device.setEng_cmps (n : Nat) (c : Engine) : (d.setEng n c).cmps = d.cmps := rfl
@[simp] theorem Device.setEng_posMsgs (n : Nat) (c : Engine) : (d.setEng n c).posMsgs = d.posMsgs := rfl
@[simp] theorem Device.setEng_lists (n : Nat) (c : Engine) : (d.setEng n c).lists = d.lists := rfl
@[simp] theorem Device.setEng_execs (n : Nat) (c : Engine) : (d.setEng n c).execs = d.execs := rfl
@[simp] theorem Device.setEng_nextExec (n : Nat) (c : Engine) : (d.setEng n c).nextExec = d.nextExec := rfl
@[simp] theorem Device.setEng_queues (n : Nat) (c : Engine) : (d.setEng n c).queues = d.queues := rfl
@[simp] theorem Device.setEng_capRuns (n : Nat) (c : Engine) : (d.setEng n c).capRuns = d.capRuns := rfl
@[simp] theorem Device.setEng_capBufs (n : Nat) (c : Engine) : (d.setEng n c).capBufs = d.capBufs := rfl
@[simp] theorem Device.setEng_frets (n : Nat) (c : Engine) : (d.setEng n c).frets = d.frets := rfl
@[simp] theorem Device.setEng_frames (n : Nat) (c : Engine) : (d.setEng n c).frames = d.frames := rfl
@[simp] theorem Device.setEng_loader (n : Nat) (c : Engine) : (d.setEng n c).loader = d.loader := rfl
@[simp] theorem Device.setEng_scrub (n : Nat) (c : Engine) : (d.setEng n c).scrub = d.scrub := rfl
@[simp] theorem Device.setEng_gpio (n : Nat) (c : Engine) : (d.setEng n c).gpio = d.gpio := rfl
@[simp] theorem Device.setEng_link (n : Nat) (c : Engine) : (d.setEng n c).link = d.link := rfl
@[simp] theorem Device.setEng_heldIn (n : Nat) (c : Engine) : (d.setEng n c).heldIn = d.heldIn := rfl
@[simp] theorem Device.setEng_ddrOut (n : Nat) (c : Engine) : (d.setEng n c).ddrOut = d.ddrOut := rfl
@[simp] theorem Device.setEng_answer (n : Nat) (c : Engine) : (d.setEng n c).answer = d.answer := rfl
@[simp] theorem Device.setEng_poisoned (n : Nat) (c : Engine) : (d.setEng n c).poisoned = d.poisoned := rfl
@[simp] theorem Device.setEng_fq (n : Nat) (c : Engine) : (d.setEng n c).fq = d.fq := rfl
@[simp] theorem Device.setEng_fqSince (n : Nat) (c : Engine) : (d.setEng n c).fqSince = d.fqSince := rfl
@[simp] theorem Device.setEng_cseq (n : Nat) (c : Engine) : (d.setEng n c).cseq = d.cseq := rfl
@[simp] theorem Device.setEng_clampRep (n : Nat) (c : Engine) : (d.setEng n c).clampRep = d.clampRep := rfl
@[simp] theorem Device.setEng_logQ (n : Nat) (c : Engine) : (d.setEng n c).logQ = d.logQ := rfl
@[simp] theorem Device.setEng_logIdx (n : Nat) (c : Engine) : (d.setEng n c).logIdx = d.logIdx := rfl
@[simp] theorem Device.setEng_logAt (n : Nat) (c : Engine) : (d.setEng n c).logAt = d.logAt := rfl
@[simp] theorem Device.setEng_logSeq (n : Nat) (c : Engine) : (d.setEng n c).logSeq = d.logSeq := rfl
@[simp] theorem Device.setEng_msix (n : Nat) (c : Engine) : (d.setEng n c).msix = d.msix := rfl
@[simp] theorem Device.setEng_sys (n : Nat) (c : Engine) : (d.setEng n c).sys = d.sys := rfl
@[simp] theorem Device.setEng_rd (n : Nat) (c : Engine) (a : Nat) : (d.setEng n c).rd a = d.rd a := rfl
@[simp] theorem Device.setEng_same (n : Nat) (c : Engine) : (d.setEng n c).eng n = c := tabGet_tabSet_same ..
theorem Device.setEng_other (n : Nat) (c : Engine) (m : Nat) (h : m ≠ n) : (d.setEng n c).eng m = d.eng m := tabGet_tabSet_other _ _ _ h

@[simp] theorem Device.setFret_regs (n : Nat) (c : Fret) : (d.setFret n c).regs = d.regs := rfl
@[simp] theorem Device.setFret_edge (n : Nat) (c : Fret) : (d.setFret n c).edge = d.edge := rfl
@[simp] theorem Device.setFret_freeCtr (n : Nat) (c : Fret) : (d.setFret n c).freeCtr = d.freeCtr := rfl
@[simp] theorem Device.setFret_chan (n : Nat) (c : Fret) : (d.setFret n c).chan = d.chan := rfl
@[simp] theorem Device.setFret_course (n : Nat) (c : Fret) : (d.setFret n c).course = d.course := rfl
@[simp] theorem Device.setFret_mx (n : Nat) (c : Fret) : (d.setFret n c).mx = d.mx := rfl
@[simp] theorem Device.setFret_rmu (n : Nat) (c : Fret) : (d.setFret n c).rmu = d.rmu := rfl
@[simp] theorem Device.setFret_calP (n : Nat) (c : Fret) : (d.setFret n c).calP = d.calP := rfl
@[simp] theorem Device.setFret_cal (n : Nat) (c : Fret) : (d.setFret n c).cal = d.cal := rfl
@[simp] theorem Device.setFret_rec (n : Nat) (c : Fret) : (d.setFret n c).rec_ = d.rec_ := rfl
@[simp] theorem Device.setFret_chains (n : Nat) (c : Fret) : (d.setFret n c).chains = d.chains := rfl
@[simp] theorem Device.setFret_thrs (n : Nat) (c : Fret) : (d.setFret n c).thrs = d.thrs := rfl
@[simp] theorem Device.setFret_lanePend (n : Nat) (c : Fret) : (d.setFret n c).lanePend = d.lanePend := rfl
@[simp] theorem Device.setFret_laneOut (n : Nat) (c : Fret) : (d.setFret n c).laneOut = d.laneOut := rfl
@[simp] theorem Device.setFret_axes (n : Nat) (c : Fret) : (d.setFret n c).axes = d.axes := rfl
@[simp] theorem Device.setFret_cmps (n : Nat) (c : Fret) : (d.setFret n c).cmps = d.cmps := rfl
@[simp] theorem Device.setFret_posMsgs (n : Nat) (c : Fret) : (d.setFret n c).posMsgs = d.posMsgs := rfl
@[simp] theorem Device.setFret_lists (n : Nat) (c : Fret) : (d.setFret n c).lists = d.lists := rfl
@[simp] theorem Device.setFret_execs (n : Nat) (c : Fret) : (d.setFret n c).execs = d.execs := rfl
@[simp] theorem Device.setFret_nextExec (n : Nat) (c : Fret) : (d.setFret n c).nextExec = d.nextExec := rfl
@[simp] theorem Device.setFret_queues (n : Nat) (c : Fret) : (d.setFret n c).queues = d.queues := rfl
@[simp] theorem Device.setFret_capRuns (n : Nat) (c : Fret) : (d.setFret n c).capRuns = d.capRuns := rfl
@[simp] theorem Device.setFret_capBufs (n : Nat) (c : Fret) : (d.setFret n c).capBufs = d.capBufs := rfl
@[simp] theorem Device.setFret_engines (n : Nat) (c : Fret) : (d.setFret n c).engines = d.engines := rfl
@[simp] theorem Device.setFret_frames (n : Nat) (c : Fret) : (d.setFret n c).frames = d.frames := rfl
@[simp] theorem Device.setFret_loader (n : Nat) (c : Fret) : (d.setFret n c).loader = d.loader := rfl
@[simp] theorem Device.setFret_scrub (n : Nat) (c : Fret) : (d.setFret n c).scrub = d.scrub := rfl
@[simp] theorem Device.setFret_gpio (n : Nat) (c : Fret) : (d.setFret n c).gpio = d.gpio := rfl
@[simp] theorem Device.setFret_link (n : Nat) (c : Fret) : (d.setFret n c).link = d.link := rfl
@[simp] theorem Device.setFret_heldIn (n : Nat) (c : Fret) : (d.setFret n c).heldIn = d.heldIn := rfl
@[simp] theorem Device.setFret_ddrOut (n : Nat) (c : Fret) : (d.setFret n c).ddrOut = d.ddrOut := rfl
@[simp] theorem Device.setFret_answer (n : Nat) (c : Fret) : (d.setFret n c).answer = d.answer := rfl
@[simp] theorem Device.setFret_poisoned (n : Nat) (c : Fret) : (d.setFret n c).poisoned = d.poisoned := rfl
@[simp] theorem Device.setFret_fq (n : Nat) (c : Fret) : (d.setFret n c).fq = d.fq := rfl
@[simp] theorem Device.setFret_fqSince (n : Nat) (c : Fret) : (d.setFret n c).fqSince = d.fqSince := rfl
@[simp] theorem Device.setFret_cseq (n : Nat) (c : Fret) : (d.setFret n c).cseq = d.cseq := rfl
@[simp] theorem Device.setFret_clampRep (n : Nat) (c : Fret) : (d.setFret n c).clampRep = d.clampRep := rfl
@[simp] theorem Device.setFret_logQ (n : Nat) (c : Fret) : (d.setFret n c).logQ = d.logQ := rfl
@[simp] theorem Device.setFret_logIdx (n : Nat) (c : Fret) : (d.setFret n c).logIdx = d.logIdx := rfl
@[simp] theorem Device.setFret_logAt (n : Nat) (c : Fret) : (d.setFret n c).logAt = d.logAt := rfl
@[simp] theorem Device.setFret_logSeq (n : Nat) (c : Fret) : (d.setFret n c).logSeq = d.logSeq := rfl
@[simp] theorem Device.setFret_msix (n : Nat) (c : Fret) : (d.setFret n c).msix = d.msix := rfl
@[simp] theorem Device.setFret_sys (n : Nat) (c : Fret) : (d.setFret n c).sys = d.sys := rfl
@[simp] theorem Device.setFret_rd (n : Nat) (c : Fret) (a : Nat) : (d.setFret n c).rd a = d.rd a := rfl
@[simp] theorem Device.setFret_same (n : Nat) (c : Fret) : (d.setFret n c).fret n = c := tabGet_tabSet_same ..
theorem Device.setFret_other (n : Nat) (c : Fret) (m : Nat) (h : m ≠ n) : (d.setFret n c).fret m = d.fret m := tabGet_tabSet_other _ _ _ h

@[simp] theorem Device.setLoader_regs (k : Loader) : (d.setLoader k).regs = d.regs := rfl
@[simp] theorem Device.setLoader_edge (k : Loader) : (d.setLoader k).edge = d.edge := rfl
@[simp] theorem Device.setLoader_freeCtr (k : Loader) : (d.setLoader k).freeCtr = d.freeCtr := rfl
@[simp] theorem Device.setLoader_chan (k : Loader) : (d.setLoader k).chan = d.chan := rfl
@[simp] theorem Device.setLoader_course (k : Loader) : (d.setLoader k).course = d.course := rfl
@[simp] theorem Device.setLoader_mx (k : Loader) : (d.setLoader k).mx = d.mx := rfl
@[simp] theorem Device.setLoader_rmu (k : Loader) : (d.setLoader k).rmu = d.rmu := rfl
@[simp] theorem Device.setLoader_calP (k : Loader) : (d.setLoader k).calP = d.calP := rfl
@[simp] theorem Device.setLoader_cal (k : Loader) : (d.setLoader k).cal = d.cal := rfl
@[simp] theorem Device.setLoader_rec (k : Loader) : (d.setLoader k).rec_ = d.rec_ := rfl
@[simp] theorem Device.setLoader_chains (k : Loader) : (d.setLoader k).chains = d.chains := rfl
@[simp] theorem Device.setLoader_thrs (k : Loader) : (d.setLoader k).thrs = d.thrs := rfl
@[simp] theorem Device.setLoader_lanePend (k : Loader) : (d.setLoader k).lanePend = d.lanePend := rfl
@[simp] theorem Device.setLoader_laneOut (k : Loader) : (d.setLoader k).laneOut = d.laneOut := rfl
@[simp] theorem Device.setLoader_axes (k : Loader) : (d.setLoader k).axes = d.axes := rfl
@[simp] theorem Device.setLoader_cmps (k : Loader) : (d.setLoader k).cmps = d.cmps := rfl
@[simp] theorem Device.setLoader_posMsgs (k : Loader) : (d.setLoader k).posMsgs = d.posMsgs := rfl
@[simp] theorem Device.setLoader_lists (k : Loader) : (d.setLoader k).lists = d.lists := rfl
@[simp] theorem Device.setLoader_execs (k : Loader) : (d.setLoader k).execs = d.execs := rfl
@[simp] theorem Device.setLoader_nextExec (k : Loader) : (d.setLoader k).nextExec = d.nextExec := rfl
@[simp] theorem Device.setLoader_queues (k : Loader) : (d.setLoader k).queues = d.queues := rfl
@[simp] theorem Device.setLoader_capRuns (k : Loader) : (d.setLoader k).capRuns = d.capRuns := rfl
@[simp] theorem Device.setLoader_capBufs (k : Loader) : (d.setLoader k).capBufs = d.capBufs := rfl
@[simp] theorem Device.setLoader_engines (k : Loader) : (d.setLoader k).engines = d.engines := rfl
@[simp] theorem Device.setLoader_frets (k : Loader) : (d.setLoader k).frets = d.frets := rfl
@[simp] theorem Device.setLoader_frames (k : Loader) : (d.setLoader k).frames = d.frames := rfl
@[simp] theorem Device.setLoader_scrub (k : Loader) : (d.setLoader k).scrub = d.scrub := rfl
@[simp] theorem Device.setLoader_gpio (k : Loader) : (d.setLoader k).gpio = d.gpio := rfl
@[simp] theorem Device.setLoader_link (k : Loader) : (d.setLoader k).link = d.link := rfl
@[simp] theorem Device.setLoader_heldIn (k : Loader) : (d.setLoader k).heldIn = d.heldIn := rfl
@[simp] theorem Device.setLoader_ddrOut (k : Loader) : (d.setLoader k).ddrOut = d.ddrOut := rfl
@[simp] theorem Device.setLoader_answer (k : Loader) : (d.setLoader k).answer = d.answer := rfl
@[simp] theorem Device.setLoader_poisoned (k : Loader) : (d.setLoader k).poisoned = d.poisoned := rfl
@[simp] theorem Device.setLoader_fq (k : Loader) : (d.setLoader k).fq = d.fq := rfl
@[simp] theorem Device.setLoader_fqSince (k : Loader) : (d.setLoader k).fqSince = d.fqSince := rfl
@[simp] theorem Device.setLoader_cseq (k : Loader) : (d.setLoader k).cseq = d.cseq := rfl
@[simp] theorem Device.setLoader_clampRep (k : Loader) : (d.setLoader k).clampRep = d.clampRep := rfl
@[simp] theorem Device.setLoader_logQ (k : Loader) : (d.setLoader k).logQ = d.logQ := rfl
@[simp] theorem Device.setLoader_logIdx (k : Loader) : (d.setLoader k).logIdx = d.logIdx := rfl
@[simp] theorem Device.setLoader_logAt (k : Loader) : (d.setLoader k).logAt = d.logAt := rfl
@[simp] theorem Device.setLoader_logSeq (k : Loader) : (d.setLoader k).logSeq = d.logSeq := rfl
@[simp] theorem Device.setLoader_msix (k : Loader) : (d.setLoader k).msix = d.msix := rfl
@[simp] theorem Device.setLoader_sys (k : Loader) : (d.setLoader k).sys = d.sys := rfl
@[simp] theorem Device.setLoader_rd (k : Loader) (a : Nat) : (d.setLoader k).rd a = d.rd a := rfl
@[simp] theorem Device.setLoader_loader (k : Loader) : (d.setLoader k).loader = k := rfl

@[simp] theorem Device.setLink_regs (k : Link) : (d.setLink k).regs = d.regs := rfl
@[simp] theorem Device.setLink_edge (k : Link) : (d.setLink k).edge = d.edge := rfl
@[simp] theorem Device.setLink_freeCtr (k : Link) : (d.setLink k).freeCtr = d.freeCtr := rfl
@[simp] theorem Device.setLink_chan (k : Link) : (d.setLink k).chan = d.chan := rfl
@[simp] theorem Device.setLink_course (k : Link) : (d.setLink k).course = d.course := rfl
@[simp] theorem Device.setLink_mx (k : Link) : (d.setLink k).mx = d.mx := rfl
@[simp] theorem Device.setLink_rmu (k : Link) : (d.setLink k).rmu = d.rmu := rfl
@[simp] theorem Device.setLink_calP (k : Link) : (d.setLink k).calP = d.calP := rfl
@[simp] theorem Device.setLink_cal (k : Link) : (d.setLink k).cal = d.cal := rfl
@[simp] theorem Device.setLink_rec (k : Link) : (d.setLink k).rec_ = d.rec_ := rfl
@[simp] theorem Device.setLink_chains (k : Link) : (d.setLink k).chains = d.chains := rfl
@[simp] theorem Device.setLink_thrs (k : Link) : (d.setLink k).thrs = d.thrs := rfl
@[simp] theorem Device.setLink_lanePend (k : Link) : (d.setLink k).lanePend = d.lanePend := rfl
@[simp] theorem Device.setLink_laneOut (k : Link) : (d.setLink k).laneOut = d.laneOut := rfl
@[simp] theorem Device.setLink_axes (k : Link) : (d.setLink k).axes = d.axes := rfl
@[simp] theorem Device.setLink_cmps (k : Link) : (d.setLink k).cmps = d.cmps := rfl
@[simp] theorem Device.setLink_posMsgs (k : Link) : (d.setLink k).posMsgs = d.posMsgs := rfl
@[simp] theorem Device.setLink_lists (k : Link) : (d.setLink k).lists = d.lists := rfl
@[simp] theorem Device.setLink_execs (k : Link) : (d.setLink k).execs = d.execs := rfl
@[simp] theorem Device.setLink_nextExec (k : Link) : (d.setLink k).nextExec = d.nextExec := rfl
@[simp] theorem Device.setLink_queues (k : Link) : (d.setLink k).queues = d.queues := rfl
@[simp] theorem Device.setLink_capRuns (k : Link) : (d.setLink k).capRuns = d.capRuns := rfl
@[simp] theorem Device.setLink_capBufs (k : Link) : (d.setLink k).capBufs = d.capBufs := rfl
@[simp] theorem Device.setLink_engines (k : Link) : (d.setLink k).engines = d.engines := rfl
@[simp] theorem Device.setLink_frets (k : Link) : (d.setLink k).frets = d.frets := rfl
@[simp] theorem Device.setLink_frames (k : Link) : (d.setLink k).frames = d.frames := rfl
@[simp] theorem Device.setLink_loader (k : Link) : (d.setLink k).loader = d.loader := rfl
@[simp] theorem Device.setLink_scrub (k : Link) : (d.setLink k).scrub = d.scrub := rfl
@[simp] theorem Device.setLink_gpio (k : Link) : (d.setLink k).gpio = d.gpio := rfl
@[simp] theorem Device.setLink_heldIn (k : Link) : (d.setLink k).heldIn = d.heldIn := rfl
@[simp] theorem Device.setLink_ddrOut (k : Link) : (d.setLink k).ddrOut = d.ddrOut := rfl
@[simp] theorem Device.setLink_answer (k : Link) : (d.setLink k).answer = d.answer := rfl
@[simp] theorem Device.setLink_poisoned (k : Link) : (d.setLink k).poisoned = d.poisoned := rfl
@[simp] theorem Device.setLink_fq (k : Link) : (d.setLink k).fq = d.fq := rfl
@[simp] theorem Device.setLink_fqSince (k : Link) : (d.setLink k).fqSince = d.fqSince := rfl
@[simp] theorem Device.setLink_cseq (k : Link) : (d.setLink k).cseq = d.cseq := rfl
@[simp] theorem Device.setLink_clampRep (k : Link) : (d.setLink k).clampRep = d.clampRep := rfl
@[simp] theorem Device.setLink_logQ (k : Link) : (d.setLink k).logQ = d.logQ := rfl
@[simp] theorem Device.setLink_logIdx (k : Link) : (d.setLink k).logIdx = d.logIdx := rfl
@[simp] theorem Device.setLink_logAt (k : Link) : (d.setLink k).logAt = d.logAt := rfl
@[simp] theorem Device.setLink_logSeq (k : Link) : (d.setLink k).logSeq = d.logSeq := rfl
@[simp] theorem Device.setLink_msix (k : Link) : (d.setLink k).msix = d.msix := rfl
@[simp] theorem Device.setLink_sys (k : Link) : (d.setLink k).sys = d.sys := rfl
@[simp] theorem Device.setLink_rd (k : Link) (a : Nat) : (d.setLink k).rd a = d.rd a := rfl
@[simp] theorem Device.setLink_link (k : Link) : (d.setLink k).link = k := rfl

@[simp] theorem Device.setSys_regs (k : Sys) : (d.setSys k).regs = d.regs := rfl
@[simp] theorem Device.setSys_edge (k : Sys) : (d.setSys k).edge = d.edge := rfl
@[simp] theorem Device.setSys_freeCtr (k : Sys) : (d.setSys k).freeCtr = d.freeCtr := rfl
@[simp] theorem Device.setSys_chan (k : Sys) : (d.setSys k).chan = d.chan := rfl
@[simp] theorem Device.setSys_course (k : Sys) : (d.setSys k).course = d.course := rfl
@[simp] theorem Device.setSys_mx (k : Sys) : (d.setSys k).mx = d.mx := rfl
@[simp] theorem Device.setSys_rmu (k : Sys) : (d.setSys k).rmu = d.rmu := rfl
@[simp] theorem Device.setSys_calP (k : Sys) : (d.setSys k).calP = d.calP := rfl
@[simp] theorem Device.setSys_cal (k : Sys) : (d.setSys k).cal = d.cal := rfl
@[simp] theorem Device.setSys_rec (k : Sys) : (d.setSys k).rec_ = d.rec_ := rfl
@[simp] theorem Device.setSys_chains (k : Sys) : (d.setSys k).chains = d.chains := rfl
@[simp] theorem Device.setSys_thrs (k : Sys) : (d.setSys k).thrs = d.thrs := rfl
@[simp] theorem Device.setSys_lanePend (k : Sys) : (d.setSys k).lanePend = d.lanePend := rfl
@[simp] theorem Device.setSys_laneOut (k : Sys) : (d.setSys k).laneOut = d.laneOut := rfl
@[simp] theorem Device.setSys_axes (k : Sys) : (d.setSys k).axes = d.axes := rfl
@[simp] theorem Device.setSys_cmps (k : Sys) : (d.setSys k).cmps = d.cmps := rfl
@[simp] theorem Device.setSys_posMsgs (k : Sys) : (d.setSys k).posMsgs = d.posMsgs := rfl
@[simp] theorem Device.setSys_lists (k : Sys) : (d.setSys k).lists = d.lists := rfl
@[simp] theorem Device.setSys_execs (k : Sys) : (d.setSys k).execs = d.execs := rfl
@[simp] theorem Device.setSys_nextExec (k : Sys) : (d.setSys k).nextExec = d.nextExec := rfl
@[simp] theorem Device.setSys_queues (k : Sys) : (d.setSys k).queues = d.queues := rfl
@[simp] theorem Device.setSys_capRuns (k : Sys) : (d.setSys k).capRuns = d.capRuns := rfl
@[simp] theorem Device.setSys_capBufs (k : Sys) : (d.setSys k).capBufs = d.capBufs := rfl
@[simp] theorem Device.setSys_engines (k : Sys) : (d.setSys k).engines = d.engines := rfl
@[simp] theorem Device.setSys_frets (k : Sys) : (d.setSys k).frets = d.frets := rfl
@[simp] theorem Device.setSys_frames (k : Sys) : (d.setSys k).frames = d.frames := rfl
@[simp] theorem Device.setSys_loader (k : Sys) : (d.setSys k).loader = d.loader := rfl
@[simp] theorem Device.setSys_scrub (k : Sys) : (d.setSys k).scrub = d.scrub := rfl
@[simp] theorem Device.setSys_gpio (k : Sys) : (d.setSys k).gpio = d.gpio := rfl
@[simp] theorem Device.setSys_link (k : Sys) : (d.setSys k).link = d.link := rfl
@[simp] theorem Device.setSys_heldIn (k : Sys) : (d.setSys k).heldIn = d.heldIn := rfl
@[simp] theorem Device.setSys_ddrOut (k : Sys) : (d.setSys k).ddrOut = d.ddrOut := rfl
@[simp] theorem Device.setSys_answer (k : Sys) : (d.setSys k).answer = d.answer := rfl
@[simp] theorem Device.setSys_poisoned (k : Sys) : (d.setSys k).poisoned = d.poisoned := rfl
@[simp] theorem Device.setSys_fq (k : Sys) : (d.setSys k).fq = d.fq := rfl
@[simp] theorem Device.setSys_fqSince (k : Sys) : (d.setSys k).fqSince = d.fqSince := rfl
@[simp] theorem Device.setSys_cseq (k : Sys) : (d.setSys k).cseq = d.cseq := rfl
@[simp] theorem Device.setSys_clampRep (k : Sys) : (d.setSys k).clampRep = d.clampRep := rfl
@[simp] theorem Device.setSys_logQ (k : Sys) : (d.setSys k).logQ = d.logQ := rfl
@[simp] theorem Device.setSys_logIdx (k : Sys) : (d.setSys k).logIdx = d.logIdx := rfl
@[simp] theorem Device.setSys_logAt (k : Sys) : (d.setSys k).logAt = d.logAt := rfl
@[simp] theorem Device.setSys_logSeq (k : Sys) : (d.setSys k).logSeq = d.logSeq := rfl
@[simp] theorem Device.setSys_msix (k : Sys) : (d.setSys k).msix = d.msix := rfl
@[simp] theorem Device.setSys_rd (k : Sys) (a : Nat) : (d.setSys k).rd a = d.rd a := rfl
@[simp] theorem Device.setSys_sys (k : Sys) : (d.setSys k).sys = k := rfl

end Sys2Proof.Machine
end

