-- ==== Sys2Proof/Laws/Flags.lean ====
section
/-!
SUPPORT. Laws of registers and reports: a register read after a write; an event, an interrupt, a fault-queue entry, a notice and a
clamp report write nothing but their own registers and records.
-/

namespace Sys2Proof.Machine.Device

variable (d : Device)

/-! Registers. -/

theorem rd_wr (a b : Nat) (v : Word) : (d.wr a v).rd b = if b = a then v else d.rd b := by
  simp [rd, wr, tabGet_tabSet]

@[simp] theorem rd_wr_same (a : Nat) (v : Word) : (d.wr a v).rd a = v := by simp [rd_wr]

theorem rd_wr_other {a b : Nat} (v : Word) (h : b ≠ a) : (d.wr a v).rd b = d.rd b := by simp [rd_wr, h]

/-- A field after its register is written. -/
theorem fget_wr_same (a lo n : Nat) (v : Word) : (d.wr a v).fget a lo n = bitsOf v lo n := by simp [fget]

theorem fget_wr_other {a b : Nat} (lo n : Nat) (v : Word) (h : b ≠ a) : (d.wr a v).fget b lo n = d.fget b lo n := by
  simp [fget, rd_wr_other d v h]

theorem rd_fset (a b lo n x : Nat) : (d.fset a lo n x).rd b = if b = a then setBits (d.rd a) lo n x else d.rd b := by
  simp [fset, rd_wr]

theorem rd_fset_other {a b : Nat} (lo n x : Nat) (h : b ≠ a) : (d.fset a lo n x).rd b = d.rd b := by simp [rd_fset, h]

theorem fget_fset_same (a : Nat) {lo n : Nat} (x : Nat) (h : lo + n ≤ 32) : (d.fset a lo n x).fget a lo n = x % 2 ^ n := by
  simp [fget, rd_fset, h]

theorem fget_fset_other {a b : Nat} (lo n x lo' n' : Nat) (h : b ≠ a) : (d.fset a lo n x).fget b lo' n' = d.fget b lo' n' := by
  simp [fget, rd_fset, h]

theorem fget_fset_disjoint (a : Nat) {lo n lo' n' : Nat} (x : Nat) (h : lo + n ≤ 32) (hd : lo' + n' ≤ lo ∨ lo + n ≤ lo') :
    (d.fset a lo n x).fget a lo' n' = d.fget a lo' n' := by
  simp [fget, rd_fset, bitsOf_setBits_disjoint _ _ h hd]

@[simp] theorem fset_plant (a lo n x : Nat) : (d.fset a lo n x).plant = d.plant := by cases d; rfl
@[simp] theorem fsetB_plant (a i : Nat) (b : Bool) : (d.fsetB a i b).plant = d.plant := by cases d; rfl
@[simp] theorem bump_plant (a lo n : Nat) : (d.bump a lo n).plant = d.plant := by cases d; rfl
@[simp] theorem bumpBy_plant (a lo n k : Nat) : (d.bumpBy a lo n k).plant = d.plant := by cases d; rfl
@[simp] theorem toReset_plant (a : Nat) : (d.toReset a).plant = d.plant := by cases d; rfl

/-! Interrupts and events. -/

theorem signal_rd (v b : Nat) (h : b ≠ 0xD9000 + 4 * (v / 32)) : (d.signal v).rd b = d.rd b := by
  unfold signal
  split
  · split
    · exact rd_fset_other d _ _ _ h
    · rfl
  · rfl

@[simp] theorem signal_plant (v : Nat) : (d.signal v).plant = d.plant := by
  unfold signal
  split
  · split <;> rfl
  · rfl

theorem ite_some_lt {c : Prop} [Decidable c] {x y : Option Nat} (hx : ∀ v, x = some v → v < 16) (hy : ∀ v, y = some v → v < 16) :
    ∀ v, (if c then x else y) = some v → v < 16 := by
  intro v
  by_cases h : c
  · rw [if_pos h]; exact hx v
  · rw [if_neg h]; exact hy v

/-- Block vectors are vectors 1 to 15. -/
theorem vectorOf_lt (a : Nat) : ∀ v, vectorOf a = some v → v < 16 := by
  unfold vectorOf
  dsimp only
  repeat' apply ite_some_lt
  all_goals (intro v h; cases h; try decide)

/-- The interrupt of a rising event bit writes nothing beside the pending-bit array. -/
theorem event_rd (a i b : Nat) (h : b ≠ a) (hp : b ≠ 0xD9000) : (d.event a i).rd b = d.rd b := by
  unfold event
  split
  · rfl
  · split
    · rename_i v hv
      have hv' := vectorOf_lt a v hv
      have h0 : v / 32 = 0 := by omega
      rw [signal_rd _ _ _ (by simpa [h0] using hp), rd_fset_other d _ _ _ h]
    · exact rd_fset_other d _ _ _ h

@[simp] theorem event_plant (a i : Nat) : (d.event a i).plant = d.plant := by
  unfold event
  split
  · rfl
  · split
    · simp
    · rfl

/-- An event leaves its bit set. -/
theorem event_flag (a i : Nat) (hi : i < 32) (ha : a ≠ 0xD9000) : (d.event a i).flag a i = true := by
  unfold event
  split
  · assumption
  · have key : ∀ e : Device, e.rd a = (d.fset a i 1 1).rd a → e.flag a i = true := by
      intro e he
      unfold flag fget
      rw [he, rd_fset]
      have h1 : i + 1 ≤ 32 := hi
      simp [h1]
    split
    · rename_i v hv
      have hv' := vectorOf_lt a v hv
      have h0 : v / 32 = 0 := by omega
      exact key _ (signal_rd _ _ _ (by simpa [h0] using ha))
    · exact key _ rfl

/-! The fault queue. -/

theorem reportReg_false {a : Nat} (h : reportReg a = false) :
    a ≠ 0x20040 ∧ a ≠ 0x50004 ∧ a ≠ 0x50020 ∧ a ≠ 0x50028 ∧ a ≠ 0x50040 ∧ a ≠ 0x50044 ∧ a ≠ 0x50048 ∧ a ≠ 0x5004C ∧ a ≠ 0xD9000 ∧
      a ≠ 0xD9004 := by
  simpa [reportReg] using h

theorem fqIrq_rd (b : Nat) (h : reportReg b = false) : d.fqIrq.rd b = d.rd b := by
  unfold fqIrq
  split
  · have := reportReg_false h
    rw [signal_rd _ _ _ (by omega)]
    rfl
  · rfl

@[simp] theorem fqIrq_plant : d.fqIrq.plant = d.plant := by
  unfold fqIrq
  split
  · simp; rfl
  · rfl

theorem fqOverrun_rd (b : Nat) (h : reportReg b = false) : d.fqOverrun.rd b = d.rd b := by
  have := reportReg_false h
  unfold fqOverrun
  split
  · rw [event_rd _ _ _ _ (by omega) (by omega)]
    exact rd_fset_other d _ _ _ (by omega)
  · rfl

@[simp] theorem fqOverrun_plant : d.fqOverrun.plant = d.plant := by
  unfold fqOverrun
  split
  · simp
  · rfl

theorem fqPush_rd (e : FqEntry) (b : Nat) (h : reportReg b = false) : (d.fqPush e).rd b = d.rd b := by
  have := reportReg_false h
  unfold fqPush
  simp only
  rw [fqIrq_rd _ _ h, fqOverrun_rd _ _ h, rd_wr_other _ _ (by omega)]
  rfl

@[simp] theorem fqPush_plant (e : FqEntry) : (d.fqPush e).plant = d.plant := by
  unfold fqPush
  simp
  rfl

theorem countClass_rd (c : Cls) (b : Nat) (h : reportReg b = false) : (d.countClass c).rd b = d.rd b := by
  have := reportReg_false h
  unfold countClass
  cases c
  · simp only; rw [event_rd _ _ _ _ (by omega) (by omega)]; exact rd_fset_other d _ _ _ (by omega)
  · simp only; rw [event_rd _ _ _ _ (by omega) (by omega)]; exact rd_fset_other d _ _ _ (by omega)
  · simp only; rw [event_rd _ _ _ _ (by omega) (by omega)]; exact rd_fset_other d _ _ _ (by omega)
  · exact rd_fset_other d _ _ _ (by omega)

@[simp] theorem countClass_plant (c : Cls) : (d.countClass c).plant = d.plant := by cases c <;> simp [countClass]

/-- A report writes the reporting registers only. -/
theorem report_rd (e : FqEntry) (f : Bool) (b : Nat) (h : reportReg b = false) : (d.report e f).rd b = d.rd b := by
  unfold report
  simp only
  split
  · exact countClass_rd _ _ _ h
  · rw [fqPush_rd _ _ _ h, countClass_rd _ _ _ h]

@[simp] theorem report_plant (e : FqEntry) (f : Bool) : (d.report e f).plant = d.plant := by
  unfold report
  simp only
  split <;> simp

theorem notice_rd (k i c x b : Nat) (h : reportReg b = false) : (d.notice k i c x).rd b = d.rd b := report_rd _ _ _ _ h
@[simp] theorem notice_plant (k i c x : Nat) : (d.notice k i c x).plant = d.plant := report_plant _ _ _
theorem noticeRefused_rd (a b : Nat) (h : reportReg b = false) : (d.noticeRefused a).rd b = d.rd b := report_rd _ _ _ _ h
@[simp] theorem noticeRefused_plant (a : Nat) : (d.noticeRefused a).plant = d.plant := report_plant _ _ _

theorem noticeClamped_rd (a : Option Nat) (k c b : Nat) (h : reportReg b = false) : (d.noticeClamped a k c).rd b = d.rd b := by
  cases a <;> exact report_rd _ _ _ _ h
@[simp] theorem noticeClamped_plant (a : Option Nat) (k c : Nat) : (d.noticeClamped a k c).plant = d.plant := by
  cases a <;> exact report_plant _ _ _

/-! Clamp reports. -/

theorem clampEntry_rd (e : ClampEntry) (b : Nat) (h : reportReg b = false) : (d.clampEntry e).rd b = d.rd b := by
  have := reportReg_false h
  unfold clampEntry
  simp only
  split
  · rw [rd_fset_other _ _ _ _ (by omega)]; rfl
  · exact rd_fset_other _ _ _ _ (by omega)
@[simp] theorem clampEntry_plant (e : ClampEntry) : (d.clampEntry e).plant = d.plant := by
  unfold clampEntry
  simp only
  split
  · rw [fset_plant]; rfl
  · rw [bump_plant]; rfl

theorem reportClamp_rd (src : ClampSrc) (a : Option Nat) (k c w r f : Nat) (o p : Int) (b : Nat) (h : reportReg b = false) :
    (d.reportClamp src a k c w r f o p).rd b = d.rd b := by
  unfold reportClamp; rw [noticeClamped_rd _ _ _ _ _ h, clampEntry_rd _ _ _ h]
@[simp] theorem reportClamp_plant (src : ClampSrc) (a : Option Nat) (k c w r f : Nat) (o p : Int) :
    (d.reportClamp src a k c w r f o p).plant = d.plant := by simp [reportClamp]

/-- Where the block of a register reports a clamp or a refusal: its event register, for a wheel those of the axes (R183). -/
def EventReg (a b : Nat) : Prop := (∃ c r, blockEvents a = some (b, c, r)) ∨ (0x78000 ≤ a ∧ a < 0x78800 ∧ ∃ x < 4, b = aPOS x 0x30)

theorem foldl_plant {β : Type} (f : Device → β → Device) (hf : ∀ d x, (f d x).plant = d.plant) (l : List β) :
    (l.foldl f d).plant = d.plant := by
  induction l generalizing d with
  | nil => rfl
  | cons x r ih => rw [List.foldl_cons, ih, hf]

theorem foldl_rd {β : Type} (f : Device → β → Device) (b : Nat) (l : List β) (hf : ∀ d, ∀ x ∈ l, (f d x).rd b = d.rd b) :
    (l.foldl f d).rd b = d.rd b := by
  induction l generalizing d with
  | nil => rfl
  | cons x r ih => rw [List.foldl_cons, ih _ (fun d y hy => hf d y (List.mem_cons_of_mem _ hy)), hf _ _ (List.mem_cons_self ..)]

theorem wheelAxes_lt {w x : Nat} (h : x ∈ d.wheelAxes w) : x < 4 := by
  unfold wheelAxes at h; exact List.mem_range.mp (List.mem_filter.mp h).1

/-- An event of a wheel is an event of axes. -/
theorem eventWheel_rd (a bit b : Nat) (hb : ∀ x < 4, b ≠ aPOS x 0x30) (h : reportReg b = false) : (d.eventWheel a bit).rd b = d.rd b := by
  have := reportReg_false h
  unfold eventWheel
  refine foldl_rd _ _ _ _ fun d' x hx => event_rd _ _ _ _ (hb x ?_) (by omega)
  split at hx
  · simp at hx; omega
  · exact wheelAxes_lt _ hx
@[simp] theorem eventWheel_plant (a bit : Nat) : (d.eventWheel a bit).plant = d.plant := by
  unfold eventWheel; exact foldl_plant _ _ (fun d x => by simp) _

theorem eventClamped_rd (a b : Nat) (hb : ¬ EventReg a b) (h : reportReg b = false) : (d.eventClamped a).rd b = d.rd b := by
  have := reportReg_false h
  unfold eventClamped
  split
  · rename_i hw
    exact eventWheel_rd _ _ _ _ (fun x hx e => hb (.inr ⟨hw.1, hw.2, x, hx, e⟩)) h
  · split
    · rename_i e c r he
      refine event_rd _ _ _ _ ?_ (by omega)
      rintro rfl; exact hb (.inl ⟨c, r, he⟩)
    · rfl
@[simp] theorem eventClamped_plant (a : Nat) : (d.eventClamped a).plant = d.plant := by
  unfold eventClamped; split
  · simp
  · split <;> simp

theorem eventRefused_rd (a b : Nat) (hb : ¬ EventReg a b) (h : reportReg b = false) : (d.eventRefused a).rd b = d.rd b := by
  have := reportReg_false h
  unfold eventRefused
  split
  · rename_i hw
    exact eventWheel_rd _ _ _ _ (fun x hx e => hb (.inr ⟨hw.1, hw.2, x, hx, e⟩)) h
  · split
    · rename_i e c r he
      refine event_rd _ _ _ _ ?_ (by omega)
      rintro rfl; exact hb (.inl ⟨c, r, he⟩)
    · rfl
@[simp] theorem eventRefused_plant (a : Nat) : (d.eventRefused a).plant = d.plant := by
  unfold eventRefused; split
  · simp
  · split <;> simp

/-- A refusal writes the event register of its block and the reporting registers only. -/
theorem refuse_rd (a b : Nat) (hb : ¬ EventReg a b) (h : reportReg b = false) : (d.refuse a).rd b = d.rd b := by
  unfold refuse; rw [noticeRefused_rd _ _ _ h, eventRefused_rd _ _ _ hb h]
@[simp] theorem refuse_plant (a : Nat) : (d.refuse a).plant = d.plant := by simp [refuse]
@[simp] theorem refuseShell_plant (a : Nat) : (d.refuseShell a).plant = d.plant := by simp [refuseShell]
@[simp] theorem badWrite_plant : d.badWrite.plant = d.plant := by simp [badWrite]

/-- What does not reach its register changes nothing but reports. -/
@[simp] theorem turnAway_plant (w : Wr) (a : Nat) : (d.turnAway w a).plant = d.plant := by
  unfold turnAway
  split
  · simp
  · split
    · rfl
    · split <;> simp

@[simp] theorem reportHits_plant (src : ClampSrc) (a r w c : Nat) (hits : List ClampHit) :
    (d.reportHits src a r w c hits).plant = d.plant := by
  unfold reportHits
  split
  · rfl
  · rw [eventClamped_plant, foldl_plant]
    intro d x; simp

theorem reportHits_rd (src : ClampSrc) (a r w c : Nat) (hits : List ClampHit) (b : Nat) (hb : ¬ EventReg a b) (h : reportReg b = false) :
    (d.reportHits src a r w c hits).rd b = d.rd b := by
  unfold reportHits
  split
  · rfl
  · rw [eventClamped_rd _ _ _ hb h, foldl_rd]
    intro d x _; exact reportClamp_rd _ _ _ _ _ _ _ _ _ _ _ h

@[simp] theorem reportHits_nil (src : ClampSrc) (a r w c : Nat) : d.reportHits src a r w c [] = d := rfl

@[simp] theorem putCooked_plant (p : Party) (a : Nat) (raw : Word) : (d.putCooked p a raw).plant = d.plant := by
  simp [putCooked]

/-- A register write of configuration fields writes its register and reports. -/
theorem putCooked_rd_other (p : Party) (a : Nat) (raw : Word) (b : Nat) (hba : b ≠ a) (hb : ¬ EventReg a b) (h : reportReg b = false) :
    (d.putCooked p a raw).rd b = d.rd b := by
  unfold putCooked
  simp only
  rw [reportHits_rd _ _ _ _ _ _ _ _ hb h, rd_wr_other _ _ hba]

/-- The register written holds the cooked word. -/
theorem putCooked_rd_same (p : Party) (a : Nat) (raw : Word) (hb : ¬ EventReg a a) (h : reportReg a = false) :
    (d.putCooked p a raw).rd a = storeWord a (d.cook a raw).1 := by
  unfold putCooked
  simp only
  rw [reportHits_rd _ _ _ _ _ _ _ _ hb h, rd_wr_same]

end Sys2Proof.Machine.Device
end

