-- ==== Sys2Proof/Laws/Memory.lean ====
section
/-!
SUPPORT. Laws of the byte memories: every operation keeps the canonical form, a read after a write.
-/

namespace Sys2Proof.Machine

theorem tabAbove_filter {α : Type} (b : Nat) (p : Nat × α → Bool) {t : Tab α} (h : tabAbove b t = true) :
    tabAbove b (t.filter p) = true := by
  simp only [tabAbove, List.all_eq_true] at *
  intro x hx
  exact h x (List.mem_filter.1 hx).1

/-- Taking entries away keeps the canonical form. -/
theorem tabWf_filter {α : Type} [DecidableEq α] (d : Nat → α) (p : Nat × α → Bool) {t : Tab α} (h : tabWf d t = true) :
    tabWf d (t.filter p) = true := by
  induction t with
  | nil => rfl
  | cons x r ih =>
    obtain ⟨i, w⟩ := x
    obtain ⟨hw, ha, hr⟩ := tabWf_cons.1 h
    rw [List.filter_cons]
    split
    · exact tabWf_cons.2 ⟨hw, tabAbove_filter _ _ ha, ih hr⟩
    · exact ih hr

/-- Storing bytes keeps the canonical form. -/
theorem tabWf_writeCells (d : Nat → Byte) (bs : List Byte) (m : List Host.Cell) (a : Nat) (h : tabWf d m = true) :
    tabWf d (writeCells d m a bs) = true := by
  induction bs generalizing m a with
  | nil => exact h
  | cons b r ih => exact ih _ _ (tabWf_tabSet h)

theorem Mem.wf_iff (m : Mem) :
    m.wf = true ↔ tabWf blankRam m.ddr = true ∧ tabWf blankFlash m.flash = true ∧ tabWf blankRam m.host = true := by
  simp [Mem.wf, and_assoc]

theorem Mem.wf_ddrWrite {m : Mem} (h : m.wf = true) (a : Nat) (bs : List Byte) : (m.ddrWrite a bs).wf = true := by
  rw [Mem.wf_iff] at *
  exact ⟨tabWf_writeCells _ _ _ _ h.1, h.2⟩

theorem Mem.wf_flashWrite {m : Mem} (h : m.wf = true) (a : Nat) (bs : List Byte) : (m.flashWrite a bs).wf = true := by
  rw [Mem.wf_iff] at *
  exact ⟨h.1, tabWf_writeCells _ _ _ _ h.2.1, h.2.2⟩

theorem Mem.wf_hostWrite {m : Mem} (h : m.wf = true) (a : Nat) (bs : List Byte) : (m.hostWrite a bs).wf = true := by
  rw [Mem.wf_iff] at *
  exact ⟨h.1, h.2.1, tabWf_writeCells _ _ _ _ h.2.2⟩

/-- Writing what a command collected keeps the canonical form. -/
theorem Mem.wf_drain {m : Mem} (h : m.wf = true) (ws : List (Nat × List Byte)) : (m.drain ws).wf = true := by
  unfold Mem.drain
  induction ws generalizing m with
  | nil => exact h
  | cons w r ih => exact ih (Mem.wf_ddrWrite h _ _)

/-- Erasing part of flash keeps the canonical form. -/
theorem Mem.wf_eraseFlash {m : Mem} (h : m.wf = true) (p : Host.Cell → Bool) : ({ m with flash := m.flash.filter p } : Mem).wf = true := by
  rw [Mem.wf_iff] at *
  exact ⟨h.1, tabWf_filter _ _ h.2.1, h.2.2⟩

/-- Losing DDR5 keeps the canonical form (R456). -/
theorem Mem.wf_loseDdr {m : Mem} (h : m.wf = true) : (Device.loseDdr m).wf = true := by
  rw [Mem.wf_iff] at *
  exact ⟨rfl, h.2⟩

/-- Storing the bytes of a host access that are present and fall within DDR5 keeps the canonical form (R472). -/
theorem Device.wf_storeSome (d : Device) (bs : List (Option Byte)) {m : Mem} (h : m.wf = true) (a : Nat) :
    (d.storeSome m a bs).wf = true := by
  induction bs generalizing m a with
  | nil => exact h
  | cons b r ih =>
    cases b with
    | none => exact ih h _
    | some x =>
      unfold storeSome
      refine ih ?_ _
      split
      · rw [Mem.wf_iff] at *
        exact ⟨tabWf_tabSet h.1, h.2⟩
      · exact h

theorem readCells_length (d : Nat → Byte) (m : List Host.Cell) (a n : Nat) : (readCells d m a n).length = n := by
  induction n generalizing a with
  | zero => rfl
  | succ n ih => simp [readCells, ih]

/-- A byte after bytes are stored: the stored one within them, else the one that was there. -/
theorem tabGet_writeCells (d : Nat → Byte) (bs : List Byte) (m : List Host.Cell) (a b : Nat) :
    tabGet d (writeCells d m a bs) b = if a ≤ b ∧ b < a + bs.length then bs.getD (b - a) 0 else tabGet d m b := by
  induction bs generalizing m a with
  | nil => simp [writeCells]
  | cons x r ih =>
    rw [writeCells, ih]
    by_cases h1 : a = b
    · subst h1
      simp
    · by_cases h2 : a + 1 ≤ b ∧ b < a + 1 + r.length
      · have h3 : a ≤ b ∧ b < a + (x :: r).length := by simp; omega
        rw [if_pos h2, if_pos h3]
        have : b - a = (b - (a + 1)) + 1 := by omega
        rw [this, List.getD_cons_succ]
      · have h3 : ¬ (a ≤ b ∧ b < a + (x :: r).length) := by simp; omega
        rw [if_neg h2, if_neg h3, tabGet_tabSet_other _ _ _ (Ne.symm h1)]

end Sys2Proof.Machine
end

