-- ==== Sys2Proof/Machine/Ballout.lean ====
section
/-!
DEFINITION. The ball map of the package (R499 to R505) and the state of its ball groups (R509, R512). The map is fixed; the states are read
from the registers and drive nothing in State.
-/

namespace Sys2Proof.Machine

/-- The 19 letters that name rows, in order (R499). -/
def rowLetters : List Char := ['A', 'B', 'C', 'D', 'E', 'F', 'G', 'H', 'J', 'K', 'L', 'M', 'N', 'P', 'T', 'U', 'V', 'W', 'Y']

/-- The name of row `r`, 1 to 58 (R499). -/
def rowName (r : Nat) : List Char :=
  let c := rowLetters.getD ((r - 1) % 19) 'A'
  if r ≤ 19 then [c] else [rowLetters.getD ((r - 1) / 19 - 1) 'A', c]

/-- A ball by row and column, each 1 to 58 (R499). -/
structure Ball where
  row : Nat
  col : Nat
deriving DecidableEq, Repr

/-- The sides of the package (R500). -/
inductive Side where
  | north
  | east
  | south
  | west
deriving DecidableEq, Repr

/-- The side and the tile, counted within it, of course `c` (R501). -/
def courseTile (c : Nat) : Side × Nat :=
  if c < 9 then (.north, c) else if c < 16 then (.east, c - 9) else if c < 25 then (.south, c - 16) else (.west, c - 25)

/-- The ball at depth `k` and position `p` of the tile of course `c` (R501). -/
def tileBall (c k p : Nat) : Ball :=
  match courseTile c with
  | (.north, t) => ⟨k, 2 + 6 * t + p⟩
  | (.east, t) => ⟨8 + 6 * t + p, 59 - k⟩
  | (.south, t) => ⟨59 - k, 57 - 6 * t - p⟩
  | (.west, t) => ⟨51 - 6 * t - p, k⟩

/-- The ball of channel `n` (R502). -/
def channelBall (n : Nat) : Ball :=
  let k := n % 32
  if k < 30 then tileBall (n / 32) (k / 6 + 1) (k % 6 + 1) else tileBall (n / 32) 6 (k - 29)

/-- The supplies of the balls (R506). -/
inductive Rail where
  | vhp
  | vhn
  | vdd
  | vdda
  | vddio
  | vddq
  | vphy
  | vphyh
  | vbat
  | agnd
  | vss
deriving DecidableEq, Repr

/-- The control, memory and link balls of the core zones (R504); a differential pair carries whether it is the M member. -/
inductive CoreBall where
  | ddrDq (ch i : Nat)
  | ddrCb (ch i : Nat)
  | ddrDqs (ch i : Nat) (m : Bool)
  | ddrCa (ch i : Nat)
  | ddrCs (ch i : Nat)
  | ddrCk (ch : Nat) (m : Bool)
  | ddrResetN (ch : Nat)
  | ddrAlertN (ch : Nat)
  | xspiClk
  | xspiCsN
  | xspiDqs
  | xspiDq (i : Nat)
  | xspiResetN
  | tck
  | tms
  | tdi
  | tdo
  | trstN
  | progN
  | wakeN
  | capoN
  | confErrN
  | tamperN
  | ddrOrg (i : Nat)
  | clkout (i : Nat)
  | pcieTx (i : Nat) (m : Bool)
  | pcieRx (i : Nat) (m : Bool)
  | refa (m : Bool)
  | perstN
  | chordTx (port : Nat) (m : Bool)
  | chordRx (port : Nat) (m : Bool)
  | chordRefin (m : Bool)
  | chordRoot
deriving DecidableEq, Repr

/-- What a ball carries (R502 to R504). -/
inductive BallUse where
  | channel (n : Nat)
  | xio (x : Nat)
  | vrefp
  | vrefm
  | core (b : CoreBall)
  | rail (r : Rail)
deriving DecidableEq, Repr

/-- Both members of a differential pair, in the order of the table (R504). -/
def pair (f : Bool → CoreBall) : List CoreBall := [f false, f true]

/-- The signals of DDR5 channel `ch`, in filling order (R504). -/
def ddrSignals (ch : Nat) : List CoreBall :=
  (List.range 32).map (.ddrDq ch) ++ (List.range 8).map (.ddrCb ch) ++ (List.range 5).flatMap (fun i => pair (.ddrDqs ch i))
    ++ (List.range 14).map (.ddrCa ch) ++ (List.range 2).map (.ddrCs ch) ++ pair (.ddrCk ch) ++ [.ddrResetN ch, .ddrAlertN ch]

/-- The signals of the control zone, in filling order (R504); VBAT stands among them as a supply. -/
def controlSignals : List BallUse :=
  ([.xspiClk, .xspiCsN, .xspiDqs] ++ (List.range 8).map .xspiDq
    ++ [.xspiResetN, .tck, .tms, .tdi, .tdo, .trstN, .progN, .wakeN, .capoN, .confErrN, .tamperN] : List CoreBall).map .core
    ++ [.rail .vbat] ++ ((List.range 4).map .ddrOrg ++ (List.range 4).map .clkout : List CoreBall).map .core

/-- The signals of row 41 and of row 43 of the PCIe zone (R504). -/
def pcieSignals (row : Nat) : List CoreBall :=
  if row = 41 then (List.range 4).flatMap (fun i => pair (.pcieTx i)) ++ pair .refa
  else if row = 43 then (List.range 4).flatMap (fun i => pair (.pcieRx i)) ++ [.perstN]
  else []

/-- The signals of row 41 and of row 43 of the Chord zone (R504). -/
def chordSignals (row : Nat) : List CoreBall :=
  if row = 41 then (List.range 4).flatMap (fun i => pair (.chordTx i)) ++ pair .chordRefin ++ [.chordRoot]
  else if row = 43 then (List.range 4).flatMap (fun i => pair (.chordRx i))
  else []

/-- The signal positions of a row of a zone before column `col`: those whose row and column add to an odd number (R504). -/
def oddBefore (row lo col : Nat) : Nat := ((List.range (col - lo)).filter fun i => decide ((row + lo + i) % 2 = 1)).length

/-- The signal positions of a zone from row `top`, columns `lo` to `hi`, before a ball of it, in filling order (R504). -/
def placeIn (top lo hi : Nat) (b : Ball) : Nat :=
  ((List.range (b.row - top)).map fun i => oddBefore (top + i) lo (hi + 1)).sum + oddBefore b.row lo b.col

/-- What a ball of the core carries, its row plus column being odd (R504). -/
def coreUse (b : Ball) : BallUse :=
  if b.row ≤ 20 then
    let ch := if b.col ≤ 29 then 0 else 1
    match (ddrSignals ch)[placeIn 9 (if ch = 0 then 9 else 30) (if ch = 0 then 29 else 50) b]? with
    | some s => .core s
    | none => .rail .vddq
  else if b.row ≤ 24 then (controlSignals[placeIn 21 9 50 b]?).getD (.rail .vddio)
  else if b.row ≤ 40 then .rail .vdd
  else
    let s := if b.col ≤ 29 then (pcieSignals b.row)[oddBefore b.row 9 b.col]? else (chordSignals b.row)[oddBefore b.row 30 b.col]?
    match s with
    | some s => .core s
    | none => .rail (if b.row ≤ 45 then .vphyh else .vphy)

/-- What the balls of a tile beside its channels carry (R502): AGND guards at depths 6 and 8, the analogue rails at depth 7. -/
def tileUse (c k p : Nat) : BallUse :=
  if k ≤ 5 then .channel (32 * c + 6 * (k - 1) + p - 1)
  else if k = 6 ∧ p ≤ 2 then .channel (32 * c + 29 + p)
  else if k = 7 then .rail (if p ≤ 2 then .vhp else if p ≤ 4 then .vhn else .vdda)
  else .rail .agnd

/-- What a corner ball carries (R503). -/
def cornerUse (b : Ball) : BallUse :=
  if b.col = 1 ∧ 1 ≤ b.row ∧ b.row ≤ 4 then .xio (b.row - 1)
  else if b.col = 58 ∧ 1 ≤ b.row ∧ b.row ≤ 4 then .xio (b.row + 3)
  else if b = ⟨5, 1⟩ then .vrefp
  else if b = ⟨6, 1⟩ then .vrefm
  else .rail .agnd

/-- What a ball carries (R500 to R504). -/
def ballUse (b : Ball) : BallUse :=
  let edge := fun x => decide (x ≤ 2) || decide (57 ≤ x)
  if 9 ≤ b.row ∧ b.row ≤ 50 ∧ 9 ≤ b.col ∧ b.col ≤ 50 then (if (b.row + b.col) % 2 = 0 then .rail .vss else coreUse b)
  else if edge b.col ∧ (b.row ≤ 8 ∨ 51 ≤ b.row) then cornerUse b
  else if b.row ≤ 8 then tileUse ((b.col - 3) / 6) b.row ((b.col - 3) % 6 + 1)
  else if 51 ≤ b.row then tileUse (16 + (56 - b.col) / 6) (59 - b.row) ((56 - b.col) % 6 + 1)
  else if 51 ≤ b.col then tileUse (9 + (b.row - 9) / 6) (59 - b.col) ((b.row - 9) % 6 + 1)
  else tileUse (25 + (50 - b.row) / 6) b.col ((50 - b.row) % 6 + 1)

/-! The states of R512, apart from the channel pins (pinDrive, R67, R264) and the clock outputs (clkOut). -/

/-- What a digital output ball carries: nothing, a level, or its traffic. -/
inductive BallState where
  | highZ
  | low
  | high
  | idle
  | active
deriving DecidableEq, Repr

namespace Device

/-- Supply-good has come (R383, step 1). -/
def supplied (d : Device) : Bool := decide (d.fget 0x20000 0 5 ≠ 0)

/-- XIO ball `x`: it is connected while the port switch of its node is closed (R89, R512). -/
def xioState (d : Device) (x : Nat) : BallState :=
  if d.supplied ∧ !d.failedState ∧ !d.quiet ∧ d.mx.closed.any (fun s => s.node == 1296 + x) then .active else .highZ

/-- CAPO_N: driven low under R350, else not driven. -/
def capoNState (d : Device) : BallState := if d.supplied ∧ d.pullsCapoN then .low else .highZ

/-- CONF_ERR_N: driven low in the failed state only (R395, R512). -/
def confErrState (d : Device) : BallState := if d.supplied ∧ d.failedState then .low else .highZ

/-- XSPI_RESET_N: low for 10 µs after supply-good (204.8 Ts, so up to the 205th edge), then high (R512). -/
def xspiResetState (d : Device) : BallState :=
  if !d.supplied then .highZ else if d.edge < d.sys.boot.supplyAt + 205 then .low else .high

/-- DDRn_RESET_N: low until DDR_READY and in the failed state (R512). -/
def ddrResetState (d : Device) : BallState :=
  if !d.supplied then .highZ else if d.quiet then .high else if d.failedState ∨ !d.flag 0x10000 4 then .low else .high

/-- The other DDR5 outputs: CK stopped until DDR_READY, in QUIET and in the failed state (R456, R512). -/
def ddrClockState (d : Device) : BallState :=
  if !d.supplied then .highZ else if d.quiet ∨ d.failedState ∨ !d.flag 0x10000 4 then .idle else .active

/-- Chord port `p` transmits (R483 to R485): nothing in the failed state, a DN port only while REFB is READY and, on a member, its UP port is
not DOWN. -/
def chordTxState (d : Device) (p : Nat) : BallState :=
  if !d.supplied then .highZ
  else if d.failedState then .idle
  else if p = 0 ∨ (d.flag 0x10000 1 ∧ (d.chordState = 6 ∨ d.fget (aPORT 0 0) 0 2 ≠ 0)) then .active
  else .idle

end Device

end Sys2Proof.Machine
end

