-- ==== Sys2Proof/Machine/CellOps.lean ====
section
/-!
DEFINITION. What a channel cell and its slice do at the present edge (R39, R41, R55, R56, R58, R59): what the output stage forces, the
corrected DAC code, the closed range networks, the hold network, the isolation switch. All of it follows from the state.
-/

namespace Sys2Proof.Machine

/-- What an output stage forces: a voltage code on VRANGE with a current clamp, a current code on IRANGE with a voltage clamp, the two
digital levels with a current clamp, virtual 0 V with a current clamp (R41, R55). -/
inductive Target where
  | nothing
  | volts (code : Int) (iclamp : Nat)
  | amps (code : Int) (vclamp : Nat)
  | levels (high low : Int) (iclamp : Nat)
  | zero (iclamp : Nat)
deriving DecidableEq, Repr

/-- What the force DAC, or in DIG the level DACs, put out: codes after the correction of R306. -/
inductive DacOut where
  | nothing
  | code (c : Int)
  | levels (high low : Int)
deriving DecidableEq, Repr

/-- A channel cell with its slice at the present edge: what it forces and through which DAC code, the closed voltage and current range
networks, whether the hold network has the output, the slice whose isolation switch is closed, what the pin is driven to. -/
structure Cell where
  target : Target
  dac : DacOut
  vNets : List Nat
  iNets : List Nat
  held : Bool
  slice : Option Nat
  drive : Drive
deriving DecidableEq, Repr

/-- The clamp code of fold-back: 1 % of full scale (R55, R56). -/
def foldClamp : Nat := 500

namespace Device

/-- The force code that feeds the DAC before correction: CH_FORCE.CODE or the code the queue played last (R41, R52). -/
def feedCode (d : Device) (n : Nat) : Int :=
  if (modeRow (d.modeNow n)).feed = .queue then toSigned 18 (d.ch n).held else d.fgetS (aCH n 8) 0 18

/-- What the output stage of channel `n` forces (R41, R55). While FOLDED the voltage loops force 0 V with a current clamp of 1 % and the
current loops zero current with a voltage clamp of 1 % (R56). DEDUCED (assumption 71): the digital driver, whose clamp is ICLAMP, folds
back as the voltage loops do. -/
def target (d : Device) (n : Nat) : Target :=
  let fold := d.flag (aCH n 0x38) 9
  let icl := if fold then foldClamp else d.fget (aCH n 0xC) 0 16
  let vcl := if fold then foldClamp else d.fget (aCH n 0xC) 16 16
  let code := if fold then 0 else d.feedCode n
  if d.retired n || d.gapHeld n then .nothing
  else match (modeRow (d.modeNow n)).stage with
    | .disabled => .nothing
    | .voltageLoop => .volts code icl
    | .currentLoop => .amps code vcl
    | .virtualZero => if fold then .volts 0 icl else .zero icl
    | .digital => if fold then .volts 0 icl else .levels (d.fgetS (aCH n 0x24) 0 18) (d.fgetS (aCH n 0x28) 0 18) icl

/-- The inverse of the sense correction of range `r` for a force code (R303): the least code, of those from `c` on, that the corrected sense
reading does not put below the code asked for. Four sense LSB make a force LSB (R44). -/
def forceSearch (d : Device) (s r : Nat) (code c : Int) : Nat → Int
  | 0 => c
  | k + 1 =>
    let mid := c + 2 ^ k
    if d.senseCorrect s r (4 * (mid - 1)) < 4 * code then forceSearch d s r code mid k else forceSearch d s r code c k

/-- The DAC code of a force code on current range `i` of slice `s` (R303, R306). -/
def forceCurrent (d : Device) (s i : Nat) (code : Int) : Int := d.forceSearch s (3 + i) code (-131072) 18

/-- A corrected code within the 18-bit DAC (R46). -/
def dacLimit (c : Int) : Int := clampInt (-131072) 131071 c

/-- What the DACs of channel `n` put out (R39, R41, R46, R306). -/
def dacOut (d : Device) (n : Nat) : DacOut :=
  let s := d.sliceOf n
  let v := d.fget (aCH n 4) 0 2
  match d.target n with
  | .nothing => .nothing
  | .zero _ => .nothing
  | .volts c _ => .code (dacLimit (d.forceCorrect s v c))
  | .amps c _ => .code (dacLimit (d.forceCurrent s (d.fget (aCH n 4) 4 3) c))
  | .levels h l _ => .levels (dacLimit (d.forceCorrect s v h)) (dacLimit (d.forceCorrect s v l))

/-- Time in Ts since the bridge of channel `n` began; none when none runs at the present edge. -/
def bridgeTimeNow (d : Device) (n : Nat) : Option Nat :=
  let c := d.ch n
  if c.bridgeStart ≤ d.edge ∧ d.edge < c.bridgeEnd then some (d.edge - c.bridgeStart) else none

/-- The closed voltage range networks (R58): the old one opens 4 Ts before the end of its bridge, the new one closes 4 Ts after the start.
Before the edge of a change the old one alone is closed. -/
def vNets (d : Device) (n : Nat) : List Nat :=
  let c := d.ch n
  let new := d.fget (aCH n 4) 0 2
  let b := bridgeTime (rangeDist c.fromV new)
  if d.edge < c.bridgeStart then [c.fromV]
  else match d.bridgeTimeNow n with
    | some t => if b ≤ t then [new] else (if t < b - 4 then [c.fromV] else []) ++ (if 4 ≤ t then [new] else [])
    | none => [new]

/-- The closed sense resistors (R59): old and new are in parallel from the start of the bridge to its end. -/
def iNets (d : Device) (n : Nat) : List Nat :=
  let c := d.ch n
  let new := d.fget (aCH n 4) 4 3
  if d.edge < c.bridgeStart then [c.fromI]
  else match d.bridgeTimeNow n with
    | some t => if bridgeTime (rangeDist c.fromI new) ≤ t then [new] else [c.fromI, new]
    | none => [new]

/-- The hold network has the output: during the bridge of a voltage range (R58), a function switch (R63), a handover (R78). -/
def holdNet (d : Device) (n : Nat) : Bool :=
  let c := d.ch n
  decide (c.holdUntil = d.edge + 1) ||
  (match d.bridgeTimeNow n with
   | some t => decide (t < bridgeTime (rangeDist c.fromV (d.fget (aCH n 4) 0 2)))
   | none => false)

/-- The slice of the course whose isolation switch is closed on the pin: the one that serves it, in every mode but OFF (R41, R78). A slice in
an idle-gap calibration is off its pin (R316), and a retired channel's switch is open (R340). -/
def isolation (d : Device) (n : Nat) : Option Nat :=
  if (modeRow (d.modeNow n)).closed && !d.retired n && !d.gapHeld n then some (d.fget (aCH n 0x38) 0 6) else none

/-- The cell and slice of channel `n` at the present edge. -/
def cell (d : Device) (n : Nat) : Cell :=
  ⟨d.target n, d.dacOut n, d.vNets n, d.iNets n, d.holdNet n, d.isolation n, d.pinState n⟩

end Device

end Sys2Proof.Machine
end

