-- ==== Sys2Proof/Machine/BusForm.lean ====
section
/-!
DEFINITION. The forms in which the digital driver of a pin acts (R214 to R216): levels, emulated termination, edge rate. All of it follows from the state.
-/

namespace Sys2Proof.Machine

/-- The resistance of a termination code in ohms; none for NONE (R215). -/
def termOhms : Nat → Option Nat
  | 0 => none
  | 1 => some 1000
  | 2 => some 10000
  | _ => some 30000

/-- A digital output stage (R214, R215): undriven; at a level code with a current limit; released, with the termination's resistance from a level code through an ideal
diode, which carries no current while the pin is above it, within a current limit. -/
inductive PinForm where
  | open_
  | level (code : Int) (limit : Nat)
  | released (ohms : Option Nat) (code : Int) (limit : Nat)
deriving DecidableEq, Repr

/-- The current in nA out of a stage with termination at a pin voltage, in the ideal of R215: none above the level, else by the resistance, at most
`limit`. Voltages in microvolts. -/
def termCurrent (ohms : Option Nat) (level limit pin : Int) : Int :=
  match ohms with
  | none => 0
  | some r => if level ≤ pin then 0 else min limit ((level - pin) * 1000 / r)

namespace Device

/-- The form of pin `n` in DIG (R214, R256). -/
def pinForm (d : Device) (n : Nat) : PinForm :=
  let high := d.fgetS (aCH n 0x24) 0 18
  let low := d.fgetS (aCH n 0x28) 0 18
  let lim := if d.flag (aCH n 0x38) 9 then foldClamp else d.fget (aCH n 0xC) 0 16
  match d.pinState n with
  | .none => .open_
  | .analogue => .open_
  | .low => .level low lim
  | .high => .level high lim
  | .released e => .released (termOhms (d.fget (aENG e 0) 4 2)) high lim

/-- The edge rate of engine `e` in 0.125 V/µs (R214, R216); none is full speed, which a CAN engine has. -/
def edgeRate (d : Device) (e : Nat) : Option Nat :=
  if engKind e = 0 then none else some (if d.fget (aENG e 0) 8 6 = 0 then 64 else d.fget (aENG e 0) 8 6)

end Device

end Sys2Proof.Machine
end

