-- ==== Sys2Proof/Machine/TileOps.lean ====
section
/-!
DEFINITION. What the tiles and guard buffers of the matrix do in a state (R94, R102, R111, R112): a guard buffer's output, a tile's terminals,
its transfer, its amplifiers, the values of its arrays. All of it follows from the registers and the closed switches.
-/

namespace Sys2Proof.Machine

/-- What a guard buffer drives its GOUT node to (R102): nothing, 0 V, or the voltage of its GIN node. -/
inductive GuardOut where
  | disabled
  | zero
  | follows (gin : Nat)
deriving DecidableEq, Repr

/-- The role of a terminal of a tile (R111). -/
inductive Role where
  | none
  | inp
  | inn
  | input
  | out
  | ref
  | currentIn
  | currentOut
deriving DecidableEq, Repr

/-- How the voltage of a tile's output T2 comes about (R111, R112): none; `g` times (T0 less T1) plus the reference; a unity-gain second-order
low-pass of T0 with R_A in ohm and CA, CB in pF; minus the integral of T0 over R_A times CA, or 0 V while held; `g` times R_A times the
current from T0 to T1 plus the reference. `agnd` says that the reference T3 is unconnected and is taken as AGND. -/
inductive Transfer where
  | none
  | diff (g : Nat) (agnd : Bool)
  | lowPass (ohm ca cb : Nat)
  | integ (ohm ca : Nat) (held : Bool)
  | shunt (g ohm : Nat) (agnd : Bool)
deriving DecidableEq, Repr

/-- What an amplifier of a tile does (R111): unused, disabled by SAFE (R94), part of the topology, or buffering T2. -/
inductive AmpUse where
  | unused
  | disabled
  | inUse
  | buffersT2
deriving DecidableEq, Repr

/-- The gains of CAT_TOPO.GAIN (R112). -/
def gainTable : List Nat := [1, 2, 5, 10, 20, 50, 100, 200, 500, 1000]

/-- The roles of terminals T0 to T3 by topology (R111). -/
def roles (topo : Nat) : List Role :=
  match topo with
  | 1 => [.inp, .inn, .out, .ref]
  | 2 => [.input, .none, .out, .none]
  | 3 => [.input, .none, .out, .none]
  | 4 => [.currentIn, .currentOut, .out, .ref]
  | 5 => [.input, .none, .none, .none]
  | _ => [.none, .none, .none, .none]

/-- The use of amplifiers AMP0 and AMP1 by topology (R111). -/
def ampUses (topo : Nat) : AmpUse × AmpUse :=
  match topo with
  | 1 => (.inUse, .inUse)
  | 2 => (.inUse, .buffersT2)
  | 3 => (.inUse, .buffersT2)
  | 4 => (.inUse, .inUse)
  | _ => (.unused, .unused)

/-- The square of the FILTER's Q as a fraction, from CA and CB (R112). -/
def qSquared (ca cb : Nat) : Nat × Nat := (ca, 4 * cb)

/-- The square of 1 / (2π fc) of the FILTER in ps², from R_A in ohm and CA, CB in pF (R112). -/
def tauSquared (ohm ca cb : Nat) : Nat := ohm * ohm * ca * cb

namespace Device

/-- A node is connected to some bus. -/
def onBus (d : Device) (node : Nat) : Bool := d.mx.closed.any fun s => s.node == node && d.mx.joins s

/-- What guard buffer `g` does (R94, R102). -/
def guardOut (d : Device) (g : Nat) : GuardOut :=
  if d.capo = 2 ∨ d.onBus (1312 + g) = false then .disabled
  else if d.onBus (1304 + g) then .follows (1304 + g)
  else .zero

/-- R_A of tile `t` in ohm (R112). -/
def tileOhm (d : Device) (t : Nat) : Nat := d.fget (aCAT t 4) 0 10 * 10 ^ d.fget (aCAT t 4) 12 2

/-- CA and CB of tile `t` in pF (R112). -/
def tileCaps (d : Device) (t : Nat) : Nat × Nat := (10 * d.fget (aCAT t 8) 0 9, 10 * d.fget (aCAT t 8) 16 9)

/-- G of tile `t` (R112). -/
def tileGain (d : Device) (t : Nat) : Nat := gainTable.getD (d.fget (aCAT t 0) 4 4) 1000

/-- The transfer of tile `t` (R111, R112). -/
def transfer (d : Device) (t : Nat) : Transfer :=
  let agnd := !d.onBus (1040 + 4 * t + 3)
  match d.fget (aCAT t 0) 0 3 with
  | 1 => .diff (d.tileGain t) agnd
  | 2 => .lowPass (d.tileOhm t) (d.tileCaps t).1 (d.tileCaps t).2
  | 3 => .integ (d.tileOhm t) (d.tileCaps t).1 (d.flag (aCAT t 0) 31)
  | 4 => .shunt (d.tileGain t) (d.tileOhm t) agnd
  | _ => .none

/-- What the amplifiers of tile `t` do (R94, R111). -/
def amplifiers (d : Device) (t : Nat) : AmpUse × AmpUse :=
  let off (u : AmpUse) : AmpUse := if d.capo = 2 ∧ u ≠ .unused then .disabled else u
  let u := ampUses (d.fget (aCAT t 0) 0 3)
  (off u.1, off u.2)

end Device

end Sys2Proof.Machine
end

