-- ==== Sys2Proof/Tests/Slice0.lean ====
section
/-!
SUPPORT. Tests of the model: what `wf` refuses, small steps whose results the spec gives, and for every statement states and operands that
meet the hypotheses of its clauses.
-/

namespace Sys2Proof.Tests

open Sys2Proof.Machine Sys2Proof.Machine.Device

set_option maxRecDepth 100000

/-! States to begin from. -/

/-- The device at reset with Capo at NONE and a governor budget that admits everything. -/
def calm : Device := (State.reset.dev.wr 0x100 0xFFFFFFFF).fset 0x40000 0 2 0

/-- The reset state with another device. -/
def st (d : Device) : State := { State.reset with dev := d }

/-- A firmware write. -/
def fw (v : Word) : Wr := ⟨.firmware, 15, v⟩

/-- A slot of a kind, just begun. -/
def slot (k : SlotKind) : Slot := ⟨k, 0, [], [], 0, none, 0, false, false, none, 0, none, none, false, false, false, none⟩

/-- An execution of list 3 with some slots. -/
def run (slots : List Slot) : Exec := ⟨7, 3, 5, List.replicate 32 0, 0, 0, false, false, [], slots, true, 0, 0, 0, none, none, [], 0⟩

/-- The device right after a command, of a state. -/
def after (c : Instr) (s : State) : Device :=
  match exec c s with
  | .next t => t.dev
  | _ => s.dev
/-- Bytes that were stored read back. -/
theorem read_stored (dflt : Nat → Byte) (bs : List Byte) (m : List Host.Cell) (a : Nat) : readCells dflt (writeCells dflt m a bs) a bs.length = bs := by
  have low : ∀ (bs : List Byte) (m : List Host.Cell) (a b : Nat), b < a → tabGet dflt (writeCells dflt m a bs) b = tabGet dflt m b := by
    intro bs
    induction bs with
    | nil => intro m a b _; rfl
    | cons x r ih => intro m a b h; rw [writeCells, ih _ _ _ (by omega), tabGet_tabSet_other _ _ _ (by omega)]
  induction bs generalizing m a with
  | nil => rfl
  | cons x r ih => simp only [List.length_cons, readCells, writeCells, ih]; rw [low _ _ _ _ (by omega), tabGet_tabSet_same]
theorem read_append (dflt : Nat → Byte) (m : List Host.Cell) (n k a : Nat) : readCells dflt m a (n + k) = readCells dflt m a n ++ readCells dflt m (a + n) k := by
  induction n generalizing a with
  | zero => simp [readCells]
  | succ n ih => rw [show n + 1 + k = (n + k) + 1 by omega]; simp only [readCells, ih, List.cons_append]; rw [show a + 1 + n = a + (n + 1) by omega]
/-- Two lists of bytes stored one behind the other read back. -/
theorem flash_stored (m : Mem) (a : Nat) (x y : List Byte) :
    (m.flashWrite a (x ++ y)).flashRead a x.length = x ∧ (m.flashWrite a (x ++ y)).flashRead (a + x.length) y.length = y := by
  have h := read_stored blankFlash (x ++ y) m.flash a
  rw [List.length_append, read_append] at h
  exact List.append_inj h (by simpa using (congrArg List.length (read_stored blankFlash x m.flash a)).symm ▸ (by
    have : ∀ (l : List Host.Cell) (b n : Nat), (readCells blankFlash l b n).length = n := by
      intro l b n; induction n generalizing b with
      | zero => rfl
      | succ n ih => simp [readCells, ih]
    exact this _ _ _))

/-! What no sender can form. -/

theorem test_wf_register_write : (Instr.registerWrite 0x100 (fw 0)).wf = true ∧ (Instr.registerWrite 0x101 (fw 0)).wf = false := by decide
theorem test_wf_stuck_segment :
    (Instr.matrixBusopenWrite (fw 0) [(0, 32)]).wf = false ∧ (Instr.matrixBusrelWrite (fw 0) [(0, 32)]).wf = false ∧
    (Instr.busOvercurrent 0 [(0, 32)]).wf = false ∧ (Instr.busOvercurrent 0 [(0, 31)]).wf = true := by decide
theorem test_wf_ecc_word : (Instr.setupFetchDone 0 (some (.setup 1024))).wf = false ∧ (Instr.setupFetchDone 0 (some (.setup 1023))).wf = true ∧
    (Instr.setupFetchDone 0 (some .context)).wf = true := by decide
theorem test_wf_sent_pulses : (Instr.sentMessageReceived 0 ⟨⟨896, 80⟩, List.replicate 9 ⟨192, 80⟩, none, 0⟩).wf = false ∧
    (Instr.sentMessageReceived 0 ⟨⟨896, 896⟩, [], none, 0⟩).wf = false ∧ (Instr.sentMessageReceived 0 ⟨⟨896, 80⟩, List.replicate 8 ⟨192, 80⟩, some ⟨192, 80⟩, 0⟩).wf = true := by decide
theorem test_wf_shell_write : (Instr.shellWrite 0 2 15 0).wf = false := by decide
theorem test_wf_sensors : (Instr.sensorRead []).wf = false ∧ (Instr.sensorRead (List.replicate 16 0)).wf = true := by decide
theorem test_wf_fuses :
    (Instr.jtagFuseprog (.keyHash [])).wf = false ∧ (Instr.jtagFuseprog (.fkey [])).wf = false ∧
    (Instr.jtagFuseprog (.fkey (List.replicate 32 0))).wf = true := by decide
theorem test_wf_bar2 :
    (Instr.bar2Access (.read 0xFFFFFFF 2 false)).wf = false ∧ (Instr.bar2Access (.write 0xFFFFFFF [none, none])).wf = false ∧
    (Instr.bar2Access (.read 0xFFFFFFF 1 false)).wf = true := by decide
theorem test_wf_link_paths :
    (Instr.joinMessage ⟨1, List.replicate 9 0⟩).wf = false ∧ (Instr.assignMessage ⟨1, List.replicate 9 0, none⟩).wf = false ∧
    (Instr.joinMessage ⟨1, List.replicate 8 0⟩).wf = true := by decide
theorem test_wf_port_up : (Instr.chordPortUp 0 [5, 5]).wf = false ∧ (Instr.chordPortUp 0 [5, 6]).wf = true := by decide
theorem test_wf_pos_axes : (Instr.posMessage ⟨0, [], 0, 0, 0⟩).wf = false := by decide
theorem test_wf_samples : (Instr.sampleEdge [⟨3, 0, 0⟩, ⟨3, 1, 0⟩]).wf = false ∧ (Instr.wakePinEvent [⟨3, 0, 0⟩, ⟨3, 1, 0⟩]).wf = false := by decide
theorem test_wf_segments : (Instr.regionImageCached (.read (List.replicate 65 []))).wf = false ∧
    (Instr.baseImageLoaded ⟨false, none, true, List.replicate 65 [], [], [], ⟨true, []⟩⟩).wf = false ∧ (Instr.regionImageCached (.read [[0]])).wf = true := by decide
theorem test_wf_can_frame :
    (Instr.responsePending 0 ⟨⟨false, false, false, false, false, 5, List.replicate 9 0⟩, []⟩).wf = false ∧
    (Instr.isotpFlowControl 0 ⟨⟨false, false, false, false, false, 2048, []⟩, []⟩).wf = false ∧
    (Instr.canFrameReceived 0 ⟨true, true, true, false, false, 5, []⟩ []).wf = false ∧
    (Instr.canFrameReceived 0 ⟨true, true, false, true, false, 5, List.replicate 64 0⟩ [⟨0, 9⟩, ⟨1, 8⟩]).wf = true ∧
    (Instr.canFrameReceived 0 ⟨true, true, false, true, false, 5, List.replicate 64 0⟩ [⟨0, 8⟩, ⟨1, 8⟩]).wf = false := by decide
theorem test_wf_lin_frame :
    (Instr.linframe 0 ⟨List.replicate 10 ⟨0, 0, true⟩, none⟩).wf = false ∧ (Instr.lindiag 0 ⟨[⟨4, 0, true⟩, ⟨4, 0, true⟩], none⟩).wf = false ∧
    (Instr.lindiagPoll 0 ⟨[⟨4, 0, true⟩, ⟨3, 0, true⟩], none⟩).wf = false ∧ (Instr.linHeaderReceived 0 ⟨9, 9, 0⟩ 0 ⟨[], none⟩).wf = false ∧
    (Instr.linHeaderReceived 0 ⟨9, 10, 0⟩ 0 ⟨[⟨4, 0, true⟩, ⟨5, 0, false⟩], some 3⟩).wf = true := by decide
theorem test_wf_fit : (Instr.calRangeEnd ⟨false, (0, 0), List.replicate 9 [], []⟩ 0).wf = false ∧
    (Instr.calRangeEnd ⟨false, (0, 0), List.replicate 8 [⟨(0, 0), (0, 0)⟩], List.replicate 2 []⟩ 0).wf = true ∧
    (Instr.rmuCalEnd ⟨false, List.replicate 4 (0, 0), [], 0, 0, 0, 0⟩ 0).wf = false ∧ (Instr.tapMeasureEnd 0 (List.replicate 4 (0, 0)) 0).wf = false := by decide

/-! The queue, reset and register writes. -/

theorem test_step_serves_front :
    step { State.reset with pending := [.epochTick, .claimRelease] } = exec .epochTick { State.reset with pending := [.claimRelease] } := rfl
theorem test_empty_queue_idles : step State.reset = .next State.reset := rfl
/-- O5. -/
theorem witness_memory_canonical : Mem.wf State.reset.mem = true ∧ State.reset.dev.ddrOut = [] := by decide
/-- O8: a host write before ENABLE_WRITES (R393) is turned away; in QUIET the channel block does not answer (R403). -/
theorem witness_turned_away :
    State.reset.dev.ddrOut = [] ∧ writesReg (.chModeWrite 1023 ⟨.host, 15, 6⟩) = some (⟨.host, 15, 6⟩, aCH 1023 0) ∧
    State.reset.dev.admits ⟨.host, 15, 6⟩ (aCH 1023 0) = false ∧ (calm.fset 0x20000 12 1 1).dead (aCH 1023 0) = true ∧
    (calm.fset 0x20000 12 1 1).admits (fw 6) (aCH 1023 0) = false ∧
    writesReg (.registerWrite 0x3FFFFC (fw 6)) = some (fw 6, 0x3FFFFC) := by decide
/-- O9: three byte enables; the window and the shell. -/
theorem witness_partial_write :
    State.reset.dev.ddrOut = [] ∧ writesReg (.chModeWrite 0 ⟨.firmware, 7, 6⟩) = some (⟨.firmware, 7, 6⟩, aCH 0 0) ∧ (7 : BitVec 4) ≠ 15 ∧
    (calm.fset (aFRET 47 0) 0 3 2).fretLive 47 = true := by decide
theorem test_partial_write_counts :
    (after (.chModeWrite 0 ⟨.firmware, 7, 6⟩) State.reset).fget 0xD0008 0 32 = 1 ∧
    (after (.fretWindowAccess 47 (.write 0 7 6)) State.reset).fget 0xD0008 0 32 = 1 ∧
    (after (.chModeWrite 0 ⟨.firmware, 7, 6⟩) State.reset).fget (aCH 0 0) 0 3 = 0 := by decide
/-- O10: the registers of a channel, of CAPO, of a list. -/
theorem witness_fields_apart :
    fieldsApart (regFields (aCH 1023 0)) = true ∧ fieldsApart (regFields 0x40008) = true ∧ fieldsApart (regFields (aLIST 255 0)) = true ∧
    regFields (aCH 1023 0) ≠ [] ∧ (-125000 : Int) ≤ 125000 := by decide
theorem test_clamp_takes_nearest :
    Lim.clamp (.rng 1 4096) 13 0 = 1 ∧ Lim.clamp (.rng 1 4096) 13 5000 = 4096 ∧ Lim.clamp (.rng 1 4096) 13 4096 = 4096 := by decide
/-- O11: CH_FOLD of the last channel, an address without a register, the governor's budget. -/
theorem witness_plain_register :
    calm.ddrOut = [] ∧ calm.admits (fw 9) (aCH 1023 0x10) = true ∧ calm.capo = 0 ∧
    calm.govRefuses (calm.putCooked .firmware (aCH 1023 0x10) 9) = false ∧ (BitVec.ofNat 24 (aCH 1023 0x10)).toNat = aCH 1023 0x10 ∧
    calm.admits (fw 9) 0x3FFFFC = true ∧ regFields 0x3FFFFC = [] ∧ calm.admits (fw 0) 0x100 = true := by decide
/-- O12: the gated and the running edge; two pins; an axis that runs on TIME. -/
theorem witness_sample_edge :
    State.reset.dev.flag 0x10000 14 = true ∧ (calm.fset 0x10000 14 1 0).flag 0x10000 14 = false ∧
    ([⟨0, 0, 0⟩, ⟨1023, 5, 3000000⟩] : List PinSample).Pairwise (fun x y => x.chan ≠ y.chan) ∧
    ((calm.fset (aPOS 3 0) 0 3 1).fset (aPOS 3 0x2C) 0 2 2).axSrc 3 = 1 ∧ ((calm.fset (aPOS 3 0) 0 3 1).fset (aPOS 3 0x2C) 0 2 2).axState 3 = 2 := by decide

/-! Channels. -/

/-- Channel 3 in WAVE with QMODE `m`, its queue running with four codes. -/
def wave (m fill rd : Nat) : Device :=
  ((((calm.fset (aCH 3 0x18) 0 2 m).fset (aCH 3 0x18) 16 13 4).fset (aCH 3 0x18) 31 1 1).fset (aCH 3 0) 0 3 6).setCh 3
    { calm.ch 3 with plays := true, fill := fill, rd := rd, codes := [(0, 5), (1, 6), (2, 7), (3, 8)] }

/-- O13: the last channel, the last mode. -/
theorem witness_channel_setting :
    bitsOf (6 : Word) 0 3 ≤ 6 ∧ calm.admits (fw 6) (aCH 1023 0) = true ∧ calm.capo = 0 ∧ calm.retired 1023 = false ∧
    calm.govRefuses (calm.previewReqs 1023 [reqOf 0 (calm.cook (aCH 1023 0) 6).1 .register (aCH 1023 0)]) = false ∧
    calm.queued 1023 = false ∧ calm.bridging 1023 calm.nextEdge = false := by decide
theorem test_mode_reads_back : (after (.chModeWrite 1023 (fw 6)) (st calm)).fget (aCH 1023 0) 0 3 = 6 := by decide
/-- A channel whose bridge runs until edge 100. -/
def bridged (d : Device) : Device := d.setCh 5 { d.ch 5 with bridgeEnd := 100 }
/-- O14: a request waits; a bridge that the request crosses runs; HOLD; SAFE. -/
theorem witness_settings_wait :
    (let r := reqOf 4 (calm.cook (aCH 5 4) 1).1 .register (aCH 5 4)
     (bridged calm).govRefuses ((bridged calm).previewReqs 5 [r]) = false ∧ (bridged calm).bridging 5 (bridged calm).nextEdge = true ∧
     (calm.setCh 5 { calm.ch 5 with waiting := [r] }).queued 5 = true ∧ (calm.setCh 5 { calm.ch 5 with pinWait := true }).queued 5 = true) ∧
    (bridged calm).retired 5 = false ∧ (bridged calm).capo = 0 ∧ (calm.fset 0x40000 0 2 1).capo ≠ 0 ∧ State.reset.dev.capo = 2 := by decide
theorem witness_settings_wait_mux :
    (bridged calm).changesMux 5 (reqOf 0 (calm.cook (aCH 5 0) 5).1 .register (aCH 5 0)) = true ∧
    (bridged calm).govRefuses ((bridged calm).previewReqs 5 [reqOf 0 (calm.cook (aCH 5 0) 5).1 .register (aCH 5 0)]) = false := by decide
/-- O15: STREAM with room for one, LOOP under HOLD; RUN started and stopped. -/
theorem witness_queue_write :
    (wave 0 4095 4095).admits (fw 7) (aCH 3 0x1C) = true ∧ (wave 0 4095 4095).capo = 0 ∧ ((wave 0 4095 4095).ch 3).fill < 4096 ∧
    ((wave 1 0 3).fset 0x40000 0 2 1).capo = 1 ∧ ((wave 1 0 3).fset 0x40000 0 2 1).fget (aCH 3 0x18) 0 2 ≠ 0 ∧
    calm.flag (aCH 3 0x18) 31 = false ∧ (wave 1 0 3).flag (aCH 3 0x18) 31 = true ∧
    (wave 1 0 3).reachesRws (aCH 3 0x18) (setBits (0x00040001 : Word) 31 1 0) = false := by decide
/-- O16. -/
theorem witness_full_stream :
    (wave 0 4096 3).admits (fw 7) (aCH 3 0x1C) = true ∧ (wave 0 4096 3).capo = 0 ∧ (wave 0 4096 3).fget (aCH 3 0x18) 0 2 = 0 ∧
    4096 ≤ ((wave 0 4096 3).ch 3).fill := by decide
theorem test_full_stream : (after (.chQwrWrite 3 (fw 7)) (st (wave 0 4096 3))).flag (aCH 3 0x20) 31 = true := by decide
/-- O17: STREAM empty and filled, LOOP at its last entry, ONCE at its end; clamp engaged, folded after FOLD_T. -/
theorem witness_dac_update :
    (wave 0 0 0).updates 3 = true ∧ (wave 0 2 1).updates 3 = true ∧ (wave 1 0 3).updates 3 = true ∧ (wave 2 0 4).updates 3 = true ∧
    ((wave 1 0 3).fset (aCH 3 0x18) 31 1 0).updates 3 = true ∧
    (wave 1 0 3).capo = 0 ∧ (wave 2 0 4).fget (aCH 3 0x18) 16 13 ≤ 4 := by decide
theorem test_loop_wraps : ((after (.dacUpdate 3) (st (wave 1 0 3))).ch 3).rd = 0 ∧ ((after (.dacUpdate 3) (st (wave 1 0 3))).ch 3).held = 8 := by decide
/-- Channel 3 forces a voltage; its clamp has held since edge 0 for 10 us, with FOLD_EN. -/
def clamped : Device :=
  { ((calm.fset (aCH 3 0) 0 3 1).wr (aCH 3 0x10) 0x8000000A).setCh 3 { calm.ch 3 with clampSince := some 0 } with edge := 205 }
theorem witness_clamps :
    clampKind (clamped.rd (aCH 3 0)) ≠ 0 ∧ (calm.ch 3).clampSince = none ∧ (clamped.ch 3).clampSince = some 0 ∧
    clamped.flag (aCH 3 0x10) 31 = true ∧ 2048 * clamped.fget (aCH 3 0x10) 0 14 ≤ 100 * (clamped.edge - 0) ∧ clamped.flag (aCH 3 0x38) 9 = false := by decide
/-- O18: a bridge ends with a request waiting; a handover at its edge. -/
theorem witness_bridge_end :
    (let d := { calm.setCh 5 { calm.ch 5 with bridgeEnd := 100, waiting := [reqOf 4 1 .register (aCH 5 4)] } with edge := 100 }
     (d.ch 5).waiting ≠ [] ∧ (d.ch 5).bridgeEnd ≤ d.edge ∧ d.retired 5 = false) ∧
    (let d := { calm.setCrs 31 { calm.crs 31 with hand := some ⟨1023, 32, .remap, 100, none, false, false⟩ } with edge := 100 }
     (d.crs 31).hand = some ⟨1023, 32, .remap, 100, none, false, false⟩ ∧ 100 ≤ d.edge ∧ d.capo = 0 ∧ (d.ch 1023).bridgeEnd ≤ d.edge ∧
     (d.crs 31).backs = [] ∧ (d.crs 31).next = [] ∧ d.onWire 1023 = [] ∧ d.frameOn 1023 = []) := by decide
theorem test_handover_moves : (after (.sliceHandover 31) (st { calm.setCrs 31 { calm.crs 31 with hand := some ⟨1023, 32, .remap, 100, none, false, false⟩ } with edge := 100 })).fget (aCH 1023 0x38) 0 6 = 32 := by decide


/-! Bridge matrix and meters. -/

/-- Resources of the host. -/
def own (rs : List Nat) (d : Device) : Device := rs.foldl (fun d r => d.setOwner r .host) d
/-- Closed switches. -/
def cl (xs : List Switch) (d : Device) : Device := d.setMx { d.mx with closed := xs }
/-- The host holds bus 1 and the tap set of channel 3, and three switches conduct. -/
def wired : Device := cl [⟨3, 1, true⟩, ⟨4, 1, false⟩, ⟨3, 2, true⟩] (own [1, 1003] calm)
/-- O19: node 3 and bus 1. -/
theorem witness_matrix_cmd :
    (let d := own [1, 1003] calm
     d.admits (fw 0x1001003) 0xA0010 = true ∧ d.capo = 0 ∧ d.hostHolds 3 1 = true ∧ d.isHeldOpen 1 = false ∧ d.busRetired 1 = false ∧
     d.isClosed 3 1 = false ∧ d.mayClose ⟨3, d.phys 1, true⟩ = true ∧
     d.govRefuses (d.setMx { d.mx with closed := closeIn d.mx.closed ⟨3, d.phys 1, true⟩ }) = false ∧
     bitsOf (d.cook 0xA0010 (setBits 0x1001003 24 1 1)).1 0 12 = 3 ∧ bitsOf (d.cook 0xA0010 (setBits 0x1001003 24 1 1)).1 12 5 = 1) ∧
    wired.hostHolds 3 1 = true ∧ (wired.fset 0x40000 0 2 1).capo = 1 ∧ (wired.fset 0x40000 0 2 1).admits (fw 0x1003) 0xA0010 = true := by decide
theorem test_matrix_open : (after (.matrixCmdOpen (fw 0x1003)) (st wired)).mx.closed = [⟨4, 1, false⟩, ⟨3, 2, true⟩] := by decide
/-- O20: free and claimed buses. -/
theorem witness_host_claims : wired.admits (fw 0x80000003) 0xA0014 = true ∧ wired.owner 1 = .host ∧ wired.owner 31 = .free := by decide
theorem test_host_claims :
    ((after (.matrixHostbusWrite (fw 0x80000000)) (st wired)).owner 1, (after (.matrixHostbusWrite (fw 0x80000000)) (st wired)).owner 31) = (.free, .host) := by decide
/-- O21: an open, a held open bus, an over-current on a claimed bus, a stuck switch of a spare. -/
theorem witness_buses_open :
    wired.admits (fw 2) 0xA0018 = true ∧ wired.admits (fw 2) 0xA001C = true ∧ wired.mx.heldCmds = [] ∧ (wired.fset 0x40000 0 2 1).admits (fw 2) 0xA0018 = true ∧
    (wired.setMx { wired.mx with opens := [(1, .host)] }).busOpen 1 = .host ∧ wired.busOpen 31 ≠ .host ∧
    wired.logicalOf 1 = some 1 ∧ wired.owner 1 ≠ .free ∧ wired.busOpen 1 = .no ∧ wired.logicalOf 33 = none := by decide
theorem test_bus_open : (after (.matrixBusopenWrite (fw 2) []) (st wired)).mx.closed = [⟨3, 2, true⟩] := by decide
/-- O22: the last entry of the store; a meter of the host at rest, one that converts; a filter unit at rest. -/
theorem witness_meters :
    calm.admits (fw 0x1003) (aMX (0x8000 + 4 * 8191)) = true ∧ ((calm.covering 8191).any fun i => calm.descBusy i) = false ∧
    ((calm.covering 8191).any fun i => listFits (calm.listOf i) &&
      !listFits ((calm.putCooked .firmware (aMX (0x8000 + 4 * 8191)) 0x1003).listOf i)) = false := by decide
/-- Meter 0 converts for the host; its windows have passed. -/
def converts : Device := { calm with rmu := [(0, ⟨some ⟨true, 0, 0, none, 5, false, some 1, 0, some 6, some 11⟩⟩)], edge := 11 }
theorem witness_conversion :
    (own [203] calm).admits (fw 1) (aRMU 3 0x1C) = true ∧ (own [203] calm).owner (resRmu 3) = .host ∧ (own [203] calm).flag (aRMU 3 0x14) 0 = false ∧
    (converts.meter 0).conv = some ⟨true, 0, 0, none, 5, false, some 1, 0, some 6, some 11⟩ ∧ converts.convDone ⟨true, 0, 0, none, 5, false, some 1, 0, some 6, some 11⟩ = true ∧
    converts.capo ≠ 1 ∧ calm.admits (fw 0) (aRMUF 3 0) = true ∧ (calm.execs.any fun x => x.verdict.isNone && x.slots.any fun k => k.kind == .rmu 3) = false ∧
    calm.flag (aRMUF 3 0) 31 = false := by decide
theorem test_conversion_saturates :
    (after (.rmuConversionEnd 0 ⟨99999999, 3, true⟩) (st converts)).fget (aRMU 0 0x18) 0 24 = 8388607 ∧
    (after (.rmuConversionEnd 0 ⟨9, 3, true⟩) (st (converts.fset (aRMU 0 0) 8 1 1))).fget (aRMU 0 0x18) 0 24 = 6 := by decide
/-- O23: a claim whose release is due, one whose release is not, one of the host. -/
theorem witness_claims :
    (let d := calm.setMx { calm.mx with claims := [(1, .ctx 7 5), (2, .ctx 8 6), (3, .host)], releases := [⟨7, 0⟩, ⟨8, 9⟩] }
     d.owner 1 = .ctx 7 5 ∧ (∃ k ∈ d.mx.releases, k.exec = 7 ∧ k.due ≤ d.edge) ∧ d.owner 2 = .ctx 8 6 ∧
     (∀ k ∈ d.mx.releases, k.exec = 8 → d.edge < k.due) ∧ d.owner 3 = .host) := by decide
theorem witness_claims_held : (calm.fset 0x40000 0 2 1).capo = 1 := by decide
/-- A comparator with threshold 1,000 mV and hysteresis 100 mV: above, between, below (R113). -/
theorem test_comparator :
    (let w : Word := 1000 + 100 * 65536
     Device.cmpLevel w ⟨1000001, 0, 0⟩ false = true ∧ Device.cmpLevel w ⟨950000, 0, 0⟩ true = true ∧ Device.cmpLevel w ⟨950000, 0, 0⟩ false = false ∧
     Device.cmpLevel w ⟨899999, 0, 0⟩ true = false) := by decide


/-! Filter chains and threshold units. -/

/-- Samples 100, 101, … of edges 0, 1, … -/
def raws (k : Nat) : List Raw := (List.range k).map fun i => ⟨i, 100 + i, 0, 0⟩
/-- The chain of channel 3 runs under profile 0 with CIC order `n` and decimation 4, and nothing after it. -/
def filt (n : Nat) (d : Device) : Device :=
  (((d.fset (aFILT 3 4) 8 1 1).fset (aPROF 0 0) 0 3 n).fset (aPROF 0 1) 0 13 4).fset (aPROF 0 0) 24 5 2
/-- A device whose root PLL runs. -/
def booted (d : Device) : Device := d.fset 0x20000 0 5 10
/-- O24: a chain at rest, a running one; a complete group of a settled chain. -/
theorem witness_chain_run :
    calm.admits (fw 0x80000000) (aFILT 1023 0) = true ∧ calm.chainClaimed 1023 = false ∧ calm.flag (aFILT 1023 0) 31 = false ∧
    (calm.fset (aFILT 3 0) 31 1 1).flag (aFILT 3 0) 31 = true ∧ (calm.fset (aFILT 3 0) 31 1 1).reachesRws (aFILT 3 0) (setBits 0 31 1 0) = false ∧
    calm.thrOnly 1023 = false := by decide
theorem witness_chain_output :
    (let d := (filt 1 calm).setChain 3 { Chain.init with group := raws 40 }
     d.chainRuns 3 = true ∧ 0 < (d.profile (d.profOf 3)).period ∧ (d.profile (d.profOf 3)).period ≤ (d.chain 3).group.length ∧
     (d.chain 3).start + (d.profile (d.profOf 3)).span ≤ 40) := by decide
/-- O25: a fresh unit and one in use; a lane that waits, one that does not; the reads that latch. -/
theorem witness_threshold :
    (let d := (calm.setThr 3 ⟨true, 0, raws 5, [], [], true⟩).fset (aFILT 3 0x30) 8 13 3
     (d.thr 3).loaded = true ∧ 0 < d.fget (aFILT 3 0x30) 8 13 ∧ d.fget (aFILT 3 0x30) 8 13 ≤ (d.thr 3).group.length ∧ (d.thr 3).fresh = true) ∧
    63 ∈ tabKeys { calm with lanePend := [(63, 64)] }.lanePend ∧ 0 ∉ tabKeys calm.lanePend ∧
    5 ≤ (booted calm).fget 0x20000 0 5 ∧ (booted calm).dead (aFILT 1023 0x10) = false ∧ (booted calm).dead (aPOS 3 0xC) = false := by decide
theorem test_lane_takes_over : (after (.laneSpareTakeover 63) (st { calm with lanePend := [(63, 64)] })).fget (0x50200 + 4 * 63) 0 7 = 64 := by decide
theorem test_counter_read :
    (after (.posCntloRead 3) (st (booted (calm.setAx 3 { Axis.init with c := 2 ^ 47 + 5 })))).answer = [5, 0, 0, 0] ∧
    (after (.posCntloRead 3) (st (booted (calm.setAx 3 { Axis.init with c := 2 ^ 47 + 5 })))).fget (aPOS 3 0x10) 0 16 = 0x8000 := by decide


/-! Position axes and compare units. -/

/-- Axis 3 changed. -/
def ax (f : Axis → Axis) (d : Device) : Device := d.setAx 3 (f (d.ax 3))
/-- Axis 3 with a source, AMODE and a state. -/
def ctl (src amode state : Nat) (d : Device) : Device := ((d.fset (aPOS 3 0) 0 3 src).fset (aPOS 3 0) 3 1 amode).fset (aPOS 3 0x2C) 0 2 state
/-- The calm device at edge 1,000,000. -/
def late : Device := { calm with edge := 1000000 }
/-- Pad level of pin 0 at this edge and at the one before. -/
def pad (a b : Bool) (d : Device) : Device := d.setCh 0 { d.ch 0 with pad := a, prevPad := b }
/-- Compare unit 3 of axis 3 with a CMP_CFG word and a value. -/
def cmp (cfg : Word) (v : Nat) (d : Device) : Device := (d.wr (aCMP 3 3 8) cfg).setCmpU 3 3 ⟨none, none, v, 0, 0, false⟩
/-- A mains axis that has seen a crossing. -/
def mains (cross state : Nat) : Device := ax (fun x => { x with cross := some cross, per := 399000, span := 65536, c := 70000 }) (ctl 2 0 state late)
/-- A measured angle on a wheel of 60 - 2 teeth. -/
def wheel : Device :=
  pad true false ((((ax (fun x => { x with cross := some 990000, per := 10000, span := 600, c := 1200, tpos := 2, lastInt := 10000 }) (ctl 3 1 2 late)).wr
    (aWHEEL 0 0) 60).wr (aWHEEL 0 2) 0xFFFFFFFF).wr (aWHEEL 0 3) 0x3FFFFFF |>.fset (aPOS 3 0x24) 0 6 24)
/-- An encoder axis whose track A (when `a`) and B (when `b`) have changed for good. -/
def enc (a b : Bool) : Device :=
  ax (fun x => { x with candA := a, ageA := 20, candB := b, ageB := 20, c := 0 }) (ctl 4 0 2 late)
/-- O26: an axis at rest after the step engine was armed; a running one; a load at rest. -/
theorem witness_axis_run :
    (let d := (ctl 1 0 0 calm).fset 0x20000 10 1 1
     d.admits (fw 0x80000001) (aPOS 3 0) = true ∧ d.flag (aPOS 3 0) 31 = false ∧ d.flag 0x20000 10 = true) ∧
    (let d := calm.fset (aPOS 3 0) 31 1 1
     d.flag (aPOS 3 0) 31 = true ∧ d.reachesRws (aPOS 3 0) (setBits 0 31 1 0) = false ∧ d.admits (fw 9) (aPOS 3 0x10) = true) ∧
    calm.admits (fw 0xFFFF) (aPOS 3 0x10) = true ∧ calm.flag (aPOS 3 0) 31 = false := by decide
theorem test_counter_load :
    ((after (.counterLoad 3 (fw 0x8001)) (st (ax (fun x => { x with loadLo := some 77 }) calm))).ax 3).c = 0x800100000000 + 77 := by decide
/-- O27: a rate that slews; an encoder edge of one track, of both, an index. -/
theorem witness_rates :
    (ctl 3 0 2 calm).admits (fw 5) (aPOS 3 0x14) = true ∧ (ctl 3 0 2 calm).admits (fw 5) (aPOS 3 0x18) = true ∧ (ctl 3 0 2 calm).axSyn 3 = true ∧
    ((ctl 3 0 2 calm).ax 3).slewAt ≤ (ctl 3 0 2 calm).edge + 1 ∧ calm.axSyn 3 = false := by decide
theorem witness_encoder :
    (enc true false).axSrc 3 = 4 ∧ (enc true false).axState 3 = 2 ∧ (enc true false).accepted 3 = (true, false) ∧ (enc true true).accepted 3 = (true, true) ∧
    ((enc true true).ax 3).encA = false ∧ ((enc true true).ax 3).encB = false ∧
    (let d := pad true false ((enc false false).fset (aPOS 3 0x28) 5 1 1)
     d.flag (aPOS 3 0x28) 5 = true ∧ (d.ax 3).indexed = false ∧ (d.ch (d.fget (aPOS 3 8) 0 10)).pad = true ∧ (d.ch (d.fget (aPOS 3 8) 0 10)).prevPad = false) := by decide
theorem test_slew_stops_at_target :
    (after (.rateSlewStep 3) (st (((ctl 3 0 2 calm).wr (aPOS 3 0x14) 100).wr (aPOS 3 0x18) 7))).rd (aPOS 3 0x1C) = 7 ∧
    (after (.rateSlewStep 3) (st (((ctl 3 0 2 calm).wr (aPOS 3 0x14) 5).wr (aPOS 3 0x18) 7))).rd (aPOS 3 0x1C) = 5 := by decide
/-- O28: a crossing; a tooth; the losses. -/
theorem witness_crossing :
    (let d := pad true false (mains 600000 2)
     let t := d.edge - 600000
     d.axSrc 3 = 2 ∧ d.axState 3 = 2 ∧ (d.ch (d.fget (aPOS 3 4) 0 10)).pad = true ∧ (d.ch (d.fget (aPOS 3 4) 0 10)).prevPad = false ∧
     (d.ax 3).cross = some 600000 ∧ (d.ax 3).per ≤ 4 * t ∧ (d.ax 3).per ≠ 4 * t ∧ 315077 ≤ t ∧ t ≤ 455111 ∧
     50 * ((t - (d.ax 3).per) + ((d.ax 3).per - t)) ≤ (d.ax 3).per) := by decide
theorem witness_tooth :
    (let x := wheel.ax 3
     let i := wheel.edge - 990000
     let k := (wheel.nextTooth 3).2
     wheel.axSrc 3 = 3 ∧ wheel.axMeas 3 = true ∧ wheel.axState 3 = 2 ∧ (wheel.ch 0).pad ≠ wheel.flag (aWHEEL 0 0) 18 ∧
     (wheel.ch 0).prevPad = wheel.flag (aWHEEL 0 0) 18 ∧ x.cross = some 990000 ∧ 0 < i ∧
     decide (0 < x.lastInt ∧ wheel.fget (aPOS 3 0x24) 0 6 * x.lastInt < 16 * i) = decide (1 < k) ∧
     128 * (k * (36000 / wheel.fget (aWHEEL 0 0) 0 9)) ≤ 75 * i) := by decide
theorem witness_lost :
    (late.actives.filter fun x => ctxAxis x.words == 3) = [] ∧
    (mains 400000 2).axSrc 3 = 2 ∧ (mains 400000 2).axState 3 = 2 ∧
    5 * ((mains 400000 2).ax 3).per ≤ 4 * ((mains 400000 2).edge - ((mains 400000 2).ax 3).cross.getD (mains 400000 2).edge) ∧
    (mains 400000 2).fget (aPOS 3 0x20) 16 4 = 0 ∧ ((mains 400000 2).fset (aPOS 3 0x20) 16 4 15).fget (aPOS 3 0x20) 16 4 ≠ 0 ∧
    (mains 400000 3).axState 3 = 3 ∧ ((mains 400000 3).ax 3).holdEnd ≤ (mains 400000 3).edge ∧
    (let d := wheel.fset (aPOS 3 0x24) 16 10 0
     d.axSrc 3 = 3 ∧ d.axMeas 3 = true ∧ d.axState 3 = 2 ∧ d.fget (aPOS 3 0x24) 16 10 * 20480 ≤ d.edge - (d.ax 3).cross.getD d.edge) := by decide
/-- O29: a pulse fires; it ends. -/
theorem witness_compare :
    (let d := cmp 0x00480005 10 (ax (fun x => { x with c := 10, prev := 9 }) (ctl 1 0 2 late))
     (d.cmpTest 3 3).1 = true ∧ (d.cmpU 3 3).firedAt ≠ some d.edge ∧ d.fget (aCMP 3 3 8) 19 3 = 1) ∧
    ((late.setCmpU 3 3 ⟨none, some 7, 10, 0, 0, false⟩).cmpU 3 3).pulseEnd = some 7 ∧ 7 ≤ late.edge := by decide
theorem test_compare_fires :
    (after (.compareFire 3 3) (st (cmp 0x00480005 10 (ax (fun x => { x with c := 10, prev := 9 }) (ctl 1 0 2 late))))).cmpOut 3 3 = true := by decide
/-- O30: a free unit claimed; one that is owned; its release; the owner's writes. -/
theorem witness_compare_owner :
    calm.admits (fw 0x203) (aPOS 3 0x3C) = true ∧ bitsOf (0x203 : Word) 8 3 ≠ 0 ∧ calm.cmpOwner 3 3 = 0 ∧ Device.mayGive .firmware 2 0 = true ∧
    (let d := calm.fset (aCMP 3 3 8) 22 3 5
     d.cmpOwner 3 3 ≠ 0 ∧ d.ownsCmp 3 3 .firmware = true ∧ d.admits (fw 5) (aCMP 3 3 4) = true ∧ d.flag (aCMP 3 3 8) 16 = false ∧
     d.admits (fw 5) (aCMP 3 3 8) = true) ∧
    (calm.fset (aCMP 3 3 8) 22 3 4).cmpOwner 3 3 = 4 := by decide


/-! Step lists, contexts, result queues. -/

/-- List `l` with a trigger, a FIRST context, EN and a state. -/
def lsd (l trig first en state : Nat) (d : Device) : Device :=
  (((d.fset (aLIST l 0) 0 14 first).fset (aLIST l 0) 16 3 trig).fset (aLIST l 0) 31 1 en).fset (aLIST l 8) 0 2 state
/-- A pending context 5, fetched or not, due and eligible since an edge. -/
def pend (f : Bool) (since : Option Nat) : Pend := ⟨5, true, 0, since, since, f, [], 0, false, false⟩
/-- List 3 with a pending context. -/
def pl (p : Pend) (d : Device) : Device := d.setLst 3 { ListSt.init with pend := some p }
/-- Context 5 with words of its own. -/
def cw (d : Device) : Device := ((d.wr (aCTX 5 0) 0x8005).wr (aCTX 5 3) 100).wr (aCTX 5 6) 0x20000
/-- Queue 0 enabled with 1,024 records. -/
def qon (d : Device) : Device := (d.fset (aRESQ 0 0xC) 0 1 1).fset (aRESQ 0 8) 0 5 10
/-- The step engine armed. -/
def arm (d : Device) : Device := (d.fsetB 0x80000 0 true).fsetB 0x80004 16 true
/-- Pin 0 rises. -/
def rising (d : Device) : Device := d.setCh 0 { d.ch 0 with pad := true }
/-- A context that is due on the running list 3. -/
def due : Device := pl (pend true (some 0)) (arm (cw (qon (lsd 3 0 5 1 2 calm))))
/-- O31: a list at rest with its trigger ARM, one that runs. -/
theorem witness_lists_arm :
    calm.admits (fw 1) 0x80000 = true ∧ calm.armed = false ∧
    (let d := lsd 255 1 5 1 3 (lsd 0 0 5 1 2 calm)
     d.flag (aLIST 255 0) 31 = true ∧ d.lstState 255 = 3 ∧ d.lstTrig 255 = 1 ∧ d.lstState 0 = 2 ∧ d.flag (aLIST 1 0) 31 = false) ∧
    calm.admits (fw 255) 0x80020 = true ∧ bitOf (255 : Word) 31 = false := by decide
theorem test_ctl_arms : (after (.stepCtlWrite (fw 1)) (st (lsd 255 1 5 1 3 (lsd 0 0 5 1 0 calm)))).lstState 255 = 2 ∧
    (after (.stepCtlWrite (fw 1)) (st (lsd 255 1 5 1 3 (lsd 0 0 5 1 0 calm)))).lstState 0 = 1 := by decide
/-- O32: ARMED and RUNNING lists, a trigger that is not the host's, a pin that rises; a list with an active context; a list that is disabled. -/
theorem witness_lists_trigger :
    (lsd 3 0 5 1 1 calm).lstTrig 3 = 0 ∧ (lsd 3 0 5 1 1 calm).lstState 3 = 1 ∧ (lsd 3 0 5 1 2 calm).lstState 3 = 2 ∧
    (lsd 3 2 5 1 1 calm).lstTrig 3 ≠ 0 ∧ (lsd 3 2 5 1 1 calm).lstTrig 3 ≠ 6 ∧
    (rising (lsd 3 3 5 1 1 calm)).lstTrig 3 = 3 ∧
    ((rising (lsd 3 3 5 1 1 calm)).ch ((rising (lsd 3 3 5 1 1 calm)).lstArg 3 % 1024)).pad = true ∧
    ((rising (lsd 3 3 5 1 1 calm)).ch ((rising (lsd 3 3 5 1 1 calm)).lstArg 3 % 1024)).prevPad = false := by decide
theorem witness_list_stops :
    calm.admits (fw 0x80000003) 0x80024 = true ∧ bitOf (0x80000003 : Word) 31 = true ∧ calm.activeOf 3 = none ∧
    { lsd 3 0 5 1 2 calm with execs := [run [slot (.rmu 1)]] }.activeOf 3 = some (run [slot (.rmu 1)]) ∧
    calm.admits (fw 0) (aLIST 255 0) = true ∧ calm.lstState 255 = 0 ∧
    (lsd 3 0 5 1 2 calm).reachesRws (aLIST 3 0) (setBits ((lsd 3 0 5 1 2 calm).rd (aLIST 3 0)) 31 1 0) = false ∧
    ({ calm with execs := [run []] }.execs.any fun x => x.list == 3 && x.verdict.isNone) = true := by decide
theorem test_go_runs_armed : (after (.stepStartGo (fw 0x80000003)) (st (lsd 3 0 5 1 1 calm))).lstState 3 = 2 := by decide
/-- O33, O34: a context whose records are not fetched; one that starts, one that waits for its queue. -/
theorem witness_setup_fetch : ((pl (pend false none) (lsd 3 0 5 1 2 calm)).lst 3).pend = some (pend false none) ∧ (pend false none).fetched = false := by decide
theorem witness_context_start :
    (due.lst 3).pend = some (pend true (some 0)) ∧ due.candidate 3 = true ∧ due.passedBy 3 (pend true (some 0)) = false ∧
    due.startCauses 3 (pend true (some 0)) = 0 := by decide
theorem witness_context_wait :
    (let d := pl (pend true (some 0)) (arm (cw (lsd 3 0 5 1 2 calm)))
     (d.lst 3).pend = some (pend true (some 0)) ∧ d.candidate 3 = true ∧ d.passedBy 3 (pend true (some 0)) = false ∧
     d.startCauses 3 (pend true (some 0)) ≠ 0) := by decide
theorem test_context_starts : (after (.contextStart 3 false) (st due)).execs.length = 1 := by decide
/-- An execution of list 3 whose axis has passed its end. -/
def ended : Device :=
  (fun d => d.setAx 2 { d.ax 2 with c := 2 ^ 20 }) { lsd 3 0 5 1 2 calm with execs := [run []] }
/-- Channel slots that are complete, and one that waits for its retry. -/
def measured : Device :=
  { calm with execs := [run [{ slot (.chan 3) with endEdge := some 0 }, { slot (.chan 4) with waits := true }]], edge := 100 }
/-- O35. -/
theorem witness_context_close :
    ended.activeOf 3 = some (run []) ∧ reachedPos (ended.ax (ctxAxis (run []).words)).c (((run []).start + ctxLen (run []).words) % posMod) = true ∧
    (run []).slots.all (ended.slotPast (run [])) = true := by decide
theorem witness_slots :
    measured.capo ≠ 1 ∧
    (∃ x ∈ measured.execs, x.list = 3 ∧ ((x.slots[0]?.map measured.slotReady).getD false) = true) ∧
    (∃ x ∈ measured.execs, x.list = 3 ∧
      ((x.slots[1]?.map fun k => k.waits && !k.remeasure && decide (k.lastFault + 64 ≤ measured.edge)).getD false) = true) := by decide
/-- A record of context 5. -/
def rr (i : Nat) : ResRec := ⟨5, i, 7, 9, 1, 0, 0, 0⟩
/-- O36: records whose sequence numbers wrap, in a ring of two. -/
theorem witness_ring :
    (let d := (((calm.fset (aRESQ 15 8) 0 5 1).wr (aRESQ 15 0x10) 0xFFFFFFFF).wr (aRESQ 15 0) 0x5000).setQue 15
      { Queue.init with done := [(rr 1, false), (rr 2, true)] }
     (d.que 15).done.length ≤ 2 ^ d.fget (aRESQ 15 8) 0 5 ∧ (d.que 15).done[1]? = some (rr 2, true) ∧ d.admits (fw 1) (aRESQ 15 0x14) = true) := by decide
theorem test_sequence_wraps :
    (after (.resqWrseqAdvance 15) (st ((((calm.fset (aRESQ 15 8) 0 5 1).wr (aRESQ 15 0x10) 0xFFFFFFFF).wr (aRESQ 15 0) 0x5000).setQue 15
      { Queue.init with done := [(rr 1, false), (rr 2, true)] }))).rd (aRESQ 15 0x10) = 1 := by decide


/-! Bus engines and pins. -/

/-- Entry 10 + op performs operation `op`: identifier 0x21, responses under 0x321, three request bytes (20 for ISOTP), 20 response bytes, TMO 50 ms,
TMOX 90 ms, two frames, node 7. -/
def entries (d : Device) : Device := (List.range 8).foldl (fun d i =>
  let x := 10 + i
  (((((((((d.fset (aTE x 0) 8 3 i).fset (aTE x 1) 0 29 0x21).fset (aTE x 2) 0 29 0x321).fset (aTE x 5) 0 16 (if i = 3 then 20 else 3)).fset
    (aTE x 8) 0 16 20).fset (aTE x 10) 0 16 50).fset (aTE x 12) 0 16 2).fset (aTE x 3) 0 8 7).fset (aTE x 10) 16 16 90).fset (aTE x 9) 24 8 3) d
/-- The calm device with these entries, 200,000 Ts after the start. -/
def base : Device := { entries calm with edge := 200000 }.fset 0x20000 10 1 1 |>.fset 0x10000 14 1 0
/-- Engine `e` enabled in a role, with transactions: 3 is a CAN engine, 40 a LIN one, 100 a SENT one. -/
def eng (e role : Nat) (ts : List Tx) (d : Device) : Device :=
  let d := (d.fset (aENG e 0) 0 1 1).fset (aENG e 0) 1 2 role
  d.setEng e { d.eng e with txs := ts }
/-- A transaction of operation `op` that waits, and one in a phase. -/
def t0 (op : Nat) : Tx := Tx.init none 0 (10 + op) 0
def ph (op : Nat) (p : TxPhase) : Tx := { t0 op with phase := p, begun := some 5, first := some 5 }
/-- A CAN frame of identifier `i`, as it was received. -/
def fr (i : Nat) (bs : List Byte) : CanRx := ⟨{ noFrame with ident := BitVec.ofNat 29 i, bytes := bs }, []⟩
/-- Error counters of engine 3 with AUTOREC. -/
def err (a b : Nat) (o : Bool) (d : Device) : Device := (d.setEng 3 { d.eng 3 with tec := a, rec_ := b, busOff := o }).fset (aENG 3 0x18) 4 1 1
/-- A transaction whose frame has ended on the wire. -/
def over_ (op : Nat) (n : Then) : Tx := { ph op .sending with next := n, due := some 0 }
/-- O37: every operation, due on an engine that is able; frames that have ended. -/
theorem witness_can_operations :
    (eng 3 0 [t0 0] base).txDue 3 0 (t0 0) ∧ (eng 3 0 [t0 0] base).txAble 3 0 ∧ (eng 3 0 [t0 1] base).txDue 3 1 (t0 1) ∧
    (eng 3 0 [t0 1] base).txAble 3 1 ∧ (eng 3 0 [t0 2] base).txDue 3 2 (t0 2) ∧ (eng 3 0 [t0 2] base).txAble 3 2 ∧
    (eng 3 0 [t0 3] base).txDue 3 3 (t0 3) ∧ (eng 3 0 [t0 3] base).txAble 3 3 ∧
    ((eng 3 0 [t0 0] base).eng 3).idleAt ≤ (eng 3 0 [t0 0] base).nowU := by
  unfold Device.txDue Device.txAble; decide
theorem witness_other_operations :
    (eng 40 0 [t0 5] base).txDue 40 5 (t0 5) ∧ (eng 40 0 [t0 5] base).txAble 40 5 ∧
    (eng 100 0 [t0 6] base).txDue 100 6 (t0 6) ∧ (eng 100 0 [t0 6] base).txAble 100 6 ∧
    (eng 100 1 [t0 7] base).txDue 100 7 (t0 7) ∧ (eng 100 1 [t0 7] base).txAble 100 7 := by
  unfold Device.txDue Device.txAble; decide
theorem witness_frames_end :
    (let d := eng 3 0 [over_ 0 .finish] base
     d.headTx 3 = some (over_ 0 .finish) ∧ (over_ 0 .finish).due = some 0 ∧ 0 ≤ d.nowU ∧ d.linInTime 3 (over_ 0 .finish) 0 = true ∧ (over_ 0 .finish).bad = false) ∧
    (eng 40 0 [over_ 4 .lin] base).linInTime 40 (over_ 4 .lin) 0 = true ∧ (eng 40 0 [over_ 5 .poll] base).linInTime 40 (over_ 5 .poll) 0 = true ∧
    ((eng 40 0 [{ over_ 5 .diag with req := [1, 2, 3] }] base).linFrames 15 [1, 2, 3]).length ≤ (over_ 5 .diag).sent + 1 ∧
    (let used := linUsed 8 (([7, 3, 0x62, 1, 2, 0xFF, 0xFF, 0xFF, 0x90] : List Byte).map fun v => ⟨0, v, true⟩)
     (used.take 8).map LinByte.value = 7 :: 3 :: 0x62 :: [1, 2, 0xFF, 0xFF, 0xFF] ∧ linBroken used = false ∧ linSumOk none 8 used = true) := by decide
/-- O38: a commander and a responder; the limits of a frame and of a poll; a header that a responder waits for. -/
theorem witness_lin_frames :
    (eng 40 0 [t0 4] base).engRole 40 = 0 ∧ (eng 40 0 [t0 4] base).txDue 40 4 (t0 4) ∧ (eng 40 0 [t0 4] base).txAble 40 4 ∧
    (eng 40 1 [t0 4] base).engRole 40 ≠ 0 ∧ (eng 40 1 [t0 4] base).txDue 40 4 (t0 4) ∧ (eng 40 1 [t0 4] base).txAble 40 4 ∧
    base.flag 0x10000 14 = false ∧ (over_ 4 .lin).timer + (over_ 4 .lin).limit ≤ base.edge ∧
    (over_ 5 .poll).timer + ((eng 40 0 [over_ 5 .poll] base).fset (aENG 40 8) 0 24 20000).linLimit 40 8 ≤ base.edge ∧
    (let d := (eng 40 1 [ph 4 .listening] base).fset (aENG 40 8) 0 24 20000
     d.linHears 40 = true ∧ d.headTx 40 = some (ph 4 .listening) ∧ d.headerOk 40 ⟨⟨256 * 14000, 256 * 60000, 524288⟩, 0x61, ⟨[], none⟩⟩ = true ∧
     linPid 0x21 = 0x61 ∧ base.teOp 14 = 4 ∧ base.te 14 1 0 29 = 0x21) := by
  unfold Device.txDue Device.txAble; decide
/-- O39: frames that are expected and not, flow control, response pending, polls, SENT messages. -/
theorem witness_can_receive :
    (eng 3 0 [ph 1 .listening] base).canHears 3 = true ∧ (eng 3 0 [ph 1 .listening] base).headTx 3 = some (ph 1 .listening) ∧
    (eng 3 0 [ph 1 .listening] base).expects (ph 1 .listening) (fr 0x321 [1, 2, 3]).frame = true ∧
    (eng 3 0 [ph 1 .listening] base).expects (ph 1 .listening) (fr 0x22 [1]).frame = false ∧
    (eng 3 0 [ph 3 .flow] base).expects (ph 3 .flow) (fr 0x321 [0x30, 0, 0]).frame = true ∧
    base.isoBody 13 (fr 0x321 [0x30, 0, 0]).frame = [0x30, 0, 0] ∧ base.isoBody 13 (fr 0x321 [0x31, 0, 0]).frame = [0x31, 0, 0] ∧
    (ph 3 .flow).waits < base.te 13 9 24 8 ∧ base.isoBody 13 (fr 0x321 [0x32]).frame = [0x32] ∧
    (base.isoCfs 13 (List.replicate 20 9) 1 6 1).head? = some [0x21, 9, 9, 9, 9, 9, 9, 9] := by decide
theorem witness_response_pending :
    (let t : Tx := { ph 3 .listening with req := [0x22, 1, 2] }
     let d := eng 3 0 [t] base
     let f := fr 0x321 [3, 0x7F, 0x22, 0x78]
     d.expects t f.frame = true ∧ d.te 13 10 16 16 ≠ 0 ∧ (d.isoBody 13 f.frame).take 2 = [0x03, 0x7F] ∧
     (d.isoBody 13 f.frame)[2]? = t.req.head? ∧ (d.isoBody 13 f.frame)[3]? = some 0x78) := by decide
/-- A pulse of `n` ticks, and a SENT message of two data nibbles 1 and 2. -/
def pulse (n : Nat) : SentPulse := ⟨n * 31457, 5 * 31457⟩
def sent : SentMsg := ⟨pulse 56, [pulse 12, pulse 13, pulse 14, pulse (12 + sentCrc false [1, 2])], none, 0⟩
theorem witness_poll_and_sent :
    (ph 5 .listening).begun.isSome = true ∧ base.teOp 15 = 5 ∧ (ph 5 .listening).timer + (ph 5 .listening).limit ≤ base.edge ∧ base.capo ≠ 1 ∧
    (let d := (eng 100 0 [ph 6 .listening] base).fset (aENG 100 0x18) 0 3 2
     let d := d.fset (aENG 100 8) 0 24 3000
     d.sentHears 100 = true ∧ d.calOk 100 (56 * 31457) = true ∧ d.pulsesOk 100 sent = true ∧ d.crcRight 100 (nibbles sent) = true ∧
     d.headTx 100 = some (ph 6 .listening) ∧ d.teOp 16 = 6) ∧
    (let d := (fun d => d.setEng 100 { d.eng 100 with wave := some ⟨0, []⟩ }) (eng 100 1 [ph 7 .setting] base)
     d.sentSends 100 = true ∧ (d.eng 100).wave = some ⟨0, []⟩ ∧ (⟨0, []⟩ : Wave).stop ≤ d.nowU ∧ d.headTx 100 = some (ph 7 .setting)) := by decide
theorem witness_engine_errors :
    (let d := err 127 127 false (eng 3 0 [ph 0 .sending] base)
     d.canHears 3 = true ∧ d.engRole 3 = 0 ∧ (d.eng 3).tec < 128 ∧ (d.eng 3).rec_ < 128 ∧ (ph 0 .sending).fails ≥ d.fget (aENG 3 0x18) 0 4 ∧
     (ph 0 .sending).fails < (d.fset (aENG 3 0x18) 0 4 3).fget (aENG 3 0x18) 0 4) ∧
    (err 248 6 false (eng 3 0 [] base)).canHears 3 = true ∧ 247 < ((err 248 6 false (eng 3 0 [] base)).eng 3).tec ∧
    (let d := ((eng 3 0 [] base).fset (aENG 3 0x14) 31 1 1).fset (aENG 3 0x10) 0 23 2000000
     d.measures 3 { noFrame with fd := true } = true ∧ delayBad (10485 : BitVec 24).toNat = false) ∧
    (let d := { err 250 6 true (eng 3 0 [] base) with edge := 4000000 }
     (d.eng 3).busOff = true ∧ d.flag (aENG 3 0x18) 4 = true ∧ engKind 3 = 0 ∧ (d.eng 3).offAt * tsU + 1408 * (d.canTiming 3).nom ≤ d.nowU) ∧
    (eng 40 0 [] base).linHears 40 = true ∧ (eng 40 0 [] base).headTx 40 = none := by decide
theorem witness_engine_writes :
    base.admits (fw 1) (aENG 3 0) = true ∧ base.engOn 3 = false ∧ (eng 3 0 [] base).engOn 3 = true ∧
    (eng 3 0 [] base).reachesRws (aENG 3 0) (fw 7).data = true ∧ (eng 3 0 [] base).reachesRws (aENG 3 0) ((eng 3 0 [] base).rd (aENG 3 0)) = false ∧
    base.admits (fw 0) (aENG 3 4) = true ∧ base.pinOwner 0 ≠ 1 ∧ (base.fset (aCH 0 0) 0 3 1).pinOwner 0 = 1 := by decide
theorem test_bus_off : ((after (.canFrameError 3 .bit true) (st (err 248 6 false (eng 3 0 [] base)))).eng 3).busOff = true := by decide
/-- O40: a timer, a timeout, a decided transaction with a slot, a keepalive. -/
theorem witness_transactions_end :
    (eng 3 0 [ph 3 .flow] base).headTx 3 = some (ph 3 .flow) ∧ base.teOp 13 = 3 ∧ (ph 3 .flow).timer + (ph 3 .flow).limit ≤ base.edge ∧
    awaits (ph 2 .listening) = true ∧ (ph 2 .listening).next ≠ .lin ∧ (ph 2 .listening).deadline ≤ base.edge ∧ (ph 2 .decided).phase = .decided ∧
    (let d := { eng 3 0 [{ ph 2 .decided with exec := some 7, got := [1, 2, 3] }] base with execs := [run [slot (.bus 12 3), slot (.chan 3)]] }
     d.execOf 7 = some (run [slot (.bus 12 3), slot (.chan 3)]) ∧ ((run [slot (.bus 12 3), slot (.chan 3)]).slots[0]?.map Slot.rec_) = some none) ∧
    (let d := (((eng 3 0 [] base).fset (aENG 3 0x1C) 31 1 1).fset (aENG 3 0x1C) 0 12 10).fset (aENG 3 0x1C) 16 13 5
     (d.eng 3).txs = [] ∧ d.flag (aENG 3 0x1C) 31 = true ∧ (d.eng 3).faulted = false ∧ d.capo ≠ 1 ∧
     (d.eng 3).keepFrom + msTs * d.fget (aENG 3 0x1C) 16 13 ≤ d.edge ∧ d.opFits 3 (d.teOp (d.fget (aENG 3 0x1C) 0 12)) = true) := by decide
/-- O41: a free pin, an ANALOGUE one, HOLD. -/
theorem witness_pins :
    calm.admits (fw 7) (aPIN 1023 0) = true ∧ calm.capo ≠ 1 ∧ calm.pinOwner 1023 ≠ 1 ∧ (calm.fset 0x40000 0 2 1).capo = 1 ∧
    (calm.fset (aCH 1023 0) 0 3 5).pinOwner 1023 = 2 ∧ calm.bridging 1023 calm.nextEdge = false ∧
    (calm.fset (aCH 1023 0) 0 3 1).pinOwner 1023 = 1 ∧ calm.fget (aPIN 1023 0) 0 3 = 0 ∧
    calm.admits (fw 7) (aBANK 0x4000 31) = true ∧ calm.admits (fw 7) (aBANK 0x4080 31) = true ∧ calm.admits (fw 7) (aBANK 0x4100 31) = true := by decide
theorem test_gpio_waits : (after (.pinSetWrite 31 (fw 0x80000001)) (st calm)).gpioWait 31 = ⟨0x80000001, 0, 0⟩ := by decide
theorem test_set_wins_over_clear : gpioNext 0 ⟨5, 7, 0⟩ = 5 ∧ gpioNext 6 ⟨0, 2, 5⟩ = 1 := by decide


/-! Frets, the loader, the scrubber. -/

/-- A request for Fret 3: region 255 (1), operation. -/
def rq (op : Nat) : FretReq := ⟨3, 255, op, false, false⟩
/-- Region 1 is VALID for Fret 3. -/
def cat (d : Device) : Device := (d.fset (aCATLG 1 0) 7 1 1).fset (aCATLG 1 0) 0 6 3
/-- The loader serves a request of Fret 3, which is in a state. -/
def cur (r : FretReq) (iso : Bool) (state : Nat) (d : Device) : Device :=
  (d.setLoader { d.loader with cur := some r, isolated := iso }).setFretState 3 state
/-- The calm device at edge 100,000 with its clocks running. -/
def clkOn : Device := { calm.fset 0x10000 14 1 0 with edge := 100000 }
/-- O42: a request that can be taken, one that cannot; the ends of a pass. -/
theorem witness_fret_requests :
    calm.admits (fw 0x80000103) 0xE0008 = true ∧ bitOf (0x80000103 : Word) 31 = true ∧
    (cat calm).reqOk ⟨3, 1, 0, false, false⟩ = true ∧ (cat calm).loader.cur = none ∧ (cat calm).loader.queue = [] ∧ (cat calm).capo ≠ 1 ∧
    (cur (rq 0) false 0 (cat calm)).loader.cur.isSome = true ∧ calm.reqOk ⟨3, 1, 0, false, false⟩ = false := by decide
theorem witness_scrubber :
    clkOn.fabricOn = true ∧ clkOn.scrub.last + 20 ≤ clkOn.edge ∧ ({ clkOn with scrub := ⟨12287, 0, true⟩ } : Device).scrub.next + 1 = 12288 ∧ calm.scrub.next + 1 < 12288 ∧
    (let d := { calm.setFretState 47 3 with scrub := ⟨256 * 47 + 254, 0, true⟩ }
     d.scrub.next + 1 < 12288 ∧ d.fretLive (d.scrub.next / 256) = true ∧ d.essential 47 254 (.single 0) = true) := by decide
theorem test_pass_counted : (after (.scrubFrame .clean) (st { clkOn with scrub := ⟨12287, 0, true⟩ })).rd 0xE000C = 0x10001 := by decide
/-- The cached image of a request for Fret 3, with a window CRC of `c` and one record. -/
def img (c : Nat) : RegionImg := ⟨3, c, [(768, [])], none⟩
/-- Fret 3 isolated for a request, 12,000 Ts ago. -/
def iso (op c : Nat) : Device :=
  let d := cur (rq op) true 1 clkOn
  d.setLoader { d.loader with cache := [⟨reqKey (rq op), img c, 0⟩], since := 88000 }
/-- O43: an image to fetch, frames written, a release that is over, a retry that is due. -/
theorem witness_fret_loads :
    (let d := cur (rq 0) false 0 calm
     d.loader.cur = some (rq 0) ∧ (rq 0).fret < 48 ∧ (rq 0).region < 256 ∧ d.loader.isolated = false ∧ d.cached (reqKey (rq 0)) = false ∧
     d.regionRead State.reset.mem (rq 0) [] = .error 2) ∧
    (let d := iso 2 0
     d.loader.isolated = true ∧ d.fretState 3 = 1 ∧ d.fabricOn = true ∧ d.loader.since + 64 ≤ d.edge ∧ d.cached (reqKey (rq 2)) = true) ∧
    ((iso 1 0).rejects (rq 1) = none ∧ 256 ≤ (iso 1 0).framesDone ∧ (iso 0 0).rejects (rq 0) = none ∧ 256 ≤ (iso 0 0).framesDone) ∧
    (let d := (iso 0 0).setLoader { (iso 0 0).loader with cache := [⟨reqKey (rq 0), ⟨3, 0, [(1, [])], none⟩, 0⟩] }
     d.rejects (rq 0) = some (0, 5) ∧ 0 ≤ d.framesDone ∧ d.loader.since + 32 ≤ d.edge) ∧
    (let d := { clkOn.setFretState 3 2 with edge := 10000000 }
     d.fabricOn = true ∧ d.fretState 3 = 2 ∧ 20480 * d.fget (aFRET 3 0x10) 16 10 ≤ (d.edge - (d.fret 3).released) * d.fabricKhz) ∧
    (let d := { cat (calm.setFret 3 { calm.fret 3 with retry := some (rq 0, 5) }) with edge := 5 }
     (d.fret 3).retry = some (rq 0, 5) ∧ 5 ≤ d.edge ∧ d.capo ≠ 1 ∧ d.fretState 3 ≠ 4) := by decide
/-- What frames hold after they are written does not depend on the rest of the device. -/
theorem frames_written (l : List (Nat × Option (List Byte))) (d e : Device) (h : d.frames = e.frames) :
    (l.foldl writeFrame d).frames = (l.foldl writeFrame e).frames := by
  induction l generalizing d e with
  | nil => exact h
  | cons x r ih => exact ih _ _ (by simp [writeFrame, h])
/-- The CRC of the window that the load writes. -/
def crc0 : Nat := ((iso 0 0).writeFrames (rq 0) 256).framesCrc 768 256
theorem window_crc (c : Nat) : ((iso 0 c).writeFrames (rq 0) 256).framesCrc 768 256 = crc0 := by
  have h := frames_written (((iso 0 0).loadFrames (rq 0)).take 256) (iso 0 c) (iso 0 0) rfl
  have g : (iso 0 c).loadFrames (rq 0) = (iso 0 0).loadFrames (rq 0) := rfl
  simp only [crc0, Device.framesCrc, Device.frameBytes, Device.writeFrames, g, h]
/-- A window that reads back with its CRC, and one that does not. -/
theorem witness_window_crc :
    (∃ c, some (((iso 0 c).writeFrames (rq 0) 256).framesCrc 768 256) = ((iso 0 c).cachedImg (reqKey (rq 0))).map RegionImg.wcrc) ∧
    ∃ c, some (((iso 0 c).writeFrames (rq 0) 256).framesCrc 768 256) ≠ ((iso 0 c).cachedImg (reqKey (rq 0))).map RegionImg.wcrc := by
  have e (c : Nat) : ((iso 0 c).cachedImg (reqKey (rq 0))).map RegionImg.wcrc = some c := rfl
  refine ⟨⟨crc0, ?_⟩, ⟨crc0 + 1, ?_⟩⟩
  · rw [window_crc, e]
  · rw [window_crc, e]; intro h; injection h; omega
/-- The plain text of an image of Fret 3 with one blank record, and its plain header in the library as region 1. -/
def plainText : List Byte := [3, 1, 0, 0] ++ zeros 12 ++ leBytes 4 768 ++ zeros 3072
def libHeader : List Byte := leBytes 4 0x4E414D33 ++ leBytes 4 1 ++ leBytes 4 1 ++ leBytes 4 3 ++ leBytes 4 3092 ++ zeros 4 ++ leBytes 4 1 ++ zeros 36
/-- The stored body, under a key that the device holds. -/
def stored : List Byte := gcmStored ((streamP (cut libHeader 20 40)).firstKey []) ((streamP (cut libHeader 20 40)).iv 0) (leBytes 4 0 ++ cut libHeader 8 8) plainText
/-- A request for region 1 that the loader fetches, with the digest of the plain text in the manifest. -/
def fetching : Device :=
  let d := cur ⟨3, 1, 0, false, false⟩ false 0 ((cat calm).fset (aCATLG 1 8) 0 26 3172)
  { d with sys := { d.sys with sec := { d.sys.sec with fkey := some [] }, boot := { d.sys.boot with manifest := zeros (0x800 + 64) ++ sha512 plainText } } }
theorem plain_length : plainText.length = 3092 := by simp [plainText, zeros, leBytes]
theorem stored_length : stored.length = 3108 := by simp only [stored, gcmStored, List.length_map, List.length_range, plain_length]
/-- The region is read from any flash that holds its header and its stored body. -/
theorem region_reads (m : Mem) (h : m.flashRead libBase 64 = libHeader) (h' : m.flashRead (libBase + 64) 3108 = stored) :
    fetching.regionRead m ⟨3, 1, 0, false, false⟩ [plainText] = .ok ⟨3, 0, [frameRec plainText 16], none⟩ := by
  have e1 : fetching.fget (aCATLG 1 4) 0 14 = 0 := by decide
  have e2 : regionHdrOk libHeader 1 (fetching.fget (aCATLG 1 0) 0 6) (fetching.fget (aCATLG 1 8) 0 26) = true := by decide
  have e3 : regionDigest fetching.sys.boot.manifest 1 = sha512 plainText := by
    have : (sha512 plainText).length = 64 := by simp [sha512]
    simp only [regionDigest, fetching, cut]
    rw [List.drop_left' (by simp [zeros]), ← this, List.take_length]
  have e4 : regionOf plainText 3 = some ⟨3, 0, [frameRec plainText 16], none⟩ := by
    have w0 : numAt plainText 0 4 = 259 := rfl
    have w1 : numAt plainText 4 4 = 0 := rfl
    have w2 : numAt plainText 8 4 = 0 := rfl
    have w3 : numAt plainText 12 4 = 0 := rfl
    simp [regionOf, w0, w1, w2, w3, plain_length]
  have e5 : (streamP (cut libHeader 20 40)).openAll (fetching.rootKey (streamP (cut libHeader 20 40)).keysrc) (numAt libHeader 16 4) (cut libHeader 8 8)
      (fun o n => m.flashRead (libBase + 64 + o) n) [plainText] = (plainText, true) := by
    have k : fetching.rootKey (streamP (cut libHeader 20 40)).keysrc = some [] := rfl
    have g : (streamP (cut libHeader 20 40)).nseg = 1 := by decide
    have n : (streamP (cut libHeader 20 40)).inside (numAt libHeader 16 4) 0 = 3092 := by decide
    have q : segPlain (numAt libHeader 16 4) 0 = 3092 := by decide
    have o : (streamP (cut libHeader 20 40)).ofs 0 = 0 := by decide
    have s : gcmStored ((streamP (cut libHeader 20 40)).firstKey []) ((streamP (cut libHeader 20 40)).iv 0) (leBytes 4 0 ++ cut libHeader 8 8) plainText = stored := rfl
    simp only [StreamP.openAll, k, StreamP.openFrom, g, n, q, o, s, plain_length, Nat.add_zero, h']
    simp [List.take_of_length_le, plain_length]
  simp only [Device.regionRead, e1, Nat.mul_zero, Nat.add_zero, h, e2, e3, e4, e5]
  simp
theorem witness_region_read :
    fetching.loader.cur = some ⟨3, 1, 0, false, false⟩ ∧ fetching.loader.isolated = false ∧ fetching.cached (reqKey ⟨3, 1, 0, false, false⟩) = false ∧
    ∃ m img, fetching.regionRead m ⟨3, 1, 0, false, false⟩ [plainText] = .ok img := by
  have h := flash_stored State.reset.mem libBase libHeader stored
  exact ⟨rfl, rfl, by decide, _, _, region_reads _ (by simpa [libHeader, zeros, leBytes] using h.1) (by rw [stored_length] at h; simpa [libHeader, zeros, leBytes] using h.2)⟩
theorem test_failure_schedules_retry :
    ((after (.regionImageCached .flashError) (st (cur (rq 0) false 0 calm))).fget (aFRET 3 4) 28 4,
     (after (.regionImageCached .flashError) (st (cur (rq 0) false 0 calm))).fget (aFRET 3 4) 0 16) = (1, 1) := by decide
/-- A Fret that runs, with the pin grant, after ENABLE_WRITES. -/
def granted : Device := ((clkOn.setFretState 47 3).fset (aFRET 47 0x1C) 5 1 1).fset 0x20000 19 1 1
/-- O44: a grant, an isolated Fret, a register without a grant, a window open and closed. -/
theorem witness_fret_ports :
    granted.fretLive 47 = true ∧ granted.fabricOn = true ∧ granted.admits ⟨.shell 47, 15, 7⟩ (aBANK 0x4000 31) = true ∧ granted.capo ≠ 1 ∧ calm.fretLive 47 = false ∧
    granted.dead (aCH 0 0) = false ∧ granted.shellGrants 47 (aCH 0 0) 7 = false ∧ granted.windowOpen 47 = true ∧ calm.windowOpen 47 = false := by decide
theorem test_window_reads : (after (.fretWindowAccess 47 (.read 0 0x12345678)) (st granted)).answer = [0x78, 0x56, 0x34, 0x12] ∧
    (after (.fretWindowAccess 47 (.read 0 0x12345678)) (st calm)).answer = [0, 0, 0, 0] := by decide


/-! Calibration. -/

/-- The Tuning engine enabled, with AUTO. -/
def enabled (d : Device) : Device := (d.fset 0x60000 0 1 1).fset 0x60000 1 1 1
/-- Other calibration state. -/
def calBy (f : Cal → Cal) (d : Device) : Device := { d with cal := f d.cal }
/-- A run with its open ranges. -/
def calRun (op target : Nat) (left : List Nat) (via : CalVia) (start : Option Nat) : CalRun := ⟨⟨op, target, left.headD 0⟩, left, via, start, false⟩
/-- 30,000,000 Ts after the start, under a run. -/
def tuning (r : CalRun) : Device := { (calBy (fun c => { c with run := some r }) (enabled calm)).fset 0x60004 4 1 1 with edge := 30000000 }
/-- Eight points. -/
def fit : Fit := ⟨5, 6, [1, 2, 3, 4, 5, 6, 7, 8]⟩
/-- O45: a request among 63 and among 64; a range that is due; one that starts; a run. -/
theorem witness_cal_requests :
    calm.admits (fw 0x80000003) 0x60014 = true ∧ bitOf (0x80000003 : Word) 31 = true ∧
    (calBy (fun c => { c with reqs := List.replicate 63 ⟨1, 3, 3⟩ }) calm).cal.reqs.length < 64 ∧
    64 ≤ (calBy (fun c => { c with reqs := List.replicate 64 ⟨1, 3, 3⟩ }) calm).cal.reqs.length := by decide
theorem witness_cal_runs :
    (let d := calBy (fun c => { c with seconds := 3600 }) ((enabled calm).fset 0x60010 0 14 1)
     d.flag 0x60000 1 = true ∧ d.calDue 0 0 = true ∧ d.cal.auto.contains ⟨1, 0, 0⟩ = false ∧ d.cal.run = none) ∧
    (let d := calBy (fun c => { c with reqs := [⟨4, 3, 0⟩] }) (enabled calm)
     d.flag 0x60000 0 = true ∧ d.capo = 0 ∧ d.cal.run = none ∧ refGood 5000000 = true ∧ refGood 5050001 = false ∧
     (let e := d.ripenRmu
      e.pickCal (e.cal.boot ++ e.cal.reqs ++ (if e.flag 0x60000 1 then e.cal.auto else []) ++ e.cal.again) = some (⟨4, 3, 0⟩, .none))) := by decide
theorem witness_cal_ends :
    (tuning (calRun 0 3 [6, 7] .spare (some 0))).cal.run = some (calRun 0 3 [6, 7] .spare (some 0)) ∧
    (tuning (calRun 0 3 [6, 7] .spare (some 0))).admits (fw 0x80000000) 0x60014 = true ∧
    (tuning (calRun 0 3 [6, 7] .spare (some 0))).admits (fw 1) 0x60000 = true ∧
    (let d := { calBy (fun c => { c with dist := [(⟨1, 3, 3⟩, 5)] }) calm with edge := 5 }
     (d.cal.dist.find? fun p => p.1.target == 3 && p.1.range == 3 && decide (p.1.op ≤ 2) && decide (p.2 ≤ d.edge)) = some (⟨1, 3, 3⟩, 5)) := by decide
theorem test_abort_ends_run : (after (.calCmdAbort (fw 0x80000000)) (st (tuning (calRun 0 3 [6, 7] .spare (some 0))))).cal.run = none := by decide
/-- A pair that reads `x` on the sense and `y` on the force path. -/
def pair (x y : Int) : CalPair := ⟨(x, x), (y, y)⟩
/-- A range whose readings are its levels. -/
def exact : CalMeas := ⟨false, (0, 0), (List.range 8).map fun k => [pair (256 * levelOf k) (256 * levelOf k)], [[pair (-64000000) (-64000000)], [pair 64000000 64000000]]⟩
/-- O46: a range that has not ended, in a gap that is too short and in no gap; a quick calibration that fits; one that is disturbed; one that disagrees and one whose
offset is out of range; taps; meter ranges; a save; a write of CAL_VU. -/
theorem witness_cal_results :
    (let r := calRun 0 3 [3] .spareFree (some 0)
     let g := calRun 0 3 [3] (.gap (some 30000010)) (some 29990000)
     let d := tuning r
     d.cal.run = some r ∧ r.start = some 0 ∧ r.left = [3] ∧ (tuning g).gapShort g (29990000 + rangeTicks 0 20 3 exact) = true ∧
     d.gapShort r (0 + rangeTicks 0 (d.fget 0x6000C 0 7) 3 exact) = false ∧ 0 + rangeTicks 0 (d.fget 0x6000C 0 7) 3 exact ≤ d.edge ∧
     (tuning g).edge < 29990000 + rangeTicks 0 ((tuning g).fget 0x6000C 0 7) 3 exact) ∧
    (tuning (calRun 2 3 [3] .spareFree (some 0))).tooMany (.slice (Fin.ofNat 1056 3)) = false ∧
    ((tuning (calRun 2 3 [3] .spareFree (some 0))).judge 2 3 3 { exact with pinHigh := true }) = .disturbed := by decide
theorem witness_range_fits :
    (match (tuning (calRun 2 3 [3] .spareFree (some 0))).judge 2 3 3 { exact with points := [[pair 256 0]] } with
     | .fitted sense force _ res => ((tuning (calRun 2 3 [3] .spareFree (some 0))).quickCommit 3 3 sense force).isSome && decide (res ≤ 50)
     | _ => false) = true ∧
    (match (tuning (calRun 2 3 [3] .spareFree (some 0))).judge 2 3 3 { exact with points := [[⟨(0, 12800), (0, 0)⟩, ⟨(0, 12800), (0, 0)⟩, ⟨(0, 6400), (0, 0)⟩]] } with
     | .disagreed res => decide (res ≤ 50)
     | _ => false) = true := by decide
theorem witness_tap_results :
    (let d := tuning (calRun 3 3 [33] .none (some 0))
     (calRun 3 3 [33] .none (some 0)).left = [33] ∧ (triedBy 100 3 [(36000, 36000)]).getLast? = some (36000, 36000) ∧
     (triedBy 100 3 [(0, 101), (0, 101), (0, 101)]).getLast? = some (0, 101) ∧ agrees 100 (0, 101) = false ∧ agrees 100 (36000, 36000) = true ∧
     (roundDiv (pairSum (36000, 36000)) 2).toNat ≤ 36000 ∧ 0 + 256 * 3 ≤ d.edge) ∧
    (tuning (calRun 3 3 [33] .none (some 29999999))).edge < 29999999 + 256 * 1 := by decide
theorem witness_meter_results :
    (let d := tuning (calRun 4 3 [22] .none (some 0))
     (calRun 4 3 [22] .none (some 0)).req.target < 4 ∧ d.tooMany (.rmu (Fin.ofNat 4 3)) = false ∧
     ((triedBy 200 3 [(0, 200)]).getLast?.any (agrees 200)) = true ∧ ((triedBy 200 3 [(0, 201)]).getLast?.any (agrees 200)) = false ∧ 0 + 81920 * (1 + 1) ≤ d.edge) ∧
    (tuning (calRun 4 3 [22] .none (some 29999999))).edge < 29999999 + 81920 * 2 := by decide
theorem test_tap_measured :
    tabGet (fun _ => 0xFFFF) (after (.tapMeasureEnd 33 [(36000, 36000)] 5000000) (st (tuning (calRun 3 3 [33] .none (some 0))))).cal.taps (34 * 3 + 33) = 36000 := by decide
theorem witness_cal_store :
    calm.admits (fw 0x80000000) 0x60014 = true ∧
    (let d := { calBy (fun c => { c with dirtySince := some 0 }) calm with edge := 20480000 }
     d.cal.dirtySince = some 0 ∧ 0 + secTs * d.fget 0x6000C 16 12 ≤ d.edge) ∧
    (let d := calm.wr 0x60024 0x3
     d.admits (fw 1) 0x6002C = true ∧ d.calibrates (bitsOf (d.rd 0x60024) 0 11) = false ∧ bitsOf (d.rd 0x60024) 16 4 ≠ 12 ∧
     ¬ (bitsOf (d.rd 0x60024) 15 1 = 1 ∧ 2 < bitsOf (d.rd 0x60024) 12 3)) ∧ calm.admits (fw 5) 0x60018 = true := by decide
theorem witness_seconds :
    calm.edge < calm.cal.tickAt + secTs ∧ calm.edge < calm.cal.sensedAt + 20480 ∧
    (let d := { calm with edge := 20480000 }
     d.cal.tickAt + secTs ≤ d.edge ∧ d.cal.sensedAt + 20480 ≤ d.edge) := by decide
theorem test_epoch_ticks :
    (let d := { calm with edge := 20480000 }
     (after .epochTick (st (after (.calEpochWrite (fw 5)) (st d)))).rd 0x60018 = 6 ∧ (after .epochTick (st d)).rd 0x60018 = 0) := by decide


/-! Faults, Capo, the watchdog. -/

/-- A resource under retest since edge 0, with failed tests. -/
def retest (r : Resource) (f : Nat) : Device := { calm with rec_ := { calm.rec_ with retests := [⟨r, 3, 0, 9, f⟩] }, edge := 64 }
/-- An item of the event log. -/
def item : LogItem := .fault ⟨5, .p, 1, 2, 3, 4, 1, 77, 6, 8, 9⟩
/-- SAFE with no cause present, a clock and firmware. -/
def releasable : Device := (((calm.fset 0x10000 0 1 1).fset 0x10000 2 1 1).fset 0x40000 0 2 2).wr 0x40008 0
/-- Other Capo state, 30,000,000 Ts after the start. -/
def capoBy (f : CapoSt → CapoSt) (d : Device) : Device := { d with sys := { d.sys with capo := f d.sys.capo }, edge := 30000000 }
/-- O47. -/
theorem witness_faults :
    calm.outOfService (.slice 1055) = false ∧ atOnceP 3 = false ∧ (calm.firstHit fun e k => calm.servesSlot (.slice 1055) e.words k) = none ∧
    (calm.rec_.retests.any fun t => t.res == .slice 1055) = false ∧ atOnceP 0x0D = true ∧ calm.flag (aRMU 3 0x14) 3 = false ∧
    ((retest (.slice 1055) 1).rec_.retests.find? fun y => y.res == .slice 1055) = some ⟨.slice 1055, 3, 0, 9, 1⟩ ∧ 0 + 64 ≤ (retest (.slice 1055) 1).edge ∧
    (retest (.slice 1055) 1).tooMany (.slice 1055) = false ∧ (retest (.slice 1055) 1).edge < 0 + 40960 ∧
    (calm.fset (aRMU 3 0x14) 3 1 1).outOfService (.rmu 3) = true ∧ calm.excluded (.slice 1055) 3 = false ∧ calm.txSlot 119 = none ∧
    ((calm.fset 0x4000C 4 1 1).flag 0x4000C 4 = true) := by decide
theorem witness_excluded : ((calm.setCh 7 { calm.ch 7 with clampSince := some 3 }).excluded (.cell 7) 5) = true := by decide
theorem witness_retest_ends :
    (let d := { retest (.rmu 3) 2 with edge := 100 }
     (d.rec_.retests.find? fun y => y.res == .rmu 3) = some ⟨.rmu 3, 3, 0, 9, 2⟩ ∧ d.flag (aRMU 3 0x14) 3 = false ∧ 0 + 64 ≤ d.edge ∧ (2 : Nat) ≤ 2 ∧
     ({ d with edge := 63 } : Device).edge < 0 + 64 ∧ 0 + 40960 < ({ d with edge := 40961 } : Device).edge) := by decide
theorem witness_log_copy :
    ({ calm with logQ := [item], logAt := some 0, edge := 20480000 } : Device).logQ = [item] ∧
    (∀ e, ({ calm with logQ := [item], logAt := some 0, edge := 20480000 } : Device).logAt = some e → e + 20480000 ≤ 20480000) := by
  refine ⟨rfl, fun e h => ?_⟩
  cases h; decide
theorem test_retest_counts_fail :
    (after (.deviceRetest (.slice 1055) false) (st (retest (.slice 1055) 1))).rec_.retests = [⟨.slice 1055, 3, 0, 9, 2⟩] := by decide
/-- O48: causes that begin and end; releases under both policies, one refused. -/
theorem witness_safe_enters : calm.flag 0x4000C 4 = false ∧ calm.admits (fw 1) 0x40010 = true ∧ bitOf (1 : Word) 31 = false ∧ calm.capo ≠ 2 ∧ State.reset.dev.capo = 2 := by decide
theorem witness_release :
    (let d := releasable.fset 0x4000C 0 1 1
     d.admits (fw 4) 0x40010 = true ∧ d.flag 0x4000C 0 = true ∧ d.capo = 2 ∧ d.mayRelease = true ∧ (d.wr 0x40008 8).mayRelease = false) ∧
    (let d := capoBy (fun c => { c with ready := some 5 }) releasable
     d.sys.capo.ready = some 5 ∧ d.flag 0x4000C 0 = false ∧ d.capo = 2 ∧ d.mayRelease = true ∧ 5 + 20480 * d.fget 0x4000C 8 8 ≤ d.edge) := by decide
theorem test_host_release : (after (.capoCmdRelease (fw 4)) (st (releasable.fset 0x4000C 0 1 1))).capo = 0 := by decide
theorem test_cause_ends : (after .overtempClear (st (calm.wr 0x40008 0x18))).rd 0x40008 = 0x10 := by decide
/-- O49: a kick, a write without the key; the three stages. -/
theorem witness_watchdog :
    calm.admits (fw 0xC3A5) 0x5000C = true ∧ calm.fget 0x50010 0 2 ≠ 3 ∧ (fw 0xC3A4).data ≠ 0xC3A5 ∧
    (let d := capoBy id ((calm.fset 0x50008 31 1 1).fset 0x50008 0 10 1000)
     d.flag 0x50008 31 = true ∧ d.fget 0x50010 0 2 = 0 ∧ d.sys.capo.wdFrom + 20480 * d.fget 0x50008 0 10 ≤ d.edge) ∧
    (let d := capoBy (fun c => { c with rearmed := false }) (calm.fset 0x50010 0 2 1)
     d.fget 0x50010 0 2 = 1 ∧ (d.sys.capo.rearmed && d.sys.capo.kicked) = false ∧ d.sys.capo.wdFrom + 819200 ≤ d.edge) ∧
    (let d := capoBy (fun c => { c with kicked := false }) (calm.fset 0x50010 0 2 2)
     d.fget 0x50010 0 2 = 2 ∧ d.sys.capo.kicked = false ∧ d.sys.capo.wdFrom + 20480000 ≤ d.edge) := by decide
theorem test_watchdog_expires :
    (after .watchdogExpiry (st (capoBy id ((calm.fset 0x50008 31 1 1).fset 0x50008 0 10 1000)))).capo = 1 := by decide


/-! Clocks and references. -/

/-- A device in a phase of the start-up that runs from REFA. -/
def onRef (ph : Nat) (d : Device) : Device := ((d.fset 0x20000 0 5 ph).fset 0x10000 0 1 1).fset 0x10000 16 1 1
/-- Other clock state. -/
def clk (f : ClkSt → ClkSt) (d : Device) : Device := { d with sys := { d.sys with clk := f d.sys.clk } }
/-- O50: a reference that is judged; a loss, with a fallback that is complete and one that is not; the switch; the stop of the gated domains. -/
theorem witness_references :
    (onRef 10 calm).hasActive = true ∧ (onRef 10 calm).refReady (onRef 10 calm).activeRef = true ∧ (onRef 10 calm).activeRef = false ∧
    (onRef 10 calm).sys.clk.switching ≠ some true ∧ (onRef 10 calm).sys.clk.lossAt = none ∧ (onRef 10 calm).flag 0x10000 16 = true ∧
    (onRef 10 calm).flag 0x10008 0 = false ∧ ((onRef 10 calm).fset 0x10018 0 14 8192).refCount true = 8192 ∧
    ((onRef 10 calm).fset 0x10008 0 1 1).flag 0x10008 0 = true ∧
    (clk (fun c => { c with switching := some true, lossAt := some 4 }) (onRef 10 calm)).sys.clk.switching = some true ∧
    (let d := { (clk (fun c => { c with lossAt := some 4 }) (onRef 10 calm)).fset 0x10000 14 1 0 with edge := 20484 }
     d.sys.clk.lossAt = some 4 ∧ 4 + 20480 ≤ d.edge ∧ d.flag 0x10000 14 = false) := by decide
theorem test_window_ppm : (after (.refWindowEnd 41943) (st (onRef 10 calm))).fget 0x1001C 0 16 = ofSigned 16 (-32767) := by decide
/-- O51. -/
theorem witness_unready_switch :
    calm.admits (fw 0x80000001) 0x10010 = true ∧ bitOf (0x80000001 : Word) 0 ≠ calm.activeRef ∧ calm.refReady (bitOf (0x80000001 : Word) 0) = false := by decide
/-- O52: the active reference, a READY one, the end of a move; the fabric clock at rest and running; outputs off and on. -/
theorem witness_clocks :
    bitOf (0x80000000 : Word) 0 = (onRef 10 calm).activeRef ∧ (onRef 10 calm).sys.clk.lossAt = none ∧
    ((onRef 10 calm).fset 0x10000 1 1 1).refReady true = true ∧ ((onRef 10 calm).fset 0x10000 15 1 1).flag 0x10000 15 = true ∧
    calm.admits (fw 2) 0x1000C = true ∧ calm.fabricRuns = false ∧ (calm.setFretState 47 3).fabricRuns = true ∧
    (calm.setFretState 47 3).reachesRws 0x10008 2 = true ∧ (calm.fset 0x10008 1 1 1).flag 0x10008 1 = true ∧ (calm.fset 0x10008 1 1 1).flag 0x10000 3 = false ∧
    calm.admits (fw 0) (aOUT 3 8) = true ∧ (calm.fset (aOUT 3 8) 0 1 1).flag (aOUT 3 8) 0 = true ∧ calm.flag (aOUT 0 8) 0 = false ∧
    (((calm.fset (aOUT 3 8) 0 1 1).fset 0x10000 14 1 0).fset 0x10000 2 1 1).fabricOn = true ∧ calm.fabricOn = false := by decide
theorem test_hitless_switch : (after (.clkCmdSwitch (fw 0x80000001)) (st ((onRef 10 calm).fset 0x10000 1 1 1))).flag 0x10000 15 = true := by decide


/-! Start-up, warm start, QUIET. -/

/-- A device in a phase with its clocks. -/
def inPhase (ph : Nat) (d : Device) : Device := (((onRef ph d).fset 0x10000 14 1 0).fset 0x10000 2 1 1).fset 0x10000 4 1 1
/-- Other boot state, 30,000,000 Ts after the start. -/
def bootBy (f : BootSt → BootSt) (d : Device) : Device := { d with sys := { d.sys with boot := f d.sys.boot }, edge := 30000000 }
/-- A device whose start-up is complete. -/
def started : Device := (inPhase 10 calm).fset 0x20000 10 1 1
/-- A device in QUIET. -/
def asleep : Device := (started.fset 0x20000 12 1 1).fset 0x20000 0 5 13
/-- Release phases in the default order. -/
def releasing (pos : Nat) (done : Option Nat) : Device := bootBy (fun b => { b with pos := pos, doneAt := done }) ((inPhase 7 calm).wr 0x2000C 0xE4)
/-- O53: supply-good, the PLLs, training; a load that waits; the phases. -/
theorem witness_cold_start :
    State.reset.dev.phase = 0 ∧ State.reset.dev.refCount false ≠ 8192 ∧ State.reset.dev.refCount true ≠ 8192 ∧ calm.admits (fw 0xA5) 0x20020 = true ∧
    (inPhase 2 calm).phase = 2 ∧ (inPhase 5 calm).phase = 5 ∧ (inPhase 5 calm).flag 0x10000 4 = true ∧ (inPhase 5 calm).flag 0xC0000 0 = false := by decide
/-- A part of bytes that were stored reads back. -/
theorem flash_cut (m : Mem) (a o n : Nat) (bs : List Byte) (h : o + n ≤ bs.length) : (m.flashWrite a bs).flashRead (a + o) n = cut bs o n := by
  obtain ⟨r, e⟩ : ∃ r, bs.length = o + (n + r) := ⟨bs.length - (o + n), by omega⟩
  have w := read_stored blankFlash bs m.flash a
  rw [e, read_append, read_append] at w
  have len : ∀ (l : List Host.Cell) (b n : Nat), (readCells blankFlash l b n).length = n := by
    intro l b n; induction n generalizing b with
    | zero => rfl
    | succ n ih => simp [readCells, ih]
  show readCells blankFlash (writeCells blankFlash m.flash a bs) (a + o) n = (bs.drop o).take n
  conv => rhs; rw [← w]
  rw [List.drop_left' (len _ _ _), List.take_left' (len _ _ _)]
/-- A part of a list. -/
theorem cut_mid (x y z : List Byte) (o n : Nat) (h : x.length = o) (h' : y.length = n) : cut (x ++ (y ++ z)) o n = y := by
  rw [cut, List.drop_left' h, List.take_left' h']
theorem cut_zeros (k o n : Nat) (h : o + n ≤ k) : cut (zeros k) o n = zeros n := by
  simp only [cut, zeros, List.drop_replicate, List.take_replicate]; congr 1; omega
theorem le_four (c : Nat) (h : c < 2 ^ 32) : leNat (leBytes 4 c) = c := by
  simp only [leBytes, leNat, BitVec.toNat_ofNat]; omega
theorem crc_bit (c : Nat) (h : c < 2 ^ 32) : crcBit c < 2 ^ 32 := by
  unfold crcBit; split
  · exact Nat.xor_lt_two_pow (by omega) (by decide)
  · omega
theorem crc_bound (bs : List Byte) : crc32c bs < 2 ^ 32 := by
  have : ∀ (bs : List Byte) (c : Nat), c < 2 ^ 32 → bs.foldl crcByte c < 2 ^ 32 := by
    intro bs
    induction bs with
    | nil => intro c h; exact h
    | cons b r ih =>
      intro c h
      refine ih _ ?_
      unfold crcByte
      iterate 8 apply crc_bit
      exact Nat.xor_lt_two_pow h (by have := b.isLt; omega)
  exact Nat.xor_lt_two_pow (this bs _ (by decide)) (by decide)
/-- A boot header: both slots 128 KiB, key slot 0. -/
def hdr : List Byte := leBytes 4 0x4E414D31 ++ leBytes 4 1 ++ [0, 0, 8, 0] ++ zeros 52 ++ leBytes 4 0x20000 ++ leBytes 4 0x20000 ++ zeros 4024
/-- A manifest with the sections SYSTEM and FABRIC_BASE, all zero, and frames' CRC `c`. -/
def manA (c : Nat) : List Byte :=
  leBytes 4 0x4E414D32 ++ leBytes 4 1 ++ zeros 8 ++ leBytes 4 26640 ++ leBytes 4 26624 ++ leBytes 4 2 ++ zeros 8 ++ leBytes 4 c ++ zeros 236 ++ leBytes 4 1 ++ zeros 232
def ent1 : List Byte := [0x0E, 0, 0, 0] ++ zeros 8 ++ leBytes 4 2048 ++ zeros 16 ++ sha512 (zeros 2048)
def ent2 : List Byte := [0x02, 0, 0, 0] ++ zeros 4 ++ leBytes 4 2048 ++ leBytes 4 24576 ++ zeros 16 ++ sha512 (zeros 24576)
def man (c : Nat) : List Byte := manA c ++ (ent1 ++ (ent2 ++ zeros 17984))
def bodyText : List Byte := zeros 26624
def bodyStored : List Byte := gcmStored ((⟨0, 1, 0, zeros 16, zeros 12⟩ : StreamP).firstKey []) ((⟨0, 1, 0, zeros 16, zeros 12⟩ : StreamP).iv 0) (leBytes 4 0 ++ zeros 8) bodyText
/-- A device that loads slot A, or B, with keys; `sys` says whether SYSTEM is applied. -/
def slotTry (b sys : Bool) : Device :=
  let d := ((inPhase 5 calm).fset 0x3000C 0 1 1).fset 0x20008 0 4 (if b then 2 else 0)
  let d := d.fset 0xC0000 0 1 (if sys then 1 else 0)
  { d with cseq := 0xFFFFFFFF,
           sys := { d.sys with sec := { d.sys.sec with hashes := [(0, sha512 (zeros 133))], fkey := some [] },
                               boot := { d.sys.boot with header := hdr, system := if sys then some (0, 0xFFFFFFFF) else none } } }
/-- Flash with the slot. -/
def slotMem (b : Bool) (c : Nat) : Mem := State.reset.mem.flashWrite (slotTry b true).slotBase (man c ++ (zeros 1792 ++ bodyStored))
def slotLoad (bad : Option (BitVec 8)) : SlotLoad := ⟨false, bad, true, [bodyText], [], [], ⟨false, []⟩⟩
def slotImg : Img := ⟨[⟨0x0E, 0, 0, 2048, sha512 (zeros 2048)⟩, ⟨0x02, 0, 2048, 24576, sha512 (zeros 24576)⟩], bodyText⟩
theorem sha_length (bs : List Byte) : (sha512 bs).length = 64 := by simp [sha512]
theorem manA_length (c : Nat) : (manA c).length = 512 := by simp only [manA, leBytes, zeros, List.length_append, List.length_cons, List.length_nil, List.length_replicate]
theorem ent_lengths : ent1.length = 96 ∧ ent2.length = 96 := by
  simp only [ent1, ent2, leBytes, zeros, sha_length, List.length_append, List.length_cons, List.length_nil, List.length_replicate, and_self]
theorem man_length (c : Nat) : (man c).length = 18688 := by simp only [man, manA_length, ent_lengths, zeros, List.length_append, List.length_replicate]
theorem body_length : bodyStored.length = 26640 := by simp only [bodyStored, gcmStored, bodyText, zeros, List.length_map, List.length_range, List.length_replicate]
/-- The window CRC of the whole fabric after the load. -/
def rest (b : Bool) : Device := sectOrder.foldl (loadSection slotImg) (slotTry b true)
def crcAll (b : Bool) : Nat := (rest b).framesCrc 0 12288
/-- The CRC in the manifest: that of the frames, or another. -/
def crcOf (b good : Bool) : Nat := if good then crcAll b else if crcAll b = 0 then 1 else 0
theorem man_ok : ∀ b g : Bool, manifestOk (man (crcOf b g)) 0x20000 = true := by decide
theorem man_fields : ∀ b g : Bool, pubKey (man (crcOf b g)) = zeros 133 ∧ manStream (man (crcOf b g)) = ⟨0, 1, 0, zeros 16, zeros 12⟩ ∧
    bodyPlain (man (crcOf b g)) = 26624 ∧ cut (man (crcOf b g)) 8 8 = zeros 8 ∧ numAt (man (crcOf b g)) 0x18 4 = 2 ∧ numAt (man (crcOf b g)) 0x20 4 = 0 := by decide
theorem man_crc (c : Nat) (h : c < 2 ^ 32) : numAt (man c) 0x24 4 = c := by
  have e : man c = (leBytes 4 0x4E414D32 ++ leBytes 4 1 ++ zeros 8 ++ leBytes 4 26640 ++ leBytes 4 26624 ++ leBytes 4 2 ++ zeros 8) ++
      (leBytes 4 c ++ (zeros 236 ++ leBytes 4 1 ++ zeros 232 ++ (ent1 ++ (ent2 ++ zeros 17984)))) := by simp only [man, manA, List.append_assoc]
  rw [numAt, e, cut_mid _ _ _ _ _ (by simp only [leBytes, zeros, List.length_append, List.length_cons, List.length_nil, List.length_replicate]) (by simp only [leBytes, List.length_cons, List.length_nil]), le_four c h]
theorem man_ents (b g : Bool) : sectEnts (man (crcOf b g)) = slotImg.sects := by
  have e1 : cut (man (crcOf b g)) (0x200 + 96 * 0) 96 = ent1 := cut_mid _ _ _ _ _ (manA_length _) ent_lengths.1
  have e2 : cut (man (crcOf b g)) (0x200 + 96 * 1) 96 = ent2 := by
    rw [man, ← List.append_assoc]
    exact cut_mid _ _ _ _ _ (by rw [List.length_append, manA_length, ent_lengths.1]) ent_lengths.2
  have d1 : cut ent1 32 64 = sha512 (zeros 2048) := by
    have := cut_mid ([0x0E, 0, 0, 0] ++ zeros 8 ++ leBytes 4 2048 ++ zeros 16) (sha512 (zeros 2048)) [] 32 64
      (by simp only [leBytes, zeros, List.length_append, List.length_cons, List.length_nil, List.length_replicate]) (sha_length _)
    rwa [List.append_nil] at this
  have d2 : cut ent2 32 64 = sha512 (zeros 24576) := by
    have := cut_mid ([0x02, 0, 0, 0] ++ zeros 4 ++ leBytes 4 2048 ++ leBytes 4 24576 ++ zeros 16) (sha512 (zeros 24576)) [] 32 64
      (by simp only [leBytes, zeros, List.length_append, List.length_cons, List.length_nil, List.length_replicate]) (sha_length _)
    rwa [List.append_nil] at this
  have n1 : numAt ent1 0 1 = 0x0E ∧ numAt ent1 4 4 = 0 ∧ numAt ent1 8 4 = 0 ∧ numAt ent1 12 4 = 2048 := by decide
  have n2 : numAt ent2 0 1 = 2 ∧ numAt ent2 4 4 = 0 ∧ numAt ent2 8 4 = 2048 ∧ numAt ent2 12 4 = 24576 := by decide
  have r : List.range 2 = [0, 1] := rfl
  simp only [sectEnts, (man_fields b g).2.2.2.2.1, r, List.map_cons, List.map_nil, sectEnt, e1, e2, d1, d2, n1, n2, slotImg]
theorem slot_reads (b g : Bool) : (slotMem b (crcOf b g)).flashRead (slotTry b true).slotBase 18688 = man (crcOf b g) ∧
    (slotMem b (crcOf b g)).flashRead ((slotTry b true).slotBase + 0x5000 + 0) 26640 = bodyStored := by
  have l1 := man_length (crcOf b g)
  have l2 := body_length
  have l : (man (crcOf b g) ++ (zeros 1792 ++ bodyStored)).length = 18688 + (1792 + 26640) := by
    simp only [List.length_append, l1, l2, zeros, List.length_replicate]
  have h1 := flash_cut State.reset.mem (slotTry b true).slotBase 0 18688 (man (crcOf b g) ++ (zeros 1792 ++ bodyStored)) (by rw [l]; omega)
  have h2 := flash_cut State.reset.mem (slotTry b true).slotBase 0x5000 26640 (man (crcOf b g) ++ (zeros 1792 ++ bodyStored)) (by rw [l])
  refine ⟨h1.trans ?_, (h2.trans ?_)⟩
  · exact cut_mid [] _ _ _ _ rfl l1
  · have := cut_mid (man (crcOf b g) ++ zeros 1792) bodyStored [] 0x5000 26640 (by simp only [List.length_append, l1, zeros, List.length_replicate]) l2
    rwa [List.append_nil, List.append_assoc] at this
theorem slot_base : ∀ b s : Bool, (slotTry b s).slotBase = (slotTry b true).slotBase ∧ (slotTry b s).slotLen = 0x20000 ∧ (slotTry b s).slotGood 0 = true ∧
    (slotTry b s).loading = true ∧ (slotTry b s).slotB = b := by decide
theorem slot_manifest (b s g : Bool) (bad : Option (BitVec 8)) (h : bad ≠ some 1) :
    (slotTry b s).manifestFails (man (crcOf b g)) (slotLoad bad) = none := by
  have k : (slotTry b s).keyKnown 0 (zeros 133) = true := by
    show (sha512 (zeros 133) == sha512 (zeros 133)) = true
    exact beq_self_eq_true _
  obtain ⟨e1, _, _, _, _, e6⟩ := man_fields b g
  obtain ⟨_, e7, e8, _, _⟩ := slot_base b s
  simp only [Device.manifestFails, slotLoad, Device.sigGood, e1, e6, e7, e8, k, man_ok, if_neg h, Bool.and_true, Bool.not_true, Bool.false_eq_true, if_false]
theorem slot_body (b s g : Bool) (bad : Option (BitVec 8)) : (slotTry b s).slotBody (slotMem b (crcOf b g)) (man (crcOf b g)) (slotLoad bad).segs = slotImg := by
  obtain ⟨_, e2, e3, e4, _, _⟩ := man_fields b g
  have o := (slot_base b s).1
  have rd := (slot_reads b g).2
  have k : (slotTry b s).rootKey 0 = some [] := rfl
  have n : (⟨0, 1, 0, zeros 16, zeros 12⟩ : StreamP).inside 26624 0 = 26624 := by decide
  have q : segPlain 26624 0 = 26624 := by decide
  have f : (⟨0, 1, 0, zeros 16, zeros 12⟩ : StreamP).ofs 0 = 0 := by decide
  have l : bodyText.length = 26624 := by simp only [bodyText, zeros, List.length_replicate]
  have st : gcmStored ((⟨0, 1, 0, zeros 16, zeros 12⟩ : StreamP).firstKey []) ((⟨0, 1, 0, zeros 16, zeros 12⟩ : StreamP).iv 0) (leBytes 4 0 ++ zeros 8) bodyText = bodyStored := rfl
  simp only [Device.slotBody, man_ents, slotLoad, e2, e3, e4, o, StreamP.openAll, k, StreamP.openFrom, n, q, f, l, st, rd]
  simp only [Nat.reduceEqDiff, if_false, and_self, if_true, List.append_nil, List.take_of_length_le (Nat.le_of_eq l), slotImg]
theorem sect_fails (h : List Byte) : sectFails slotImg h none 0x0E = none ∧ sectFails slotImg h none 0x02 = none ∧
    sectFails slotImg h (some 0x0E) 0x0E = some 5 ∧ sectFails slotImg h (some 0x02) 0x02 = some 5 ∧
    ∀ k ∈ sectOrder, k ≠ 0x02 → sectFails slotImg h none k = none := by
  have e1 : slotImg.ent 0x0E = some ⟨0x0E, 0, 0, 2048, sha512 (zeros 2048)⟩ := rfl
  have e2 : slotImg.ent 0x02 = some ⟨0x02, 0, 2048, 24576, sha512 (zeros 24576)⟩ := rfl
  have l : slotImg.plain.length = 26624 := by simp only [slotImg, bodyText, zeros, List.length_replicate]
  have c1 : cut slotImg.plain 0 2048 = zeros 2048 := cut_zeros _ _ _ (by omega)
  have c2 : cut slotImg.plain 2048 24576 = zeros 24576 := cut_zeros _ _ _ (by omega)
  refine ⟨?_, ?_, ?_, ?_, ?_⟩
  · simp [sectFails, e1, l, c1]
  · simp [sectFails, e2, l, c2]
  · simp [sectFails, e1]
  · simp [sectFails, e2]
  · have : ∀ k ∈ sectOrder, k ≠ 0x02 → slotImg.ent k = none := by decide
    intro k hk h2; simp [sectFails, this k hk h2]
/-- The count of clamps at its end: no section breaks the limit of the clamps. -/
theorem sections_load (g : Img) (h : List Byte) (l : List Nat) (d : Device) (ok : ∀ k ∈ l, sectFails g h none k = none) :
    loadSections g h none 0xFFFFFFFF l d = (l.foldl (loadSection g) d, none) := by
  induction l generalizing d with
  | nil => rfl
  | cons s r ih =>
    have n : ¬ 1024 < (loadSection g d s).cseq.toNat - 0xFFFFFFFF := by have := (loadSection g d s).cseq.isLt; omega
    simp only [loadSections, ok s (List.mem_cons_self ..), if_neg n, List.foldl_cons]
    exact ih _ fun k hk => ok k (List.mem_cons_of_mem _ hk)
theorem crc_of_bound (b g : Bool) : crcOf b g < 2 ^ 32 := by
  unfold crcOf; split
  · exact crc_bound _
  · split <;> omega
theorem rest_crc (b g : Bool) : (rest b).framesCrc 0 12288 = crcOf b g ↔ g = true := by
  rw [show (rest b).framesCrc 0 12288 = crcAll b from rfl]
  unfold crcOf
  cases g
  · simp only [Bool.false_eq_true, if_false, iff_false]; split <;> omega
  · simp only [if_true]
/-- The manifest as it is read. -/
def manOf (b g : Bool) : List Byte := (slotMem b (crcOf b g)).flashRead (slotTry b true).slotBase 18688
/-- O53: a slot whose SYSTEM section loads or not, one whose sections load or not, with a right and a wrong CRC of the frames, in either slot. -/
theorem witness_slot_state : ∀ b : Bool, (slotTry b false).loading = true ∧ (slotTry b true).loading = true ∧ (slotTry b false).slotB = b ∧ (slotTry b true).slotB = b ∧
    (slotTry b false).sys.boot.system = none ∧ (slotTry b true).sys.boot.system = some (0, 0xFFFFFFFF) ∧
    (slotTry b true).flag 0xC0000 0 = true ∧ (slotTry b false).flag 0xC0000 0 = false ∧ (slotTry b false).cseq.toNat = 0xFFFFFFFF := by decide
theorem witness_manifest (b s g : Bool) : (slotTry b s).manifestFails (manOf b g) (slotLoad none) = none ∧
    (slotTry b s).manifestFails (manOf b g) (slotLoad (some 0x0E)) = none ∧ (slotTry b s).manifestFails (manOf b g) (slotLoad (some 2)) = none ∧
    (slotTry b s).manifestFails (manOf b g) (slotLoad (some 1)) = some 5 := by
  rw [manOf, (slot_reads b g).1]
  exact ⟨slot_manifest _ _ _ _ (by decide), slot_manifest _ _ _ _ (by decide), slot_manifest _ _ _ _ (by decide), by simp only [Device.manifestFails, slotLoad, if_true]⟩
theorem witness_system (b g : Bool) :
    loadSections ((slotTry b false).slotBody (slotMem b (crcOf b g)) (manOf b g) (slotLoad (some 0x0E)).segs) (manOf b g) (some 0x0E) 0xFFFFFFFF [0x0E] (slotTry b false) =
      (slotTry b false, some (5, 0x0E)) ∧
    (loadSections ((slotTry b false).slotBody (slotMem b (crcOf b g)) (manOf b g) (slotLoad none).segs) (manOf b g) none 0xFFFFFFFF [0x0E] (slotTry b false)).2 = none := by
  obtain ⟨s1, s2, s3, s4, s5⟩ := sect_fails (man (crcOf b g))
  rw [manOf, (slot_reads b g).1, slot_body, slot_body]
  refine ⟨by simp only [loadSections, s3], ?_⟩
  rw [sections_load _ _ _ _ fun k hk => by rw [List.mem_singleton.mp hk]; exact s1]
theorem witness_sections (b g : Bool) :
    loadSections ((slotTry b true).slotBody (slotMem b (crcOf b g)) (manOf b g) (slotLoad (some 2)).segs) (manOf b g) (some 2) 0xFFFFFFFF sectOrder (slotTry b true) =
      (slotTry b true, some (5, 2)) ∧
    loadSections ((slotTry b true).slotBody (slotMem b (crcOf b g)) (manOf b g) (slotLoad none).segs) (manOf b g) none 0xFFFFFFFF sectOrder (slotTry b true) = (rest b, none) ∧
    ((rest b).framesCrc 0 12288 = numAt (manOf b g) 0x24 4 ↔ g = true) := by
  obtain ⟨s1, s2, s3, s4, s5⟩ := sect_fails (man (crcOf b g))
  have all : ∀ k ∈ sectOrder, sectFails slotImg (man (crcOf b g)) none k = none := fun k hk => if h : k = 0x02 then h ▸ s2 else s5 k hk h
  rw [manOf, (slot_reads b g).1, slot_body, slot_body, man_crc _ (crc_of_bound b g)]
  exact ⟨by simp only [sectOrder, loadSections, s4], sections_load _ _ _ _ all, rest_crc b g⟩
theorem witness_release_phases :
    (releasing 3 none).phase = 7 ∧ (releasing 3 none).sys.boot.pos = 3 ∧ (releasing 0 none).sys.boot.doneAt = none ∧
    (releasing 0 none).waitsOn ((releasing 0 none).orderVal 0) = none ∧ (releasing 0 none).fget 0x20010 0 10 = 0 ∧
    ((releasing 0 none).fset 0x20010 0 10 1000).fget 0x20010 0 10 ≠ 0 ∧
    (let d := (releasing 1 none).wr 0x40008 8
     d.waitsOn (d.orderVal 1) ≠ none) ∧
    (releasing 3 (some 4)).sys.boot.doneAt = some 4 ∧ 4 + 20480 * ((releasing 3 (some 4)).fset 0x2001C 0 10 1000).fget 0x2001C 0 10 ≤ (releasing 3 (some 4)).edge ∧
    (let d := bootBy (fun b => { b with pos := 4 }) (inPhase 9 calm)
     d.phase = 9 ∧ d.sys.boot.pos = 4 ∧ d.cal.boot = [] ∧ d.cal.run = none) := by decide
theorem test_done : (after .stepEngineArm (st (bootBy (fun b => { b with pos := 4 }) (inPhase 9 calm)))).phase = 10 := by decide
/-- A warm start in progress. -/
def warming : Device := { started.fset 0x20000 0 5 11 with sys := { started.sys with warm := some ⟨0, 10, []⟩ } }
/-- O54: WARM, its end with a good and a bad pass, a patch, QUIET and its end. -/
theorem witness_warm_start :
    started.admits (fw 1) 0x20020 = true ∧ bitsOf (1 : Word) 1 3 = 0 ∧ started.bootDone = true ∧ started.sys.warm = none ∧ started.quiet = false ∧
    warming.sys.warm = some ⟨0, 10, []⟩ ∧ (10 : Nat) < 32 ∧ warming.fget 0x50010 0 2 ≠ 3 ∧ warming.bootDone = true ∧ warming.flag 0xE000C 16 = false ∧
    (warming.fset 0xE000C 16 1 1).flag 0xE000C 16 = true ∧ (started.fset 0x30010 2 1 1).flag 0x30010 2 = true := by decide
/-- The header of a patch for the ROM of revision 0, PSEQ 7, 16 plain bytes, and its stored body. -/
def patchHdr : List Byte := leBytes 4 0x4E414D34 ++ leBytes 4 1 ++ leBytes 4 7 ++ leBytes 4 0 ++ leBytes 4 16 ++ zeros 48 ++ leBytes 4 1 ++ zeros 184
def patchBody : List Byte :=
  gcmStored ((⟨0, 1, 0, zeros 16, zeros 12⟩ : StreamP).firstKey []) ((⟨0, 1, 0, zeros 16, zeros 12⟩ : StreamP).iv 0) (leBytes 4 0 ++ (leBytes 4 7 ++ leBytes 4 0)) (zeros 16)
def patchBytes : List Byte := patchHdr ++ patchBody
def patchHd : List Byte := cut patchBytes 0 0x105
/-- Flash with the patch in copy 0, and a device that accepts its key and retries it. -/
def patchMem : Mem := State.reset.mem.flashWrite (patchBase 0) patchBytes
def patchDev : Device :=
  let d := (started.fset 0x3000C 0 1 1).fset 0x30010 2 1 1
  { d with sys := { d.sys with sec := { d.sys.sec with hashes := [(0, sha512 (cut patchHd 0x80 133))], fkey := some [] } } }
theorem patch_lengths : patchHdr.length = 256 ∧ patchBody.length = 32 ∧ patchBytes.length = 288 := by
  have a : patchHdr.length = 256 := by simp only [patchHdr, leBytes, zeros, List.length_append, List.length_cons, List.length_nil, List.length_replicate]
  have b : patchBody.length = 32 := by simp only [patchBody, gcmStored, zeros, List.length_map, List.length_range, List.length_replicate]
  exact ⟨a, b, by rw [patchBytes, List.length_append, a, b]⟩
theorem patch_head : patchHead patchMem 0 = patchHd := flash_cut _ _ 0 _ _ (by rw [patch_lengths.2.2]; omega)
theorem patch_fields : patchOk patchHd (patchDev.fget 0x30010 16 16) = true ∧ patchMarked patchHd = true ∧ patchStream patchHd = ⟨0, 1, 0, zeros 16, zeros 12⟩ ∧
    patchLen patchHd = 16 ∧ numAt patchHd 0x14 4 = 0 ∧ numAt patchHd 8 4 = 7 ∧ patchDev.slotGood 0 = true := by decide
theorem patch_aad : cut patchHd 8 8 = leBytes 4 7 ++ leBytes 4 0 := by decide
/-- Other bytes keep their values. -/
theorem read_other (bs : List Byte) (m : List Host.Cell) (a b n : Nat) (h : a + bs.length ≤ b) :
    readCells blankFlash (writeCells blankFlash m a bs) b n = readCells blankFlash m b n := by
  have g : ∀ (bs : List Byte) (m : List Host.Cell) (a b : Nat), a + bs.length ≤ b → tabGet blankFlash (writeCells blankFlash m a bs) b = tabGet blankFlash m b := by
    intro bs
    induction bs with
    | nil => intro m a b _; rfl
    | cons x r ih =>
      intro m a b h
      rw [List.length_cons] at h
      rw [writeCells, ih _ _ _ (by omega), tabGet_tabSet_other _ _ _ (by omega)]
  induction n generalizing b with
  | zero => rfl
  | succ n ih => simp only [readCells, g _ _ _ _ h]; rw [ih _ (by omega)]
theorem witness_patch : patchDev.flag 0x30010 2 = true ∧ patchCopy patchMem = some 0 ∧ patchDev.verifyPatch patchMem 0 ⟨true, zeros 16⟩ = .ok ⟨0, 7, zeros 16⟩ ∧
    patchDev.verifyPatch patchMem 0 ⟨false, zeros 16⟩ = .error 2 ∧ patchDev.bootDone = true ∧ patchDev.sys.warm = none ∧ patchDev.quiet = false := by
  obtain ⟨f1, f2, f3, f4, f5, f6, f7⟩ := patch_fields
  have o : patchHead patchMem 1 = patchHead State.reset.mem 1 := read_other _ _ _ _ _ (by rw [patch_lengths.2.2]; decide)
  have o' : patchMarked (patchHead State.reset.mem 1) = false := by decide
  have k : patchDev.keyKnown 0 (cut patchHd 0x80 133) = true := by
    show (sha512 (cut patchHd 0x80 133) == sha512 (cut patchHd 0x80 133)) = true
    exact beq_self_eq_true _
  have rd : patchMem.flashRead (patchBase 0 + 0x100 + 0) 32 = patchBody := by
    rw [Nat.add_zero, patchMem, flash_cut _ _ _ _ _ (by rw [patch_lengths.2.2])]
    have := cut_mid patchHdr patchBody [] 0x100 32 patch_lengths.1 patch_lengths.2.1
    rwa [List.append_nil] at this
  have r : patchDev.rootKey 0 = some [] := rfl
  have n : (⟨0, 1, 0, zeros 16, zeros 12⟩ : StreamP).inside 16 0 = 16 := by decide
  have q : segPlain 16 0 = 16 := by decide
  have p : (⟨0, 1, 0, zeros 16, zeros 12⟩ : StreamP).ofs 0 = 0 := by decide
  have l : (zeros 16).length = 16 := by decide
  have st : gcmStored ((⟨0, 1, 0, zeros 16, zeros 12⟩ : StreamP).firstKey []) ((⟨0, 1, 0, zeros 16, zeros 12⟩ : StreamP).iv 0) (leBytes 4 0 ++ (leBytes 4 7 ++ leBytes 4 0)) (zeros 16) = patchBody := rfl
  have op : (⟨0, 1, 0, zeros 16, zeros 12⟩ : StreamP).openAll (some []) 16 (leBytes 4 7 ++ leBytes 4 0) (fun o n => patchMem.flashRead (patchBase 0 + 0x100 + o) n) [zeros 16] = (zeros 16, true) := by
    simp only [StreamP.openAll, StreamP.openFrom, n, q, p, l, st, rd]
    simp [List.take_of_length_le (Nat.le_of_eq l)]
  refine ⟨by decide, ?_, ?_, ?_, by decide, by decide, by decide⟩
  · simp only [patchCopy, patch_head, o, o', f2, Bool.not_false, Bool.true_or, Bool.and_self, if_true]
  · simp only [Device.verifyPatch, patch_head, f1, f3, f4, f5, f7, k, r, patch_aad, op, Device.sigGood, copyPseq, f6]
    simp
  · simp only [Device.verifyPatch, patch_head, f1, f3, f4, f5, f7, r, patch_aad, op, Device.sigGood]
    simp
/-- A device at the root PLL's lock that accepts the key of a header; flash with the header or only with its copy. -/
def locking : Device :=
  let d := (inPhase 2 calm).fset 0x3000C 0 1 1
  { d with sys := { d.sys with sec := { d.sys.sec with hashes := [(0, sha512 (zeros 133))] } } }
theorem witness_headers : locking.phase = 2 ∧ locking.headerPasses (headerAt (State.reset.mem.flashWrite 0 hdr) false) true = true ∧
    locking.headerPasses (headerAt (State.reset.mem.flashWrite 0 hdr) false) false = false ∧ locking.headerPasses (headerAt (State.reset.mem.flashWrite 0x1000 hdr) true) true = true ∧
    locking.headerPasses (headerAt (State.reset.mem.flashWrite 0x1000 hdr) true) false = false := by
  have l : hdr.length = 4096 := by simp only [hdr, leBytes, zeros, List.length_append, List.length_cons, List.length_nil, List.length_replicate]
  have w (a : Nat) : (State.reset.mem.flashWrite a hdr).flashRead a 4096 = hdr := by
    have := flash_cut State.reset.mem a 0 4096 hdr (by rw [l])
    rw [Nat.add_zero] at this
    rw [this]
    have := cut_mid [] hdr [] 0 4096 rfl l
    rwa [List.append_nil] at this
  have h1 : headerOk hdr = true ∧ headerSlot hdr = 0 ∧ pubKey hdr = zeros 133 ∧ locking.slotGood 0 = true := by decide
  have k : locking.keyKnown 0 (zeros 133) = true := by
    show (sha512 (zeros 133) == sha512 (zeros 133)) = true
    exact beq_self_eq_true _
  have e1 : headerAt (State.reset.mem.flashWrite 0 hdr) false = hdr := w 0
  have e2 : headerAt (State.reset.mem.flashWrite 0x1000 hdr) true = hdr := w 0x1000
  simp [e1, e2, Device.headerPasses, Device.sigGood, h1, k]
  decide
theorem witness_quiet_left :
    asleep.quiet = true ∧
    ((bootBy (fun b => { b with wakes := [⟨31, 7, 2, 1, 500, -500, false⟩] }) asleep).sys.boot.wakes.map fun c => wakeSee c [⟨7, 2000001, 1000⟩]) =
      [(⟨31, 7, 2, 1, 500, -500, true⟩, true)] ∧ asleep.sys.boot.wakes = [] ∧ asleep.admits (fw 8) 0x20020 = true ∧
    bitsOf (8 : Word) 3 1 = 1 ∧ started.quiet = false ∧
    (let d := bootBy (fun b => { b with quietPhase := 10 }) (inPhase 13 calm)
     d.phase = 13 ∧ d.quiet = false ∧ d.sys.boot.quietPhase < 32 ∧ d.sys.boot.quietPhase ≠ 1 ∧ d.capo ≠ 2) := by decide
/-- O55: a request that is accepted, one under HOLD. -/
theorem witness_quiet_request :
    started.admits (fw 2) 0x20020 = true ∧ bitsOf (2 : Word) 2 2 = 0 ∧ started.quiet = false ∧ started.listsBusy = false ∧ started.fretLoading = false ∧
    started.cal.run = none ∧ started.capo ≠ 1 ∧ (started.fset 0x40000 0 2 1).capo = 1 := by decide
theorem test_quiet_refused_under_hold : (after (.bootCtlQuiet (fw 2) true) (st (started.fset 0x40000 0 2 1))).flag 0x20004 6 = true := by decide


/-! Security and the scan port. -/

/-- The security state replaced. -/
def secBy (f : SecSt → SecSt) (d : Device) : Device := { d with sys := { d.sys with sec := f d.sys.sec } }
/-- A complete device whose slot 0 holds the hash of the key of zeros. -/
def keyed : Device := secBy (fun c => { c with hashes := [(0, sha512 (zeros 133))] }) ((started.fset 0x20000 19 1 1).wr 0x3000C 1)
/-- A signed request in the mailbox. -/
def asked (op slot signer : Nat) (d : Device) : Device :=
  d.setMbox 0 (leBytes 4 0x4E414D36 ++ leBytes 4 op ++ leBytes 4 slot ++ leBytes 4 signer ++ d.devId ++ List.replicate 64 7)
/-- O56: every command; a request that passes and one that fails; a busy block. -/
theorem witness_security :
    keyed.admits (fw 0x80000000) 0x30008 = true ∧ bitOf (0x80000000 : Word) 31 = true ∧ keyed.secReady = true ∧ (keyed.rd 0x31000).toNat ≤ 1 ∧
    keyed.flag 0x30010 1 = false ∧ keyed.fget 0x30000 6 2 ≠ 1 ∧ (keyed.fset 0x30000 6 2 1).secReady = true ∧
    calm.secReady = false ∧ calm.flag 0x30000 0 = false := by decide
/-- A request whose fields, key and signature are in order passes. -/
theorem req_ok (d : Device) (req : List Byte) (op : Nat)
    (c : ¬ (numAt req 0 4 ≠ 0x4E414D36 ∨ numAt req 4 4 ≠ op ∨ (req.drop 16).take 16 ≠ d.devId ∨ (req.drop 0xE5).take 27 ≠ zeros 27 ∨ 2 < numAt req 8 4 ∨ 2 < numAt req 12 4))
    (g : d.slotGood (numAt req 12 4) = true) (n : numAt req 12 4 = 0) (p : cut req 0x60 133 = zeros 133)
    (h : d.sys.sec.hashes = [(0, sha512 (zeros 133))]) : d.reqResult req op true = 0 := by
  have k : d.keyKnown 0 (zeros 133) = true := by
    rw [Device.keyKnown, h]; exact beq_self_eq_true _
  rw [n] at g
  simp only [Device.reqResult]
  rw [if_neg c]
  simp [Device.sigGood, n, g, p, k]
theorem witness_signed_requests :
    (asked 3 1 0 keyed).reqResult (asked 3 1 0 keyed).mboxReq 3 true = 0 ∧
    (asked 3 1 0 keyed).flag 0x3000C (numAt (asked 3 1 0 keyed).mboxReq 8 4) = false ∧
    (asked 4 1 0 keyed).reqResult (asked 4 1 0 keyed).mboxReq 3 false ≠ 0 :=
  ⟨req_ok _ _ _ (by decide) (by decide) (by decide) (by decide) rfl, by decide, by decide⟩
theorem witness_signed_requests_more :
    (asked 4 0 0 keyed).reqResult (asked 4 0 0 keyed).mboxReq 4 true = 0 ∧ keyed.flag 0x3000C 8 = false ∧
    (asked 2 1 0 (keyed.wr 0x3000C 3)).reqResult (asked 2 1 0 (keyed.wr 0x3000C 3)).mboxReq 2 true = 0 ∧
    (keyed.wr 0x3000C 3).flag 0x3000C (4 + 1) = false :=
  ⟨req_ok _ _ _ (by decide) (by decide) (by decide) (by decide) rfl, by decide, req_ok _ _ _ (by decide) (by decide) (by decide) (by decide) rfl, by decide⟩
theorem witness_patchact :
    (let d := (keyed.fset 0x30010 1 1 1).wr 0x30014 0xFFFFFFFF
     (d.rd 0x31000).toNat ≤ 1 ∧ d.flag 0x30010 1 = true ∧ copyPseq State.reset.mem 0 ≤ (d.rd 0x30014).toNat) ∧ 1 < ((keyed.wr 0x31000 2).rd 0x31000).toNat ∧
    keyed.flag 0x30010 1 = false := by decide
theorem test_bbclear : (after (.secBbclear (fw 0x80000000)) (st keyed)).fget 0x30000 6 2 = 2 := by decide
theorem witness_keys :
    (secBy (fun c => { c with task := some (.attest (List.replicate 3648 5)) }) keyed).sys.sec.task = some (.attest (List.replicate 3648 5)) ∧
    (secBy (fun c => { c with task := some (.patch 1) }) keyed).sys.sec.task = some (.patch 1) ∧
    keyed.fget 0x3000C 0 3 ≠ 0 ∧ calm.fget 0x3000C 0 3 = 0 ∧ calm.flag 0x3000C 8 = false ∧
    (secBy (fun c => { c with task := some (.patch 0) }) patchDev).sys.sec.task = some (.patch 0) := by decide
/-- A request to unlock. -/
def unlockReq : List Byte := leBytes 4 0x4E414D36 ++ leBytes 4 0x100 ++ leBytes 4 0 ++ leBytes 4 0 ++ keyed.devId ++ List.replicate 32 9 ++ zeros 400
def challenged : Device := secBy (fun c => { c with challenge := some (List.replicate 32 9) }) keyed
theorem witness_unlock : challenged.reqResult unlockReq 0x100 true = 0 ∧ challenged.sys.sec.challenge = some ((unlockReq.drop 0x20).take 32) ∧
    challenged.sys.sec.challenge ≠ some ((zeros 64).take 32) :=
  ⟨req_ok _ _ _ (by decide) (by decide) (by decide) (by decide) rfl, by decide, by decide⟩
theorem test_tamper : (after .tamperEvent (st keyed)).fget 0x30000 6 2 = 2 := by decide


/-! The host interface, DDR5, flash. -/

/-- A complete device on a PCIe link with DDR5 that answers. -/
def up : Device := ((((calm.fset 0x20000 0 5 10).fset 0x20000 19 1 1).fset 0xC0000 0 1 1).fset 0xC0000 8 7 4).fset 0xD0000 0 1 1
/-- The same without the link. -/
def unlinked : Device := up.fset 0xD0000 0 1 0
/-- Queue 3 set up for DMA with two records to copy, across the wrap of the sequence number. -/
def queued : Device :=
  ((((((up.fset (aHQ 3 0x10) 0 1 1).wr (aHQ 3 0) 0x1000).wr (aHQ 3 8) 0x800).wr (aRESQ 3 0x10) 1).fset (aRESQ 3 8) 0 5 4).wr (aRESQ 3 0) 0x300000).setQue 3 { up.que 3 with dmaSeq := 0xFFFFFFFF }
/-- A transfer in progress on channel 3. -/
def job (j : DmaJob) (d : Device) : Device := { d with sys := { d.sys with dma := [(3, some j)] } }
/-- A flash operation in progress. -/
def flashing (j : FlashJob) (d : Device) : Device := { d with sys := { d.sys with flOp := some j } }
/-- O57: resets, a link that comes up, accesses of BAR2, errors of DDR5. -/
theorem witness_host :
    (up.fset 0x10014 0 14 8192).refCount false = 8192 ∧ ({ unlinked with sys := { unlinked.sys with linkLost := true } } : Device).sys.linkLost = true ∧
    up.writesOn = true ∧ calm.writesOn = false ∧ up.ddrAt 0x20 = true ∧ up.inCache 0x20 = false ∧ calm.ddrAt 0x20 = false ∧
    4 ≤ 2 ^ 28 - (0xFFFFFFC : BitVec 28).toNat ∧ up.admits (fw 0x10) 0xD000C = true ∧ up.ddrOpen = true ∧ calm.ddrOpen = false := by decide
theorem test_bar2_read_nothing : (after (.bar2Access (.read 0x20 2 false)) (st calm)).answer = [0, 0] := by decide
/-- O57: a queue that copies; a channel free and busy; transfers each way; without a link; poisoned. -/
theorem witness_transfers :
    (let w := (queued.rd (aRESQ 3 0x10)).toNat
     let n := (w + 2 ^ 32 - (queued.que 3).dmaSeq) % 2 ^ 32
     queued.flag (aHQ 3 0x10) 0 = true ∧ queued.linkUp = true ∧ queued.ddrOpen = true ∧ n ≠ 0 ∧ n ≤ 2 ^ queued.fget (aRESQ 3 8) 0 5 ∧
     queued.hostAddr (aHQ 3 8) + 4 ≤ queued.hostAddr (aHQ 3 0)) ∧
    up.admits (fw 1) (aHD 7 0x10) = true ∧ up.flag (aHD 7 0x14) 0 = false ∧ (up.wr (aHD 7 0x14) 1).flag (aHD 7 0x14) 0 = true := by decide
theorem witness_transfer_ends :
    tabGet (fun _ => none) (job ⟨false, 0x100000, 0x2000, 32⟩ up).sys.dma 3 = some ⟨false, 0x100000, 0x2000, 32⟩ ∧
    (job ⟨false, 0x100000, 0x2000, 32⟩ unlinked).linkUp = false ∧ (job ⟨false, 0x100000, 0x2000, 32⟩ up).linkUp = true ∧
    (job ⟨false, 0x100000, 0x2000, 32⟩ up).ddrMissing 0x100000 32 = false ∧ (job ⟨true, 0x100000, 0x2000, 32⟩ up).hitsCache 0x100000 32 = false := by decide
/-- O58: an operation that runs, one refused, one while another runs; the ends; buffers. -/
theorem witness_flash_go :
    up.admits (fw 0x80000000) 0xD0040 = true ∧ up.sys.flOp = none ∧
    (let d := ((up.wr 0xD0044 0x10000).wr 0xD0048 0x10000).wr 0xD004C 0x10000
     flashOk ⟨2, d.fget 0xD0044 0 28, d.fget 0xD0048 0 25, 0⟩ = true) ∧
    (let d := (up.wr 0xD0044 0x10000).wr 0xD0048 0x10001
     flashOk ⟨2, d.fget 0xD0044 0 28, d.fget 0xD0048 0 25, 0⟩ = false) ∧
    (flashing ⟨2, 0x10000, 0x1000, 0⟩ up).sys.flOp.isSome = true ∧ 4 ≤ 2 ^ 28 - (0xFFFFFFC : BitVec 28).toNat := by decide
theorem witness_flash_ends :
    (flashing ⟨1, 0x10100, 2, 0x100000⟩ up).sys.flOp = some ⟨1, 0x10100, 2, 0x100000⟩ ∧
    (flashing ⟨1, 0x10100, 2, 0x100000⟩ up).ddrMissing 0x100000 2 = false ∧ (flashing ⟨1, 0x10100, 2, 0x100000⟩ up).ddrOpen = true ∧
    State.reset.mem.flashRead 0x10100 2 = List.replicate 2 0xFF ∧ up.hitsCache 0x100000 2 = false := by decide
theorem witness_buffers :
    up.admits (fw 1) (aCB 63 0x1C) = true ∧ up.openRuns 63 = [] ∧ ({ up with capRuns := [⟨63, 0, 3, 0, 0, 0, 0, 0, 0, 0, [], 0⟩] } : Device).openRuns 63 ≠ [] ∧
    5 ≤ up.fget 0x20000 0 5 ∧ up.dead (aCB 63 0xC) = false := by decide


/-! The Chord link, the sample edge, plain registers. -/

/-- A device on its clocks with Chord ports 0 and 3 up. -/
def linked : Device := ((((calm.fset (aPORT 0 0) 0 2 2).fset (aPORT 3 0) 0 2 2).fset 0x10000 14 1 0).fset 0x10000 12 1 1).fset 0x10000 1 1 1
/-- Its state on the link and its ID. -/
def member (s id : Nat) (d : Device) : Device := (d.fset 0xB0000 0 3 s).fset 0xB0000 8 11 id
/-- Other link state, 5,000,000 Ts after the start. -/
def linkBy (f : Link → Link) (d : Device) : Device := { d with link := f d.link, edge := 5000000 }
/-- A root with members, tokens and origins. -/
def root : Device :=
  linkBy (fun k => { k with members := [([1], 2), ([0], 1), ([1, 0], 5)], tokenAt := [(3, 5)], origins := [(9, 3), (4, 0), (8, 1)] }) (member 6 0 linked)
/-- O59: ports, joins, assignments, enumerations. -/
theorem witness_ports :
    linked.fget (aPORT 3 0) 0 2 ≠ 0 ∧ linked.fget (aPORT 2 0) 0 2 < 2 ∧ calm.fget (aPORT 0 0) 0 2 < 2 ∧ calm.chordState ≠ 6 ∧ calm.failedState = false := by decide
theorem witness_joins :
    (member 1 0 linked).chordState = 1 ∧ linked.portUp 0 = true ∧ root.chordState = 6 ∧ root.failedState = false ∧ root.idFor [1] = some 2 ∧ (root.idFor [2]).isSome = true ∧
    (member 1 0 linked).chordState ≠ 6 := by decide
theorem witness_enumeration :
    (let d := { root with link := { root.link with origins := [] } }
     d.chordState = 6 ∧ d.listsBusy = false ∧ d.sys.capo.asserting = false ∧ d.link.origins = []) ∧
    root.admits (fw 1) 0xB000C = true ∧ bitOf (1 : Word) 1 = false ∧ root.link.origins ≠ [] := by decide
theorem test_enumeration_numbers_preorder :
    ((after (.chordEnum (fw 1)) (st { root with link := { root.link with origins := [] } })).link.members.map Prod.fst) = [[0], [1], [1, 0]] := by decide
/-- O59, O60: messages that have not acted, that have; times. -/
theorem witness_capo_messages :
    (member 4 9 linked).portUp 3 = true ∧ (member 4 9 linked).chordState ≠ 5 ∧ (member 4 9 linked).link.seenCapo.contains (7, 2) = false ∧
    (linkBy (fun k => { k with seenCapo := [(7, 2)] }) (member 4 9 linked)).link.seenCapo.contains (7, 2) = true ∧
    (member 4 9 linked).portSends 0 = true ∧
    (let d := { linkBy id (member 4 9 linked) with sys := { calm.sys with capo := { calm.sys.capo with asserting := true, sentAt := 0 } } }
     d.sys.capo.asserting = true ∧ d.sys.capo.sentAt + 20480 ≤ d.edge ∧ d.failedState = false) := by decide
theorem witness_triggers :
    (let d := member 4 9 linked
     d.portUp 3 = true ∧ d.inTree = true ∧ d.quiet = false ∧ d.link.seenTrig.contains (7, 2) = false ∧ d.maySend = true ∧ d.failedState = false ∧
     d.admits (fw 0x8007FF05) 0xB0010 = true ∧ bitsOf (0x8007FF05 : Word) 8 11 = 2047 ∧ 0 < fwd d.link.sedge 4 ∧ fwd d.link.sedge 4 < 2 ^ 47) ∧
    fwd 5 5 = 0 ∧ 2 ^ 47 ≤ fwd 5 4 ∧ calm.maySend = false := by decide
theorem test_late_trigger :
    (after (.trigMessage ⟨7, 2047, 3, 0xFFFFFFFFFFFF, 3, 0⟩) (st (member 4 9 linked))).flag 0xB0004 5 = true := by decide
theorem witness_alignment :
    (let d := linkBy (fun k => { k with inRow := 15 }) (member 3 4 linked)
     d.portUp 0 = true ∧ d.quiet = false ∧ d.flag 0x10000 14 = false ∧ d.flag 0x10000 12 = true ∧ d.chordState = 3 ∧ d.horizon ≤ 1024 ∧ 15 ≤ d.link.inRow) ∧
    (let d := linkBy (fun k => { k with outRow := 3 }) (member 4 4 linked)
     d.chordState = 4 ∧ 3 ≤ d.link.outRow ∧ d.horizon ≤ 1024) ∧
    1024 < ((member 2 4 linked).fset 0xB0020 0 24 0xFFFFFF).horizon ∧ (-101 : Int).natAbs = 101 ∧
    (let d := linkBy id (member 2 4 linked)
     d.portSends 0 = true ∧ d.passed 2048 d.link.timeAt = true ∧ d.passed 20480 d.link.statusAt = true ∧ d.failedState = false ∧ d.chordState ≠ 5) ∧
    5 ≤ (calm.fset 0x20000 0 5 10).fget 0x20000 0 5 ∧ (calm.fset 0x20000 0 5 10).dead 0xB0014 = false := by decide
theorem witness_root_sends : root.chordState = 6 ∧ root.quiet = false ∧ root.failedState = false ∧ root.portSends 3 = true ∧ root.link.posDue ≤ 100000 * root.edge := by decide
theorem witness_tokens :
    (member 2 3 linked).inTree = true ∧ (member 2 3 linked).chordState ≠ 6 ∧ (2046 : BitVec 11).toNat ≤ 2046 ∧
    (root.fset (aTOK 3) 3 1 1).flag (aTOK 3) 3 = true ∧ tabGet (fun _ => 0) root.link.tokenAt 3 + 102400 < root.edge := by decide
theorem test_edge_advances : (after (.sampleEdge []) (st ({ linked with edge := 41 }))).edge = 42 := by decide
theorem witness_no_aborts : ∀ l, (linked.lst l).abort = none := fun _ => rfl
theorem witness_gated_edge : calm.flag 0x10000 14 = true ∧ linked.flag 0x10000 14 = false ∧ linked.busyEngines = [] := by decide

end Sys2Proof.Tests
end

section
/-!
PROOF of the statement on a refused switch of references (R369): rules of DDR5's collected writes, of an admitted register write
and of a refusal of CLK_CMD, then the statement.
-/

namespace Sys2Proof.Machine

/-- Writing what a command collected for DDR5 leaves flash. -/
@[simp] theorem Mem.drain_flash (m : Mem) (ws : List (Nat × List Byte)) : (m.drain ws).flash = m.flash := by
  induction ws generalizing m with
  | nil => rfl
  | cons w r ih => exact ih (m.ddrWrite w.1 w.2)

/-- Writing what a command collected for DDR5 leaves the host's memory. -/
@[simp] theorem Mem.drain_host (m : Mem) (ws : List (Nat × List Byte)) : (m.drain ws).host = m.host := by
  induction ws generalizing m with
  | nil => rfl
  | cons w r ih => exact ih (m.ddrWrite w.1 w.2)

/-- The bits of a word other than the one that is replaced. -/
theorem bitOf_setBits_other (v : Word) {i j : Nat} (x : Nat) (hi : i < 32) (h : j ≠ i) : bitOf (setBits v i 1 x) j = bitOf v j := by
  rw [bitOf, bitOf, bitsOf_setBits_disjoint v x (by omega) (by omega)]

/-- A command that the device serves in one update, collecting for DDR5, completes with that update. -/
theorem givesDdr_of_exec_onDdr {c : Instr} {s : State} {f : Device → Device} {P : Device → Prop} (he : exec c s = .next (s.onDdr f))
    (hP : P { f s.dev with ddrOut := [] }) : GivesDdr c s P :=
  ⟨s.onDdr f, he, rfl, Mem.drain_flash _ _, Mem.drain_host _ _, hP⟩

/-- CLK_CMD_SWITCH is a write of CLK_CMD whose GO bit is one. -/
theorem exec_clkCmdSwitch (w : Wr) (s : State) :
    exec (.clkCmdSwitch w) s = .next (s.onDdr fun d => d.write w 0x10010 fun d => d.clkCmd (setBits w.data 31 1 1)) := rfl

namespace Device

variable {d : Device}

/-- A register write that is admitted follows the register's own rules. -/
theorem write_of_admits {w : Wr} {a : Nat} (h : d.admits w a = true) (k : Device → Device) : d.write w a k = k d := if_pos h

/-- A report leaves the event bits outside the reporting registers. -/
theorem notice_flag (kind idx code detail a i : Nat) (h : reportReg a = false) : (d.notice kind idx code detail).flag a i = d.flag a i := by
  rw [flag, fget, notice_rd d kind idx code detail a h]; rfl

/-! What a command collected for DDR5 is none of its registers. -/

@[simp] theorem dropDdr_plant (d : Device) : ({ d with ddrOut := [] } : Device).plant = d.plant := rfl
@[simp] theorem dropDdr_rd (d : Device) (a : Nat) : ({ d with ddrOut := [] } : Device).rd a = d.rd a := rfl
@[simp] theorem dropDdr_flag (d : Device) (a i : Nat) : ({ d with ddrOut := [] } : Device).flag a i = d.flag a i := rfl
@[simp] theorem keepsRegs_dropDdr (own : Nat → Prop) (d d' : Device) :
    keepsRegs own d { d' with ddrOut := [] } ↔ keepsRegs own d d' := by simp [keepsRegs]

/-- A refusal at CLK_CMD is CLK_EVENT.REFUSED and a REFUSED notice of block 0x01 that names CLK_CMD (R369). -/
theorem refuse_clkCmd (d : Device) : d.refuse 0x10010 = (d.event 0x10004 6).notice 0x0C 0x01 0x31 0x10010 := rfl

/-- A refusal at CLK_CMD leaves CLK_EVENT.REFUSED set. -/
theorem refuse_clkCmd_refused (d : Device) : (d.refuse 0x10010).flag 0x10004 6 = true := by
  rw [refuse_clkCmd, notice_flag _ _ _ _ _ _ rfl, event_flag d _ _ (by decide) (by decide)]

/-- A refusal at CLK_CMD writes CLK_EVENT and the reporting registers only. -/
theorem refuse_clkCmd_keepsRegs (d : Device) : keepsRegs (fun a => a = 0x10004) d (d.refuse 0x10010) := by
  intro a ha hr
  have hpend : a ≠ 0xD9000 := by rintro rfl; exact absurd hr (by decide)
  rw [refuse_clkCmd, notice_rd _ _ _ _ _ _ hr, event_rd d _ _ _ ha hpend]

/-- A switch that is requested to a reference that is not READY is refused, whether or not the active one has failed (R369). -/
theorem clkCmd_of_not_refReady {raw : Word} (hb : bitOf raw 0 ≠ d.activeRef) (hr : d.refReady (bitOf raw 0) = false) :
    d.clkCmd raw = d.refuse 0x10010 := by
  have hreq : d.requestSwitch (bitOf raw 0) = d.refuse 0x10010 := by simp [requestSwitch, hr]
  by_cases hloss : d.sys.clk.lossAt.isSome
  · simp [clkCmd, hb, hloss, hreq]
  · simp [clkCmd, hb, hloss, hr]

end Device

/-- Settles O51: the command forces GO and leaves SRC, so its own rules run with the reference that was asked for and refuse it;
the facts beside the device itself are those of a refusal at CLK_CMD. -/
theorem unreadySwitchRefused : Obligations.UnreadySwitchRefused := by
  intro w s hadm hsrc hready
  have hgo : bitOf (setBits w.data 31 1 1) 0 = bitOf w.data 0 := bitOf_setBits_other w.data 1 (by decide) (by decide)
  have hrun : s.dev.write w 0x10010 (fun d => d.clkCmd (setBits w.data 31 1 1)) = s.dev.refuse 0x10010 := by
    rw [Device.write_of_admits hadm, Device.clkCmd_of_not_refReady (by rwa [hgo]) (by rwa [hgo])]
  refine givesDdr_of_exec_onDdr (exec_clkCmdSwitch w s) ?_
  rw [hrun]
  refine ⟨?_, ?_, ?_, ?_⟩
  · rw [Device.refuse_clkCmd]
  · rw [Device.dropDdr_plant, Device.refuse_plant]
  · rw [Device.dropDdr_flag, Device.refuse_clkCmd_refused]
  · exact (Device.keepsRegs_dropDdr _ _ _).2 (Device.refuse_clkCmd_keepsRegs s.dev)

end Sys2Proof.Machine
end

section
/-!
PROOF of the statement on a request for QUIET (R402): the two answers of the request. Entry into QUIET is cut into its stages
(the switches and engines, the channels, the fabric, the registers), each stage with what it settles and what it leaves.
-/

namespace Sys2Proof.Machine

/-! The word of the command. -/

/-- A bit of a word is a bit of each field that holds it. -/
theorem bitOf_eq_testBit_bitsOf (v : Word) {lo n k : Nat} (hlo : lo ≤ k) (hn : k - lo < n) : bitOf v k = (bitsOf v lo n).testBit (k - lo) := by
  have hone : bitsOf v k 1 = 1 ↔ v.toNat.testBit k = true := by
    rw [bitsOf, Nat.testBit_eq_decide_div_mod_eq, Nat.shiftRight_eq_div_pow, pow_one, decide_eq_true_iff]
  rw [bitsOf_testBit, decide_eq_true hn, Bool.true_and, Nat.add_sub_cancel' hlo, Bool.eq_iff_iff, ← hone, bitOf, decide_eq_true_iff]

/-- The word of a write of BOOT_CTL with QUIET one and REPROG and WARM zero. -/
def quietWord (v : Word) : Word := setBits (setBits v 31 1 0) 0 2 2

theorem bitOf_quietWord_reprog (v : Word) : bitOf (quietWord v) 31 = false := by
  have h : bitsOf (quietWord v) 31 1 = 0 := by
    rw [quietWord, bitsOf_setBits_disjoint _ _ (by decide) (by decide), bitsOf_setBits_same _ _ (by decide), Nat.zero_mod]
  rw [bitOf, h]
  rfl

theorem bitsOf_quietWord_low (v : Word) : bitsOf (quietWord v) 0 2 = 2 := bitsOf_setBits_same _ 2 (by decide)

theorem bitsOf_quietWord_mid (v : Word) : bitsOf (quietWord v) 2 2 = bitsOf v 2 2 := by
  rw [quietWord, bitsOf_setBits_disjoint _ _ (by decide) (by decide), bitsOf_setBits_disjoint _ _ (by decide) (by decide)]

/-- A write of BOOT_CTL whose QUIET bit alone is one requests QUIET and does nothing else (R402). -/
theorem Device.bootCtl_quietWord (m : Mem) (d : Device) {v : Word} (ok : Bool) (h : bitsOf v 2 2 = 0) :
    d.bootCtl m (quietWord v) ok = quietWrite m d ok := by
  have hwarm : bitOf (quietWord v) 0 = false := by
    rw [bitOf_eq_testBit_bitsOf _ (lo := 0) (n := 2) (by decide) (by decide), bitsOf_quietWord_low]; rfl
  have hquiet : bitOf (quietWord v) 1 = true := by
    rw [bitOf_eq_testBit_bitsOf _ (lo := 0) (n := 2) (by decide) (by decide), bitsOf_quietWord_low]; rfl
  have hwake : bitOf (quietWord v) 2 = false := by
    rw [bitOf_eq_testBit_bitsOf _ (lo := 2) (n := 2) (by decide) (by decide), bitsOf_quietWord_mid, h]; rfl
  have hclr : bitOf (quietWord v) 3 = false := by
    rw [bitOf_eq_testBit_bitsOf _ (lo := 2) (n := 2) (by decide) (by decide), bitsOf_quietWord_mid, h]; rfl
  rw [bootCtl, bitOf_quietWord_reprog, if_neg (by simp), hwarm, hquiet, hwake, hclr]
  rfl

/-- A command of the start-up that reaches BOOT_CTL completes with what the register's own rules give. -/
theorem givesMem_of_exec_onBoot {c : Instr} {s : State} {w : Wr} {raw : Word} {ok : Bool} {P : Mem → Device → Prop}
    (he : exec c s = .next (s.onBoot w raw ok)) (hadm : s.dev.admits w 0x20020 = true)
    (hP : P ((s.dev.bootCtl s.mem raw ok).1.drain (s.dev.bootCtl s.mem raw ok).2.ddrOut) { (s.dev.bootCtl s.mem raw ok).2 with ddrOut := [] }) :
    GivesMem c s P := by
  refine ⟨_, he, rfl, ?_⟩
  simpa only [State.onBoot, State.onBoth_mem, State.onBoth_dev, if_pos hadm] using hP

/-- BOOT_CTL_QUIET is a write of BOOT_CTL with the QUIET bit set and the WARM bit clear. -/
theorem exec_bootCtlQuiet (w : Wr) (ok : Bool) (s : State) :
    exec (.bootCtlQuiet w ok) s = .next (s.onBoot w (quietWord w.data) ok) := rfl

/-! Updates repeated over a list. -/

/-- What every step of a fold keeps, the fold keeps. -/
theorem foldl_keeps {β γ : Type} (g : Device → γ) (f : Device → β → Device) (d : Device) (l : List β)
    (hf : ∀ e, ∀ x ∈ l, g (f e x) = g e) : g (l.foldl f d) = g d :=
  List.foldlRecOn l f (motive := fun e => g e = g d) rfl fun e he x hx => (hf e x hx).trans he

/-- What the step for one member settles for it, and the steps for the others leave, holds of every member at the end. -/
theorem foldl_settles {β : Type} {P : Device → β → Prop} {f : Device → β → Device} (hself : ∀ d x, P (f d x) x)
    (hother : ∀ d x y, y ≠ x → P d y → P (f d x) y) (l : List β) (d : Device) {y : β} (hy : y ∈ l) : P (l.foldl f d) y := by
  have hkeep : ∀ d x, P d y → P (f d x) y := fun d x h => by
    by_cases e : y = x
    · exact e ▸ hself d y
    · exact hother d x y e h
  induction l generalizing d with
  | nil => cases hy
  | cons x r ih =>
    rcases List.mem_cons.1 hy with rfl | hr
    · exact List.foldlRecOn r f (motive := fun e => P e y) (hself d y) fun e he z _ => hkeep e z he
    · exact ih (f d x) hr

namespace Device

/-! What most stages leave, beside registers. -/

/-- The parts that QUIET settles, beside the registers: the matrix, the channels, the engines, the configuration frames and the state
of the start-up. -/
def body (d : Device) : Matrix × Tab Chan × Tab Engine × Tab (Option (List Byte)) × BootSt := (d.mx, d.chan, d.engines, d.frames, d.sys.boot)

section Body
variable (d : Device) {e : Device}

theorem body_eq_mk_iff (k : Matrix) (c : Tab Chan) (g : Tab Engine) (f : Tab (Option (List Byte))) (b : BootSt) :
    d.body = (k, c, g, f, b) ↔ d.mx = k ∧ d.chan = c ∧ d.engines = g ∧ d.frames = f ∧ d.sys.boot = b := by
  simp only [body, Prod.mk.injEq]

theorem body_eq_iff : d.body = e.body ↔
    d.mx = e.mx ∧ d.chan = e.chan ∧ d.engines = e.engines ∧ d.frames = e.frames ∧ d.sys.boot = e.sys.boot := body_eq_mk_iff ..

theorem plant_body : d.plant.body = d.body := rfl
theorem body_eq_of_plant_eq (h : d.plant = e.plant) : d.body = e.body := by rw [← plant_body, h, plant_body]

theorem wr_body (a : Nat) (v : Word) : (d.wr a v).body = d.body := by cases d; rfl
theorem fset_body (a lo n x : Nat) : (d.fset a lo n x).body = d.body := wr_body ..
theorem fsetB_body (a i : Nat) (b : Bool) : (d.fsetB a i b).body = d.body := fset_body ..
theorem bump_body (a lo n : Nat) : (d.bump a lo n).body = d.body := fset_body ..
theorem event_body (a i : Nat) : (d.event a i).body = d.body := body_eq_of_plant_eq _ (event_plant d a i)
theorem toDdr_body (a : Nat) (bs : List Byte) : (d.toDdr a bs).body = d.body := rfl
theorem toDdr_rd (a : Nat) (bs : List Byte) (b : Nat) : (d.toDdr a bs).rd b = d.rd b := rfl
theorem setCapBuf_body (b : Nat) (x : CapBuf) : (d.setCapBuf b x).body = d.body := rfl
theorem setCapBuf_rd (b : Nat) (x : CapBuf) (a : Nat) : (d.setCapBuf b x).rd a = d.rd a := rfl
theorem setLoader_body (l : Loader) : (d.setLoader l).body = d.body := rfl
theorem setFret_body (f : Nat) (x : Fret) : (d.setFret f x).body = d.body := rfl
theorem stopPatrol_body : d.stopPatrol.body = d.body := rfl
theorem stopPatrol_rd (a : Nat) : d.stopPatrol.rd a = d.rd a := rfl
theorem setBoot_rd (b : BootSt) (a : Nat) : (d.setBoot b).rd a = d.rd a := rfl
theorem setBoot_body (b : BootSt) : (d.setBoot b).body = (d.mx, d.chan, d.engines, d.frames, b) := rfl

end Body

theorem ch_eq_of_chan_eq {d e : Device} (h : d.chan = e.chan) (n : Nat) : d.ch n = e.ch n := by rw [ch, ch, h]
theorem eng_eq_of_engines_eq {d e : Device} (h : d.engines = e.engines) (n : Nat) : d.eng n = e.eng n := by rw [eng, eng, h]

/-! Registers from 0x100000 on (those of channels, pins and engines), which the blocks below them leave. -/

/-- No block reports in a register from 0x100000 on. -/
theorem reportReg_of_ge {b : Nat} (h : 0x100000 ≤ b) : reportReg b = false := by
  simp only [reportReg, List.contains_eq_mem, List.mem_cons, List.not_mem_nil, or_false, decide_eq_false_iff_not]
  omega

theorem flag_eq_of_rd_eq {d e : Device} {a : Nat} (h : d.rd a = e.rd a) (i : Nat) : d.flag a i = e.flag a i := by
  rw [flag, flag, fget, fget, h]

/-- A field of a register below `b` is written. -/
theorem rd_fset_of_lt (d : Device) {a b : Nat} (lo n x : Nat) (h : a < b) : (d.fset a lo n x).rd b = d.rd b :=
  rd_fset_other d lo n x (by omega)

theorem rd_fsetB_of_lt (d : Device) {a b : Nat} (i : Nat) (x : Bool) (h : a < b) : (d.fsetB a i x).rd b = d.rd b :=
  rd_fset_of_lt d _ _ _ h

/-- An event of a block below 0x100000. -/
theorem event_rd_of_lt (d : Device) {a b : Nat} (i : Nat) (ha : a < 0x100000) (h : 0x100000 ≤ b) : (d.event a i).rd b = d.rd b :=
  event_rd d a i b (by omega) (by omega)

/-! Values that are DIRTY are saved first (R403). -/

theorem saveCal_rd (d : Device) (m : Mem) (ok : Bool) {b : Nat} (h : 0x100000 ≤ b) : (d.saveCal m ok).2.rd b = d.rd b := by
  cases ok with
  | true =>
    rw [saveCal, if_pos rfl]
    dsimp only
    rw [event_rd_of_lt _ _ (by decide) h, setCal_rd, rd_fsetB_of_lt _ _ _ (by omega), rd_fsetB_of_lt _ _ _ (by omega),
      rd_wr_other _ _ (by omega), setCopy, setCal_rd]
  | false =>
    rw [saveCal, if_neg Bool.false_ne_true]
    dsimp only
    rw [notice_rd _ _ _ _ _ _ (reportReg_of_ge h), event_rd_of_lt _ _ (by decide) h, setCopy, setCal_rd]

theorem saveCal_host (d : Device) (m : Mem) (ok : Bool) : (d.saveCal m ok).1.host = m.host := by
  cases ok with
  | true =>
    rw [saveCal, if_pos rfl]
    dsimp only
    rw [Mem.flashWrite_host, Mem.flashWrite_host, Mem.flashWrite_host, eraseCopy]
  | false =>
    rw [saveCal, if_neg Bool.false_ne_true, eraseCopy]

theorem saveIfDirty_rd (m : Mem) (d : Device) (ok : Bool) {b : Nat} (h : 0x100000 ≤ b) : (saveIfDirty m d ok).2.rd b = d.rd b := by
  unfold saveIfDirty
  split
  · exact saveCal_rd d m ok h
  · rfl

theorem saveIfDirty_host (m : Mem) (d : Device) (ok : Bool) : (saveIfDirty m d ok).1.host = m.host := by
  unfold saveIfDirty
  split
  · exact saveCal_host d m ok
  · rfl

theorem saveIfDirty_of_clean (m : Mem) (d : Device) (ok : Bool) (h : d.flag 0x60004 3 = false) : saveIfDirty m d ok = (m, d) := by
  rw [saveIfDirty, if_neg (by simp [h])]

/-! Capture buffers (R464, R466). -/

theorem capEntry_body (d : Device) (b : Nat) (bs : List Byte) : (d.capEntry b bs).body = d.body := by
  unfold capEntry
  dsimp only
  split
  · rw [bump_body, fsetB_body]
  · split
    · rw [fsetB_body, toDdr_body, setCapBuf_body]
    · rw [toDdr_body, setCapBuf_body]

theorem capEntry_rd (d : Device) {b : Nat} (bs : List Byte) (hb : b < 64) {a : Nat} (h : 0x100000 ≤ a) : (d.capEntry b bs).rd a = d.rd a := by
  have hlow : ∀ o, o < 0x20 → aCB b o < a := fun o ho => by unfold aCB; omega
  unfold capEntry
  dsimp only
  split
  · rw [bump, rd_fset_of_lt _ _ _ _ (hlow _ (by decide)), rd_fsetB_of_lt _ _ _ (hlow _ (by decide))]
  · split
    · rw [rd_fsetB_of_lt _ _ _ (hlow _ (by decide)), toDdr_rd, setCapBuf_rd]
    · rfl

theorem putMark_body (d : Device) (b g f : Nat) (m : Mark) : (d.putMark b g f m).body = d.body := by
  unfold putMark
  split
  · rfl
  · split
    · exact event_body ..
    · exact capEntry_body ..

theorem putMark_rd (d : Device) {b : Nat} (g f : Nat) (m : Mark) (hb : b < 64) {a : Nat} (h : 0x100000 ≤ a) :
    (d.putMark b g f m).rd a = d.rd a := by
  unfold putMark
  split
  · rfl
  · split
    · exact event_rd_of_lt _ _ (by decide) h
    · exact capEntry_rd _ _ hb h

theorem flushWord_body (d : Device) (r : CapRun) : (d.flushWord r).1.body = d.body := by
  unfold flushWord
  split <;> rfl

theorem flushWord_rd (d : Device) (r : CapRun) (a : Nat) : (d.flushWord r).1.rd a = d.rd a := by
  unfold flushWord
  split <;> rfl

theorem endRun_body (d : Device) (r : CapRun) (cause : Nat) : (d.endRun r cause).body = d.body := by
  unfold endRun countRuns
  rw [fset_body, fset_body]
  exact flushWord_body d r

theorem endRun_rd (d : Device) (r : CapRun) (cause : Nat) {a : Nat} (h : 0x100000 ≤ a) (hcb : a % 0x20 = 0) :
    (d.endRun r cause).rd a = d.rd a := by
  unfold endRun countRuns
  rw [rd_fset_of_lt _ _ _ _ (by omega), rd_fset_other _ _ _ _ (by unfold aCB; omega)]
  exact flushWord_rd d r a

theorem endRuns_body (d : Device) (p : CapRun → Bool) (cause : Nat) : (d.endRuns p cause).body = d.body :=
  foldl_keeps body _ d _ fun e r _ => endRun_body e r cause

theorem endRuns_rd (d : Device) (p : CapRun → Bool) (cause : Nat) {a : Nat} (h : 0x100000 ≤ a) (hcb : a % 0x20 = 0) :
    (d.endRuns p cause).rd a = d.rd a :=
  foldl_rd d _ a _ fun e r _ => endRun_rd e r cause h hcb

/-! Engines (R244). -/

/-- One engine is HALTED with nothing to serve, as haltEngines does it. -/
def haltEng (d : Device) (e : Nat) : Device := (d.clearEng e).setEng e { (d.clearEng e).eng e with halted := true }

theorem markAll_body (d : Device) (e : Nat) (t : Tx) (ms : List Mark) : (d.markAll e t ms).body = d.body := by
  unfold markAll
  split
  · rfl
  · exact foldl_keeps body _ d _ fun _ _ _ => putMark_body ..

theorem markAll_rd (d : Device) (e : Nat) (t : Tx) (ms : List Mark) {a : Nat} (h : 0x100000 ≤ a) : (d.markAll e t ms).rd a = d.rd a := by
  unfold markAll
  split
  · rfl
  · exact foldl_rd d _ a _ fun f _ _ => putMark_rd f _ _ _ (bitsOf_lt (f.rd _) 26 6) h

/-- The frame of an engine is cut by marks of its transaction, or none, and an update of the engine. -/
theorem cutWave_cases (d : Device) (e : Nat) :
    d.cutWave e = d ∨ ∃ c : Device, d.cutWave e = c.setEng e { c.eng e with wave := none } ∧ (c = d ∨ ∃ t ms, c = d.markAll e t ms) := by
  unfold cutWave
  dsimp only
  split
  · exact .inl rfl
  · refine .inr ⟨_, rfl, ?_⟩
    split
    · split
      · exact .inr ⟨_, _, rfl⟩
      · exact .inl rfl
    · exact .inl rfl

theorem cutWave_rd (d : Device) (e : Nat) {a : Nat} (h : 0x100000 ≤ a) : (d.cutWave e).rd a = d.rd a := by
  obtain hd | ⟨c, hc, rfl | ⟨t, ms, rfl⟩⟩ := cutWave_cases d e
  · rw [hd]
  · rw [hc, setEng_rd]
  · rw [hc, setEng_rd, markAll_rd _ _ _ _ h]

theorem cutWave_mx (d : Device) (e : Nat) : (d.cutWave e).mx = d.mx := by
  obtain hd | ⟨c, hc, rfl | ⟨t, ms, rfl⟩⟩ := cutWave_cases d e
  · rw [hd]
  · rw [hc, setEng_mx]
  · obtain ⟨hmx, -⟩ := (body_eq_iff _).1 (markAll_body d e t ms)
    rw [hc, setEng_mx, hmx]

theorem cutWave_eng_other (d : Device) {e g : Nat} (hg : g ≠ e) : (d.cutWave e).eng g = d.eng g := by
  obtain hd | ⟨c, hc, rfl | ⟨t, ms, rfl⟩⟩ := cutWave_cases d e
  · rw [hd]
  · rw [hc, setEng_other _ _ _ _ hg]
  · obtain ⟨-, -, heng, -⟩ := (body_eq_iff _).1 (markAll_body d e t ms)
    rw [hc, setEng_other _ _ _ _ hg, eng_eq_of_engines_eq heng]

theorem clearEng_eq (d : Device) (e : Nat) : d.clearEng e = (d.cutWave e).setEng e ((d.cutWave e).eng e).clear := rfl

theorem haltEng_rd (d : Device) (e : Nat) {a : Nat} (h : 0x100000 ≤ a) : (d.haltEng e).rd a = d.rd a := by
  rw [haltEng, setEng_rd, clearEng_eq, setEng_rd, cutWave_rd d e h]

theorem haltEng_mx (d : Device) (e : Nat) : (d.haltEng e).mx = d.mx := by
  rw [haltEng, setEng_mx, clearEng_eq, setEng_mx, cutWave_mx]

theorem haltEng_halted (d : Device) (e : Nat) : ((d.haltEng e).eng e).halted = true := by rw [haltEng, setEng_same]

theorem haltEng_eng_other (d : Device) {e g : Nat} (hg : g ≠ e) : (d.haltEng e).eng g = d.eng g := by
  rw [haltEng, setEng_other _ _ _ _ hg, clearEng_eq, setEng_other _ _ _ _ hg, cutWave_eng_other d hg]

theorem haltEngines_eq (d : Device) : d.haltEngines = ((List.range 120).filter fun e => d.flag (aENG e 0) 0).foldl haltEng d := rfl

theorem haltEngines_rd (d : Device) {a : Nat} (h : 0x100000 ≤ a) : d.haltEngines.rd a = d.rd a := by
  rw [haltEngines_eq]
  exact foldl_rd d haltEng a _ fun e g _ => haltEng_rd e g h

theorem haltEngines_mx (d : Device) : d.haltEngines.mx = d.mx := by
  rw [haltEngines_eq]
  exact foldl_keeps Device.mx haltEng d _ fun e g _ => haltEng_mx e g

theorem haltEngines_halted (d : Device) {e : Nat} (he : e < 120) (hon : d.flag (aENG e 0) 0 = true) : (d.haltEngines.eng e).halted = true := by
  rw [haltEngines_eq]
  refine foldl_settles (P := fun d e => (d.eng e).halted = true) haltEng_halted (fun d x y hy h => ?_) _ d
    (List.mem_filter.2 ⟨List.mem_range.2 he, hon⟩)
  rwa [haltEng_eng_other d hy]

/-! The bridge matrix (R94). -/

theorem dropHostTaps_rd (d : Device) (a : Nat) : d.dropHostTaps.rd a = d.rd a :=
  foldl_rd d _ a _ fun e r _ => by split <;> rfl

theorem dropHostTaps_closed (d : Device) : d.dropHostTaps.mx.closed = d.mx.closed :=
  foldl_keeps (fun e : Device => e.mx.closed) _ d _ fun e r _ => by split <;> rfl

/-- Every switch opens and every enabled engine is HALTED. -/
def quietWires (d : Device) : Device := (d.setMx { d.mx with closed := [], moves := [] }).dropHostTaps.haltEngines

theorem quietWires_rd (d : Device) {a : Nat} (h : 0x100000 ≤ a) : d.quietWires.rd a = d.rd a := by
  rw [quietWires, haltEngines_rd _ h, dropHostTaps_rd, setMx_rd]

theorem quietWires_closed (d : Device) : d.quietWires.mx.closed = [] := by
  rw [quietWires, haltEngines_mx, dropHostTaps_closed, setMx_mx]

theorem quietWires_halted (d : Device) {e : Nat} (he : e < 120) (hon : d.flag (aENG e 0) 0 = true) : (d.quietWires.eng e).halted = true := by
  refine haltEngines_halted _ he ?_
  rwa [flag_eq_of_rd_eq (dropHostTaps_rd _ _), flag_eq_of_rd_eq (setMx_rd ..)]

/-! Channels (R403). -/

/-- A channel beside its registers is at rest: bridge, function switch and waiting requests abandoned, playback ended, unpowered. -/
def restChan (d : Device) (n : Nat) : Device := d.setCh n { (d.ch n).abandon.halt with powered := false, clampSince := none }

/-- What QUIET does to a channel: OFF, RUN zero, a STREAM queue emptied, bits 8 and 9 of CH_STATUS cleared, at rest. -/
def quietChan (d : Device) (n : Nat) : Device :=
  (((((d.fset (aCH n 0) 0 3 0).fset (aCH n 0x18) 31 1 0).dropStream n).fsetB (aCH n 0x38) 8 false).fsetB (aCH n 0x38) 9 false).restChan n

theorem fset_ch (d : Device) (a lo n x k : Nat) : (d.fset a lo n x).ch k = d.ch k := ch_eq_of_chan_eq (wr_chan ..) k

theorem dropStream_rd (d : Device) (n a : Nat) : (d.dropStream n).rd a = d.rd a := by
  unfold dropStream
  split
  · rw [setCh_rd]
  · rfl

theorem dropStream_mx (d : Device) (n : Nat) : (d.dropStream n).mx = d.mx := by
  unfold dropStream
  split <;> rfl

theorem dropStream_engines (d : Device) (n : Nat) : (d.dropStream n).engines = d.engines := by
  unfold dropStream
  split <;> rfl

theorem dropStream_ch_other (d : Device) {n k : Nat} (h : k ≠ n) : (d.dropStream n).ch k = d.ch k := by
  unfold dropStream
  split
  · exact setCh_other _ _ _ _ h
  · rfl

theorem quietChan_rd_other (d : Device) {n a : Nat} (h0 : a ≠ aCH n 0) (h18 : a ≠ aCH n 0x18) (h38 : a ≠ aCH n 0x38) :
    (d.quietChan n).rd a = d.rd a := by
  rw [quietChan, restChan, setCh_rd, fsetB, fsetB, rd_fset_other _ _ _ _ h38, rd_fset_other _ _ _ _ h38, dropStream_rd,
    rd_fset_other _ _ _ _ h18, rd_fset_other _ _ _ _ h0]

theorem quietChan_mx (d : Device) (n : Nat) : (d.quietChan n).mx = d.mx := by
  rw [quietChan, restChan, setCh_mx, fsetB, fsetB, fset, wr_mx, fset, wr_mx, dropStream_mx, fset, wr_mx, fset, wr_mx]

theorem quietChan_engines (d : Device) (n : Nat) : (d.quietChan n).engines = d.engines := by
  rw [quietChan, restChan, setCh_engines, fsetB, fsetB, fset, wr_engines, fset, wr_engines, dropStream_engines, fset, wr_engines, fset, wr_engines]

theorem quietChan_off (d : Device) (n : Nat) : (d.quietChan n).mode n = 0 := by
  have h18 : aCH n 0 ≠ aCH n 0x18 := by unfold aCH; omega
  have h38 : aCH n 0 ≠ aCH n 0x38 := by unfold aCH; omega
  rw [mode, fget, quietChan, restChan, setCh_rd, fsetB, fsetB, rd_fset_other _ _ _ _ h38, rd_fset_other _ _ _ _ h38, dropStream_rd,
    rd_fset_other _ _ _ _ h18, ← fget, fget_fset_same _ _ _ (by decide), Nat.zero_mod]

theorem quietChan_mode_other (d : Device) {n k : Nat} (h : k ≠ n) : (d.quietChan n).mode k = d.mode k := by
  rw [mode, mode, fget, fget, quietChan_rd_other d (by unfold aCH; omega) (by unfold aCH; omega) (by unfold aCH; omega)]

theorem quietChan_waiting (d : Device) (n : Nat) : ((d.quietChan n).ch n).waiting = [] := by
  rw [quietChan, restChan, setCh_same, Chan.halt, Chan.abandon]

theorem quietChan_ch_other (d : Device) {n k : Nat} (h : k ≠ n) : (d.quietChan n).ch k = d.ch k := by
  rw [quietChan, restChan, setCh_other _ _ _ _ h, fsetB, fsetB, fset_ch, fset_ch, dropStream_ch_other _ h, fset_ch, fset_ch]

/-- Every channel is OFF. -/
def quietChans (d : Device) : Device := d.forChans allChans quietChan

theorem quietChans_rd (d : Device) {a : Nat} (h : 0x140000 ≤ a) : d.quietChans.rd a = d.rd a := by
  refine foldl_rd d quietChan a _ fun e n hn => ?_
  have hn : n < 1024 := List.mem_range.1 hn
  exact quietChan_rd_other e (by unfold aCH; omega) (by unfold aCH; omega) (by unfold aCH; omega)

theorem quietChans_mx (d : Device) : d.quietChans.mx = d.mx := foldl_keeps Device.mx quietChan d _ fun e n _ => quietChan_mx e n

theorem quietChans_engines (d : Device) : d.quietChans.engines = d.engines :=
  foldl_keeps Device.engines quietChan d _ fun e n _ => quietChan_engines e n

theorem quietChans_off (d : Device) {n : Nat} (hn : n < 1024) : d.quietChans.mode n = 0 :=
  foldl_settles (P := fun d n => d.mode n = 0) quietChan_off (fun d _ _ h hm => (quietChan_mode_other d h).trans hm) _ d (List.mem_range.2 hn)

theorem quietChans_waiting (d : Device) {n : Nat} (hn : n < 1024) : (d.quietChans.ch n).waiting = [] :=
  foldl_settles (P := fun d n => (d.ch n).waiting = []) quietChan_waiting
    (fun d _ _ h hw => by rwa [quietChan_ch_other d h]) _ d (List.mem_range.2 hn)

/-! The fabric (R403). -/

theorem aFRET_lt {f o b : Nat} (hf : f < 48) (ho : o < 0x20) (h : 0x100000 ≤ b) : aFRET f o < b := by unfold aFRET; omega

theorem noteLoader_body (d : Device) : d.noteLoader.body = d.body := by
  unfold noteLoader
  dsimp only
  rw [foldl_keeps body, fset_body, fset_body, fset_body]
  intro e f _
  split
  · rw [fset_body, fsetB_body]
  · rw [fsetB_body]

theorem noteLoader_rd (d : Device) {b : Nat} (h : 0x100000 ≤ b) : d.noteLoader.rd b = d.rd b := by
  unfold noteLoader
  dsimp only
  rw [foldl_rd, rd_fset_of_lt _ _ _ _ (by omega), rd_fset_of_lt _ _ _ _ (by omega), rd_fset_of_lt _ _ _ _ (by omega)]
  intro e f hf
  have hreg : aFRET f 0 < b := aFRET_lt (List.mem_range.1 hf) (by decide) h
  split
  · rw [rd_fset_of_lt _ _ _ _ hreg, rd_fsetB_of_lt _ _ _ hreg]
  · exact rd_fsetB_of_lt _ _ _ hreg

theorem noteCache_body (d : Device) : d.noteCache.body = d.body := by
  unfold noteCache
  dsimp only
  rw [fset_body, fset_body]

theorem noteCache_rd (d : Device) {b : Nat} (h : 0x100000 ≤ b) : d.noteCache.rd b = d.rd b := by
  unfold noteCache
  dsimp only
  rw [rd_fset_of_lt _ _ _ _ (by omega), rd_fset_of_lt _ _ _ _ (by omega)]

theorem cacheDrop_body (d : Device) (k : Nat) : (d.cacheDrop k).body = d.body := by
  rw [cacheDrop, noteCache_body, setLoader_body]

theorem cacheDrop_rd (d : Device) (k : Nat) {b : Nat} (h : 0x100000 ≤ b) : (d.cacheDrop k).rd b = d.rd b := by
  rw [cacheDrop, noteCache_rd _ h, setLoader_rd]

theorem loaderNext_body (d : Device) : d.loaderNext.body = d.body := by
  unfold loaderNext
  split
  · exact noteLoader_body d
  · split
    · exact noteLoader_body d
    · rw [noteLoader_body]
      split
      · rw [cacheDrop_body, setLoader_body]
      · exact setLoader_body ..

theorem loaderNext_rd (d : Device) {b : Nat} (h : 0x100000 ≤ b) : d.loaderNext.rd b = d.rd b := by
  unfold loaderNext
  split
  · exact noteLoader_rd d h
  · split
    · exact noteLoader_rd d h
    · rw [noteLoader_rd _ h]
      split
      · rw [cacheDrop_rd _ _ h, setLoader_rd]
      · rw [setLoader_rd]

theorem loaderDone_body (d : Device) : d.loaderDone.body = d.body := by rw [loaderDone, loaderNext_body, setLoader_body]

theorem loaderDone_rd (d : Device) {b : Nat} (h : 0x100000 ≤ b) : d.loaderDone.rd b = d.rd b := by rw [loaderDone, loaderNext_rd _ h, setLoader_rd]

/-- The Frets that receive their inputs lose power. -/
def unpowerFrets (d : Device) : Device :=
  ((List.range 48).filter d.fretLive).foldl (fun d f => d.setFret f { d.fret f with live := [], events := [] } |>.setFretState f 0) d

theorem unpowerFrets_body (d : Device) : d.unpowerFrets.body = d.body :=
  foldl_keeps body _ d _ fun _ _ _ => by rw [setFretState, fset_body, setFret_body]

theorem unpowerFrets_rd (d : Device) {b : Nat} (h : 0x100000 ≤ b) : d.unpowerFrets.rd b = d.rd b :=
  foldl_rd d _ b _ fun e f hf => by
    rw [setFretState, rd_fset_of_lt _ _ _ _ (aFRET_lt (List.mem_range.1 (List.mem_filter.1 hf).1) (by decide) h), setFret_rd]

/-- The configuration frames are lost, and with them the load in progress ends. -/
def loseFrames (d : Device) : Device := if d.loader.isolated then { d with frames := [] }.loaderDone else { d with frames := [] }

theorem loseFrames_body (d : Device) : d.loseFrames.body = (d.mx, d.chan, d.engines, [], d.sys.boot) := by
  unfold loseFrames
  split
  · rw [loaderDone_body]; rfl
  · rfl

theorem loseFrames_rd (d : Device) {b : Nat} (h : 0x100000 ≤ b) : d.loseFrames.rd b = d.rd b := by
  unfold loseFrames
  split
  · rw [loaderDone_rd _ h]; rfl
  · rfl

/-- What QUIET does to the fabric. -/
def quietFabric (d : Device) : Device := d.unpowerFrets.loseFrames

theorem quietFabric_body (d : Device) : d.quietFabric.body = (d.mx, d.chan, d.engines, [], d.sys.boot) := by
  obtain ⟨hmx, hchan, heng, _, hboot⟩ := (body_eq_iff _).1 (unpowerFrets_body d)
  rw [quietFabric, loseFrames_body, hmx, hchan, heng, hboot]

theorem quietFabric_rd (d : Device) {b : Nat} (h : 0x100000 ≤ b) : d.quietFabric.rd b = d.rd b := by
  rw [quietFabric, loseFrames_rd _ h, unpowerFrets_rd d h]

/-! What QUIET sets in the registers of DDR5, the clocks, the step engine and the start-up (R403). -/

/-- Patrol and clocks stop. -/
def quietClocks (d : Device) : Device := ((d.stopPatrol.fsetB 0xC0000 1 true).fsetB 0x10000 14 true).event 0x10004 8

/-- Captures end, the step engine is disarmed, and BOOT_STATUS and BOOT_QSTAT show QUIET. -/
def quietRegs (d : Device) : Device :=
  ((((d.quietClocks.endRuns (fun _ => true) 5).fsetB 0x80004 16 false).fsetB 0x20000 12 true).setPhase 13 0).bump 0x20028 16 16

theorem quietClocks_body (d : Device) : d.quietClocks.body = d.body := by
  rw [quietClocks, event_body, fsetB_body, fsetB_body, stopPatrol_body]

theorem quietClocks_rd (d : Device) {b : Nat} (h : 0x100000 ≤ b) : d.quietClocks.rd b = d.rd b := by
  rw [quietClocks, event_rd_of_lt _ _ (by decide) h, rd_fsetB_of_lt _ _ _ (by omega), rd_fsetB_of_lt _ _ _ (by omega), stopPatrol_rd]

theorem quietRegs_body (d : Device) : d.quietRegs.body = d.body := by
  rw [quietRegs, setPhase, bump_body, fset_body, fset_body, fsetB_body, fsetB_body, endRuns_body, quietClocks_body]

theorem quietRegs_rd (d : Device) {b : Nat} (h : 0x100000 ≤ b) (hcb : b % 0x20 = 0) : d.quietRegs.rd b = d.rd b := by
  rw [quietRegs, setPhase, bump, rd_fset_of_lt _ _ _ _ (by omega), rd_fset_of_lt _ _ _ _ (by omega), rd_fset_of_lt _ _ _ _ (by omega),
    rd_fsetB_of_lt _ _ _ (by omega), rd_fsetB_of_lt _ _ _ (by omega), endRuns_rd _ _ _ h hcb, quietClocks_rd _ h]

theorem quietRegs_quiet (d : Device) : d.quietRegs.quiet = true := by
  rw [quiet, flag, quietRegs, setPhase, bump, fsetB, fget_fset_other _ _ _ _ _ _ (by decide), fget_fset_disjoint _ _ _ (by decide) (by decide),
    fget_fset_disjoint _ _ _ (by decide) (by decide), fget_fset_same _ _ _ (by decide)]
  rfl

theorem quietRegs_phase (d : Device) : d.quietRegs.phase = 13 := by
  rw [phase, quietRegs, setPhase, bump, fget_fset_other _ _ _ _ _ _ (by decide), fget_fset_disjoint _ _ _ (by decide) (by decide),
    fget_fset_same _ _ _ (by decide)]
  rfl

theorem quietRegs_armed (d : Device) : d.quietRegs.armed = false := by
  rw [armed, flag, quietRegs, setPhase, bump, fsetB, fsetB, fget_fset_other _ _ _ _ _ _ (by decide), fget_fset_other _ _ _ _ _ _ (by decide),
    fget_fset_other _ _ _ _ _ _ (by decide), fget_fset_other _ _ _ _ _ _ (by decide), fget_fset_same _ _ _ (by decide)]
  rfl

/-! Entry into QUIET (R403). -/

/-- The RUNNING Frets with the regions that the exit from QUIET loads again (R405). -/
def runningFrets (d : Device) : List (Nat × Nat) :=
  ((List.range 48).filter fun f => decide (d.fretState f = 3)).map fun f => (f, if (d.fret f).content = baseKey f then 255 else (d.fret f).content - 1)

/-- The state of the start-up takes what the exit needs, and the wake comparators begin (R264). -/
def noteQuiet (d : Device) (fs : List (Nat × Nat)) : Device :=
  d.setBoot { d.sys.boot with frets := fs, quietPhase := d.phase, wakes := d.wakeSlots }

/-- The stages of QUIET that follow the channels: the fabric, the notes for the exit, the registers. -/
def quietRest (d : Device) : Device := (d.quietFabric.noteQuiet d.runningFrets).quietRegs

/-- The device in QUIET but for the saved values. -/
def toQuiet (d : Device) : Device := d.quietWires.quietChans.quietRest

/-- Entry into QUIET saves what is DIRTY and runs through its stages. -/
theorem enterQuiet_eq (m : Mem) (d : Device) (ok : Bool) :
    enterQuiet m d ok = ((saveIfDirty m d ok).1, (saveIfDirty m d ok).2.toQuiet) := by
  delta enterQuiet
  generalize saveIfDirty m d ok = x
  obtain ⟨m', d'⟩ := x
  dsimp -zeta only
  rw [toQuiet, quietRest]
  extract_lets _ wires chans fs unpowered unframed _ noted clocks regs
  have hwires : wires = d'.quietWires := rfl
  clear_value wires
  have hchans : chans = wires.quietChans := rfl
  clear_value chans
  have hfs : fs = chans.runningFrets := rfl
  clear_value fs
  have hunpowered : unpowered = chans.unpowerFrets := rfl
  clear_value unpowered
  have hunframed : unframed = unpowered.loseFrames := rfl
  clear_value unframed
  have hnoted : noted = unframed.noteQuiet fs := rfl
  clear_value noted
  have hclocks : clocks = noted.quietClocks := rfl
  clear_value clocks
  rw [← hwires, ← hchans, ← hfs, quietFabric, ← hunpowered, ← hunframed, ← hnoted, quietRegs, ← hclocks]

theorem quietRest_body (d : Device) :
    d.quietRest.body = (d.mx, d.chan, d.engines, [],
      { d.sys.boot with frets := d.runningFrets, quietPhase := d.quietFabric.phase, wakes := d.quietFabric.wakeSlots }) := by
  obtain ⟨hmx, hchan, heng, hframes, hboot⟩ := (body_eq_mk_iff ..).1 (quietFabric_body d)
  rw [quietRest, quietRegs_body, noteQuiet, setBoot_body, hmx, hchan, heng, hframes, hboot]

theorem quietRest_rd (d : Device) {b : Nat} (h : 0x100000 ≤ b) (hcb : b % 0x20 = 0) : d.quietRest.rd b = d.rd b := by
  rw [quietRest, quietRegs_rd _ h hcb, noteQuiet, setBoot_rd, quietFabric_rd d h]

/-- A wake comparator begins for each enabled slot (R264). -/
theorem wakeSlots_slot (d : Device) : d.wakeSlots.map WakeCmp.slot = (List.range 32).filter fun k => d.flag (aWAKE k 0) 31 := by
  rw [wakeSlots, List.map_map]
  exact List.map_id _

/-- What holds of a device `t` that entered QUIET as `d` (R403, R264). -/
structure EnteredQuiet (d t : Device) : Prop where
  quiet : t.quiet = true
  phase : t.phase = 13
  disarmed : t.armed = false
  opened : t.mx.closed = []
  off : ∀ n < 1024, t.mode n = 0 ∧ (t.ch n).waiting = []
  halted : ∀ e < 120, d.flag (aENG e 0) 0 = true → (t.eng e).halted = true
  unframed : t.frames = []
  wakes : t.sys.boot.wakes.map WakeCmp.slot = (List.range 32).filter fun k => d.flag (aWAKE k 0) 31

theorem toQuiet_entered (d : Device) : EnteredQuiet d d.toQuiet := by
  obtain ⟨hmx, hchan, heng, hframes, hboot⟩ := (body_eq_mk_iff ..).1 (quietRest_body d.quietWires.quietChans)
  rw [toQuiet]
  refine ⟨?_, ?_, ?_, ?_, fun n hn => ⟨?_, ?_⟩, fun e he hon => ?_, hframes, ?_⟩
  · rw [quietRest, quietRegs_quiet]
  · rw [quietRest, quietRegs_phase]
  · rw [quietRest, quietRegs_armed]
  · rw [hmx, quietChans_mx, quietWires_closed]
  · rw [mode, fget, quietRest_rd _ (by unfold aCH; omega) (by unfold aCH; omega)]
    exact quietChans_off _ hn
  · rw [ch_eq_of_chan_eq hchan, quietChans_waiting _ hn]
  · rw [eng_eq_of_engines_eq (heng.trans (quietChans_engines _)), quietWires_halted d he hon]
  · rw [hboot]
    refine (wakeSlots_slot _).trans (List.filter_congr fun k _ => flag_eq_of_rd_eq ?_ 31)
    rw [quietFabric_rd _ (by unfold aWAKE; omega), quietChans_rd _ (by unfold aWAKE; omega), quietWires_rd d (by unfold aWAKE; omega)]

/-- It says nothing of what a command collected for DDR5. -/
theorem EnteredQuiet.dropDdr {d t : Device} (h : EnteredQuiet d t) : EnteredQuiet d { t with ddrOut := [] } :=
  ⟨h.quiet, h.phase, h.disarmed, h.opened, h.off, h.halted, h.unframed, h.wakes⟩

/-- Of the device before, it names registers from 0x100000 on only. -/
theorem EnteredQuiet.of_rd {d e t : Device} (h : EnteredQuiet e t) (hrd : ∀ {a}, 0x100000 ≤ a → e.rd a = d.rd a) : EnteredQuiet d t :=
  { h with
    halted := fun k hk hon => h.halted k hk (by rwa [flag_eq_of_rd_eq (hrd (by unfold aENG; omega))])
    wakes := h.wakes.trans (List.filter_congr fun k _ => flag_eq_of_rd_eq (hrd (by unfold aWAKE; omega)) 31) }

theorem enterQuiet_entered (m : Mem) (d : Device) (ok : Bool) : EnteredQuiet d (enterQuiet m d ok).2 := by
  rw [enterQuiet_eq]
  exact (toQuiet_entered _).of_rd (saveIfDirty_rd m d ok)

theorem enterQuiet_flash (m : Mem) (d : Device) (ok : Bool) (h : d.flag 0x60004 3 = false) : (enterQuiet m d ok).1.flash = m.flash := by
  rw [enterQuiet_eq, saveIfDirty_of_clean _ _ _ h]

theorem enterQuiet_host (m : Mem) (d : Device) (ok : Bool) : (enterQuiet m d ok).1.host = m.host := by
  rw [enterQuiet_eq, saveIfDirty_host]

/-! The two answers (R402). -/

theorem quietWrite_accepted {m : Mem} {d : Device} {ok : Bool} (hq : d.quiet = false) (hl : d.listsBusy = false) (hf : d.fretLoading = false)
    (hc : d.cal.run = none) (hk : d.capo ≠ 1) : quietWrite m d ok = enterQuiet m d ok := by
  simp [quietWrite, hq, hl, hf, hc, hk]

theorem quietWrite_refused {m : Mem} {d : Device} {ok : Bool} (hq : d.quiet = false)
    (h : d.listsBusy = true ∨ d.fretLoading = true ∨ d.cal.run.isSome = true ∨ d.capo = 1) : quietWrite m d ok = (m, d.refuse 0x20020) := by
  rw [quietWrite, if_neg (by simp [hq]), if_pos h]

/-- A refusal at BOOT_CTL is BOOT_EVENT.REFUSED and a REFUSED notice of block 0x02 that names BOOT_CTL. -/
theorem refuse_bootCtl (d : Device) : d.refuse 0x20020 = (d.event 0x20004 6).notice 0x0C 0x02 0x31 0x20020 := rfl

theorem refuse_bootCtl_refused (d : Device) : (d.refuse 0x20020).flag 0x20004 6 = true := by
  rw [refuse_bootCtl, notice_flag _ _ _ _ _ _ rfl, event_flag d _ _ (by decide) (by decide)]

theorem refuse_bootCtl_keepsRegs (d : Device) : keepsRegs (fun a => a = 0x20004) d (d.refuse 0x20020) := by
  intro a ha hr
  have hpend : a ≠ 0xD9000 := by rintro rfl; exact absurd hr (by decide)
  rw [refuse_bootCtl, notice_rd _ _ _ _ _ _ hr, event_rd d _ _ _ ha hpend]

end Device

open Device

/-- Settles O55: the command's word asks for QUIET alone, so the answer is that of quietWrite, and the stages of the entry into QUIET
settle each a part of what then holds. -/
theorem quietRequestAnswered : Obligations.QuietRequestAnswered := by
  intro s w ok hadm hbits hq
  have hrun : s.dev.bootCtl s.mem (quietWord w.data) ok = quietWrite s.mem s.dev ok := bootCtl_quietWord _ _ _ hbits
  refine ⟨fun hl hf hc hk => ?_, fun hbusy => ?_⟩
  · have hentered := enterQuiet_entered s.mem s.dev ok
    have hflash := enterQuiet_flash s.mem s.dev ok
    have hhost := enterQuiet_host s.mem s.dev ok
    rw [← quietWrite_accepted hq hl hf hc hk, ← hrun] at hentered hflash hhost
    refine givesMem_of_exec_onBoot (exec_bootCtlQuiet w ok s) hadm ?_
    generalize s.dev.bootCtl s.mem (quietWord w.data) ok = r at *
    obtain ⟨hquiet, hphase, hdisarmed, hopened, hoff, hhalted, hunframed, hwakes⟩ := hentered.dropDdr
    exact ⟨hquiet, hphase, hdisarmed, hopened, hoff, hhalted, hunframed, hwakes, fun hclean => (Mem.drain_flash _ _).trans (hflash hclean),
      (Mem.drain_host _ _).trans hhost⟩
  · refine givesMem_of_exec_onBoot (exec_bootCtlQuiet w ok s) hadm ?_
    rw [hrun, quietWrite_refused hq hbusy]
    refine ⟨?_, ?_, Mem.drain_flash _ _, Mem.drain_host _ _, ?_⟩
    · rw [dropDdr_plant, refuse_plant]
    · rw [dropDdr_flag, refuse_bootCtl_refused]
    · exact (keepsRegs_dropDdr _ _ _).2 (refuse_bootCtl_keepsRegs s.dev)

end Sys2Proof.Machine
end

section
/-!
PROOF of the statement on partial writes (R8, R471): the forms in which a command writes a register, what a partial write becomes in each,
what the count of a partial write changes and leaves, then the statement.
-/

namespace Sys2Proof.Machine

/-! Commands that come to an update of the device alone. -/

section
variable {s : State} {f g : Device → Device} {k : Mem → Device → Mem × Device}

theorem State.onDev_congr (h : f s.dev = g s.dev) : s.onDev f = s.onDev g := by rw [onDev, h, onDev]

theorem State.onMem_eq_onDev (h : k s.mem s.dev = (s.mem, g s.dev)) : s.onMem k = s.onDev g := by rw [onMem, h, onDev]

theorem State.onDdr_eq_onDev (h : f s.dev = g s.dev) (hddr : s.dev.ddrOut = []) (hout : (g s.dev).ddrOut = []) : s.onDdr f = s.onDev g := by
  rw [onDdr, h, hout, Mem.drain_nil, onDev, hddr]

theorem State.onBoth_eq_onDev (h : k s.mem s.dev = (s.mem, g s.dev)) (hddr : s.dev.ddrOut = []) (hout : (g s.dev).ddrOut = []) :
    s.onBoth k = s.onDev g := by
  rw [onBoth, h, hout, Mem.drain_nil, onDev, hddr]

/-- Such a command completes with its update, and collects nothing for DDR5 when nothing was collected before. -/
theorem givesDev_of_exec_onDev {c : Instr} {P : Device → Prop} (he : exec c s = .next (s.onDev f)) (hddr : s.dev.ddrOut = [])
    (hP : P { f s.dev with ddrOut := [] }) : GivesDev c s P :=
  ⟨s.onDev f, he, s.onDev_pending f, s.onDev_mem f, by rwa [State.onDev_dev, hddr]⟩

end

/-! The count of a partial write (R471). -/

namespace Device

variable (d : Device)

@[simp] theorem dropDdr_fget (a lo n : Nat) : ({ d with ddrOut := [] } : Device).fget a lo n = d.fget a lo n := rfl

@[simp] theorem signal_ddrOut (v : Nat) : (d.signal v).ddrOut = d.ddrOut := by
  unfold signal
  split
  · split <;> rfl
  · rfl

@[simp] theorem event_ddrOut (a i : Nat) : (d.event a i).ddrOut = d.ddrOut := by
  unfold event
  split
  · rfl
  · split
    · rw [signal_ddrOut]; rfl
    · rfl

@[simp] theorem badWrite_ddrOut : d.badWrite.ddrOut = d.ddrOut := by rw [badWrite, event_ddrOut, bump, fset, wr_ddrOut]

theorem badWrite_partial : d.badWrite.flag 0xD0004 0 = true := event_flag _ _ _ (by decide) (by decide)

theorem badWrite_count : d.badWrite.fget 0xD0008 0 32 = (d.fget 0xD0008 0 32 + 1) % 2 ^ 32 := by
  have hevent : d.badWrite.rd 0xD0008 = (d.bump 0xD0008 0 32).rd 0xD0008 := event_rd _ _ _ _ (by decide) (by decide)
  rw [fget, hevent]
  exact fget_fset_same d 0xD0008 _ (by decide)

theorem badWrite_rd {b : Nat} (hcount : b ≠ 0xD0008) (hevent : b ≠ 0xD0004) (hpend : b ≠ 0xD9000) : d.badWrite.rd b = d.rd b :=
  (event_rd _ _ _ _ hevent hpend).trans (rd_fset_other d _ _ _ hcount)

variable {d}

/-- A partial write reaches no register. -/
theorem admits_of_partial {w : Wr} (h : w.be ≠ 15) (a : Nat) : d.admits w a = false := by
  rw [admits, decide_eq_false h, Bool.false_and, Bool.false_and]

theorem turnAway_of_partial {w : Wr} (h : w.be ≠ 15) (a : Nat) : d.turnAway w a = d.badWrite := if_pos h

theorem write_of_partial {w : Wr} (h : w.be ≠ 15) (a : Nat) (k : Device → Device) : d.write w a k = d.badWrite := by
  rw [write, admits_of_partial h, if_neg Bool.false_ne_true, turnAway_of_partial h]

/-- The same of a write whose register's rules use the byte memories. -/
theorem memWrite_of_partial {m : Mem} {w : Wr} (h : w.be ≠ 15) (a : Nat) (k : Mem → Device → Mem × Device) :
    (if d.admits w a then k m d else (m, d.turnAway w a)) = (m, d.badWrite) := by
  rw [admits_of_partial h, if_neg Bool.false_ne_true, turnAway_of_partial h]

theorem windowAccess_of_partial {be : BitVec 4} (h : be ≠ 15) (f : Nat) (off : BitVec 18) (v : Word) :
    d.windowAccess f (.write off be v) = d.badWrite := if_pos h

theorem shellWrite_of_partial {f : Fin 48} {be : BitVec 4} (h : be ≠ 15) (hlive : d.fretLive f = true) (hon : d.fabricOn = true)
    (a : Nat) (v : Word) : d.shellWrite f a be v = d.badWrite := by
  rw [shellWrite, hlive, hon, Bool.true_and, if_pos rfl, write_of_partial (w := ⟨.shell f, be, v⟩) h]

/-- Below the Fret windows, the host and the firmware reach the register itself (R470). -/
theorem regWrite_of_lt (m : Mem) {w : Wr} {a : Nat} (hby : ∀ f, w.by_ ≠ .shell f) (ha : a < 0x400000) :
    d.regWrite m w a = if d.admits w a then routeMem m d w.by_ a w.data else (m, d.turnAway w a) := by
  unfold regWrite
  split
  next f hf => exact absurd hf (hby f)
  next => exact if_neg (by omega)

end Device

/-! The forms of a register write. -/

/-- What a command makes of `s` that writes the register at `a`: the tests of every register write come first, whatever the register's own
rules are and whichever byte memories they use. -/
inductive RegWriteForm (s : State) (w : Wr) (a : Nat) : State → Prop
  | onDev (k : Device → Device) : RegWriteForm s w a (s.onDev fun d => d.write w a k)
  | onDdr (k : Device → Device) : RegWriteForm s w a (s.onDdr fun d => d.write w a k)
  | onMem (k : Mem → Device → Mem × Device) : RegWriteForm s w a (s.onWrite w a k)
  | onBoth (k : Mem → Device → Mem × Device) :
      RegWriteForm s w a (s.onBoth fun m d => if d.admits w a then k m d else (m, d.turnAway w a))

/-- REGISTER_WRITE is a register write below the Fret windows, by the host or the firmware. -/
theorem writesReg_registerWrite {addr : BitVec 24} {w w' : Wr} {a : Nat} (h : writesReg (.registerWrite addr w) = some (w', a)) :
    (∀ f, w.by_ ≠ .shell f) ∧ addr.toNat < 0x400000 ∧ w = w' ∧ addr.toNat = a := by
  simp only [writesReg] at h
  split at h
  next => cases h
  next hby =>
    split at h
    next ha => cases h; exact ⟨hby, ha, rfl, rfl⟩
    next => cases h

/-- Every command that writes a register has one of the forms. -/
theorem exec_of_writesReg {c : Instr} {w : Wr} {a : Nat} (s : State) (h : writesReg c = some (w, a)) :
    ∃ t, exec c s = .next t ∧ RegWriteForm s w a t := by
  cases c with
  | registerWrite addr w' =>
    obtain ⟨hby, ha, rfl, rfl⟩ := writesReg_registerWrite h
    have hreg : (fun m d => Device.regWrite m d w' addr.toNat) = fun m d =>
        if d.admits w' addr.toNat then d.routeMem m w'.by_ addr.toNat w'.data else (m, d.turnAway w' addr.toNat) :=
      funext₂ fun m d => Device.regWrite_of_lt m hby ha
    exact ⟨s.onBoth _, rfl, hreg ▸ .onBoth _⟩
  | stepStop | stepStopAbort | busEcfgWrite | capoCmdSafe | capoCmdClrhost | capoCmdRelease | clkCmdSwitch | chordEnum | chordClrorig =>
    cases h; exact ⟨_, rfl, .onDdr _⟩
  | calCmdSave | secAttest | secPatchact | secRevoke | secKeyprog | secFkeyprog | secBbwrite | secBbclear | secGetid =>
    cases h; exact ⟨_, rfl, .onMem _⟩
  | bootCtlReprog | bootCtlWarm | bootCtlQuiet | bootCtlWake | bootCtlClrclamp =>
    cases h; exact ⟨_, rfl, .onBoth _⟩
  | _ => cases h <;> exact ⟨_, rfl, .onDev _⟩

/-- A partial write is counted and does nothing else, whatever the form: nothing reaches the byte memories. -/
theorem RegWriteForm.eq_badWrite {s t : State} {w : Wr} {a : Nat} (ht : RegWriteForm s w a t) (hbe : w.be ≠ 15) (hddr : s.dev.ddrOut = []) :
    t = s.onDev Device.badWrite := by
  have hout : s.dev.badWrite.ddrOut = [] := s.dev.badWrite_ddrOut.trans hddr
  cases ht with
  | onDev k => exact State.onDev_congr (Device.write_of_partial hbe a k)
  | onDdr k => exact State.onDdr_eq_onDev (Device.write_of_partial hbe a k) hddr hout
  | onMem k => exact State.onMem_eq_onDev (Device.memWrite_of_partial hbe a k)
  | onBoth k => exact State.onBoth_eq_onDev (Device.memWrite_of_partial hbe a k) hddr hout

/-! The three ways of a partial write. -/

theorem exec_partial_registerWrite {c : Instr} {w : Wr} {a : Nat} {s : State} (h : writesReg c = some (w, a)) (hbe : w.be ≠ 15)
    (hddr : s.dev.ddrOut = []) : exec c s = .next (s.onDev Device.badWrite) := by
  obtain ⟨t, hexec, hform⟩ := exec_of_writesReg s h
  rw [hexec, hform.eq_badWrite hbe hddr]

theorem exec_partial_windowWrite {be : BitVec 4} (hbe : be ≠ 15) (f : Fin 48) (off : BitVec 18) (v : Word) (s : State) :
    exec (.fretWindowAccess f (.write off be v)) s = .next (s.onDev Device.badWrite) :=
  congrArg Host.Outcome.next (State.onDev_congr (Device.windowAccess_of_partial hbe f off v))

/-- A write of a live Fret passes its shell port, then the tests of every register write. -/
theorem exec_partial_shellWrite {f : Fin 48} {be : BitVec 4} {s : State} (hbe : be ≠ 15) (hlive : s.dev.fretLive f = true)
    (hon : s.dev.fabricOn = true) (hddr : s.dev.ddrOut = []) (a : BitVec 24) (v : Word) :
    exec (.shellWrite f a be v) s = .next (s.onDev Device.badWrite) :=
  congrArg Host.Outcome.next
    (State.onDdr_eq_onDev (Device.shellWrite_of_partial hbe hlive hon a.toNat v) hddr (s.dev.badWrite_ddrOut.trans hddr))

/-- Settles O9: by each of its three ways a partial write comes to the same count, whose register facts are those of the bump and the event. -/
theorem partialWriteDiscarded : Obligations.PartialWriteDiscarded := by
  intro s hddr c hc
  have hexec : exec c s = .next (s.onDev Device.badWrite) := by
    rcases hc with ⟨w, a, hw, hbe⟩ | ⟨f, off, be, v, rfl, hbe⟩ | ⟨f, a, be, v, rfl, hbe, hlive, hon⟩
    · exact exec_partial_registerWrite hw hbe hddr
    · exact exec_partial_windowWrite hbe f off v s
    · exact exec_partial_shellWrite hbe hlive hon hddr a v
  refine givesDev_of_exec_onDev hexec hddr ⟨?_, ?_, ?_, fun b hcount hevent hpend => ?_⟩
  · rw [Device.dropDdr_plant, Device.badWrite_plant]
  · rw [Device.dropDdr_fget, Device.badWrite_count]
  · rw [Device.dropDdr_flag, Device.badWrite_partial]
  · rw [Device.dropDdr_rd, Device.badWrite_rd _ hcount hevent hpend]

end Sys2Proof.Machine
end

section
/-!
PROOF of the statements on the queue, the step, reset and the byte memories: the form in which every command completes, which memories
it may change, then the statements.
-/

namespace Sys2Proof.Machine

-- One proof after another: the stacks of the threads that elaborate many at once exceed the memory of a check.
set_option Elab.async false

/-! Changes of the byte memories. -/

/-- `m'` comes from `m` by writes that keep the canonical form and change only the memories that are named. -/
structure Mem.Via (ddr flash host : Bool) (m m' : Mem) : Prop where
  wf : m.wf = true → m'.wf = true
  ddr_eq : ddr = false → m'.ddr = m.ddr
  flash_eq : flash = false → m'.flash = m.flash
  host_eq : host = false → m'.host = m.host

namespace Mem.Via

variable {ddr flash host : Bool} {m m' m'' : Mem}

theorem refl (m : Mem) : Via ddr flash host m m := ⟨id, fun _ => rfl, fun _ => rfl, fun _ => rfl⟩

theorem trans (h : Via ddr flash host m m') (h' : Via ddr flash host m' m'') : Via ddr flash host m m'' :=
  ⟨h'.wf ∘ h.wf, fun e => (h'.ddr_eq e).trans (h.ddr_eq e), fun e => (h'.flash_eq e).trans (h.flash_eq e),
    fun e => (h'.host_eq e).trans (h.host_eq e)⟩

/-- A change of fewer memories is one of more. -/
theorem mono {ddr' flash' host' : Bool} (h : Via ddr flash host m m') (hd : ddr = true → ddr' = true) (hf : flash = true → flash' = true)
    (hh : host = true → host' = true) : Via ddr' flash' host' m m' :=
  ⟨h.wf, fun e => h.ddr_eq (by cases ddr <;> simp_all), fun e => h.flash_eq (by cases flash <;> simp_all),
    fun e => h.host_eq (by cases host <;> simp_all)⟩

theorem ite {c : Prop} [Decidable c] {x y : Mem} (hx : Via ddr flash host m x) (hy : Via ddr flash host m y) :
    Via ddr flash host m (if c then x else y) := by
  split
  · exact hx
  · exact hy

/-- The same of an operation that answers a memory and a device. -/
theorem ite_fst {β : Type} {c : Prop} [Decidable c] {x y : Mem × β} (hx : Via ddr flash host m x.1) (hy : Via ddr flash host m y.1) :
    Via ddr flash host m (if c then x else y).1 := by
  split
  · exact hx
  · exact hy

theorem ddrWrite (a : Nat) (bs : List Byte) : Via true flash host m (m.ddrWrite a bs) :=
  ⟨fun h => wf_ddrWrite h a bs, nofun, fun _ => rfl, fun _ => rfl⟩

theorem flashWrite (a : Nat) (bs : List Byte) : Via ddr true host m (m.flashWrite a bs) :=
  ⟨fun h => wf_flashWrite h a bs, fun _ => rfl, nofun, fun _ => rfl⟩

theorem hostWrite (a : Nat) (bs : List Byte) : Via ddr flash true m (m.hostWrite a bs) :=
  ⟨fun h => wf_hostWrite h a bs, fun _ => rfl, fun _ => rfl, nofun⟩

theorem drain (ws : List (Nat × List Byte)) : Via true flash host m (m.drain ws) :=
  ⟨fun h => wf_drain h ws, nofun, fun _ => drain_flash m ws, fun _ => drain_host m ws⟩

theorem loseDdr : Via true flash host m (Device.loseDdr m) := ⟨wf_loseDdr, nofun, fun _ => rfl, fun _ => rfl⟩

theorem eraseFlash (p : Host.Cell → Bool) : Via ddr true host m { m with flash := m.flash.filter p } :=
  ⟨fun h => wf_eraseFlash h p, fun _ => rfl, nofun, fun _ => rfl⟩

end Mem.Via

/-! What the commands that use the byte memories do to them. -/

namespace Device

variable (m : Mem) (d : Device) {ddr flash host : Bool}

open Mem (Via)

theorem eraseCopy_via (b : Bool) : Via ddr true host m (eraseCopy m b) := by
  unfold eraseCopy
  exact .eraseFlash _

/-- A save of the calibration values writes flash only (R327). -/
theorem saveCal_via (ok : Bool) : Via ddr true host m (d.saveCal m ok).1 := by
  cases ok with
  | true =>
    rw [saveCal, if_pos rfl]
    exact (((eraseCopy_via m _).trans (.flashWrite _ _)).trans (.flashWrite _ _)).trans (.flashWrite _ _)
  | false =>
    rw [saveCal, if_neg Bool.false_ne_true]
    exact eraseCopy_via m _

theorem saveIfDirty_via (ok : Bool) : Via ddr true host m (saveIfDirty m d ok).1 := .ite_fst (saveCal_via m d ok) (.refl m)

theorem enterQuiet_via (ok : Bool) : Via ddr true host m (enterQuiet m d ok).1 := by
  rw [enterQuiet_eq]
  exact saveIfDirty_via m d ok

theorem quietWrite_via (ok : Bool) : Via ddr true host m (quietWrite m d ok).1 :=
  .ite_fst (.refl m) (.ite_fst (.refl m) (enterQuiet_via m d ok))

theorem hostWarm_via (ok : Bool) : Via ddr true host m (hostWarm m d ok).1 := by
  unfold hostWarm
  refine .ite_fst (.refl m) ?_
  have h := saveIfDirty_via (ddr := ddr) (host := host) m d ok
  revert h
  generalize saveIfDirty m d ok = p
  obtain ⟨m', d'⟩ := p
  exact id

/-- A write of BOOT_CTL may save calibration values and lose DDR5. -/
theorem bootCtl_via (raw : Word) (ok : Bool) : Via true true host m (bootCtl m d raw ok).1 := by
  unfold bootCtl
  exact .ite_fst .loseDdr (.ite_fst ((Via.ite_fst (quietWrite_via m _ ok) (.refl m)).trans (hostWarm_via _ _ ok))
    (.ite_fst (quietWrite_via m _ ok) (.refl m)))

/-- REPROG with its key loses DDR5 and leaves flash (R397). -/
theorem bootCtl_reprog_via {raw : Word} (ok : Bool) (hb : bitOf raw 31 = true) (hk : bitsOf raw 8 8 = 0xA5) :
    Via true flash host m (bootCtl m d raw ok).1 := by
  rw [bootCtl, if_pos ⟨hb, hk⟩]; exact .loseDdr

/-- Without REPROG, WARM and QUIET a write of BOOT_CTL leaves the byte memories. -/
theorem bootCtl_keeps_mem {raw : Word} (ok : Bool) (hb : bitOf raw 31 = false) (hw : bitOf raw 0 = false) (hq : bitOf raw 1 = false) :
    (bootCtl m d raw ok).1 = m := by
  simp [bootCtl, hb, hw, hq]

theorem calSave_via (raw : Word) (ok : Bool) : Via ddr true host m (d.calSave m raw ok).1 := .ite_fst (saveCal_via m d ok) (.refl m)

theorem saveTimer_via (ok : Bool) : Via ddr true host m (d.saveTimer m ok).1 := by
  unfold saveTimer
  split
  · exact .ite_fst (saveCal_via m d ok) (.refl m)
  · exact .refl m

theorem logItems_via (l : List LogItem) : Via ddr true host m (logItems l m d).1 := by
  induction l generalizing m d with
  | nil => exact .refl m
  | cons x r ih => exact (((Via.ite (.eraseFlash _) (.refl m)).trans (.flashWrite _ _)).trans (ih _ _))

theorem logCopy_via : Via ddr true host m (d.logCopy m).1 := .ite_fst (.refl m) (logItems_via m _ _)

/-- The result writer writes its ring in DDR5 (R206). -/
theorem writeRing_via (q seq : Nat) (l : List (ResRec × Bool)) : Via true flash host m (d.writeRing q seq l m) := by
  induction l generalizing m seq with
  | nil => exact .refl m
  | cons x r ih => exact (Via.ddrWrite _ _).trans (ih _ _)

/-- A bus transaction that completes stores its response in DDR5 (R238). -/
theorem completeTx_via (e : Nat) : Via true flash host m (d.completeTx m e).1 := by
  unfold completeTx
  split
  · exact .refl m
  · refine .ite_fst (.refl m) ?_
    dsimp only
    split
    · exact .ite (.ddrWrite _ _) (.refl m)
    · split
      · exact .ite (.ddrWrite _ _) (.refl m)
      · split
        · exact .ite (.ddrWrite _ _) (.refl m)
        · exact .ite_fst (.ite (.ddrWrite _ _) (.refl m)) (.ite (.ddrWrite _ _) (.refl m))

theorem storeSome_keeps (a : Nat) (bs : List (Option Byte)) : (d.storeSome m a bs).flash = m.flash ∧ (d.storeSome m a bs).host = m.host := by
  induction bs generalizing m a with
  | nil => exact ⟨rfl, rfl⟩
  | cons b r ih =>
    cases b with
    | none => exact ih m (a + 1)
    | some x =>
      obtain ⟨hf, hh⟩ := ih (if d.ddrAt a && !d.inCache a then { m with ddr := tabSet blankRam a x m.ddr } else m) (a + 1)
      refine ⟨hf.trans ?_, hh.trans ?_⟩
      · split <;> rfl
      · split <;> rfl

/-- A write of the host to DDR5 writes DDR5 only. -/
theorem ddrStore_via (a : Nat) (bs : List (Option Byte)) : Via true flash host m (d.ddrStore m a bs).1 :=
  ⟨fun h => wf_storeSome d bs h a, nofun, fun _ => (storeSome_keeps m d a bs).1, fun _ => (storeSome_keeps m d a bs).2⟩

theorem bar2_via (op : Bar2Op) : Via true flash host m (bar2 m d op).1 := by
  cases op with
  | write off bs => exact .ite_fst (ddrStore_via m d _ _) (.refl m)
  | read off n bad => exact .refl m

/-- The DMA engine of a queue writes the host's memory only (R474). -/
theorem copyRecs_via (q n seq : Nat) : Via ddr flash true m (d.copyRecs q n seq m) := by
  induction n generalizing m seq with
  | zero => exact .refl m
  | succ n ih => exact (Via.hostWrite _ _).trans (ih _ _)

theorem queueCopy_via (q : Nat) : Via ddr flash true m (queueCopy m d q).1 :=
  .ite_fst (.refl m) (((copyRecs_via m d q _ _).trans (.hostWrite _ _)).trans (.ite_fst (.refl _) (.refl _)))

theorem dmaMove_via (j : DmaJob) (good : Bool) : Via true flash true m (dmaMove m d j good).1 :=
  .ite_fst (ddrStore_via _ _ _ _) (.hostWrite _ _)

theorem dmaEnd_via (n : Nat) (r : DmaEnd) : Via true flash true m (dmaEnd m d n r).1 := by
  unfold dmaEnd
  split
  · exact .refl m
  · exact .ite_fst (.refl m) (dmaMove_via m _ _ _)

theorem flashEnd_via (ok : Bool) : Via true true host m (flashEnd m d ok).1 := by
  unfold flashEnd
  split
  · exact .refl m
  · exact .ite_fst (.ite_fst (ddrStore_via _ _ _ _) (.flashWrite _ _))
      (.ite_fst (ddrStore_via _ _ _ _) (.ite_fst (.flashWrite _ _) (.eraseFlash _)))

theorem warmRearm_via : Via true flash host m (warmRearm m d).1 := by
  unfold warmRearm
  split
  · exact .refl m
  · exact .ite_fst (.refl m) (.ite_fst .loseDdr (.refl m))

theorem patchRetried_via (x : PatchIn) (ok : Bool) : Via ddr true host m (d.patchRetried m x ok).1 := by
  unfold patchRetried
  split
  · split
    · refine .ite_fst ?_ (.refl m)
      have h := saveIfDirty_via (ddr := ddr) (host := host) m d ok
      revert h
      generalize saveIfDirty m d ok = p
      obtain ⟨m', d'⟩ := p
      exact id
    · exact .refl m
  · exact .refl m

theorem patchDone_via (x : PatchIn) (ok : Bool) : Via ddr true host m (d.patchDone m x ok).1 := by
  unfold patchDone
  split
  · split
    · have h := saveIfDirty_via (ddr := ddr) (host := host) m (d.secEnd 0) ok
      revert h
      generalize saveIfDirty m (d.secEnd 0) ok = p
      obtain ⟨m', d'⟩ := p
      exact id
    · exact .refl m
  · exact .refl m

theorem routeMem_via (p : Party) (a : Nat) (raw : Word) : Via true true host m (routeMem m d p a raw).1 :=
  .ite_fst (bootCtl_via m _ _ _) (.ite_fst (.refl m) (.ite_fst (calSave_via m _ _ _) (.refl m)))

theorem regWrite_via (w : Wr) (a : Nat) : Via true true host m (regWrite m d w a).1 := by
  unfold regWrite
  split
  · exact .refl m
  · exact .ite_fst (.refl m) (.ite_fst (routeMem_via m d _ a _) (.refl m))

end Device

/-! The words of writes of BOOT_CTL: REPROG zero, the low bits fixed by the row. -/

theorem bitOf_bootWord_reprog (v : Word) (x : Nat) {n : Nat} (h : n < 32) : bitOf (setBits (setBits v 31 1 0) 0 n x) 31 = false := by
  rw [bitOf, bitsOf_setBits_disjoint _ _ (by omega) (by omega), bitsOf_setBits_same _ _ (by decide)]
  rfl

theorem bitOf_bootWord_low (v : Word) {n x i : Nat} (hn : i < n ∧ n ≤ 32) (hx : (x % 2 ^ n).testBit i = false) :
    bitOf (setBits v 0 n x) i = false := by
  obtain ⟨hi, hn⟩ := hn
  rw [bitOf_eq_testBit_bitsOf _ (lo := 0) (n := n) (Nat.zero_le i) (by omega), bitsOf_setBits_same _ _ (by omega), Nat.sub_zero, hx]

/-! The form in which a command completes. -/

/-- A command completes by an update of the device, which may collect writes for DDR5, or of the device and the byte memories; of those it
changes the ones that it may write. -/
inductive ExecForm (c : Instr) (s : State) : State → Prop
  | dev (f : Device → Device) : ExecForm c s (s.onDev f)
  | ddr (f : Device → Device) (hd : mayWriteDdr c = true) : ExecForm c s (s.onDdr f)
  | mem (k : Mem → Device → Mem × Device)
      (hk : ∀ m d, Mem.Via (mayWriteDdr c) (mayWriteFlash c) (mayWriteHost c) m (k m d).1) : ExecForm c s (s.onMem k)
  | both (k : Mem → Device → Mem × Device) (hd : mayWriteDdr c = true)
      (hk : ∀ m d, Mem.Via true (mayWriteFlash c) (mayWriteHost c) m (k m d).1) : ExecForm c s (s.onBoth k)

/-- A write of a register whose rules leave the byte memories leaves them. -/
theorem ExecForm.onWrite_dev {c : Instr} {s : State} (w : Wr) (a : Nat) (k : Mem → Device → Device) :
    ExecForm c s (s.onWrite w a fun m d => (m, k m d)) := .mem _ fun m _ => .ite_fst (.refl m) (.refl m)

theorem ExecForm.onBoot {c : Instr} {s : State} (w : Wr) (raw : Word) (ok : Bool) (hd : mayWriteDdr c = true)
    (hk : ∀ m d, Mem.Via true (mayWriteFlash c) (mayWriteHost c) m (Device.bootCtl m d raw ok).1) : ExecForm c s (s.onBoot w raw ok) :=
  .both _ hd fun m d => .ite_fst (hk m d) (.refl m)


/-- Every command completes, in one of the forms. -/
theorem exec_form (c : Instr) (s : State) : ∃ t, exec c s = .next t ∧ ExecForm c s t := by
  cases c with
  | registerWrite addr w => exact ⟨_, rfl, .both _ rfl fun m d => Device.regWrite_via m d w _⟩
  | calCmdSave w ok => exact ⟨_, rfl, .mem _ fun m d => .ite_fst (Device.calSave_via m d _ ok) (.refl m)⟩
  | secAttest | secPatchact | secRevoke | secKeyprog | secFkeyprog | secBbwrite | secBbclear | secGetid => exact ⟨_, rfl, .onWrite_dev _ _ _⟩
  | bootCtlReprog w =>
    refine ⟨_, rfl, .onBoot w _ false rfl fun m d => Device.bootCtl_reprog_via m d false ?_ ?_⟩
    · rw [bitOf, bitsOf_setBits_disjoint _ _ (by decide) (by decide), bitsOf_setBits_same _ _ (by decide)]; rfl
    · rw [bitsOf_setBits_same _ _ (by decide)]; rfl
  | bootCtlWarm w ok | bootCtlQuiet w ok => exact ⟨_, rfl, .onBoot w _ ok rfl fun m d => Device.bootCtl_via m d _ ok⟩
  | bootCtlWake w =>
    refine ⟨_, rfl, .onBoot w _ false rfl fun m d => ?_⟩
    rw [Device.bootCtl_keeps_mem m d false (bitOf_bootWord_reprog _ _ (by decide)) (bitOf_bootWord_low _ (n := 3) (by decide) (by decide))
      (bitOf_bootWord_low _ (n := 3) (by decide) (by decide))]
    exact .refl m
  | bootCtlClrclamp w =>
    refine ⟨_, rfl, .onBoot w _ false rfl fun m d => ?_⟩
    rw [Device.bootCtl_keeps_mem m d false (bitOf_bootWord_reprog _ _ (by decide)) (bitOf_bootWord_low _ (n := 4) (by decide) (by decide))
      (bitOf_bootWord_low _ (n := 4) (by decide) (by decide))]
    exact .refl m
  | warmStartRearm => exact ⟨_, rfl, .both _ rfl fun m d => Device.warmRearm_via m d⟩
  | patchRetry x ok => exact ⟨_, rfl, .both _ rfl fun m d => Device.patchRetried_via m d x ok⟩
  | patchVerified x ok => exact ⟨_, rfl, .both _ rfl fun m d => Device.patchDone_via m d x ok⟩
  | progN => exact ⟨_, rfl, .mem _ fun _ _ => .loseDdr⟩
  | eventLogCopy => exact ⟨_, rfl, .mem _ fun m d => Device.logCopy_via m d⟩
  | resqWrseqAdvance q => exact ⟨_, rfl, .mem _ fun m d => Device.writeRing_via m d q _ _⟩
  | busSlotComplete e => exact ⟨_, rfl, .mem _ fun m d => Device.completeTx_via m d e⟩
  | calSaveTimer ok => exact ⟨_, rfl, .mem _ fun m d => Device.saveTimer_via m d ok⟩
  | bar2Access op => exact ⟨_, rfl, .mem _ fun m d => Device.bar2_via m d op⟩
  | queueDmaCopy q => exact ⟨_, rfl, .mem _ fun m d => Device.queueCopy_via m d q⟩
  | dmaComplete n r => exact ⟨_, rfl, .mem _ fun m d => Device.dmaEnd_via m d n r⟩
  | flashOpComplete ok => exact ⟨_, rfl, .mem _ fun m d => Device.flashEnd_via m d ok⟩
  | sliceHandover | chainOutput | lineCrossing | lineCrossingTimeout | holdoverExpiry | toothEdge | angleStall | encoderSample | stepStop
  | stepStopAbort | contextStart | contextClose | slotRetry | canFrameReceived | canFrameError | linHeaderReceived | linFrameLimit
  | sentMessageReceived | sentMessageSent | responsePending | isotpFlowControl | transactionTimeout | busEcfgWrite | wakePinEvent | shellWrite
  | faultDetected | deviceRetest | supplyOutOfWindow | overtempTrip | capoNAssert | capoCmdSafe | capoCmdClrhost | capoCmdRelease
  | watchdogExpiry | watchdogStage2 | refCountComplete | activeRefLoss | refWindowEnd | refSwitchComplete | gatedDomainsStop | clkCmdSwitch
  | baseImageLoaded | wakeNLow | chordPortDown | chordPortUp | joinMessage | assignMessage | chordEnum | chordClrorig | capoMessage
  | posMessage | wakeMessage | sampleEdge | rootPllLock => exact ⟨_, rfl, .ddr _ rfl⟩
  | _ => exact ⟨_, rfl, .dev _⟩

namespace ExecForm

variable {c : Instr} {s t : State}

theorem pending (h : ExecForm c s t) : t.pending = s.pending := by cases h <;> rfl

/-- Nothing stays collected for DDR5 where nothing was. -/
theorem ddrOut (h : ExecForm c s t) (hs : s.dev.ddrOut = []) : t.dev.ddrOut = [] := by
  cases h
  case dev => exact hs
  case mem => exact hs
  case ddr => rfl
  case both => rfl

/-- The byte memories change only as the lists of the commands allow. -/
theorem via (h : ExecForm c s t) : Mem.Via (mayWriteDdr c) (mayWriteFlash c) (mayWriteHost c) s.mem t.mem := by
  cases h
  case dev => exact .refl _
  case ddr f hd => rw [hd]; exact .drain _
  case mem k hk => exact hk s.mem s.dev
  case both k hd hk => rw [hd]; exact (hk s.mem s.dev).trans (.drain _)

end ExecForm

/-- A command that answers `t` answers it in one of the forms. -/
theorem execForm_of_exec {c : Instr} {s t : State} (h : exec c s = .next t) : ExecForm c s t := by
  obtain ⟨t', ht, hform⟩ := exec_form c s
  rw [h] at ht
  cases ht
  exact hform

theorem step_cons {c : Instr} {rest : List Instr} {s : State} (h : s.pending = c :: rest) : step s = exec c { s with pending := rest } := by
  rw [step, h]

theorem step_nil {s : State} (h : s.pending = []) : step s = .next s := by rw [step, h]

/-- A step goes through and takes one command from the queue. -/
theorem step_next (s : State) : ∃ t, step s = .next t ∧ t.pending = s.pending.tail := by
  cases hp : s.pending with
  | nil => exact ⟨s, step_nil hp, hp⟩
  | cons c rest =>
    obtain ⟨t, ht, hform⟩ := exec_form c { s with pending := rest }
    exact ⟨t, (step_cons hp).trans ht, hform.pending⟩

/-! The reset state. -/

theorem readCells_nil (dflt : Byte) (a n : Nat) : readCells (fun _ => dflt) [] a n = List.replicate n dflt := by
  induction n generalizing a with
  | zero => rfl
  | succ n ih => rw [readCells, ih, List.replicate_succ]; rfl

/-- The byte at an address of a memory is the first of the bytes read there. -/
theorem readCells_one (dflt : Nat → Byte) (m : List Host.Cell) (a : Nat) : readCells dflt m a 1 = [tabGet dflt m a] := rfl

/-- A byte read after bytes are written. -/
theorem readCells_writeCells (dflt : Nat → Byte) (m : List Host.Cell) (a b : Nat) (bs : List Byte) :
    readCells dflt (writeCells dflt m a bs) b 1 = if a ≤ b ∧ b < a + bs.length then [bs.getD (b - a) 0] else readCells dflt m b 1 := by
  rw [readCells_one, tabGet_writeCells, readCells_one]
  split <;> rfl

/-! The statements. -/

/-- Settles O1: both cases are the equations of the step. -/
theorem stepServesFront : Obligations.StepServesFront := ⟨fun _ _ _ h => step_cons h, fun _ h => step_nil h⟩

/-- Settles O2: an empty register table reads reset words, an empty memory its blank byte. -/
theorem resetState : Obligations.ResetState :=
  ⟨⟨rfl, fun _ => rfl, fun a n => ⟨readCells_nil 0 a n, readCells_nil 0xFF a n, readCells_nil 0 a n⟩⟩, rfl, rfl⟩

/-- Settles O3: each form in which a command completes keeps the queue. -/
theorem commandsNeverStop : Obligations.CommandsNeverStop := by
  intro c s
  obtain ⟨t, ht, hform⟩ := exec_form c s
  exact ⟨t, ht, hform.pending⟩

/-- Settles O4, by induction on the number of steps: each goes through and takes the front of the queue. -/
theorem runServesQueueInOrder : Obligations.RunServesQueueInOrder := by
  intro k
  induction k with
  | zero => exact fun s => ⟨s, rfl, rfl⟩
  | succ k ih =>
    intro s
    obtain ⟨t, ht, hp⟩ := step_next s
    obtain ⟨u, hu, hq⟩ := ih t
    refine ⟨u, ?_, ?_⟩
    · simp only [Host.Core.run, show Sys2Proof.core.step s = .next t from ht, hu]
    · rw [hq, hp, List.drop_tail]

/-- Settles O5: the form of the command at the front keeps the canonical form and what is collected for DDR5. -/
theorem stepKeepsMemoryCanonical : Obligations.StepKeepsMemoryCanonical := by
  intro s t hwf hddr ht
  cases hp : s.pending with
  | nil =>
    rw [step_nil hp] at ht
    cases ht
    exact ⟨hwf, hddr⟩
  | cons c rest =>
    have hform := execForm_of_exec ((step_cons hp).symm.trans ht)
    exact ⟨hform.via.wf hwf, hform.ddrOut hddr⟩

/-- Settles O6: each of the three memories is a table of bytes. -/
theorem readAfterWrite : Obligations.ReadAfterWrite := fun m a b bs =>
  ⟨readCells_writeCells blankRam m.ddr a b bs, readCells_writeCells blankFlash m.flash a b bs, readCells_writeCells blankRam m.host a b bs⟩

/-- Settles O7: the form of a command changes only the memories that the lists name. -/
theorem memoryWrittenOnlyBy : Obligations.MemoryWrittenOnlyBy := by
  intro c s t ht
  have hvia := (execForm_of_exec ht).via
  exact ⟨hvia.flash_eq, hvia.host_eq, hvia.ddr_eq⟩

end Sys2Proof.Machine
end

section
/-!
PROOF of the statements on register writes: what a write that is turned away changes, what the fields of a register do with a written word.
-/

namespace Sys2Proof.Machine

-- One proof after another: the stacks of the threads that elaborate many at once exceed the memory of a check.
set_option Elab.async false

/-! Reports collect nothing for DDR5. -/

namespace Device

variable (d : Device)

@[simp] theorem fset_ddrOut (a lo n x : Nat) : (d.fset a lo n x).ddrOut = d.ddrOut := wr_ddrOut ..
@[simp] theorem bump_ddrOut (a lo n : Nat) : (d.bump a lo n).ddrOut = d.ddrOut := fset_ddrOut ..

@[simp] theorem fqIrq_ddrOut : d.fqIrq.ddrOut = d.ddrOut := by
  unfold fqIrq
  split
  · rw [signal_ddrOut]
  · rfl

@[simp] theorem fqOverrun_ddrOut : d.fqOverrun.ddrOut = d.ddrOut := by
  unfold fqOverrun
  split
  · rw [event_ddrOut, bump_ddrOut]
  · rfl

@[simp] theorem fqPush_ddrOut (e : FqEntry) : (d.fqPush e).ddrOut = d.ddrOut := by
  unfold fqPush
  dsimp only
  rw [fqIrq_ddrOut, fqOverrun_ddrOut, wr_ddrOut]

@[simp] theorem countClass_ddrOut (c : Cls) : (d.countClass c).ddrOut = d.ddrOut := by
  cases c
  case notice => exact bump_ddrOut ..
  all_goals exact (event_ddrOut _ _ _).trans (bump_ddrOut ..)

@[simp] theorem report_ddrOut (e : FqEntry) (f : Bool) : (d.report e f).ddrOut = d.ddrOut := by
  unfold report
  dsimp only
  split
  · rw [countClass_ddrOut]
  · rw [fqPush_ddrOut, countClass_ddrOut]

@[simp] theorem notice_ddrOut (k i c x : Nat) : (d.notice k i c x).ddrOut = d.ddrOut := report_ddrOut ..
@[simp] theorem noticeRefused_ddrOut (a : Nat) : (d.noticeRefused a).ddrOut = d.ddrOut := report_ddrOut ..

@[simp] theorem eventWheel_ddrOut (a bit : Nat) : (d.eventWheel a bit).ddrOut = d.ddrOut :=
  foldl_keeps Device.ddrOut _ _ _ fun e _ _ => event_ddrOut e _ _

@[simp] theorem eventRefused_ddrOut (a : Nat) : (d.eventRefused a).ddrOut = d.ddrOut := by
  unfold eventRefused
  split
  · exact eventWheel_ddrOut ..
  · split
    · exact event_ddrOut ..
    · rfl

@[simp] theorem refuse_ddrOut (a : Nat) : (d.refuse a).ddrOut = d.ddrOut := by rw [refuse, noticeRefused_ddrOut, eventRefused_ddrOut]
@[simp] theorem refuseShell_ddrOut (a : Nat) : (d.refuseShell a).ddrOut = d.ddrOut := by rw [refuseShell, noticeRefused_ddrOut, event_ddrOut]

@[simp] theorem turnAway_ddrOut (w : Wr) (a : Nat) : (d.turnAway w a).ddrOut = d.ddrOut := by
  unfold turnAway
  split
  · exact badWrite_ddrOut d
  · split
    · rfl
    · split
      · rfl
      · exact refuse_ddrOut d a
      · exact refuseShell_ddrOut d a

/-- What is refused at a Fret's shell port writes FABCFG_EVENT and the reporting registers only (R275). -/
theorem refuseShell_rd (a : Nat) {b : Nat} (hb : b ≠ 0xE0004) (h : reportReg b = false) : (d.refuseShell a).rd b = d.rd b := by
  obtain ⟨_, _, _, _, _, _, _, _, hp, _⟩ := reportReg_false h
  rw [refuseShell, noticeRefused_rd _ _ _ h, event_rd _ _ _ _ hb hp]

/-- A write that does not reach its register writes HOSTIF_BADWR, the event registers of HOSTIF, of the fabric and of the block addressed,
and the reporting registers only. -/
theorem turnAway_rd (w : Wr) (a : Nat) {b : Nat} (hcount : b ≠ 0xD0008) (hhost : b ≠ 0xD0004) (hfab : b ≠ 0xE0004) (hb : ¬ EventReg a b)
    (h : reportReg b = false) : (d.turnAway w a).rd b = d.rd b := by
  obtain ⟨_, _, _, _, _, _, _, _, hp, _⟩ := reportReg_false h
  unfold turnAway
  split
  · exact badWrite_rd d hcount hhost hp
  · split
    · rfl
    · split
      · rfl
      · exact refuse_rd d a b hb h
      · exact refuseShell_rd d a hfab h

variable {d}

/-- A write to a block that does not answer has no effect (R395, R403). -/
theorem turnAway_of_dead {w : Wr} {a : Nat} (hbe : w.be = 15) (h : d.dead a = true) : d.turnAway w a = d := by
  rw [turnAway, if_neg (not_not.2 hbe), if_pos h]

/-- A block that does not answer admits no write. -/
theorem admits_of_dead {a : Nat} (w : Wr) (h : d.dead a = true) : d.admits w a = false := by
  rw [admits, h, Bool.not_true, Bool.and_false, Bool.false_and]

end Device

/-- A register write that is not admitted comes to its being turned away, whatever its form. -/
theorem RegWriteForm.eq_turnAway {s t : State} {w : Wr} {a : Nat} (ht : RegWriteForm s w a t) (h : s.dev.admits w a = false)
    (hddr : s.dev.ddrOut = []) : t = s.onDev fun d => d.turnAway w a := by
  have hout : (s.dev.turnAway w a).ddrOut = [] := (Device.turnAway_ddrOut ..).trans hddr
  cases ht with
  | onDev k => exact State.onDev_congr (if_neg (by simp [h]))
  | onDdr k => exact State.onDdr_eq_onDev (g := fun d => d.turnAway w a) (if_neg (by simp [h])) hddr hout
  | onMem k => exact State.onMem_eq_onDev (g := fun d => d.turnAway w a) (if_neg (by simp [h]))
  | onBoth k => exact State.onBoth_eq_onDev (g := fun d => d.turnAway w a) (if_neg (by simp [h])) hddr hout

theorem givesDev_of_turnAway {c : Instr} {s : State} {w : Wr} {a : Nat} {P : Device → Prop} (hc : writesReg c = some (w, a))
    (h : s.dev.admits w a = false) (hddr : s.dev.ddrOut = []) (hP : P { s.dev.turnAway w a with ddrOut := [] }) : GivesDev c s P := by
  obtain ⟨t, ht, hform⟩ := exec_of_writesReg s hc
  exact givesDev_of_exec_onDev (ht.trans (congrArg _ (hform.eq_turnAway h hddr))) hddr hP

/-- Settles O8: a write that is not admitted is turned away, and what that writes is said once by `turnAway_rd`. -/
theorem turnedAwayWriteChangesReportsOnly : Obligations.TurnedAwayWriteChangesReportsOnly := by
  intro s hddr c w a hc
  refine ⟨fun hadm => givesDev_of_turnAway hc hadm hddr ⟨?_, fun b hb hr => ?_⟩, fun hbe hdead => ?_⟩
  · rw [Device.dropDdr_plant, Device.turnAway_plant]
  · simp only [not_or] at hb
    obtain ⟨hcount, hhost, hfab, hblock, hwheel⟩ := hb
    rw [Device.dropDdr_rd]
    exact Device.turnAway_rd _ w a hcount hhost hfab (not_or.2 ⟨hblock, hwheel⟩) hr
  · refine givesDev_of_turnAway hc (Device.admits_of_dead w hdead) hddr ?_
    rw [Device.turnAway_of_dead hbe hdead]
    exact ⟨rfl, fun _ => rfl⟩

/-! The fields of a register (R10, R13). -/

namespace Device

variable (d : Device) (a : Nat) (raw : Word)

/-- The word after one field of a write. -/
def cookFld (v : Word) (f : Fld) : Word :=
  match f.acc with
  | .ro => v
  | .rw1c => setBits v f.lo f.width (bitsOf v f.lo f.width &&& (2 ^ f.width - 1 - bitsOf raw f.lo f.width))
  | .w1s => setBits v f.lo f.width (bitsOf v f.lo f.width ||| bitsOf raw f.lo f.width)
  | _ => setBits v f.lo f.width (d.applied a raw v f)

/-- The word of a write is made field by field. -/
theorem cookFlds_fst (fs : List Fld) (v : Word) (hits : List ClampHit) :
    (d.cookFlds a raw fs v hits).1 = fs.foldl (d.cookFld a raw) v := by
  induction fs generalizing v hits with
  | nil => rfl
  | cons f r ih =>
    rw [List.foldl_cons, cookFld]
    unfold cookFlds
    split
    all_goals simp only [*]

theorem cook_fst : (d.cook a raw).1 = (regFields a).foldl (d.cookFld a raw) (d.rd a) := cookFlds_fst ..

/-- What a field that held `old` does with the written word, where `new` is what it holds then. -/
def FieldObeys (f : Fld) (old new : Nat) : Prop :=
  match f.acc with
  | .ro => new = old
  | .rw1c => ∀ i < f.width, new.testBit i = (old.testBit i && !(bitsOf raw f.lo f.width).testBit i)
  | .w1s => ∀ i < f.width, new.testBit i = (old.testBit i || (bitsOf raw f.lo f.width).testBit i)
  | _ => ∃ u, new = d.applied a raw u f % 2 ^ f.width

theorem testBit_mask {x n i : Nat} (hx : x < 2 ^ n) (hi : i < n) : (2 ^ n - 1 - x).testBit i = !x.testBit i := by
  rw [Nat.sub_sub, Nat.add_comm 1 x, Nat.testBit_two_pow_sub_succ hx, decide_eq_true hi, Bool.true_and]

theorem cookFld_obeys {f : Fld} (h : f.lo + f.width ≤ 32) (v : Word) :
    d.FieldObeys a raw f (bitsOf v f.lo f.width) (bitsOf (d.cookFld a raw v f) f.lo f.width) := by
  unfold FieldObeys cookFld
  cases f.acc
  case ro => rfl
  case rw1c =>
    intro i hi
    rw [bitsOf_setBits_same _ _ h, Nat.testBit_mod_two_pow, decide_eq_true hi, Bool.true_and, Nat.testBit_and,
      testBit_mask (bitsOf_lt ..) hi]
  case w1s =>
    intro i hi
    rw [bitsOf_setBits_same _ _ h, Nat.testBit_mod_two_pow, decide_eq_true hi, Bool.true_and, Nat.testBit_or]
  all_goals exact ⟨v, bitsOf_setBits_same _ _ h⟩

/-- A field of a write leaves the bits beside it. -/
theorem cookFld_testBit {f : Fld} (h : f.lo + f.width ≤ 32) (v : Word) {i : Nat} (hi : i < f.lo ∨ f.lo + f.width ≤ i) :
    (d.cookFld a raw v f).toNat.testBit i = v.toNat.testBit i := by
  have hset : ∀ x, (setBits v f.lo f.width x).toNat.testBit i = v.toNat.testBit i := fun x => by
    rw [setBits_testBit v x h]
    rcases hi with hi | hi
    · rw [if_pos hi]
    · rw [if_neg (by omega), if_neg (by omega)]
  unfold cookFld
  split
  · rfl
  all_goals exact hset _

theorem foldl_cookFld_testBit {fs : List Fld} (v : Word) {i : Nat} (h : ∀ f ∈ fs, f.lo + f.width ≤ 32)
    (hi : ∀ f ∈ fs, i < f.lo ∨ f.lo + f.width ≤ i) : (fs.foldl (d.cookFld a raw) v).toNat.testBit i = v.toNat.testBit i := by
  induction fs generalizing v with
  | nil => rfl
  | cons f r ih =>
    rw [List.foldl_cons, ih _ (fun g hg => h g (List.mem_cons_of_mem _ hg)) (fun g hg => hi g (List.mem_cons_of_mem _ hg)),
      cookFld_testBit d a raw (h f List.mem_cons_self) v (hi f List.mem_cons_self)]

/-- A field that shares no bit with the fields of a write keeps its value. -/
theorem bitsOf_foldl_cookFld {fs : List Fld} (v : Word) {lo n : Nat} (h : ∀ f ∈ fs, f.lo + f.width ≤ 32)
    (hd : ∀ f ∈ fs, lo + n ≤ f.lo ∨ f.lo + f.width ≤ lo) : bitsOf (fs.foldl (d.cookFld a raw) v) lo n = bitsOf v lo n := by
  apply Nat.eq_of_testBit_eq
  intro i
  rw [bitsOf_testBit, bitsOf_testBit]
  by_cases hi : i < n
  · rw [foldl_cookFld_testBit d a raw v h fun f hf => by have := hd f hf; omega]
  · rw [decide_eq_false hi, Bool.false_and, Bool.false_and]

end Device

theorem fieldsApart_cons {f : Fld} {r : List Fld} : fieldsApart (f :: r) = true ↔
    f.lo + f.width ≤ 32 ∧ (∀ g ∈ r, f.lo + f.width ≤ g.lo ∨ g.lo + g.width ≤ f.lo) ∧ fieldsApart r = true := by
  simp only [fieldsApart, Bool.and_eq_true, decide_eq_true_eq, List.all_eq_true, and_assoc]

theorem fieldsApart_within {fs : List Fld} (h : fieldsApart fs = true) : ∀ f ∈ fs, f.lo + f.width ≤ 32 := by
  induction fs with
  | nil => nofun
  | cons f r ih =>
    obtain ⟨hw, -, hr⟩ := fieldsApart_cons.1 h
    exact List.forall_mem_cons.2 ⟨hw, ih hr⟩

namespace Device

/-- Every field of a write obeys its access type when the fields are apart. -/
theorem foldl_cookFld_obeys (d : Device) (a : Nat) (raw : Word) {fs : List Fld} (h : fieldsApart fs = true) (v : Word) :
    ∀ f ∈ fs, d.FieldObeys a raw f (bitsOf v f.lo f.width) (bitsOf (fs.foldl (d.cookFld a raw) v) f.lo f.width) := by
  induction fs generalizing v with
  | nil => nofun
  | cons f r ih =>
    obtain ⟨hw, hd, hr⟩ := fieldsApart_cons.1 h
    rw [List.foldl_cons]
    refine List.forall_mem_cons.2 ⟨?_, fun g hg => ?_⟩
    · rw [bitsOf_foldl_cookFld d a raw _ (fieldsApart_within hr) hd]
      exact cookFld_obeys d a raw hw v
    · have hkeep : bitsOf (d.cookFld a raw v f) g.lo g.width = bitsOf v g.lo g.width :=
        bitsOf_foldl_cookFld d a raw (fs := [f]) v (by simpa using hw) (by simpa using (hd g hg).symm)
      rw [← hkeep]
      exact ih hr _ g hg

/-- A field without a special clamp and with a fixed range takes the nearest value of its range. -/
theorem applied_of_fixed {d : Device} {a : Nat} {raw : Word} {f : Fld} (hs : d.specialClamp a f (bitsOf raw f.lo f.width) = none)
    (hl : ∀ u, d.limitOf a raw u f = f.lim) (u : Word) : d.applied a raw u f = f.lim.clamp f.width (bitsOf raw f.lo f.width) := by
  rw [applied, hs, hl]

end Device

theorem clampNat_nearest {lo hi x y : Nat} (hlo : lo ≤ y) (hhi : y ≤ hi) :
    (x - clampNat lo hi x) + (clampNat lo hi x - x) ≤ (x - y) + (y - x) := by
  unfold clampNat
  split
  · omega
  · split <;> omega

theorem clampNat_mem {lo hi : Nat} (h : lo ≤ hi) (x : Nat) : lo ≤ clampNat lo hi x ∧ clampNat lo hi x ≤ hi := by
  unfold clampNat
  split
  · omega
  · split <;> omega

/-- Settles O10: the word is made field by field, each field obeys its access type, and the clamp of a range is the nearest number of it. -/
theorem fieldsObeyAccessTypes : Obligations.FieldsObeyAccessTypes := by
  refine ⟨fun d a raw hap => ⟨fun f hf => ?_, fun i _ hi => ?_⟩, fun lo hi width x hle => ?_⟩
  · have hob := d.foldl_cookFld_obeys a raw hap (d.rd a) f hf
    rw [← Device.cook_fst] at hob
    cases hacc : f.acc with
    | ro | rw1c | w1s => simpa only [Device.FieldObeys, hacc, Device.fget] using hob
    | rw | wo | rws =>
      simp only [Device.FieldObeys, hacc] at hob
      obtain ⟨u, hu⟩ := hob
      exact ⟨⟨u, hu⟩, fun hs hl => by rw [hu, Device.applied_of_fixed hs hl]⟩
  · simp only [BitVec.getLsbD, Device.cook_fst]
    exact Device.foldl_cookFld_testBit d a raw _ (fieldsApart_within hap) hi
  · exact ⟨(clampNat_mem hle x).1, (clampNat_mem hle x).2, fun y hlo hhi => clampNat_nearest hlo hhi⟩

end Sys2Proof.Machine
end

section
/-!
SUPPORT. How a command that updates the device completes, and what an update leaves: `Device.plant` is pushed through the updates of the
parts, so that what is not a report is read off it.
-/

namespace Sys2Proof.Machine

-- One proof after another: the stacks of the threads that elaborate many at once exceed the memory of a check.
set_option Elab.async false

/-- A device with other writes collected for DDR5: what a command leaves of its update. -/
def Device.withOut (d : Device) (ws : List (Nat × List Byte)) : Device := { d with ddrOut := ws }

section
variable {c : Instr} {s : State} {f : Device → Device} {P : Device → Prop}

/-- A command that updates the device alone completes with the update. What is collected for DDR5 is no concern of `P`. -/
theorem givesDev_onDev (he : exec c s = .next (s.onDev f)) (hP : P (f s.dev))
    (hout : ∀ (x : Device) ws, P x → P (x.withOut ws) := by exact fun _ _ h => h) : GivesDev c s P :=
  ⟨s.onDev f, he, rfl, rfl, hout _ s.dev.ddrOut hP⟩

/-- A command that also collects for DDR5 completes with the update. -/
theorem givesDdr_onDdr (he : exec c s = .next (s.onDdr f)) (hP : P (f s.dev))
    (hout : ∀ (x : Device) ws, P x → P (x.withOut ws) := by exact fun _ _ h => h) : GivesDdr c s P :=
  givesDdr_of_exec_onDdr he (hout _ [] hP)

variable {w : Wr} {a : Nat} {k : Device → Device}

/-- An admitted register write completes with the register's own rules. -/
theorem givesDev_write (he : exec c s = .next (s.onDev fun d => d.write w a k)) (hadm : s.dev.admits w a = true) (hP : P (k s.dev))
    (hout : ∀ (x : Device) ws, P x → P (x.withOut ws) := by exact fun _ _ h => h) : GivesDev c s P :=
  givesDev_onDev he (by rwa [Device.write_of_admits hadm]) hout

theorem givesDdr_write (he : exec c s = .next (s.onDdr fun d => d.write w a k)) (hadm : s.dev.admits w a = true) (hP : P (k s.dev))
    (hout : ∀ (x : Device) ws, P x → P (x.withOut ws) := by exact fun _ _ h => h) : GivesDdr c s P :=
  givesDdr_onDdr he (by rwa [Device.write_of_admits hadm]) hout

end

namespace Device

variable (d : Device)

/-! The plant of an update of a part. -/

@[simp] theorem setCh_plant (n : Nat) (c : Chan) : (d.setCh n c).plant = d.plant.setCh n c := rfl
@[simp] theorem setCrs_plant (n : Nat) (c : Course) : (d.setCrs n c).plant = d.plant.setCrs n c := rfl
@[simp] theorem setMx_plant (k : Matrix) : (d.setMx k).plant = d.plant.setMx k := rfl
@[simp] theorem setMeter_plant (n : Nat) (c : Rmu) : (d.setMeter n c).plant = d.plant.setMeter n c := rfl
@[simp] theorem setCal_plant (k : Cal) : (d.setCal k).plant = d.plant.setCal k := rfl
@[simp] theorem setChain_plant (n : Nat) (c : Chain) : (d.setChain n c).plant = d.plant.setChain n c := rfl
@[simp] theorem setThr_plant (n : Nat) (c : Thr) : (d.setThr n c).plant = d.plant.setThr n c := rfl
@[simp] theorem setAx_plant (n : Nat) (c : Axis) : (d.setAx n c).plant = d.plant.setAx n c := rfl
@[simp] theorem setLst_plant (n : Nat) (c : ListSt) : (d.setLst n c).plant = d.plant.setLst n c := rfl
@[simp] theorem setExec_plant (x : Exec) : (d.setExec x).plant = d.plant.setExec x := rfl
@[simp] theorem setQue_plant (n : Nat) (c : Queue) : (d.setQue n c).plant = d.plant.setQue n c := rfl
@[simp] theorem setEng_plant (n : Nat) (c : Engine) : (d.setEng n c).plant = d.plant.setEng n c := rfl
@[simp] theorem setFret_plant (n : Nat) (c : Fret) : (d.setFret n c).plant = d.plant.setFret n c := rfl
@[simp] theorem setLoader_plant (k : Loader) : (d.setLoader k).plant = d.plant.setLoader k := rfl
@[simp] theorem setLink_plant (k : Link) : (d.setLink k).plant = d.plant.setLink k := rfl
@[simp] theorem setSys_plant (k : Sys) : (d.setSys k).plant = d.plant.setSys k := rfl

/-! Parts of the plant. -/

@[simp] theorem plant_plant : d.plant.plant = d.plant := rfl
@[simp] theorem plant_ch (n : Nat) : d.plant.ch n = d.ch n := rfl
@[simp] theorem plant_crs (n : Nat) : d.plant.crs n = d.crs n := rfl
@[simp] theorem plant_meter (n : Nat) : d.plant.meter n = d.meter n := rfl
@[simp] theorem plant_chain (n : Nat) : d.plant.chain n = d.chain n := rfl
@[simp] theorem plant_thr (n : Nat) : d.plant.thr n = d.thr n := rfl
@[simp] theorem plant_ax (n : Nat) : d.plant.ax n = d.ax n := rfl
@[simp] theorem plant_lst (n : Nat) : d.plant.lst n = d.lst n := rfl
@[simp] theorem plant_que (n : Nat) : d.plant.que n = d.que n := rfl
@[simp] theorem plant_eng (n : Nat) : d.plant.eng n = d.eng n := rfl
@[simp] theorem plant_fret (n : Nat) : d.plant.fret n = d.fret n := rfl

section
variable {d} {e : Device}

/-- What reports do not touch is the same in devices with the same plant. -/
theorem eq_of_plant {α : Type} (g : Device → α) (h : d.plant = e.plant) (hg : ∀ x : Device, g x.plant = g x := by exact fun _ => rfl) : g d = g e := by
  rw [← hg d, h, hg e]

theorem ch_of_plant (h : d.plant = e.plant) (n : Nat) : d.ch n = e.ch n := eq_of_plant (fun x => x.ch n) h
end

/-! Channels beside reports. -/

@[simp] theorem fset_ch' (a lo n x k : Nat) : (d.fset a lo n x).ch k = d.ch k := ch_of_plant (fset_plant ..) k
@[simp] theorem fsetB_ch (a i : Nat) (b : Bool) (k : Nat) : (d.fsetB a i b).ch k = d.ch k := ch_of_plant (fsetB_plant ..) k
@[simp] theorem event_ch (a i k : Nat) : (d.event a i).ch k = d.ch k := ch_of_plant (event_plant ..) k
@[simp] theorem report_ch (e : FqEntry) (f : Bool) (k : Nat) : (d.report e f).ch k = d.ch k := ch_of_plant (report_plant ..) k
@[simp] theorem putCooked_ch (p : Party) (a : Nat) (raw : Word) (k : Nat) : (d.putCooked p a raw).ch k = d.ch k := ch_of_plant (putCooked_plant ..) k
@[simp] theorem reportHits_ch (src : ClampSrc) (a r w c : Nat) (hits : List ClampHit) (k : Nat) :
    (d.reportHits src a r w c hits).ch k = d.ch k := ch_of_plant (reportHits_plant ..) k

/-! Reports of clamps collect nothing for DDR5. -/

@[simp] theorem clampEntry_ddrOut (e : ClampEntry) : (d.clampEntry e).ddrOut = d.ddrOut := by
  unfold clampEntry
  dsimp only
  split
  · rw [fset_ddrOut]
  · rw [bump_ddrOut]

@[simp] theorem noticeClamped_ddrOut (a : Option Nat) (k c : Nat) : (d.noticeClamped a k c).ddrOut = d.ddrOut := by
  unfold noticeClamped
  split
  · rw [report_ddrOut]
  · rw [report_ddrOut]

@[simp] theorem reportClamp_ddrOut (src : ClampSrc) (a : Option Nat) (k c w r f : Nat) (o p : Int) :
    (d.reportClamp src a k c w r f o p).ddrOut = d.ddrOut := by rw [reportClamp, noticeClamped_ddrOut, clampEntry_ddrOut]

@[simp] theorem eventClamped_ddrOut (a : Nat) : (d.eventClamped a).ddrOut = d.ddrOut := by
  unfold eventClamped
  split
  · exact eventWheel_ddrOut ..
  · split
    · exact event_ddrOut ..
    · rfl

/-- Nothing was collected for DDR5 between two devices (a name of its own, so that the kernel compares the devices and not what they hold). -/
def SameOut (e d : Device) : Prop := e.ddrOut = d.ddrOut

/-- A fold of reports collects nothing for DDR5. -/
theorem foldl_sameOut {α : Type} {f : Device → α → Device} (hf : ∀ e x, SameOut (f e x) e) :
    ∀ (l : List α) (e : Device), SameOut (l.foldl f e) e
  | [], _ => rfl
  | x :: l, e => (foldl_sameOut hf l (f e x)).trans (hf e x)

theorem reportClamp_sameOut (src : ClampSrc) (a : Option Nat) (k c w r f : Nat) (o p : Int) :
    SameOut (d.reportClamp src a k c w r f o p) d := reportClamp_ddrOut d src a k c w r f o p

@[simp] theorem reportHits_ddrOut (src : ClampSrc) (a r w c : Nat) (hits : List ClampHit) : (d.reportHits src a r w c hits).ddrOut = d.ddrOut := by
  unfold reportHits
  split
  · rfl
  · rw [eventClamped_ddrOut]
    exact foldl_sameOut (fun _ _ => reportClamp_sameOut ..) ..

@[simp] theorem putCooked_ddrOut (p : Party) (a : Nat) (raw : Word) : (d.putCooked p a raw).ddrOut = d.ddrOut := by
  rw [putCooked, reportHits_ddrOut, wr_ddrOut]

/-- A register write of configuration fields writes its register, the event register of its block and the reporting registers only. -/
theorem putCooked_keepsRegs (p : Party) (a : Nat) (raw : Word) : keepsRegs (fun b => b = a ∨ EventReg a b) d (d.putCooked p a raw) :=
  fun b hb hr => putCooked_rd_other d p a raw b (not_or.1 hb).1 (not_or.1 hb).2 hr

end Device

theorem Device.keepsRegs.mono {own own' : Nat → Prop} {d e : Device} (h : Device.keepsRegs own d e) (ho : ∀ a, own a → own' a) :
    Device.keepsRegs own' d e := fun a ha hr => h a (fun x => ha (ho a x)) hr

theorem Device.keepsRegs.trans {own : Nat → Prop} {d e f : Device} (h : Device.keepsRegs own d e) (h' : Device.keepsRegs own e f) :
    Device.keepsRegs own d f := fun a ha hr => (h' a ha hr).trans (h a ha hr)

theorem Device.keepsRegs.refl (own : Nat → Prop) (d : Device) : Device.keepsRegs own d d := fun _ _ _ => rfl

/-- A device whose registers are those of another keeps what that one keeps. -/
theorem Device.keepsRegs.of_rd {own : Nat → Prop} {d e f : Device} (h : Device.keepsRegs own d e) (hrd : ∀ a, f.rd a = e.rd a) :
    Device.keepsRegs own d f := fun a ha hr => (hrd a).trans (h a ha hr)

/-! The registers of a channel. -/

theorem aCH_lt {n o : Nat} (hn : n < 1024) (ho : o < 0x100) : 0x100000 ≤ aCH n o ∧ aCH n o < 0x140000 := by unfold aCH; omega

theorem aCH_inj {n o o' : Nat} : aCH n o = aCH n o' ↔ o = o' := by unfold aCH; omega

theorem aCH_ne_aCH {n m o o' : Nat} (h : n ≠ m) (ho : o < 0x100) (ho' : o' < 0x100) : aCH n o ≠ aCH m o' := by unfold aCH; omega

@[simp] theorem reportReg_aCH (n o : Nat) : reportReg (aCH n o) = false := Device.reportReg_of_ge (by unfold aCH; omega)

theorem blockEvents_aCH {n o : Nat} (hn : n < 1024) (ho : o < 0x100) : Device.blockEvents (aCH n o) = some (aCH n 0x3C, 3, 4) := by
  obtain ⟨h, h'⟩ := aCH_lt hn ho
  have hq : (aCH n o - 0x100000) / 0x100 = n := by unfold aCH; omega
  unfold Device.blockEvents
  dsimp only
  rw [if_neg (by omega), if_neg (by omega), if_neg (by omega), if_neg (by omega), if_neg (by omega), if_neg (by omega), if_neg (by omega),
    if_neg (by omega), if_neg (by omega), if_neg (by omega), if_neg (by omega), if_neg (by omega), if_neg (by omega), if_neg (by omega),
    if_neg (by omega), if_neg (by omega), if_pos (by omega), hq]

/-- A channel reports in its own event register. -/
theorem eventReg_aCH {n o b : Nat} (hn : n < 1024) (ho : o < 0x100) : Device.EventReg (aCH n o) b ↔ b = aCH n 0x3C := by
  obtain ⟨h, -⟩ := aCH_lt hn ho
  rw [Device.EventReg, blockEvents_aCH hn ho]
  constructor
  · rintro (⟨c, r, he⟩ | ⟨-, hw, -⟩)
    · exact (Prod.mk.inj (Option.some.inj he)).1.symm
    · omega
  · rintro rfl
    exact .inl ⟨3, 4, rfl⟩

end Sys2Proof.Machine
end

section
/-!
PROOF. O11: registers without rows of their own take the applied word.
-/

namespace Sys2Proof.Machine

-- One proof after another: the stacks of the threads that elaborate many at once exceed the memory of a check.
set_option Elab.async false

/-- A command of both the memories and the device that keeps the memories and collects nothing for DDR5 completes with its device. -/
theorem givesDev_onBoth {c : Instr} {s : State} {f : Mem → Device → Mem × Device} {d : Device} {P : Device → Prop}
    (he : exec c s = .next (s.onBoth f)) (hf : f s.mem s.dev = (s.mem, d)) (hddr : d.ddrOut = []) (hP : P d)
    (hout : ∀ (x : Device) ws, P x → P (x.withOut ws) := by exact fun _ _ h => h) : GivesDev c s P := by
  refine ⟨s.onBoth f, he, rfl, ?_, ?_⟩
  · rw [State.onBoth]
    simp only [hf, hddr, Mem.drain_nil]
  · rw [State.onBoth]
    simp only [hf]
    exact hout d [] hP

/-! Where a register of a channel lies. -/

section
variable {n o : Nat} (hn : n < 1024) (ho : o < 0x100)
include hn ho

theorem aCH_block : 0x10 ≤ aCH n o / 0x10000 ∧ aCH n o / 0x10000 ≤ 0x13 := by unfold aCH; omega
theorem aCH_chan : (aCH n o - 0x100000) / 0x100 = n := by unfold aCH; omega
omit hn in
theorem aCH_mod : aCH n o % 0x100 = o := by unfold aCH; omega
omit hn ho in
theorem aCH_mod_four (h : o % 4 = 0) : aCH n o % 4 = 0 := by unfold aCH; omega

/-- The fields of a register of a channel are those of its offset. -/
theorem regFields_aCH (h4 : o % 4 = 0) (h38 : o ≠ 0x38) : regFields (aCH n o) = findRow chRows o := by
  obtain ⟨hb, hb'⟩ := aCH_block hn ho
  have h4' : aCH n o % 4 = 0 := aCH_mod_four h4
  unfold regFields
  dsimp only
  rw [if_neg (by omega), if_neg (by omega), if_neg (by omega), if_neg (by omega), if_neg (by omega), if_pos hb', aCH_mod ho, if_neg h38]

namespace Device
variable (d : Device) (p : Party) (raw : Word)

theorem blockRuns_aCH : d.blockRuns (aCH n o) = false := by
  obtain ⟨hb, hb'⟩ := aCH_block hn ho
  unfold blockRuns
  dsimp only
  rw [if_neg (by omega), if_neg (by omega), if_neg (by omega), if_neg (by omega), if_neg (by omega), if_neg (by omega), if_neg (by omega),
    if_neg (by omega), if_neg (by omega)]

theorem putReg_aCH : d.putReg p (aCH n o) raw = d.putCooked p (aCH n o) raw := by
  obtain ⟨hb, hb'⟩ := aCH_block hn ho
  obtain ⟨ha, -⟩ := aCH_lt hn ho
  unfold putReg
  dsimp only
  rw [if_neg (by omega), if_neg (by omega), if_neg (by omega), if_neg (by omega), if_neg (by omega), if_neg (by omega), if_neg (by omega),
    if_neg (by omega), if_neg (by omega), if_neg (by omega), if_neg (by omega), if_neg (by omega), if_neg (by omega), if_neg (by omega),
    if_neg (by omega)]

theorem borderFixed_aCH : d.borderFixed (aCH n o) = false := by
  obtain ⟨h, -⟩ := aCH_lt hn ho
  unfold borderFixed
  rw [decide_eq_false (by omega), Bool.false_and]

omit hn in
theorem chordLoaded_aCH : chordLoaded (aCH n o) = false := by
  have h : 0x100000 ≤ aCH n o := by unfold aCH; omega
  unfold chordLoaded
  rw [decide_eq_false (by omega), decide_eq_false (by omega)]
  rfl

omit hn ho in
theorem capoRefuses_none {a : Nat} (h : d.capo = 0) : d.capoRefuses a = false := by
  unfold capoRefuses
  rw [h]
  simp

/-- Outside HOLD and SAFE a plain register of a channel takes the applied word unless the governor refuses. -/
theorem plainWrite_aCH (hf : regFields (aCH n o) ≠ []) (hc : d.capo = 0) (hg : d.govRefuses (d.putCooked p (aCH n o) raw) = false) :
    d.plainWrite p (aCH n o) raw = d.putCooked p (aCH n o) raw := by
  unfold plainWrite
  rw [if_neg (by simpa using hf), blockRuns_aCH hn ho, capoRefuses_none d hc, borderFixed_aCH hn ho, chordLoaded_aCH ho, putReg_aCH hn ho]
  dsimp only
  rw [hg]
  simp

/-- Writes of a channel's registers, those that are requests or reach the queue apart, are plain. -/
theorem route_aCH (hf : regFields (aCH n o) ≠ []) (h4 : o % 4 = 0) (h1 : 0x10 ≤ o) (h2 : o ≠ 0x18) (h3 : o ≠ 0x1C) :
    d.route p (aCH n o) raw = d.plainWrite p (aCH n o) raw := by
  obtain ⟨hb, hb'⟩ := aCH_block hn ho
  obtain ⟨-, ha⟩ := aCH_lt hn ho
  unfold route
  dsimp only
  rw [if_neg (by simp [hf, aCH_mod_four h4]), if_neg (by omega), if_neg (by omega), if_neg (by omega), if_neg (by omega), if_neg (by omega),
    if_neg (by omega), if_pos (by omega)]
  unfold routeChan
  dsimp only
  rw [if_pos ha, aCH_mod ho, if_neg (by omega), if_neg h2, if_neg h3]

omit hn ho in
/-- Where no register lies a write changes nothing (R470). -/
theorem routeMem_of_regFields_nil (m : Mem) {a : Nat} (h : regFields a = []) : d.routeMem m p a raw = (m, d) := by
  unfold routeMem
  have h1 : a ≠ 0x20020 := by rintro rfl; exact absurd h (by decide)
  have h2 : a ≠ 0x30008 := by rintro rfl; exact absurd h (by decide)
  have h3 : a ≠ 0x60014 := by rintro rfl; exact absurd h (by decide)
  rw [if_neg h1, if_neg h2, if_neg fun h' => h3 h'.1]
  unfold route
  dsimp only
  rw [if_pos (.inr (by rw [h]; rfl))]

theorem routeMem_aCH (m : Mem) : d.routeMem m p (aCH n o) raw = (m, d.route p (aCH n o) raw) := by
  obtain ⟨h, -⟩ := aCH_lt hn ho
  unfold routeMem
  rw [if_neg (by omega), if_neg (by omega), if_neg (by omega)]

end Device
end

/-- The registers of a channel that have rows of fields but no rules of their own. -/
theorem findRow_plain {o : Nat} (h : o ∈ [0x10, 0x24, 0x28, 0x2C, 0x30, 0x34]) : findRow chRows o ≠ [] := by
  revert o; decide

theorem offset_plain {o : Nat} (h : o ∈ [0x10, 0x24, 0x28, 0x2C, 0x30, 0x34]) : 0x10 ≤ o ∧ o < 0x38 ∧ o % 4 = 0 ∧ o ≠ 0x18 ∧ o ≠ 0x1C := by
  simp only [List.mem_cons, List.not_mem_nil, or_false] at h
  omega

theorem Device.regWrite_of_routeMem (m : Mem) {d e : Device} {w : Wr} {a : Nat} (hby : ∀ f, w.by_ ≠ .shell f) (ha : a < 0x400000)
    (hadm : d.admits w a = true) (h : d.routeMem m w.by_ a w.data = (m, e)) : d.regWrite m w a = (m, e) := by
  rw [regWrite_of_lt, if_pos hadm, h] <;> assumption

theorem blockEvents_govbudget : Device.blockEvents 0x100 = none := by decide

theorem not_eventReg_govbudget (b : Nat) : ¬ Device.EventReg 0x100 b := by
  rintro (⟨c, r, h⟩ | ⟨h, -⟩)
  · rw [blockEvents_govbudget] at h
    cases h
  · omega

section
variable {addr : BitVec 24} {w : Wr} {s : State} (hddr : s.dev.ddrOut = []) (hby : ∀ f, w.by_ ≠ .shell f)
  (hadm : s.dev.admits w addr.toNat = true)
include hddr hby hadm

/-- A plain register of a channel takes the applied word. -/
theorem registerWrite_channel {n o : Nat} (hn : n < 1024) (ho : o ∈ [0x10, 0x24, 0x28, 0x2C, 0x30, 0x34]) (ha : addr.toNat = aCH n o)
    (hc : s.dev.capo = 0) (hg : s.dev.govRefuses (s.dev.putCooked w.by_ (aCH n o) w.data) = false) :
    GivesDev (.registerWrite addr w) s fun t =>
      t.rd (aCH n o) = Device.storeWord (aCH n o) (s.dev.cook (aCH n o) w.data).1 ∧ t.plant = s.dev.plant ∧
      Device.keepsRegs (fun a => a = aCH n o ∨ a = aCH n 0x3C) s.dev t := by
  obtain ⟨ho10, ho38, ho4, ho18, ho1C⟩ := offset_plain ho
  have hoo : o < 0x100 := by omega
  have hff : regFields (aCH n o) ≠ [] := by
    rw [regFields_aCH hn hoo ho4 (by omega)]
    exact findRow_plain ho
  have hne : aCH n o ≠ aCH n 0x3C := fun h => by have := aCH_inj.mp h; omega
  have hroute : s.dev.routeMem s.mem w.by_ addr.toNat w.data = (s.mem, s.dev.putCooked w.by_ (aCH n o) w.data) := by
    rw [ha, Device.routeMem_aCH hn hoo, Device.route_aCH hn hoo _ _ _ hff ho4 ho10 ho18 ho1C, Device.plainWrite_aCH hn hoo _ _ _ hff hc hg]
  have hlt : addr.toNat < 0x400000 := by have := aCH_lt hn hoo; omega
  refine givesDev_onBoth rfl (Device.regWrite_of_routeMem s.mem hby hlt hadm hroute) ?_ ⟨?_, ?_, ?_⟩
  · rw [Device.putCooked_ddrOut, hddr]
  · rw [Device.putCooked_rd_same _ _ _ _ (by rwa [eventReg_aCH hn hoo]) (reportReg_aCH n o)]
  · rw [Device.putCooked_plant]
  · exact (Device.putCooked_keepsRegs s.dev w.by_ (aCH n o) w.data).mono fun b hb => hb.imp_right (eventReg_aCH hn hoo).mp

/-- Where no register lies a write changes nothing. -/
theorem registerWrite_nowhere (hlt : addr.toNat < 0x400000) (hf : regFields addr.toNat = []) :
    GivesDev (.registerWrite addr w) s fun t => t.plant = s.dev.plant ∧ ∀ a, t.rd a = s.dev.rd a :=
  givesDev_onBoth rfl (Device.regWrite_of_routeMem s.mem hby hlt hadm (Device.routeMem_of_regFields_nil _ _ _ _ hf)) hddr
    ⟨rfl, fun _ => rfl⟩

end

/-- The governor's budget takes the applied word. -/
theorem govbudgetWrite_stores {w : Wr} {s : State} (hadm : s.dev.admits w 0x100 = true) :
    GivesDev (.govbudgetWrite w) s fun t =>
      t.rd 0x100 = Device.storeWord 0x100 (s.dev.cook 0x100 w.data).1 ∧ t.plant = s.dev.plant ∧ Device.keepsRegs (fun a => a = 0x100) s.dev t :=
  givesDev_write rfl hadm ⟨Device.putCooked_rd_same s.dev w.by_ 0x100 w.data (not_eventReg_govbudget _) (by decide),
    Device.putCooked_plant s.dev w.by_ 0x100 w.data,
    (Device.putCooked_keepsRegs s.dev w.by_ 0x100 w.data).mono fun b hb => hb.resolve_right (not_eventReg_govbudget b)⟩

/-- Settles O11: the six plain registers of a channel and DEV_GOVBUDGET take the applied word; where no register lies nothing changes. -/
theorem plainRegistersHoldWord : Obligations.PlainRegistersHoldWord := by
  unfold Obligations.PlainRegistersHoldWord
  refine ⟨fun addr w s hddr hby hadm => ⟨?_, registerWrite_nowhere hddr hby hadm⟩, fun w s hadm => govbudgetWrite_stores hadm⟩
  intro n o ho ha hc hg
  exact registerWrite_channel hddr hby hadm n.isLt ho ha hc hg

end Sys2Proof.Machine
end

section
/-!
SUPPORT. What an operation on a channel leaves alone, and what requests make of its settings (R46, R61, R62, R65).
-/

namespace Sys2Proof.Machine

-- One proof after another: the stacks of the threads that elaborate many at once exceed the memory of a check.
set_option Elab.async false

namespace Device

/-! What writes and reports keep. -/

section
variable (d : Device)
theorem fset_keepsRegs (a lo n x : Nat) : keepsRegs (· = a) d (d.fset a lo n x) := fun _ hb _ => rd_fset_other d lo n x hb
theorem fsetB_keepsRegs (a i : Nat) (x : Bool) : keepsRegs (· = a) d (d.fsetB a i x) := fun _ hb _ => rd_fset_other d _ _ _ hb
theorem event_keepsRegs (a i : Nat) : keepsRegs (· = a) d (d.event a i) := fun b hb hr => event_rd d a i b hb (reportReg_false hr).2.2.2.2.2.2.2.2.1
theorem report_keepsRegs (own : Nat → Prop) (e : FqEntry) (f : Bool) : keepsRegs own d (d.report e f) := fun b _ hr => report_rd d e f b hr
end

/-- An operation on channel `n`: registers outside `own` and the reporting ones keep their words, and every other channel its parts. -/
structure ChanOnly (n : Nat) (own : Nat → Prop) (d e : Device) : Prop where
  regs : keepsRegs own d e
  chans : ∀ m, m ≠ n → e.ch m = d.ch m

namespace ChanOnly
variable {n : Nat} {own own' : Nat → Prop} {d e f : Device}

theorem refl (n : Nat) (own : Nat → Prop) (d : Device) : ChanOnly n own d d := ⟨.refl own d, fun _ _ => rfl⟩
theorem trans (h : ChanOnly n own d e) (h' : ChanOnly n own e f) : ChanOnly n own d f :=
  ⟨h.regs.trans h'.regs, fun m hm => (h'.chans m hm).trans (h.chans m hm)⟩
theorem mono (h : ChanOnly n own d e) (ho : ∀ a, own a → own' a) : ChanOnly n own' d e := ⟨h.regs.mono ho, h.chans⟩
/-- Registers alone are written: no channel changes. -/
theorem of_plant (h : keepsRegs own d e) (hp : e.plant = d.plant) : ChanOnly n own d e := ⟨h, fun m _ => ch_of_plant hp m⟩
theorem setCh (c : Chan) (d : Device) : ChanOnly n own d (d.setCh n c) := ⟨fun _ _ _ => rfl, fun m hm => setCh_other d n c m hm⟩
theorem setCrs (k : Nat) (c : Course) (d : Device) : ChanOnly n own d (d.setCrs k c) := ⟨fun _ _ _ => rfl, fun _ _ => rfl⟩
theorem fset {a : Nat} (ha : own a) (lo k x : Nat) (d : Device) : ChanOnly n own d (d.fset a lo k x) :=
  of_plant ((fset_keepsRegs d a lo k x).mono fun _ h => h ▸ ha) (fset_plant ..)
theorem fsetB {a : Nat} (ha : own a) (i : Nat) (x : Bool) (d : Device) : ChanOnly n own d (d.fsetB a i x) :=
  of_plant ((fsetB_keepsRegs d a i x).mono fun _ h => h ▸ ha) (fsetB_plant ..)
theorem wr {a : Nat} (ha : own a) (v : Word) (d : Device) : ChanOnly n own d (d.wr a v) :=
  ⟨fun _ hb _ => rd_wr_other d v fun h => hb (h ▸ ha), fun _ _ => rfl⟩
theorem event {a : Nat} (ha : own a) (i : Nat) (d : Device) : ChanOnly n own d (d.event a i) :=
  of_plant ((event_keepsRegs d a i).mono fun _ h => h ▸ ha) (event_plant ..)
/-- An operation made of one for each element of a list. -/
theorem foldl {α : Type} {g : Device → α → Device} {l : List α} (h : ∀ e, ∀ x ∈ l, ChanOnly n own e (g e x)) (d : Device) :
    ChanOnly n own d (l.foldl g d) := by
  induction l generalizing d with
  | nil => exact .refl ..
  | cons x l ih => exact (h d x List.mem_cons_self).trans (ih (fun e y hy => h e y (List.mem_cons_of_mem x hy)) _)
end ChanOnly

/-- The registers of channel `n` at the offsets `os`. -/
def chRegs (n : Nat) (os : List Nat) (a : Nat) : Prop := ∃ o ∈ os, a = aCH n o

theorem chRegs_mono {n : Nat} {os os' : List Nat} (h : os ⊆ os') (a : Nat) : chRegs n os a → chRegs n os' a := fun ⟨o, ho, he⟩ => ⟨o, h ho, he⟩
theorem chRegs_of_mem {n o : Nat} {os : List Nat} (h : o ∈ os) : chRegs n os (aCH n o) := ⟨o, h, rfl⟩
theorem not_chRegs {n o : Nat} {os : List Nat} (h : o ∉ os) : ¬ chRegs n os (aCH n o) := fun ⟨_, ho', he⟩ => h (aCH_inj.mp he ▸ ho')

section
variable {n o : Nat} {os os' : List Nat} {d e : Device}

theorem ChanOnly.rd (h : ChanOnly n (chRegs n os) d e) (ho : o ∉ os := by decide) : e.rd (aCH n o) = d.rd (aCH n o) :=
  h.regs _ (not_chRegs ho) (reportReg_aCH n o)

theorem ChanOnly.wider (h : ChanOnly n (chRegs n os) d e) (hs : os ⊆ os' := by decide) : ChanOnly n (chRegs n os') d e := h.mono (chRegs_mono hs)
end

/-! What waits for a bridge. -/

/-- Two states of a channel with the same requests and switch of sources waiting. -/
def SameWaits (c c' : Chan) : Prop := c'.waiting = c.waiting ∧ c'.pinWait = c.pinWait

theorem SameWaits.trans {c c' c'' : Chan} (h : SameWaits c c') (h' : SameWaits c' c'') : SameWaits c c'' :=
  ⟨h'.1.trans h.1, h'.2.trans h.2⟩

section
variable (d : Device) (n e : Nat) (m0 r0 m1 r1 : Word)

theorem dropClamp_only : ChanOnly n (chRegs n [0x38]) d (d.dropClamp n m0 m1) := by
  unfold dropClamp
  split
  · exact .refl ..
  · exact (ChanOnly.setCh _ d).trans (.fsetB (chRegs_of_mem (by decide)) ..)

theorem dropClamp_waits : SameWaits (d.ch n) ((d.dropClamp n m0 m1).ch n) := by
  unfold dropClamp
  split
  · exact ⟨rfl, rfl⟩
  · rw [fsetB_ch, setCh_same]
    exact ⟨rfl, rfl⟩

theorem flag_fsetB_other {a i j : Nat} (x : Bool) (h : i ≠ j) (hi : i < 32) : (d.fsetB a i x).flag a j = d.flag a j := by
  rw [flag, flag, fsetB, fget_fset_disjoint _ _ _ (by omega) (by omega)]

@[simp] theorem flag_fsetB_same {a i : Nat} (x : Bool) (hi : i < 32) : (d.fsetB a i x).flag a i = x := by
  rw [flag, fsetB, fget_fset_same _ _ _ (by omega)]
  cases x <;> rfl

@[simp] theorem flag_setCh (c : Chan) (a i : Nat) : (d.setCh n c).flag a i = d.flag a i := rfl

theorem dropClamp_folded : (d.dropClamp n m0 m1).flag (aCH n 0x38) 9 = d.flag (aCH n 0x38) 9 := by
  unfold dropClamp
  split
  · rfl
  · rw [flag_fsetB_other _ _ (by decide) (by decide), flag_setCh]

theorem restartPrep_only : ChanOnly n (chRegs n []) d (d.restartPrep n e m0 r0 m1 r1) := by
  unfold restartPrep
  dsimp only
  split
  · exact .refl ..
  · exact .setCrs ..

theorem restartPrep_ch (k : Nat) : (d.restartPrep n e m0 r0 m1 r1).ch k = d.ch k := by
  unfold restartPrep
  dsimp only
  split
  · rfl
  · rfl

theorem startPlay_only : ChanOnly n (chRegs n []) d (d.startPlay n e) := .setCh ..

theorem startPlay_waits : SameWaits (d.ch n) ((d.startPlay n e).ch n) := by
  unfold startPlay
  rw [setCh_same]
  exact ⟨rfl, rfl⟩

theorem playOne_only : ChanOnly n (chRegs n [0x20]) d (d.playOne n) := by
  unfold playOne
  dsimp only
  split
  · split
    · exact (ChanOnly.setCh _ d).trans (.event (chRegs_of_mem (by decide)) ..)
    · exact .setCh ..
  · exact .setCh ..
  · split
    · exact .setCh ..
    · exact .setCh ..

theorem playOne_waits : SameWaits (d.ch n) ((d.playOne n).ch n) := by
  unfold playOne
  dsimp only
  split
  · split
    · rw [event_ch, setCh_same]
      exact ⟨rfl, rfl⟩
    · rw [setCh_same]
      exact ⟨rfl, rfl⟩
  · rw [setCh_same]
    exact ⟨rfl, rfl⟩
  · split
    · rw [setCh_same]
      exact ⟨rfl, rfl⟩
    · rw [setCh_same]
      exact ⟨rfl, rfl⟩

theorem beginPlay_only : ChanOnly n (chRegs n [0x20]) d (d.beginPlay n e) := by
  unfold beginPlay
  dsimp only
  split
  · exact (startPlay_only d n e).wider.trans (playOne_only ..)
  · exact (startPlay_only d n e).wider

theorem beginPlay_waits : SameWaits (d.ch n) ((d.beginPlay n e).ch n) := by
  unfold beginPlay
  dsimp only
  split
  · exact (startPlay_waits d n e).trans (playOne_waits ..)
  · exact startPlay_waits d n e

theorem playMode_only : ChanOnly n (chRegs n [0x20]) d (d.playMode n e m0 m1) := by
  unfold playMode
  dsimp only
  split
  · split
    · exact .refl ..
    · exact .setCh ..
  · split
    · split
      · exact (ChanOnly.setCh _ d).trans (beginPlay_only ..)
      · exact .setCh ..
    · exact .refl ..

theorem playMode_waits : SameWaits (d.ch n) ((d.playMode n e m0 m1).ch n) := by
  have hset : SameWaits (d.ch n) ((d.setCh n { d.ch n with starved := false }).ch n) := by
    rw [setCh_same]
    exact ⟨rfl, rfl⟩
  unfold playMode
  dsimp only
  split
  · split
    · exact ⟨rfl, rfl⟩
    · rw [setCh_same]
      exact ⟨rfl, rfl⟩
  · split
    · split
      · exact hset.trans (beginPlay_waits ..)
      · exact hset
    · exact ⟨rfl, rfl⟩

theorem runQueue_only (run : Bool) : ChanOnly n (chRegs n [0x18, 0x20]) d (d.runQueue n e run) := by
  have hset : ChanOnly n (chRegs n [0x18, 0x20]) d (d.fset (aCH n 0x18) 31 1 1) := .fset (chRegs_of_mem (by decide)) ..
  unfold runQueue
  dsimp only
  split
  · split
    · exact .refl ..
    · split
      · exact hset.trans (beginPlay_only _ n e).wider
      · exact hset
  · exact .fset (chRegs_of_mem (by decide)) ..

theorem runQueue_waits (run : Bool) : SameWaits (d.ch n) ((d.runQueue n e run).ch n) := by
  have hset (x : Nat) : SameWaits (d.ch n) ((d.fset (aCH n 0x18) 31 1 x).ch n) := by
    rw [fset_ch']
    exact ⟨rfl, rfl⟩
  unfold runQueue
  dsimp only
  split
  · split
    · exact ⟨rfl, rfl⟩
    · split
      · exact (hset 1).trans (beginPlay_waits ..)
      · exact hset 1
  · exact hset 0

end

/-! Requests that take effect. -/

section
variable (d : Device) (n e ctx : Nat) (r : ChReq) (rs : List ChReq)

theorem putReg_ne {o o' : Nat} (h : o ≠ o') : aCH n o ≠ aCH n o' := fun he => h (aCH_inj.mp he)

theorem putReq_only : ChanOnly n (chRegs n [0, 4, 8, 0xC]) d (d.putReq n r) := by
  unfold putReq
  exact (((ChanOnly.wr (chRegs_of_mem (by decide)) _ d).trans (.wr (chRegs_of_mem (by decide)) ..)).trans
    (.wr (chRegs_of_mem (by decide)) ..)).trans (.wr (chRegs_of_mem (by decide)) ..)

theorem putReq_ch (k : Nat) : (d.putReq n r).ch k = d.ch k := rfl

theorem putReq_clamp : (d.putReq n r).rd (aCH n 0xC) = r.clamp.getD (d.rd (aCH n 0xC)) := by
  rw [putReq, rd_wr_same]

/-- Without a rescaling the code is the request's or stays. -/
theorem putReq_force (hc : d.newCode n r = none) : (d.putReq n r).rd (aCH n 8) = r.force.getD (d.rd (aCH n 8)) := by
  rw [putReq, rd_wr_other _ _ (putReg_ne n (by decide)), rd_wr_same]
  simp only [hc]

theorem putReq_range : (d.putReq n r).rd (aCH n 4) = r.range.getD (d.rd (aCH n 4)) := by
  rw [putReq, rd_wr_other _ _ (putReg_ne n (by decide)), rd_wr_other _ _ (putReg_ne n (by decide)), rd_wr_same]

theorem putReq_mode : (d.putReq n r).rd (aCH n 0) = d.newMode n r := by
  rw [putReq, rd_wr_other _ _ (putReg_ne n (by decide)), rd_wr_other _ _ (putReg_ne n (by decide)), rd_wr_other _ _ (putReg_ne n (by decide)),
    rd_wr_same]

variable {n} (hn : n < 1024)
include hn

/-- A clamp of the force code of R62 is reported in CH_EVENT and the reporting registers. -/
theorem applyReq_report : ChanOnly n (chRegs n [0x3C]) (d.putReq n r) (d.applyReq n ctx r) := by
  unfold applyReq
  dsimp only
  split
  · split
    · exact .refl ..
    · refine .of_plant (fun b hb hr => ?_) (by rw [eventClamped_plant, reportClamp_plant])
      rw [eventClamped_rd _ _ _ (fun h => hb ⟨0x3C, by decide, (eventReg_aCH hn (by decide)).mp h⟩) hr, reportClamp_rd _ _ _ _ _ _ _ _ _ _ _ hr]
  · exact .refl ..

theorem applyReq_only : ChanOnly n (chRegs n [0, 4, 8, 0xC, 0x3C]) d (d.applyReq n ctx r) :=
  (putReq_only d n r).wider.trans (applyReq_report d ctx r hn).wider

omit hn in
theorem applyReq_ch (k : Nat) : (d.applyReq n ctx r).ch k = d.ch k := by
  rw [← putReq_ch d n r k]
  unfold applyReq
  dsimp only
  split
  · split
    · rfl
    · exact ch_of_plant (by rw [eventClamped_plant, reportClamp_plant]) k
  · rfl

end

/-! The latest value of a field among several requests. -/

theorem latest_cons (f : ChReq → Option Word) (old : Word) (r : ChReq) (rs : List ChReq) :
    latest f old (r :: rs) = latest f ((f r).getD old) rs := by
  unfold latest
  cases h : f r with
  | none => rw [List.filterMap_cons_none h]; rfl
  | some v =>
    rw [List.filterMap_cons_some h]
    cases rs.filterMap f with
    | nil => rfl
    | cons x l => rw [List.getLast?_cons_cons, List.getLast?_eq_getLast_of_ne_nil (List.cons_ne_nil x l)]; rfl

section
variable {n : Nat} (hn : n < 1024) (ctx : Nat)
include hn

theorem foldl_applyReq_only (rs : List ChReq) (d : Device) :
    ChanOnly n (chRegs n [0, 4, 8, 0xC, 0x3C]) d (rs.foldl (fun d r => d.applyReq n ctx r) d) :=
  .foldl (fun e r _ => applyReq_only e ctx r hn) d

omit hn in
theorem foldl_applyReq_ch (rs : List ChReq) (d : Device) (k : Nat) : (rs.foldl (fun d r => d.applyReq n ctx r) d).ch k = d.ch k := by
  induction rs generalizing d with
  | nil => rfl
  | cons r rs ih => rw [List.foldl_cons, ih, applyReq_ch]

theorem applyReq_retired (d : Device) (r : ChReq) : (d.applyReq n ctx r).retired n = d.retired n :=
  flag_eq_of_rd_eq (applyReq_only d ctx r hn).rd _

/-- The mode that stands after several requests on a channel in service. -/
theorem foldl_applyReq_mode (rs : List ChReq) (d : Device) (hr : d.retired n = false) :
    (rs.foldl (fun d r => d.applyReq n ctx r) d).rd (aCH n 0) = latest ChReq.mode (d.rd (aCH n 0)) rs := by
  induction rs generalizing d with
  | nil => rfl
  | cons r rs ih =>
    rw [List.foldl_cons, ih _ ((applyReq_retired hn ctx d r).trans hr), latest_cons, (applyReq_report d ctx r hn).rd, putReq_mode, newMode, hr]
    rfl

theorem foldl_applyReq_range (rs : List ChReq) (d : Device) :
    (rs.foldl (fun d r => d.applyReq n ctx r) d).rd (aCH n 4) = latest ChReq.range (d.rd (aCH n 4)) rs := by
  induction rs generalizing d with
  | nil => rfl
  | cons r rs ih => rw [List.foldl_cons, ih, latest_cons, (applyReq_report d ctx r hn).rd, putReq_range]

theorem foldl_applyReq_clamp (rs : List ChReq) (d : Device) :
    (rs.foldl (fun d r => d.applyReq n ctx r) d).rd (aCH n 0xC) = latest ChReq.clamp (d.rd (aCH n 0xC)) rs := by
  induction rs generalizing d with
  | nil => rfl
  | cons r rs ih => rw [List.foldl_cons, ih, latest_cons, (applyReq_report d ctx r hn).rd, putReq_clamp]

omit hn in
/-- A request with a code of its own rescales nothing (R62). -/
theorem newCode_of_force (d : Device) {r : ChReq} {v : Word} (hf : r.force = some v) : d.newCode n r = none := by
  simp only [newCode, rescales, hf, Option.isSome_some, Bool.not_true, Bool.false_and, Bool.false_eq_true, if_false]

theorem applyReq_force (d : Device) {r : ChReq} {v : Word} (hf : r.force = some v) : (d.applyReq n ctx r).rd (aCH n 8) = v := by
  rw [(applyReq_report d ctx r hn).rd, putReq_force d n r (newCode_of_force d hf), hf]
  rfl

/-- A code that the last request carries stands. -/
theorem foldl_applyReq_force (rs : List ChReq) (d : Device) {r : ChReq} {v : Word} (hl : rs.getLast? = some r) (hf : r.force = some v) :
    (rs.foldl (fun d r => d.applyReq n ctx r) d).rd (aCH n 8) = v := by
  obtain ⟨l, rfl⟩ := List.getLast?_eq_some_iff.mp hl
  rw [List.foldl_append, List.foldl_cons, List.foldl_nil, applyReq_force hn ctx _ hf]

omit hn in
/-- A request that leaves the range rescales nothing (R62). -/
theorem newCode_of_range (d : Device) {r : ChReq} (hf : r.range = none) : d.newCode n r = none := by
  simp [newCode, rescales, hf]

end

/-! What follows once the settings are written: flag windows, fold-back, clamps, playback. -/

/-- What `applyReqs` does after it has written the settings of `D`, with the channel's new windows in `c`. -/
def afterReqs (d D : Device) (n e : Nat) (rs : List ChReq) (c : Chan) : Device :=
  let m0 := d.rd (aCH n 0)
  let r0 := d.rd (aCH n 4)
  let f := D.setCh n c
  let g := if D.rd (aCH n 0) = m0 ∧ D.rd (aCH n 4) = r0 ∧ D.rd (aCH n 8) = d.rd (aCH n 8) ∧ D.rd (aCH n 0xC) = d.rd (aCH n 0xC) then f
    else f.fsetB (aCH n 0x38) 9 false
  let h := ((g.dropClamp n m0 (D.rd (aCH n 0))).restartPrep n e m0 r0 (D.rd (aCH n 0)) (D.rd (aCH n 4))).playMode n e m0 (D.rd (aCH n 0))
  match (rs.filterMap ChReq.run).getLast? with
  | some run => h.runQueue n e run
  | none => h

theorem flagWindow_waits (c : Chan) (e f : Nat) : SameWaits c (flagWindow c e f) := by
  unfold flagWindow
  split
  · exact ⟨rfl, rfl⟩
  · exact ⟨rfl, rfl⟩

/-- Requests write the settings one after another; what follows happens once. -/
theorem applyReqs_eq_afterReqs (d : Device) (n e ctx : Nat) {rs : List ChReq} (h : rs ≠ []) :
    ∃ c, SameWaits (d.ch n) c ∧ d.applyReqs n e rs ctx = afterReqs d (rs.foldl (fun d r => d.applyReq n ctx r) d) n e rs c := by
  have hch := foldl_applyReq_ch (n := n) ctx rs d n
  unfold applyReqs afterReqs
  dsimp only
  rw [if_neg (by simpa using h)]
  refine ⟨_, ?_, rfl⟩
  rw [← hch]
  unfold SameWaits
  dsimp only
  exact ⟨(flagWindow_waits ..).1, (flagWindow_waits ..).2⟩

section
variable (d D : Device) (n e : Nat) (rs : List ChReq) (c : Chan)

/-- Fold-back ends where a setting changes (R56). -/
def unfoldCell (d D f : Device) (n : Nat) : Device :=
  if D.rd (aCH n 0) = d.rd (aCH n 0) ∧ D.rd (aCH n 4) = d.rd (aCH n 4) ∧ D.rd (aCH n 8) = d.rd (aCH n 8) ∧ D.rd (aCH n 0xC) = d.rd (aCH n 0xC) then f
  else f.fsetB (aCH n 0x38) 9 false

theorem unfoldCell_only (f : Device) : ChanOnly n (chRegs n [0x38]) f (unfoldCell d D f n) := by
  unfold unfoldCell
  split
  · exact .refl ..
  · exact .fsetB (chRegs_of_mem (by decide)) ..

theorem unfoldCell_ch (f : Device) (k : Nat) : (unfoldCell d D f n).ch k = f.ch k := by
  unfold unfoldCell
  split
  · rfl
  · exact fsetB_ch ..

/-- What follows without a RUN of a setup record. -/
def afterSettings (d D : Device) (n e : Nat) (c : Chan) : Device :=
  (((unfoldCell d D (D.setCh n c) n).dropClamp n (d.rd (aCH n 0)) (D.rd (aCH n 0))).restartPrep n e (d.rd (aCH n 0)) (d.rd (aCH n 4)) (D.rd (aCH n 0))
    (D.rd (aCH n 4))).playMode n e (d.rd (aCH n 0)) (D.rd (aCH n 0))

theorem afterReqs_eq : afterReqs d D n e rs c = match (rs.filterMap ChReq.run).getLast? with
    | some run => (afterSettings d D n e c).runQueue n e run
    | none => afterSettings d D n e c := rfl

theorem afterSettings_only : ChanOnly n (chRegs n [0x20, 0x38]) D (afterSettings d D n e c) := by
  unfold afterSettings
  exact ((((ChanOnly.setCh c D).trans (unfoldCell_only ..).wider).trans (dropClamp_only ..).wider).trans (restartPrep_only ..).wider).trans
    (playMode_only ..).wider

theorem afterSettings_waits : SameWaits c ((afterSettings d D n e c).ch n) := by
  have h := (dropClamp_waits (unfoldCell d D (D.setCh n c) n) n (d.rd (aCH n 0)) (D.rd (aCH n 0)))
  rw [unfoldCell_ch, setCh_same] at h
  unfold afterSettings
  refine SameWaits.trans ?_ (playMode_waits ..)
  rw [restartPrep_ch]
  exact h

/-- The fold-back flag after requests: it falls where they change a setting. -/
theorem afterSettings_folded : (afterSettings d D n e c).flag (aCH n 0x38) 9 = (unfoldCell d D (D.setCh n c) n).flag (aCH n 0x38) 9 := by
  unfold afterSettings
  rw [flag_eq_of_rd_eq (playMode_only ..).rd, flag_eq_of_rd_eq (restartPrep_only ..).rd, dropClamp_folded]

theorem afterReqs_only : ChanOnly n (chRegs n [0x18, 0x20, 0x38]) D (afterReqs d D n e rs c) := by
  rw [afterReqs_eq]
  split
  · exact (afterSettings_only d D n e c).wider.trans (runQueue_only ..).wider
  · exact (afterSettings_only d D n e c).wider

theorem afterReqs_waits : SameWaits c ((afterReqs d D n e rs c).ch n) := by
  rw [afterReqs_eq]
  split
  · exact (afterSettings_waits d D n e c).trans (runQueue_waits ..)
  · exact afterSettings_waits d D n e c

end

end Device
end Sys2Proof.Machine
end

section
/-!
PROOF. O13 and O14: requests to a channel apply, wait behind a bridge, or are refused.
-/

namespace Sys2Proof.Machine

-- One proof after another: the stacks of the threads that elaborate many at once exceed the memory of a check.
set_option Elab.async false

namespace Device

/-- The four registers whose writes are requests. -/
def ReqOffset (o : Nat) : Prop := o = 0 ∨ o = 4 ∨ o = 8 ∨ o = 0xC

theorem ReqOffset.lt {o : Nat} (h : ReqOffset o) : o < 0x100 := by unfold ReqOffset at h; omega

/-- Mode, ranges, code and clamps of a channel are the same in two devices. -/
def SameSettings (d D : Device) (n : Nat) : Prop :=
  D.rd (aCH n 0) = d.rd (aCH n 0) ∧ D.rd (aCH n 4) = d.rd (aCH n 4) ∧ D.rd (aCH n 8) = d.rd (aCH n 8) ∧ D.rd (aCH n 0xC) = d.rd (aCH n 0xC)

theorem unfoldCell_of_same {d D : Device} {n : Nat} (f : Device) (h : SameSettings d D n) : unfoldCell d D f n = f := if_pos h

theorem unfoldCell_of_changed {d D : Device} {n : Nat} (f : Device) (h : ¬ SameSettings d D n) :
    unfoldCell d D f n = f.fsetB (aCH n 0x38) 9 false := if_neg h

/-! One request of a register write takes effect on the settings. -/

section
variable {n : Nat} (hn : n < 1024) (d : Device) (o : Nat) (v : Word) (src : ClampSrc) (a ctx : Nat) (hr : d.retired n = false)
include hn

theorem applyReq_range (r : ChReq) : (d.applyReq n ctx r).rd (aCH n 4) = r.range.getD (d.rd (aCH n 4)) := by
  rw [(applyReq_report d ctx r hn).rd, putReq_range]

theorem applyReq_clamp (r : ChReq) : (d.applyReq n ctx r).rd (aCH n 0xC) = r.clamp.getD (d.rd (aCH n 0xC)) := by
  rw [(applyReq_report d ctx r hn).rd, putReq_clamp]

include hr in
theorem applyReq_mode (r : ChReq) : (d.applyReq n ctx r).rd (aCH n 0) = r.mode.getD (d.rd (aCH n 0)) := by
  rw [(applyReq_report d ctx r hn).rd, putReq_mode, newMode, hr]
  rfl

/-- Without a rescaling the code is the request's or stays. -/
theorem applyReq_code (r : ChReq) (hc : d.newCode n r = none) : (d.applyReq n ctx r).rd (aCH n 8) = r.force.getD (d.rd (aCH n 8)) := by
  rw [(applyReq_report d ctx r hn).rd, putReq_force d n r hc]

omit hn in
/-- A range that stays rescales nothing. -/
theorem newCode_of_same_range (r : ChReq) (hs : r.range.getD (d.rd (aCH n 4)) = d.rd (aCH n 4)) : d.newCode n r = none := by
  simp [newCode, rescales, hs]

variable (ho : ReqOffset o)
include ho hr

/-- The register written takes the word. -/
theorem applyReq_reqOf_same : (d.applyReq n ctx (reqOf o v src a)).rd (aCH n o) = v := by
  rcases ho with rfl | rfl | rfl | rfl
  · rw [applyReq_mode hn d ctx hr]; rfl
  · rw [applyReq_range hn]; rfl
  · rw [applyReq_code hn d ctx _ (newCode_of_force d rfl)]; rfl
  · rw [applyReq_clamp hn]; rfl

omit ho in
/-- Mode, ranges and clamps not written stay. -/
theorem applyReq_reqOf_other {o' : Nat} (ho' : o' ∈ [0, 4, 0xC]) (hne : o' ≠ o) :
    (d.applyReq n ctx (reqOf o v src a)).rd (aCH n o') = d.rd (aCH n o') := by
  simp only [List.mem_cons, List.not_mem_nil, or_false] at ho'
  rcases ho' with rfl | rfl | rfl
  · rw [applyReq_mode hn d ctx hr, reqOf, if_neg (Ne.symm hne)]; rfl
  · rw [applyReq_range hn, reqOf, if_neg (Ne.symm hne)]; rfl
  · rw [applyReq_clamp hn, reqOf, if_neg (Ne.symm hne)]; rfl

omit hr ho in
/-- The code stays unless it is written or a range changes. -/
theorem applyReq_reqOf_code (h8 : o ≠ 8) (h4 : o = 4 → v = d.rd (aCH n 4)) :
    (d.applyReq n ctx (reqOf o v src a)).rd (aCH n 8) = d.rd (aCH n 8) := by
  rw [applyReq_code hn d ctx _ (newCode_of_same_range d _ ?_), reqOf, if_neg h8]
  · rfl
  · rw [reqOf]
    dsimp only
    split
    next h => exact h4 h
    next => rfl

/-- The settings stay exactly where the register written keeps its word. -/
theorem applyReq_reqOf_settings : SameSettings d (d.applyReq n ctx (reqOf o v src a)) n ↔ v = d.rd (aCH n o) := by
  have hsame := applyReq_reqOf_same hn d o v src a ctx hr ho
  constructor
  · rintro ⟨h0, h4, h8, hC⟩
    rw [← hsame]
    rcases ho with rfl | rfl | rfl | rfl
    · exact h0
    · exact h4
    · exact h8
    · exact hC
  · intro hv
    have hkeep (o' : Nat) (ho' : o' ∈ [0, 4, 0xC]) : (d.applyReq n ctx (reqOf o v src a)).rd (aCH n o') = d.rd (aCH n o') := by
      by_cases h : o' = o
      · rw [h, hsame, hv]
      · exact applyReq_reqOf_other hn d o v src a ctx hr ho' h
    refine ⟨hkeep 0 (by decide), hkeep 4 (by decide), ?_, hkeep 0xC (by decide)⟩
    by_cases h : o = 8
    · subst h
      rw [hsame, hv]
    · exact applyReq_reqOf_code hn d o v src a ctx h fun h4 => by rw [hv, h4]

end

/-! A request that nothing holds back. -/

section
variable {n : Nat} (d : Device) (o : Nat) (p : Party) (raw : Word) (e : Nat)

/-- The device once a write's clamps are reported. -/
def reported (d : Device) (n o : Nat) (p : Party) (raw : Word) : Device := d.reportHits (srcOf p) (aCH n o) (aCH n o) 0 0xFFFF (d.cook (aCH n o) raw).2

/-- The request of a register write. -/
def written (d : Device) (n o : Nat) (p : Party) (raw : Word) : ChReq := reqOf o (d.cook (aCH n o) raw).1 (srcOf p) (aCH n o)

/-- A request that is not refused reaches the channel. -/
theorem writeReq_of_accepted (hc : d.capo = 0) (hr : d.retired n = false) (hg : d.govRefuses (d.previewReqs n [d.written n o p raw]) = false) :
    d.writeReq n o p raw = (d.reported n o p raw).requests n d.nextEdge [d.written n o p raw] 0xFFFF := by
  unfold written at hg
  unfold writeReq
  dsimp only
  rw [if_neg (by omega), hr, Bool.and_false, Bool.false_and, if_neg Bool.false_ne_true, hg, if_neg Bool.false_ne_true]
  rfl

theorem reported_ch (k : Nat) : (d.reported n o p raw).ch k = d.ch k := reportHits_ch ..

variable {o} (hn : n < 1024) (ho : o < 0x100)
include hn ho

theorem reported_only : ChanOnly n (chRegs n [0x3C]) d (d.reported n o p raw) :=
  .of_plant (fun b hb hr => reportHits_rd _ _ _ _ _ _ _ b (fun h => hb ⟨0x3C, by decide, (eventReg_aCH hn ho).mp h⟩) hr) (reportHits_plant ..)

end

theorem queued_of_ch {d e : Device} {n : Nat} (h : e.ch n = d.ch n) : e.queued n = d.queued n := by rw [queued, queued, h]

theorem bridging_of_ch {d e : Device} {n : Nat} (h : e.ch n = d.ch n) (k : Nat) : e.bridging n k = d.bridging n k := by rw [bridging, bridging, h]

/-- With nothing waiting and no bridge a request takes effect. -/
theorem requests_of_free {d : Device} {n e : Nat} (r : ChReq) (ctx : Nat) (hrun : r.run = none) (hq : d.queued n = false) (hb : d.bridging n e = false) :
    ∃ c, d.requests n e [r] ctx = afterSettings d (d.applyReq n ctx r) n e c := by
  obtain ⟨c, -, he⟩ := applyReqs_eq_afterReqs d n e ctx (List.cons_ne_nil r [])
  refine ⟨c, ?_⟩
  unfold requests
  rw [hq, hb, if_neg (by simp), he, afterReqs_eq, List.filterMap_cons_none hrun]
  rfl

section
variable {n o : Nat} (hn : n < 1024) (ho : ReqOffset o) (d : Device) (p : Party) (raw : Word)
  (hc : d.capo = 0) (hr : d.retired n = false) (hg : d.govRefuses (d.previewReqs n [d.written n o p raw]) = false)
include hn ho hc hr hg

/-- What a request leaves that takes effect at once. -/
theorem writeReq_applies (hq : d.queued n = false) (hb : d.bridging n d.nextEdge = false) : (let t := d.writeReq n o p raw
    t.rd (aCH n o) = (d.cook (aCH n o) raw).1 ∧
    (∀ o' ∈ [0, 4, 0xC], o' ≠ o → t.rd (aCH n o') = d.rd (aCH n o')) ∧
    (o = 0 ∨ o = 0xC → t.rd (aCH n 8) = d.rd (aCH n 8)) ∧
    t.flag (aCH n 0x38) 9 = (if t.rd (aCH n o) = d.rd (aCH n o) then d.flag (aCH n 0x38) 9 else false) ∧
    ChanOnly n (chRegs n [0, 4, 8, 0xC, 0x20, 0x38, 0x3C]) d t) := by
  have hrep := reported_only d p raw hn ho.lt
  have hch := reported_ch (n := n) d o p raw n
  obtain ⟨c, he⟩ := requests_of_free (d := d.reported n o p raw) (e := d.nextEdge) (d.written n o p raw) 0xFFFF rfl
    ((queued_of_ch hch).trans hq) ((bridging_of_ch hch _).trans hb)
  rw [writeReq_of_accepted d o p raw hc hr hg, he]
  set e := d.reported n o p raw
  set D := e.applyReq n 0xFFFF (d.written n o p raw)
  have hre : e.retired n = false := (flag_eq_of_rd_eq hrep.rd _).trans hr
  have hD := applyReq_only e 0xFFFF (d.written n o p raw) hn
  have hA := afterSettings_only e D n d.nextEdge c
  have hmem : o ∉ [0x20, 0x38] ∧ o ∉ [0x3C] := by
    rcases ho with rfl | rfl | rfl | rfl <;> decide
  have hown : (afterSettings e D n d.nextEdge c).rd (aCH n o) = (d.cook (aCH n o) raw).1 :=
    (hA.rd hmem.1).trans (applyReq_reqOf_same hn e o _ _ _ 0xFFFF hre ho)
  refine ⟨hown, fun o' ho' hne => ?_, fun h => ?_, ?_, ?_⟩
  · have hm' : o' ∉ [0x20, 0x38] ∧ o' ∉ [0x3C] := by
      clear hne
      revert o'
      decide
    exact ((hA.rd hm'.1).trans (applyReq_reqOf_other hn e o _ _ _ 0xFFFF hre ho' hne)).trans (hrep.rd hm'.2)
  · exact (hA.rd.trans (applyReq_reqOf_code hn e o _ _ _ 0xFFFF (by omega) (by omega))).trans hrep.rd
  · have hiff : SameSettings e D n ↔ (d.cook (aCH n o) raw).1 = d.rd (aCH n o) :=
      hrep.rd hmem.2 ▸ applyReq_reqOf_settings hn e o (d.cook (aCH n o) raw).1 (srcOf p) (aCH n o) 0xFFFF hre ho
    rw [afterSettings_folded, hown]
    by_cases hv : (d.cook (aCH n o) raw).1 = d.rd (aCH n o)
    · rw [unfoldCell_of_same _ (hiff.mpr hv), if_pos hv, flag_setCh, flag_eq_of_rd_eq hD.rd, flag_eq_of_rd_eq hrep.rd]
    · rw [unfoldCell_of_changed _ fun h => hv (hiff.mp h), if_neg hv, flag_fsetB_same _ _ (by decide)]
  · exact (hrep.wider.trans hD.wider).trans hA.wider

/-- A request that something holds back waits behind it. -/
theorem writeReq_waits (hw : d.queued n = true ∨ (d.bridging n d.nextEdge = true ∧ d.changesMux n (d.written n o p raw) = true)) :
    (let t := d.writeReq n o p raw
     t.ch n = { d.ch n with waiting := (d.ch n).waiting ++ [d.written n o p raw] } ∧ ChanOnly n (chRegs n [0x3C]) d t) := by
  have hrep := reported_only d p raw hn ho.lt
  have hch := reported_ch (n := n) d o p raw n
  have hmux : (d.reported n o p raw).changesMux n (d.written n o p raw) = d.changesMux n (d.written n o p raw) := by
    unfold changesMux
    rw [hrep.rd, hrep.rd]
  rw [writeReq_of_accepted d o p raw hc hr hg]
  unfold requests
  rw [queued_of_ch hch, bridging_of_ch hch, hch, if_pos]
  · exact ⟨setCh_same .., hrep.trans (.setCh ..)⟩
  · rw [List.any_cons, List.any_nil, hmux, Bool.or_false]
    simpa using hw

end

/-- Under HOLD and SAFE a request is refused (R71, R72). -/
theorem writeReq_of_capo {d : Device} (n o : Nat) (p : Party) (raw : Word) (hc : d.capo ≠ 0) : d.writeReq n o p raw = d.refuse (aCH n o) := by
  unfold writeReq
  dsimp only
  rw [if_pos hc]

end Device

theorem chRegs_cons {n o a : Nat} {os : List Nat} : Device.chRegs n (o :: os) a ↔ a = aCH n o ∨ Device.chRegs n os a := by
  simp [Device.chRegs]

theorem not_chRegs_nil {n a : Nat} : ¬ Device.chRegs n [] a := nofun

/-- A request's command and its register. -/
theorem reqCommand {n : Fin 1024} {w : Wr} {o : Nat} {c : Instr}
    (h : (o, c) ∈ [(0, Instr.chModeWrite n w), (4, .chRangeWrite n w), (8, .chForceWrite n w), (0xC, .chClampWrite n w)]) (s : State) :
    Device.ReqOffset o ∧ exec c s = .next (s.onDev fun d => d.write w (aCH n o) fun d => d.writeReq n o w.by_ w.data) := by
  simp only [List.mem_cons, Prod.mk.injEq, List.not_mem_nil, or_false] at h
  rcases h with ⟨rfl, rfl⟩ | ⟨rfl, rfl⟩ | ⟨rfl, rfl⟩ | ⟨rfl, rfl⟩
  · exact ⟨.inl rfl, rfl⟩
  · exact ⟨.inr (.inl rfl), rfl⟩
  · exact ⟨.inr (.inr (.inl rfl)), rfl⟩
  · exact ⟨.inr (.inr (.inr rfl)), rfl⟩

namespace Device

/-! What a word written to a channel's register becomes. -/

/-- A configuration field with a range of its own takes the nearest value of it. -/
theorem bitsOf_cook {d : Device} {a : Nat} (raw : Word) {f : Fld} (hap : fieldsApart (regFields a) = true) (hf : f ∈ regFields a)
    (hacc : f.acc = .rw ∨ f.acc = .rws ∨ f.acc = .wo) (hs : ∀ x, d.specialClamp a f x = none) (hl : ∀ u, d.limitOf a raw u f = f.lim) :
    bitsOf (d.cook a raw).1 f.lo f.width = f.lim.clamp f.width (bitsOf raw f.lo f.width) % 2 ^ f.width := by
  have h := (fieldsObeyAccessTypes.1 d a raw hap).1 f hf
  rcases hacc with hacc | hacc | hacc
  · rw [hacc] at h
    exact h.2 (hs _) hl
  · rw [hacc] at h
    exact h.2 (hs _) hl
  · rw [hacc] at h
    exact h.2 (hs _) hl

/-- Fields whose values are not clamped by a rule of their own. -/
def plainFld (f : Fld) : Prop := f.name ≠ "STMIN" ∧ f.name ≠ "ZPOS" ∧ f.name ≠ "PRESENT" ∧ f.name ≠ "OFFSET" ∧ f.name ≠ "VTHL"

section
variable {d : Device} {n o : Nat} (hn : n < 1024) (ho : o < 0x100) {f : Fld} (hp : plainFld f)
include hn ho hp

theorem specialClamp_aCH (x : Nat) : d.specialClamp (aCH n o) f x = none := by
  obtain ⟨h1, h2, h3, h4, -⟩ := hp
  obtain ⟨ha, ha'⟩ := aCH_lt hn ho
  unfold specialClamp
  rw [if_neg h1, if_neg h2, if_neg h3, if_neg h4, if_neg (by omega), if_neg (by omega), if_neg (by omega)]

theorem limitOf_aCH (h24 : o ≠ 0x24) (h28 : o ≠ 0x28) (raw v : Word) : d.limitOf (aCH n o) raw v f = f.lim := by
  obtain ⟨-, -, -, -, h5⟩ := hp
  unfold limitOf
  dsimp only
  rw [if_pos (aCH_block hn ho), aCH_mod ho, if_neg h24, if_neg h28, if_neg h5]

/-- A configuration field of a channel takes the nearest value of its range. -/
theorem bitsOf_cook_aCH (raw : Word) (h4 : o % 4 = 0) (h24 : o ≠ 0x24) (h28 : o ≠ 0x28) (h38 : o ≠ 0x38)
    (hap : fieldsApart (findRow chRows o) = true) (hf : f ∈ findRow chRows o) (hacc : f.acc = .rw ∨ f.acc = .rws ∨ f.acc = .wo) :
    bitsOf (d.cook (aCH n o) raw).1 f.lo f.width = f.lim.clamp f.width (bitsOf raw f.lo f.width) % 2 ^ f.width := by
  have hrow := regFields_aCH hn ho h4 h38
  exact bitsOf_cook raw (hrow ▸ hap) (hrow ▸ hf) hacc (specialClamp_aCH hn ho hp) (limitOf_aCH hn ho hp h24 h28 raw)

end

end Device

/-- The fields of CH_MODE after a write (R40). -/
theorem cook_chMode {d : Device} {n : Nat} (hn : n < 1024) (raw : Word) (hm : bitsOf raw 0 3 ≤ 6) :
    bitsOf (d.cook (aCH n 0) raw).1 0 3 = bitsOf raw 0 3 ∧ bitsOf (d.cook (aCH n 0) raw).1 4 1 = bitsOf raw 4 1 ∧
    bitsOf (d.cook (aCH n 0) raw).1 8 1 = bitsOf raw 8 1 := by
  have hfld (f : Fld) (hf : f ∈ findRow chRows 0) (hp : Device.plainFld f) (hacc : f.acc = .rw) :=
    Device.bitsOf_cook_aCH (d := d) hn (by decide) hp raw rfl (by decide) (by decide) (by decide) (by decide) hf (.inl hacc)
  have hmode : bitsOf (d.cook (aCH n 0) raw).1 0 3 = clampNat 0 6 (bitsOf raw 0 3) % 2 ^ 3 := hfld ⟨"MODE", 0, 3, .rw, some 0, .rng 0 6⟩ (by decide) (by unfold Device.plainFld; decide) rfl
  have hddrv := hfld ⟨"DDRV", 4, 1, .rw, none, .any⟩ (by decide) (by unfold Device.plainFld; decide) rfl
  have hwkind := hfld ⟨"WKIND", 8, 1, .rw, none, .any⟩ (by decide) (by unfold Device.plainFld; decide) rfl
  refine ⟨hmode.trans ?_, hddrv.trans (Nat.mod_eq_of_lt (bitsOf_lt ..)), hwkind.trans (Nat.mod_eq_of_lt (bitsOf_lt ..))⟩
  rw [clampNat, if_neg (by omega), if_neg (by omega), Nat.mod_eq_of_lt (bitsOf_lt ..)]

/-- Settles O13: a request that nothing holds back takes effect at once. -/
theorem channelSettingApplies : Obligations.ChannelSettingApplies := by
  unfold Obligations.ChannelSettingApplies
  refine ⟨fun n w s o c hmem hadm hc hr hg hq hb => ?_, fun n w s hm hadm hc hr hg hq hb => ?_⟩
  · obtain ⟨ho, he⟩ := reqCommand hmem s
    obtain ⟨hsame, hother, hcode, hfold, honly⟩ := Device.writeReq_applies n.isLt ho s.dev w.by_ w.data hc hr hg hq hb
    refine givesDev_write he hadm ⟨hsame, hother, hcode, hfold, honly.chans, honly.regs.mono fun a ha => ?_⟩
    simpa only [chRegs_cons, not_chRegs_nil, or_false] using ha
  · obtain ⟨hsame, -⟩ := Device.writeReq_applies n.isLt (.inl rfl) s.dev w.by_ w.data hc hr hg hq hb
    refine givesDev_write rfl hadm ?_
    obtain ⟨hmode, hddrv, hwkind⟩ := cook_chMode (d := s.dev) n.isLt w.data hm
    rw [← hsame] at hmode hddrv hwkind
    exact ⟨hmode, by rw [Device.flag, Device.fget, hddrv, bitOf], by rw [Device.flag, Device.fget, hwkind, bitOf]⟩

/-- A command of a channel's register is refused: its event, a notice, and nothing else. -/
theorem refuse_channel {n o : Nat} (hn : n < 1024) (ho : o < 0x100) (d : Device) :
    (d.refuse (aCH n o)).flag (aCH n 0x3C) 4 = true ∧ Device.keepsRegs (fun a => a = aCH n 0x3C) d (d.refuse (aCH n o)) := by
  constructor
  · have hrd : (d.refuse (aCH n o)).rd (aCH n 0x3C) = (d.eventRefused (aCH n o)).rd (aCH n 0x3C) := Device.noticeRefused_rd _ _ _ (reportReg_aCH n 0x3C)
    have hlt := aCH_lt hn ho
    rw [Device.flag_eq_of_rd_eq hrd, Device.eventRefused, if_neg (by omega), blockEvents_aCH hn ho]
    exact Device.event_flag _ _ _ (by decide) (by unfold aCH; omega)
  · exact fun b hb hr => Device.refuse_rd _ _ _ (fun h => hb ((eventReg_aCH hn ho).mp h)) hr

/-- Settles O14: a request waits behind what holds it back, and is refused under HOLD and SAFE. -/
theorem channelSettingsWaitOrRefused : Obligations.ChannelSettingsWaitOrRefused := by
  unfold Obligations.ChannelSettingsWaitOrRefused
  refine ⟨fun n w s o c hmem hadm hc hr hg hw => ?_, fun n w s o c hmem hadm hc => ?_⟩
  · obtain ⟨ho, he⟩ := reqCommand hmem s
    obtain ⟨hch, honly⟩ := Device.writeReq_waits n.isLt ho s.dev w.by_ w.data hc hr hg hw
    refine givesDev_write he hadm ⟨hch, honly.chans, honly.regs.mono fun a ha => ?_⟩
    simpa only [chRegs_cons, not_chRegs_nil, or_false] using ha
  · obtain ⟨ho, he⟩ := reqCommand hmem s
    refine givesDev_write he hadm ?_
    rw [Device.writeReq_of_capo _ _ _ _ hc]
    exact ⟨Device.refuse_plant .., refuse_channel n.isLt ho.lt s.dev⟩

end Sys2Proof.Machine
end

section
/-!
PROOF. O15 and O17: the DAC queue, clamps and fold-back of a channel.
-/

namespace Sys2Proof.Machine

-- One proof after another: the stacks of the threads that elaborate many at once exceed the memory of a check.
set_option Elab.async false

namespace Device

section
variable (d : Device) (n e : Nat)

/-! RUN and the write index. -/

theorem startPlay_wr : ((d.startPlay n e).ch n).wr = (d.ch n).wr := by rw [startPlay, setCh_same]

theorem playOne_wr : ((d.playOne n).ch n).wr = (d.ch n).wr := by
  unfold playOne
  dsimp only
  split
  · split
    · rw [event_ch, setCh_same]
    · rw [setCh_same]
  · rw [setCh_same]
  · split
    · rw [setCh_same]
    · rw [setCh_same]

theorem beginPlay_wr : ((d.beginPlay n e).ch n).wr = (d.ch n).wr := by
  unfold beginPlay
  dsimp only
  split
  · rw [playOne_wr, startPlay_wr]
  · rw [startPlay_wr]

theorem runQueue_wr (run : Bool) : ((d.runQueue n e run).ch n).wr = (d.ch n).wr := by
  unfold runQueue
  dsimp only
  split
  · split
    · rfl
    · split
      · rw [beginPlay_wr, fset_ch']
      · rw [fset_ch']
  · rw [fset_ch']

@[simp] theorem flag_fset_same {a i : Nat} (x : Nat) (hi : i < 32) : (d.fset a i 1 x).flag a i = decide (x % 2 = 1) := by
  rw [flag, fget_fset_same _ _ _ (by omega), pow_one]

/-- RUN follows the write. -/
theorem runQueue_run (run : Bool) : (d.runQueue n e run).flag (aCH n 0x18) 31 = run := by
  unfold runQueue
  dsimp only
  split
  next hrun =>
    rw [hrun]
    split
    next h => exact h
    next =>
      split
      · rw [flag_eq_of_rd_eq (beginPlay_only _ n e).rd, flag_fset_same _ _ (by decide)]
        rfl
      · rw [flag_fset_same _ _ (by decide)]
        rfl
  next hrun =>
    rw [flag_fset_same _ _ (by decide), Bool.eq_false_iff.mpr hrun]
    rfl

end


section
variable (d : Device) {n : Nat} (hn : n < 1024) (p : Party) (raw : Word)

/-- The code that a write of CH_QWR carries. -/
def qwrCode (d : Device) (n : Nat) (raw : Word) : Nat := bitsOf (d.cook (aCH n 0x1C) raw).1 0 18

/-- A code goes behind those that a STREAM queue holds. -/
theorem queueWrite_stream (hq : d.fget (aCH n 0x18) 0 2 = 0) (hc : d.capo = 0) (hf : (d.ch n).fill < 4096) :
    d.queueWrite n p raw = (d.reported n 0x1C p raw).setCh n { d.ch n with
      codes := tabSet (fun _ => 0) (((d.ch n).rd + (d.ch n).fill) % 4096) (d.qwrCode n raw) (d.ch n).codes, fill := (d.ch n).fill + 1 } := by
  unfold queueWrite
  dsimp only
  rw [if_neg (by omega), if_pos hq, if_neg (by omega), reportHits_ch]
  rfl

/-- A code goes to the write index of a LOOP or ONCE queue. -/
theorem queueWrite_indexed (hq : d.fget (aCH n 0x18) 0 2 ≠ 0) (hc : d.capo ≠ 2) :
    d.queueWrite n p raw = (d.reported n 0x1C p raw).setCh n { d.ch n with
      codes := tabSet (fun _ => 0) ((d.ch n).wr % 4096) (d.qwrCode n raw) (d.ch n).codes, wr := ((d.ch n).wr + 1) % 4096 } := by
  unfold queueWrite
  dsimp only
  rw [if_neg (by omega), if_neg hq, reportHits_ch]
  rfl

include hn in
theorem reported_setCh_only (c : Chan) : ChanOnly n (chRegs n [0x3C]) d ((d.reported n 0x1C p raw).setCh n c) :=
  (reported_only d p raw hn (by decide)).trans (.setCh ..)

/-! A write of CH_QCTL. -/

/-- The device when a write of CH_QCTL has stored its fields, before RUN acts. -/
def qctlStored (d : Device) (n : Nat) (p : Party) (raw : Word) : Device :=
  (((d.putCooked p (aCH n 0x18) raw).fset (aCH n 0x18) 31 1 (d.fget (aCH n 0x18) 31 1)).setCh n
    { ((d.putCooked p (aCH n 0x18) raw).fset (aCH n 0x18) 31 1 (d.fget (aCH n 0x18) 31 1)).ch n with wr := 0 })

theorem queueControl_of_accepted (hc : d.capo = 0) (hr : d.flag (aCH n 0x18) 31 = true → d.reachesRws (aCH n 0x18) raw = false) :
    d.queueControl n p raw = (d.qctlStored n p raw).runQueue n (d.qctlStored n p raw).nextEdge (bitOf raw 31) := by
  unfold queueControl
  dsimp only
  rw [if_neg (by omega), if_neg]
  · rfl
  · intro h
    rw [Bool.and_eq_true] at h
    rw [hr h.1] at h
    exact Bool.false_ne_true h.2

include hn in
theorem qctlStored_only : ChanOnly n (chRegs n [0x18, 0x3C]) d (d.qctlStored n p raw) := by
  have hput : ChanOnly n (chRegs n [0x18, 0x3C]) d (d.putCooked p (aCH n 0x18) raw) := .of_plant
    ((putCooked_keepsRegs d p (aCH n 0x18) raw).mono fun b hb => hb.elim (fun h => ⟨0x18, by decide, h⟩)
      fun h => ⟨0x3C, by decide, (eventReg_aCH hn (by decide)).mp h⟩) (putCooked_plant ..)
  exact (hput.trans (.fset (chRegs_of_mem (by decide)) ..)).trans (.setCh ..)

theorem qctlStored_wr : ((d.qctlStored n p raw).ch n).wr = 0 := by rw [qctlStored, setCh_same]

end

end Device

theorem bitOf_setBits_same (v : Word) {i x : Nat} (hi : i < 32) : bitOf (setBits v i 1 x) i = decide (x % 2 = 1) := by
  rw [bitOf, bitsOf_setBits_same _ _ (by omega), pow_one]

/-- The commands that write CH_QCTL with RUN as given. -/
theorem runCommand {n : Fin 1024} {w : Wr} {run : Bool} {c : Instr}
    (h : (run, c) ∈ [(true, Instr.queueRunStart n w), (false, .queueRunStop n w)]) (s : State) :
    exec c s = .next (s.onDev fun d => d.write w (aCH n 0x18) fun d => d.queueControl n w.by_ (setBits w.data 31 1 (if run then 1 else 0))) := by
  simp only [List.mem_cons, Prod.mk.injEq, List.not_mem_nil, or_false] at h
  rcases h with ⟨rfl, rfl⟩ | ⟨rfl, rfl⟩
  · rfl
  · rfl

/-- Settles O15: codes are appended or stored at the write index, and RUN follows CH_QCTL. -/
theorem queueWritesAndRun : Obligations.QueueWritesAndRun := by
  unfold Obligations.QueueWritesAndRun
  refine ⟨fun n w s hadm hc hroom => ?_, fun n w s run c hmem hadm hc hr => ?_⟩
  · refine givesDev_write rfl hadm ?_
    have hregs (c : Chan) : Device.keepsRegs (fun a => a = aCH n 0x20 ∨ a = aCH n 0x3C) s.dev ((s.dev.reported n 0x1C w.by_ w.data).setCh n c) :=
      (s.dev.reported_setCh_only n.isLt w.by_ w.data c).regs.mono fun a ha => .inr (by simpa only [chRegs_cons, not_chRegs_nil, or_false] using ha)
    have hchans (c : Chan) := (s.dev.reported_setCh_only n.isLt w.by_ w.data c).chans
    by_cases hq : s.dev.fget (aCH n 0x18) 0 2 = 0
    · rw [s.dev.queueWrite_stream w.by_ w.data hq (by omega) (by omega)]
      refine ⟨hchans _, fun _ => ?_, fun h => absurd hq h, hregs _⟩
      rw [Device.setCh_same]
      exact ⟨rfl, fun i => tabGet_tabSet ..⟩
    · rw [s.dev.queueWrite_indexed w.by_ w.data hq (by omega)]
      refine ⟨hchans _, fun h => absurd h hq, fun _ => ?_, hregs _⟩
      rw [Device.setCh_same]
      exact ⟨rfl, fun i => tabGet_tabSet ..⟩
  · refine givesDev_write (runCommand hmem s) hadm ?_
    have hrun : bitOf (setBits w.data 31 1 (if run then 1 else 0)) 31 = run := by
      rw [bitOf_setBits_same _ (by decide)]
      cases run <;> rfl
    rw [s.dev.queueControl_of_accepted w.by_ _ hc hr, hrun]
    set stored := s.dev.qctlStored n w.by_ (setBits w.data 31 1 (if run then 1 else 0))
    have honly : Device.ChanOnly n (Device.chRegs n [0x18, 0x20, 0x3C]) s.dev (stored.runQueue n stored.nextEdge run) :=
      (s.dev.qctlStored_only n.isLt w.by_ _).wider.trans (Device.runQueue_only ..).wider
    refine ⟨Device.runQueue_run .., ?_, honly.chans, honly.regs.mono fun a ha => ?_⟩
    · rw [Device.runQueue_wr, Device.qctlStored_wr]
    · simpa only [chRegs_cons, not_chRegs_nil, or_false] using ha

namespace Device
section
variable (d : Device) (n : Nat)

/-! An update edge of the queue (R49, R50). -/

theorem dacUpdate_of_runs (hu : d.updates n = true) (hc : d.capo = 0) (hr : d.flag (aCH n 0x18) 31 = true) : d.dacUpdate n = d.playOne n := by
  rw [dacUpdate, hu, hc, hr]
  rfl

theorem dacUpdate_of_stops (hu : d.updates n = true) (hc : d.capo = 0) (hr : d.flag (aCH n 0x18) 31 = false) :
    d.dacUpdate n = d.setCh n (d.ch n).halt := by
  rw [dacUpdate, hu, hc, hr]
  rfl

/-- The code at the read position. -/
def qCode (c : Chan) : Nat := tabGet (fun _ => 0) c.codes (c.rd % 4096)

theorem playOne_loop (h : d.fget (aCH n 0x18) 0 2 = 1) : ((d.playOne n).ch n).held = qCode (d.ch n) ∧
    ((d.playOne n).ch n).rd = if (d.ch n).rd + 1 < d.fget (aCH n 0x18) 16 13 then (d.ch n).rd + 1 else 0 := by
  unfold playOne
  dsimp only
  split
  next h0 => omega
  next =>
    rw [setCh_same]
    exact ⟨rfl, rfl⟩
  next _ h1 => exact absurd h h1

theorem playOne_stream (h : d.fget (aCH n 0x18) 0 2 = 0) (hf : 0 < (d.ch n).fill) : ((d.playOne n).ch n).held = qCode (d.ch n) ∧
    ((d.playOne n).ch n).fill = (d.ch n).fill - 1 ∧ ((d.playOne n).ch n).rd = ((d.ch n).rd % 4096 + 1) % 4096 := by
  unfold playOne
  dsimp only
  split
  next =>
    rw [if_neg (by omega), setCh_same]
    exact ⟨rfl, rfl, rfl⟩
  next h1 => omega
  next h0 _ => exact absurd h h0

theorem playOne_starved (h : d.fget (aCH n 0x18) 0 2 = 0) (hf : (d.ch n).fill = 0) : ((d.playOne n).ch n).held = (d.ch n).held ∧
    ((d.playOne n).ch n).starved = true ∧ (d.playOne n).flag (aCH n 0x20) 30 = true := by
  unfold playOne
  dsimp only
  split
  next =>
    rw [if_pos hf, event_ch, setCh_same]
    exact ⟨rfl, rfl, event_flag _ _ _ (by decide) (by unfold aCH; omega)⟩
  next h1 => omega
  next h0 _ => exact absurd h h0

theorem playOne_once (h : 2 ≤ d.fget (aCH n 0x18) 0 2) (hr : (d.ch n).rd < d.fget (aCH n 0x18) 16 13) :
    ((d.playOne n).ch n).held = qCode (d.ch n) ∧ ((d.playOne n).ch n).rd = (d.ch n).rd + 1 := by
  unfold playOne
  dsimp only
  split
  next h0 => omega
  next h1 => omega
  next =>
    rw [if_pos hr, setCh_same]
    exact ⟨rfl, rfl⟩

theorem playOne_ended (h : 2 ≤ d.fget (aCH n 0x18) 0 2) (hr : d.fget (aCH n 0x18) 16 13 ≤ (d.ch n).rd) :
    ((d.playOne n).ch n).held = (d.ch n).held ∧ ((d.playOne n).ch n).rd = (d.ch n).rd := by
  unfold playOne
  dsimp only
  split
  next h0 => omega
  next h1 => omega
  next =>
    rw [if_neg (by omega), setCh_same]
    exact ⟨rfl, rfl⟩

/-- The next update edge is DIV Ts later. -/
theorem playOne_grid : ((d.playOne n).ch n).grid = d.edge + d.fget (aCH n 0x14) 0 13 := by
  unfold playOne
  dsimp only
  split
  · split
    · rw [event_ch, setCh_same]
    · rw [setCh_same]
  · rw [setCh_same]
  · split
    · rw [setCh_same]
    · rw [setCh_same]

theorem playOne_rd {a : Nat} (h : a ≠ aCH n 0x20) (hp : a ≠ 0xD9000) : (d.playOne n).rd a = d.rd a := by
  unfold playOne
  dsimp only
  split
  · split
    · exact event_rd _ _ _ _ h hp
    · rfl
  · rfl
  · split
    · rfl
    · rfl

/-! Clamps and fold-back (R55 to R57). -/

theorem cellCondition_rd (code : Nat) {a : Nat} (h : reportReg a = false) : (d.cellCondition n code).rd a = d.rd a := report_rd _ _ _ _ h
theorem cellCondition_ch (code k : Nat) : (d.cellCondition n code).ch k = d.ch k := report_ch ..
theorem cellCondition_flag (o code i : Nat) : (d.cellCondition n code).flag (aCH n o) i = d.flag (aCH n o) i :=
  flag_eq_of_rd_eq (cellCondition_rd d n code (reportReg_aCH n o)) i
theorem cellCondition_only (k code : Nat) (own : Nat → Prop) : ChanOnly k own d (d.cellCondition n code) :=
  .of_plant (fun _ _ h => cellCondition_rd d n code h) (report_plant ..)

theorem aCH_ne_pending (o : Nat) : aCH n o ≠ 0xD9000 := by unfold aCH; omega

/-- A condition of a cell that shows in CH_STATUS with its event and a class D event. -/
def cellEvent (d : Device) (n bit code : Nat) : Device := (((d.fsetB (aCH n 0x38) (8 + bit) true).event (aCH n 0x3C) bit).cellCondition n code)

theorem cellEvent_only (k bit code : Nat) (hk : k = n) : ChanOnly k (chRegs n [0x38, 0x3C]) d (d.cellEvent n bit code) := by
  subst hk
  exact ((ChanOnly.fsetB (chRegs_of_mem (by decide)) _ _ d).trans (.event (chRegs_of_mem (by decide)) ..)).trans (cellCondition_only ..)

theorem cellEvent_status {bit : Nat} (hb : bit < 8) (code : Nat) : (d.cellEvent n bit code).flag (aCH n 0x38) (8 + bit) = true := by
  have hrd (e : Device) : (e.event (aCH n 0x3C) bit).rd (aCH n 0x38) = e.rd (aCH n 0x38) :=
    event_rd _ _ _ _ (by rw [Ne, aCH_inj]; decide) (aCH_ne_pending n _)
  rw [cellEvent, cellCondition_flag, flag_eq_of_rd_eq (hrd _), flag_fsetB_same _ _ (by omega)]

theorem cellEvent_event {bit : Nat} (hb : bit < 8) (code : Nat) : (d.cellEvent n bit code).flag (aCH n 0x3C) bit = true := by
  rw [cellEvent, cellCondition_flag, event_flag _ _ _ (by omega) (aCH_ne_pending n _)]

theorem cellEvent_ch (bit code k : Nat) : (d.cellEvent n bit code).ch k = d.ch k := by rw [cellEvent, cellCondition_ch, event_ch, fsetB_ch]
theorem cellEvent_plant (bit code : Nat) : (d.cellEvent n bit code).plant = d.plant := by
  rw [cellEvent, cellCondition, report_plant, event_plant, fsetB_plant]

theorem clampOn_of_engages (hk : clampKind (d.rd (aCH n 0)) ≠ 0) (hs : (d.ch n).clampSince = none) :
    d.clampOn n = (d.setCh n { d.ch n with clampSince := some d.edge, clampHit := true }).cellEvent n 0 0x20 := by
  unfold clampOn
  rw [if_neg (by simp [hk, hs])]
  rfl

theorem foldBack_of_held {e : Nat} (he : (d.ch n).clampSince = some e) (hen : d.flag (aCH n 0x10) 31 = true)
    (ht : 2048 * d.fget (aCH n 0x10) 0 14 ≤ 100 * (d.edge - e)) (hf : d.flag (aCH n 0x38) 9 = false) : d.foldBack n = d.cellEvent n 1 0x21 := by
  unfold foldBack
  rw [he]
  dsimp only
  rw [hen, hf, decide_eq_true ht]
  exact if_pos rfl

end
end Device

/-- Settles O17: update edges play codes, clamps engage and release, and cells fold back. -/
theorem dacAndClampsAct : Obligations.DacAndClampsAct := by
  unfold Obligations.DacAndClampsAct
  refine ⟨fun n s hu hc => ⟨fun hr => ?_, fun hr => ?_⟩, fun n s => ⟨fun hk hs => ?_, ?_, fun e he hen ht hf => ?_⟩⟩
  · refine givesDev_onDev rfl ?_
    rw [s.dev.dacUpdate_of_runs n hu hc hr]
    exact ⟨s.dev.playOne_loop n, s.dev.playOne_stream n, s.dev.playOne_starved n, s.dev.playOne_once n, s.dev.playOne_ended n, s.dev.playOne_grid n,
      (s.dev.playOne_only n).chans, fun _ => s.dev.playOne_rd n⟩
  · refine givesDev_onDev rfl ?_
    rw [s.dev.dacUpdate_of_stops n hu hc hr]
    exact ⟨Device.setCh_same .., fun m hm => Device.setCh_other _ _ _ m hm, fun _ => rfl⟩
  · refine givesDev_onDev rfl ?_
    rw [s.dev.clampOn_of_engages n hk hs]
    refine ⟨Device.cellEvent_status _ n (by decide) _, Device.cellEvent_event _ n (by decide) _, ?_, ?_, ?_⟩
    · rw [Device.cellEvent_ch, Device.setCh_same]
    · rw [Device.cellEvent_ch, Device.setCh_same]
    · exact ((Device.ChanOnly.setCh _ s.dev).trans (Device.cellEvent_only _ n n 0 0x20 rfl)).regs.mono fun a ha => by
        simpa only [chRegs_cons, not_chRegs_nil, or_false] using ha
  · refine givesDev_onDev rfl ⟨?_, ?_, fun a ha => ?_⟩
    · rw [Device.clampOff, Device.flag_fsetB_same _ _ (by decide)]
    · rw [Device.clampOff, Device.fsetB_ch, Device.setCh_same]
    · rw [Device.clampOff, Device.fsetB, Device.rd_fset_other _ _ _ _ ha, Device.setCh_rd]
  · refine givesDev_onDev rfl ?_
    rw [s.dev.foldBack_of_held n he hen ht hf]
    refine ⟨Device.cellEvent_status _ n (by decide) _, Device.cellEvent_event _ n (by decide) _, Device.cellEvent_plant .., ?_⟩
    exact (Device.cellEvent_only s.dev n n 1 0x21 rfl).regs.mono fun a ha => by simpa only [chRegs_cons, not_chRegs_nil, or_false] using ha

end Sys2Proof.Machine
end

section
/-!
PROOF. O18: the end of a bridge, and the handover of a pin between slices.
-/

namespace Sys2Proof.Machine

-- One proof after another: the stacks of the threads that elaborate many at once exceed the memory of a check.
set_option Elab.async false

namespace Device

/-! The end of a bridge (R61). -/

/-- Channel `n` when its bridge has ended and nothing waits any more. -/
def bridgeOver (d : Device) (n : Nat) : Device :=
  d.setCh n { d.ch n with waiting := [], pinWait := false, pinOld := none, holdUntil := if (d.ch n).pinWait then d.edge + 1 else (d.ch n).holdUntil }

theorem endBridge_of_waiting {d : Device} {n : Nat} (hw : (d.ch n).waiting ≠ []) (he : (d.ch n).bridgeEnd ≤ d.edge) :
    d.endBridge n = (d.bridgeOver n).applyReqs n d.edge (d.ch n).waiting 0xFFFF := by
  have hq : d.queued n = true := by rw [queued, List.isEmpty_eq_false_iff.mpr hw]; rfl
  unfold endBridge
  rw [if_neg]
  · rfl
  · rw [hq]
    simpa using he

/-- What several requests leave that apply as one change. -/
theorem endBridge_applies {d : Device} {n : Nat} (hn : n < 1024) (hw : (d.ch n).waiting ≠ []) (he : (d.ch n).bridgeEnd ≤ d.edge)
    (hr : d.retired n = false) : (let t := d.endBridge n
    let rs := (d.ch n).waiting
    (t.ch n).waiting = [] ∧ (t.ch n).pinWait = false ∧ t.rd (aCH n 0) = latest ChReq.mode (d.rd (aCH n 0)) rs ∧
    t.rd (aCH n 4) = latest ChReq.range (d.rd (aCH n 4)) rs ∧ t.rd (aCH n 0xC) = latest ChReq.clamp (d.rd (aCH n 0xC)) rs ∧
    (∀ r v, rs.getLast? = some r → r.force = some v → t.rd (aCH n 8) = v) ∧
    ChanOnly n (chRegs n [0, 4, 8, 0xC, 0x18, 0x20, 0x38, 0x3C]) d t) := by
  have hover : ChanOnly n (chRegs n []) d (d.bridgeOver n) := .setCh ..
  obtain ⟨c, hc, ht⟩ := applyReqs_eq_afterReqs (d.bridgeOver n) n d.edge 0xFFFF hw
  rw [endBridge_of_waiting hw he, ht]
  set rs := (d.ch n).waiting
  set D := rs.foldl (fun d r => d.applyReq n 0xFFFF r) (d.bridgeOver n)
  have hD : ChanOnly n (chRegs n [0, 4, 8, 0xC, 0x3C]) (d.bridgeOver n) D := foldl_applyReq_only hn 0xFFFF rs (d.bridgeOver n)
  have hA := afterReqs_only (d.bridgeOver n) D n d.edge rs c
  have hwaits := hc.trans (afterReqs_waits (d.bridgeOver n) D n d.edge rs c)
  rw [bridgeOver, setCh_same] at hwaits
  have hr' : (d.bridgeOver n).retired n = false := (flag_eq_of_rd_eq hover.rd _).trans hr
  refine ⟨hwaits.1, hwaits.2, ?_, ?_, ?_, fun r v hl hf => ?_, (hover.wider.trans hD.wider).trans hA.wider⟩
  · exact hA.rd.trans (foldl_applyReq_mode hn 0xFFFF rs (d.bridgeOver n) hr')
  · exact hA.rd.trans (foldl_applyReq_range hn 0xFFFF rs (d.bridgeOver n))
  · exact hA.rd.trans (foldl_applyReq_clamp hn 0xFFFF rs (d.bridgeOver n))
  · exact hA.rd.trans (foldl_applyReq_force hn 0xFFFF rs (d.bridgeOver n) hl hf)

/-! The handover edge of a pin (R78). -/

/-- The cells of every channel, and what waits on course `c`, are left alone. -/
structure KeepsCells (c : Nat) (d e : Device) : Prop where
  regs : ∀ a, 0x100000 ≤ a → a < 0x140000 → e.rd a = d.rd a
  chans : ∀ k, e.ch k = d.ch k
  backs : (e.crs c).backs = (d.crs c).backs
  next : (e.crs c).next = (d.crs c).next

namespace KeepsCells
variable {c : Nat} {d e f : Device}

theorem refl (c : Nat) (d : Device) : KeepsCells c d d := ⟨fun _ _ _ => rfl, fun _ => rfl, rfl, rfl⟩
theorem trans (h : KeepsCells c d e) (h' : KeepsCells c e f) : KeepsCells c d f :=
  ⟨fun a h1 h2 => (h'.regs a h1 h2).trans (h.regs a h1 h2), fun k => (h'.chans k).trans (h.chans k), h'.backs.trans h.backs, h'.next.trans h.next⟩
theorem wr {a : Nat} (ha : a < 0x100000 ∨ 0x140000 ≤ a) (v : Word) (d : Device) : KeepsCells c d (d.wr a v) :=
  ⟨fun b h1 h2 => rd_wr_other d v (by omega), fun _ => rfl, rfl, rfl⟩
theorem fset {a : Nat} (ha : a < 0x100000 ∨ 0x140000 ≤ a) (lo n x : Nat) (d : Device) : KeepsCells c d (d.fset a lo n x) := .wr ha ..
theorem fsetB {a : Nat} (ha : a < 0x100000 ∨ 0x140000 ≤ a) (i : Nat) (x : Bool) (d : Device) : KeepsCells c d (d.fsetB a i x) := .fset ha ..
theorem setThr (n : Nat) (x : Thr) (d : Device) : KeepsCells c d (d.setThr n x) := ⟨fun _ _ _ => rfl, fun _ => rfl, rfl, rfl⟩
theorem setChain (n : Nat) (x : Chain) (d : Device) : KeepsCells c d (d.setChain n x) := ⟨fun _ _ _ => rfl, fun _ => rfl, rfl, rfl⟩
theorem setCal (x : Cal) (d : Device) : KeepsCells c d (d.setCal x) := ⟨fun _ _ _ => rfl, fun _ => rfl, rfl, rfl⟩
theorem setCrs (x : Course) (d : Device) (hb : x.backs = (d.crs c).backs) (hn : x.next = (d.crs c).next) : KeepsCells c d (d.setCrs c x) :=
  ⟨fun _ _ _ => rfl, fun _ => rfl, by rw [setCrs_same, hb], by rw [setCrs_same, hn]⟩
theorem rd (h : KeepsCells c d e) {n o : Nat} (hn : n < 1024) (ho : o < 0x100) : e.rd (aCH n o) = d.rd (aCH n o) :=
  h.regs _ (aCH_lt hn ho).1 (aCH_lt hn ho).2
end KeepsCells

section
variable (d : Device) {c n : Nat} (hc : c < 32) (hn : n < 1024)
include hn

omit hn in
theorem aFILT_high (n o : Nat) : aFILT n o < 0x100000 ∨ 0x140000 ≤ aFILT n o := by unfold aFILT; omega

omit hn in
theorem loadThr_cells (e : Nat) : KeepsCells c d (d.loadThr n e) := by
  unfold loadThr
  exact (((KeepsCells.fset (aFILT_high ..) _ _ _ d).trans (.fset (aFILT_high ..) ..)).trans (.fset (aFILT_high ..) ..)).trans (.setThr ..)

omit hn in
theorem startChain_cells (e : Nat) : KeepsCells c d (d.startChain n e) := by
  have hset (x : Device) (g : Nat × Bool) (q : Nat) : KeepsCells c d ((((((d.fset (aFILT n 0) 31 1 1).loadThr n e).fset (aFILT n 0xC) 0 30 g.1).fsetB
      (aFILT n 4) 12 g.2).fset (aFILT n 0x1C) 0 20 q)) :=
    ((((KeepsCells.fset (aFILT_high ..) _ _ _ d).trans (loadThr_cells ..)).trans (.fset (aFILT_high ..) ..)).trans (.fsetB (aFILT_high ..) ..)).trans
      (.fset (aFILT_high ..) ..)
  unfold startChain
  dsimp only
  split
  · exact hset d _ _
  · exact (((hset d _ _).trans (.setChain ..)).trans (.fsetB (aFILT_high ..) ..)).trans (.fsetB (aFILT_high ..) ..)

omit hn in
theorem reconnect_cells : KeepsCells c d (d.reconnect n) := by
  unfold reconnect
  split
  · exact startChain_cells ..
  · exact .refl ..

theorem countCal_cells {s : Nat} (hs : s < 2048) : KeepsCells c d (d.countCal s (some n)) := by
  have hnote (x : Device) (a b : Nat) (h : a < 0x100000) (h' : b < 0x100000) (v : Word) : KeepsCells c x ((x.bump a 0 32).wr b v) :=
    (KeepsCells.fset (.inl h) ..).trans (.wr (.inl h') ..)
  have hch (o : Nat) (ho : o < 0x20) : aCALCH n o < 0x100000 := by unfold aCALCH; omega
  have hcal (o : Nat) (ho : o < 0x20) : aCAL s o < 0x100000 := by
    unfold aCAL aCALSP aCALCH
    split
    · omega
    · omega
  unfold countCal
  dsimp only
  split
  · exact (hnote _ _ _ (hch _ (by decide)) (hch _ (by decide)) _).trans (hnote _ _ _ (hcal _ (by decide)) (hcal _ (by decide)) _)
  · exact hnote _ _ _ (hch _ (by decide)) (hch _ (by decide)) _

/-- What follows the handover edge leaves the cells alone, the REMAPPED mark of a remap apart. -/
theorem handed_cells (h : Handover) (hch : h.chan = n) (hs : h.toSlice < 64) (hr : h.kind ≠ .remap) (hc : c < 32) : KeepsCells c d (d.handed c h) := by
  unfold handed
  dsimp only
  split
  next hk => exact absurd hk hr
  next => 
    split
    · exact .setCal ..
    · exact .refl ..
  next =>
    have hspare : KeepsCells c d (if (d.crs c).spareFor = some h.chan ∧ (d.crs c).spareRemap = false
        then d.setCrs c { d.crs c with spareFor := none } else d) := by
      split
      · exact .setCrs _ d rfl rfl
      · exact .refl ..
    have hcount (x : Device) : KeepsCells c x (if h.commit then x.countCal (33 * c + h.toSlice) (some h.chan) else x) := by
      split
      · exact hch ▸ countCal_cells x hn (by omega)
      · exact .refl ..
    have hjoin (x : Device) : KeepsCells c x ((x.setCrs c { x.crs c with joined := some (h.chan, x.edge) }).reconnect h.chan) :=
      (KeepsCells.setCrs { x.crs c with joined := some (h.chan, x.edge) } x rfl rfl).trans (reconnect_cells _)
    split
    · exact (hspare.trans (hcount _)).trans (hjoin _)
    · exact hspare.trans (hcount _)

end

/-- The cells of `d` once the pin of `h` is on its slice. -/
def pinMoved (d : Device) (h : Handover) : Device :=
  (d.fset (aCH h.chan 0x38) 0 6 h.toSlice).setCh h.chan { flagWindow (d.ch h.chan) d.edge (d.edge + 1) with holdUntil := d.edge + 1 }

/-- Where the handover of `h` leaves the pin. -/
structure OnSlice (h : Handover) (d t : Device) : Prop where
  slice : t.fget (aCH h.chan 0x38) 0 6 = h.toSlice
  held : (t.ch h.chan).holdUntil = d.edge + 1
  flagged : (t.ch h.chan).flagEnd = max (d.ch h.chan).flagEnd (d.edge + 1)
  remapped : h.kind = .remap → t.flag (aCH h.chan 0x38) 14 = true

theorem OnSlice.of_cells {c : Nat} {h : Handover} {d t u : Device} (hn : h.chan < 1024) (ht : OnSlice h d t) (hk : KeepsCells c t u) :
    OnSlice h d u := by
  have hrd := hk.rd hn (show 0x38 < 0x100 by decide)
  exact ⟨by rw [fget, hrd]; exact ht.slice, by rw [hk.chans]; exact ht.held, by rw [hk.chans]; exact ht.flagged,
    fun hr => (flag_eq_of_rd_eq hrd 14).trans (ht.remapped hr)⟩

section
variable (d : Device) {c : Nat} {h : Handover} (hc : c < 32) (hn : h.chan < 1024) (hs : h.toSlice < 64)

theorem pinMoved_slice (hs : h.toSlice < 64) : (d.pinMoved h).fget (aCH h.chan 0x38) 0 6 = h.toSlice := by
  rw [pinMoved, fget, setCh_rd, ← fget, fget_fset_same _ _ _ (by decide)]
  exact Nat.mod_eq_of_lt hs

theorem pinMoved_ch : ((d.pinMoved h).ch h.chan).holdUntil = d.edge + 1 ∧
    ((d.pinMoved h).ch h.chan).flagEnd = max (d.ch h.chan).flagEnd (d.edge + 1) := by
  rw [pinMoved, setCh_same, flagWindow, if_neg (by omega)]
  exact ⟨rfl, rfl⟩

theorem handed_of_remap (hk : h.kind = .remap) : (d.handed c h).regs = (d.markRemapped h.chan).regs ∧ (d.handed c h).chan = d.chan ∧
    (d.handed c h).course = d.course := by
  unfold handed
  dsimp only
  rw [hk]
  exact ⟨rfl, rfl, rfl⟩

include hn hc hs

/-- The pin is on its slice once the handover edge has come. -/
theorem handDone_onSlice : OnSlice h d (d.handDone c h) := by
  have hmoved : d.handDone c h = (d.pinMoved h).handed c h := rfl
  rw [hmoved]
  obtain ⟨hheld, hflag⟩ := pinMoved_ch d (h := h)
  by_cases hk : h.kind = .remap
  · obtain ⟨hregs, hchan, -⟩ := handed_of_remap (d.pinMoved h) (c := c) hk
    have hch := ch_eq_of_chan_eq hchan h.chan
    have hrd : ((d.pinMoved h).handed c h).rd (aCH h.chan 0x38) = ((d.pinMoved h).fsetB (aCH h.chan 0x38) 14 true).rd (aCH h.chan 0x38) := by
      rw [rd, hregs, ← rd, markRemapped, fsetB, rd_fset_other _ _ _ _ (by unfold aCH; omega)]
    refine ⟨?_, by rw [hch, hheld], by rw [hch, hflag], fun _ => ?_⟩
    · rw [fget, hrd, ← fget, fsetB, fget_fset_disjoint _ _ _ (by decide) (by decide), pinMoved_slice d hs]
    · rw [flag_eq_of_rd_eq hrd, flag_fsetB_same _ _ (by decide)]
  · exact OnSlice.of_cells hn ⟨pinMoved_slice d hs, hheld, hflag, fun h => absurd h hk⟩ (handed_cells (d.pinMoved h) hn h rfl hs hk hc)

/-- Nothing joins what waits on the course. -/
theorem handDone_waits : ((d.handDone c h).crs c).backs = (d.crs c).backs ∧ ((d.handDone c h).crs c).next = (d.crs c).next := by
  have hmoved : d.handDone c h = (d.pinMoved h).handed c h := rfl
  have hcrs : (d.pinMoved h).crs c = d.crs c := rfl
  rw [hmoved]
  by_cases hk : h.kind = .remap
  · have hcourse := (handed_of_remap (d.pinMoved h) (c := c) hk).2.2
    rw [← hcrs, crs, crs, hcourse]
    exact ⟨rfl, rfl⟩
  · have hcells := handed_cells (d.pinMoved h) hn h rfl hs hk hc
    exact ⟨hcells.backs, hcells.next⟩

omit hn hc hs in
/-- With nothing waiting on the course none begins. -/
theorem nextHand_cells (hw : (d.crs c).next = []) : KeepsCells c d (d.nextHand c) := by
  unfold nextHand
  split
  · exact .refl ..
  · dsimp only
    rw [hw, List.filter_nil, List.filter_nil, List.foldl_nil, setCrs_same]
    split
    next h r _ hnext => exact absurd hnext (List.cons_ne_nil h r).symm
    next => exact .setCrs _ d rfl hw.symm

end

/-- A handover whose edge has come, with no bridge, HOLD, SAFE or frame in its way. -/
theorem handNow_of_due {d : Device} {h : Handover} (he : h.edge ≤ d.edge) (hcapo : d.capo = 0)
    (hb : d.edge < (d.ch h.chan).bridgeStart ∨ (d.ch h.chan).bridgeEnd ≤ d.edge) (hw : d.onWire h.chan = []) : d.handNow h = (true, h) := by
  unfold handNow
  dsimp only
  rw [if_neg (by omega), if_neg, hw]
  · simp
  · rw [Bool.and_eq_true, decide_eq_true_iff, decide_eq_true_iff]
    omega

theorem sliceMove_of_due {d : Device} {c : Nat} {h : Handover} (hh : (d.crs c).hand = some h) (hnow : d.handNow h = (true, h))
    (hf : d.frameOn h.chan = [])
    (hb : ((((d.setCrs c { d.crs c with hand := none }).handDone c h).nextHand c).crs c).backs = []) :
    d.sliceMove c = ((d.setCrs c { d.crs c with hand := none }).handDone c h).nextHand c := by
  have hover : d.handover c = ((d.setCrs c { d.crs c with hand := none }).handDone c h).nextHand c := by
    unfold handover
    rw [hh]
    dsimp only
    rw [hnow]
    dsimp only
    rw [if_pos rfl, hb, List.foldl_nil]
  unfold sliceMove
  rw [hh]
  dsimp only
  rw [hf, List.foldl_nil, ite_self, hover]

/-- The handover edge puts the pin on its slice. -/
theorem sliceMove_onSlice {d : Device} {c : Nat} {h : Handover} (hc : c < 32) (hh : (d.crs c).hand = some h) (hbacks : (d.crs c).backs = [])
    (hnext : (d.crs c).next = []) (hnow : d.handNow h = (true, h)) (hf : d.frameOn h.chan = []) (hs : h.toSlice < 64) (hn : h.chan < 1024) :
    OnSlice h d (d.sliceMove c) := by
  set e := d.setCrs c { d.crs c with hand := none } with he
  have hkeep : KeepsCells c d e := .setCrs _ d rfl rfl
  obtain ⟨hb, hw⟩ := handDone_waits e hc hn hs
  have hcells := nextHand_cells (e.handDone c h) (hw.trans (hkeep.next.trans hnext))
  rw [sliceMove_of_due hh hnow hf (hcells.backs.trans (hb.trans (hkeep.backs.trans hbacks)))]
  have hon := (handDone_onSlice e hc hn hs).of_cells hn hcells
  exact ⟨hon.slice, hon.held, hon.flagged, hon.remapped⟩

end Device

/-- Settles O18: requests that waited apply as one change, and a handover whose edge has come puts the pin on its slice. -/
theorem bridgesAndHandoversEnd : Obligations.BridgesAndHandoversEnd := by
  unfold Obligations.BridgesAndHandoversEnd
  refine ⟨fun n s hw he hr => ?_, fun c s h hh hbacks hnext he hcapo hb hw hf hs hn => ?_⟩
  · obtain ⟨hwait, hpin, hmode, hrange, hclamp, hforce, honly⟩ := Device.endBridge_applies n.isLt hw he hr
    refine givesDev_onDev rfl ⟨hwait, hpin, hmode, hrange, hclamp, hforce, honly.chans, honly.regs.mono fun a ha => ?_⟩
    simpa only [chRegs_cons, not_chRegs_nil, or_false] using ha
  · have hon := Device.sliceMove_onSlice c.isLt hh hbacks hnext (Device.handNow_of_due he hcapo hb hw) hf hs hn
    exact givesDdr_onDdr rfl ⟨hon.slice, hon.held, hon.flagged, hon.remapped⟩

end Sys2Proof.Machine
end

section
/-!
SUPPORT. Which registers are written at all: beside what they hold, the list of written registers matters to the sums of the governor (R75).
-/

namespace Sys2Proof.Machine

-- One proof after another: the stacks of the threads that elaborate many at once exceed the memory of a check.
set_option Elab.async false

section
variable {c : Instr} {s : State} {f k : Device → Device} {w : Wr} {a : Nat} {P : Device → Prop}

/-! The same with the device named by an equation: where `P` speaks of a part of the device itself, the kernel then compares devices as terms. -/

theorem givesDev_onDev_as (he : exec c s = .next (s.onDev f)) (hP : ∀ e, f s.dev = e → P e)
    (hout : ∀ (x : Device) ws, P x → P (x.withOut ws) := by exact fun _ _ h => h) : GivesDev c s P := givesDev_onDev he (hP _ rfl) hout

theorem givesDdr_onDdr_as (he : exec c s = .next (s.onDdr f)) (hP : ∀ e, f s.dev = e → P e)
    (hout : ∀ (x : Device) ws, P x → P (x.withOut ws) := by exact fun _ _ h => h) : GivesDdr c s P := givesDdr_onDdr he (hP _ rfl) hout

theorem givesDev_write_as (he : exec c s = .next (s.onDev fun d => d.write w a k)) (hadm : s.dev.admits w a = true)
    (hP : ∀ e, k s.dev = e → P e) (hout : ∀ (x : Device) ws, P x → P (x.withOut ws) := by exact fun _ _ h => h) : GivesDev c s P :=
  givesDev_write he hadm (hP _ rfl) hout

theorem givesDdr_write_as (he : exec c s = .next (s.onDdr fun d => d.write w a k)) (hadm : s.dev.admits w a = true)
    (hP : ∀ e, k s.dev = e → P e) (hout : ∀ (x : Device) ws, P x → P (x.withOut ws) := by exact fun _ _ h => h) : GivesDdr c s P :=
  givesDdr_write he hadm (hP _ rfl) hout

end

/-- The listed indexes that a function looks at, after a write of one that it passes over. -/
theorem tabKeys_tabPut_filterMap {α β : Type} {f : Nat → Option β} {k : Nat} (hf : f k = none) (v : α) (t : Tab α) :
    (tabKeys (tabPut k v t)).filterMap f = (tabKeys t).filterMap f := by
  induction t with
  | nil => simp [tabPut, tabKeys, hf]
  | cons p r ih =>
    obtain ⟨j, w⟩ := p
    unfold tabPut
    split
    · simp [tabKeys, hf]
    · split
      next h => simp [tabKeys, hf, h]
      next =>
        simp only [tabKeys, List.map_cons, List.filterMap_cons] at ih ⊢
        rw [ih]

theorem tabKeys_tabDrop_filterMap {α β : Type} {f : Nat → Option β} {k : Nat} (hf : f k = none) (t : Tab α) :
    (tabKeys (tabDrop k t)).filterMap f = (tabKeys t).filterMap f := by
  induction t with
  | nil => rfl
  | cons p r ih =>
    obtain ⟨j, w⟩ := p
    unfold tabDrop
    split
    next h => simpa [tabKeys, hf, h] using ih
    next =>
      simp only [tabKeys, List.map_cons, List.filterMap_cons] at ih ⊢
      rw [ih]

theorem tabKeys_tabSet_filterMap {α β : Type} [DecidableEq α] {f : Nat → Option β} {k : Nat} (hf : f k = none) (d : Nat → α) (v : α) (t : Tab α) :
    (tabKeys (tabSet d k v t)).filterMap f = (tabKeys t).filterMap f := by
  unfold tabSet
  split
  · exact tabKeys_tabDrop_filterMap hf t
  · exact tabKeys_tabPut_filterMap hf v t

namespace Device

/-- The registers listed as written are the same in two devices, those below 0x100000 apart. -/
def SameListed (d e : Device) : Prop :=
  ∀ f : Nat → Option Nat, (∀ a, a < 0x100000 → f a = none) → (tabKeys e.regs).filterMap f = (tabKeys d.regs).filterMap f

namespace SameListed
variable {d e f : Device}

theorem refl (d : Device) : SameListed d d := fun _ _ => rfl
theorem trans (h : SameListed d e) (h' : SameListed e f) : SameListed d f := fun g hg => (h' g hg).trans (h g hg)
theorem of_regs (h : e.regs = d.regs) : SameListed d e := fun _ _ => by rw [h]

theorem wr {a : Nat} (ha : a < 0x100000) (v : Word) (d : Device) : SameListed d (d.wr a v) :=
  fun _ hg => tabKeys_tabSet_filterMap (hg a ha) _ _ _
theorem fset {a : Nat} (ha : a < 0x100000) (lo n x : Nat) (d : Device) : SameListed d (d.fset a lo n x) := .wr ha _ d
theorem fsetB {a : Nat} (ha : a < 0x100000) (i : Nat) (x : Bool) (d : Device) : SameListed d (d.fsetB a i x) := .fset ha _ _ _ d
theorem bump {a : Nat} (ha : a < 0x100000) (lo n : Nat) (d : Device) : SameListed d (d.bump a lo n) := .fset ha _ _ _ d

theorem signal {v : Nat} (hv : v < 1000) (d : Device) : SameListed d (d.signal v) := by
  have ha : 0xD9000 + 4 * (v / 32) < 0x100000 := by omega
  unfold Device.signal
  split
  · split
    · exact .fset ha _ _ _ d
    · exact .of_regs rfl
  · exact .refl d

theorem event {a : Nat} (ha : a < 0x100000) (i : Nat) (d : Device) : SameListed d (d.event a i) := by
  unfold Device.event
  split
  · exact .refl d
  · split
    next v hv => exact (SameListed.fset ha _ _ _ d).trans (.signal (by have := vectorOf_lt a v hv; omega) _)
    next => exact .fset ha _ _ _ d

theorem fqIrq (d : Device) : SameListed d d.fqIrq := by
  unfold Device.fqIrq
  split
  · exact (SameListed.of_regs rfl).trans (.signal (by decide) _)
  · exact .refl d

theorem fqOverrun (d : Device) : SameListed d d.fqOverrun := by
  unfold Device.fqOverrun
  split
  · exact (SameListed.bump (by decide) _ _ d).trans (.event (by decide) _ _)
  · exact .refl d

theorem fqPush (x : FqEntry) (d : Device) : SameListed d (d.fqPush x) := by
  unfold Device.fqPush
  dsimp only
  refine .trans (.trans ?_ (.fqOverrun _)) (.fqIrq _)
  exact (SameListed.of_regs rfl).trans (.wr (by decide) _ _)

theorem countClass (c : Cls) (d : Device) : SameListed d (d.countClass c) := by
  cases c with
  | t => exact (SameListed.bump (by decide) _ _ d).trans (.event (by decide) _ _)
  | p => exact (SameListed.bump (by decide) _ _ d).trans (.event (by decide) _ _)
  | d => exact (SameListed.bump (by decide) _ _ d).trans (.event (by decide) _ _)
  | notice => exact .bump (by decide) _ _ d

theorem report (x : FqEntry) (forced : Bool) (d : Device) : SameListed d (d.report x forced) := by
  unfold Device.report
  dsimp only
  split
  · exact .countClass _ d
  · exact (SameListed.countClass _ d).trans (.fqPush _ _)

theorem reportClamp (src : ClampSrc) (a : Option Nat) (k c w r g : Nat) (o p : Int) (d : Device) :
    SameListed d (d.reportClamp src a k c w r g o p) := by
  have hentry (x : ClampEntry) : SameListed d (d.clampEntry x) := by
    unfold clampEntry
    dsimp only
    split
    · exact (SameListed.of_regs rfl).trans (.fset (by decide) _ _ _ _)
    · exact (SameListed.of_regs rfl).trans (.bump (by decide) _ _ _)
  unfold Device.reportClamp noticeClamped
  split
  · exact (hentry _).trans (.report _ _ _)
  · exact (hentry _).trans (.report _ _ _)

/-- Clamps of a register whose block reports below 0x100000. -/
theorem reportHits {a b c r : Nat} (hblock : blockEvents a = some (b, c, r)) (hw : ¬ (0x78000 ≤ a ∧ a < 0x78800)) (hb : b < 0x100000) (src : ClampSrc)
    (q w x : Nat) (hits : List ClampHit) (d : Device) : SameListed d (d.reportHits src a q w x hits) := by
  have hfold (l : List ClampHit) (e : Device) : SameListed e
      (l.foldl (fun d h => d.reportClamp src (some a) 0 x h.fld.width q (32 * w + h.fld.lo) h.given h.used) e) := by
    induction l generalizing e with
    | nil => exact .refl e
    | cons h l ih => exact (SameListed.reportClamp _ _ _ _ _ _ _ _ _ e).trans (ih _)
  unfold Device.reportHits
  split
  · exact .refl d
  · unfold eventClamped
    rw [if_neg hw, hblock]
    exact (hfold _ d).trans (.event hb _ _)

end SameListed

/-- Between the fault queue and the pending-bit array no register is a reporting one. -/
theorem reportReg_of_mid {a : Nat} (h : 0x50050 ≤ a) (h' : a < 0xD9000) : reportReg a = false := by
  unfold reportReg
  simp only [List.contains_eq_mem, List.mem_cons, List.not_mem_nil, or_false, decide_eq_false_iff_not]
  omega

/-! The sums of the governor (R28, R73 to R77). -/

/-- What the governor sees is the same in two devices. -/
structure SameLoad (d e : Device) : Prop where
  listed : SameListed d e
  rd : ∀ a, a ≠ 0xA0004 → reportReg a = false → e.rd a = d.rd a
  plant : e.plant = d.plant

section
variable {d e : Device} (h : SameLoad d e)
include h

theorem SameLoad.fget {a : Nat} (ha : a ≠ 0xA0004) (hr : reportReg a = false) (lo n : Nat) : e.fget a lo n = d.fget a lo n := by
  rw [Device.fget, Device.fget, h.rd a ha hr]

theorem SameLoad.flag {a : Nat} (ha : a ≠ 0xA0004) (hr : reportReg a = false) (i : Nat) : e.flag a i = d.flag a i :=
  flag_eq_of_rd_eq (h.rd a ha hr) i

theorem SameLoad.high {a : Nat} (ha : 0x100000 ≤ a) : e.rd a = d.rd a := h.rd a (by omega) (reportReg_of_ge ha)

theorem liveChans_congr : e.liveChans = d.liveChans := h.listed _ fun a ha => if_neg fun h => by omega

theorem pdiss_congr (n : Nat) : e.pdiss n = d.pdiss n := by
  have hge (o : Nat) : 0x100000 ≤ aCH n o := by unfold aCH; omega
  unfold pdiss retired
  rw [flag_eq_of_rd_eq (h.high (hge 0x38)), h.high (hge 0), h.high (hge 4), h.high (hge 8), h.high (hge 0xC), h.high (hge 0x24), h.high (hge 0x28)]

theorem drivingNode_congr (k : Nat) : e.drivingNode k = d.drivingNode k := by
  unfold drivingNode
  split
  next hk =>
    have ha : aCAT ((k - 1040) / 4) 0 ≠ 0xA0004 := by unfold aCAT; omega
    have hr : reportReg (aCAT ((k - 1040) / 4) 0) = false := reportReg_of_mid (by unfold aCAT; omega) (by unfold aCAT; omega)
    rw [h.fget ha hr]
  next => rfl

theorem tilePower_congr (sw : List Switch) : e.tilePower sw = d.tilePower sw := by
  unfold tilePower
  rw [funext fun k => drivingNode_congr h k]

theorem committed_congr : e.committed = d.committed := by
  have hcal : e.calP = d.calP := eq_of_plant Device.calP h.plant
  have hmx : e.mx = d.mx := eq_of_plant Device.mx h.plant
  unfold committed
  rw [liveChans_congr h, funext (pdiss_congr h), tilePower_congr h, hcal, hmx]

theorem busyLanes_congr : e.busyLanes = d.busyLanes := by
  have hlow (a : Nat) (ha : 0x140000 ≤ a) (ha' : a < 0x180000) (i : Nat) :
      e.flag (0x50200 + 4 * ((a - 0x140000) / 0x1000)) i = d.flag (0x50200 + 4 * ((a - 0x140000) / 0x1000)) i :=
    h.flag (by omega) (reportReg_of_mid (by omega) (by omega)) i
  unfold busyLanes
  rw [h.listed]
  · congr 3
    funext a
    by_cases ha : 0x140000 ≤ a ∧ a < 0x180000
    · rw [flag_eq_of_rd_eq (h.high (by omega)), hlow a ha.1 ha.2]
    · rw [if_neg fun h => ha ⟨h.1, h.2.1⟩, if_neg fun h => ha ⟨h.1, h.2.1⟩]
  · intro a ha
    exact if_neg fun h => by omega

theorem busyFrets_congr : e.busyFrets = d.busyFrets := by
  unfold busyFrets
  congr 1
  refine List.filter_congr fun f hf => ?_
  rw [h.fget (by unfold aFRET; omega) (by unfold reportReg aFRET; simp; omega)]

theorem livePorts_congr : e.livePorts = d.livePorts := by
  unfold livePorts
  congr 1
  refine List.filter_congr fun p hp => ?_
  have hlt := List.mem_range.mp hp
  rw [h.fget (by unfold aPORT; omega) (reportReg_of_mid (by unfold aPORT; omega) (by unfold aPORT; omega))]

theorem fabricKhz_congr : e.fabricKhz = d.fabricKhz := by
  have hsys : e.sys = d.sys := eq_of_plant Device.sys h.plant
  unfold fabricKhz
  rw [h.flag (by decide) (by decide), h.flag (by decide) (by decide), h.flag (by decide) (by decide), h.fget (by decide) (by decide), hsys]

theorem ceiling_congr : e.ceiling = d.ceiling := by
  unfold ceiling nonLoad
  rw [h.fget (by decide) (by decide), h.fget (by decide) (by decide), livePorts_congr h, busyLanes_congr h, busyFrets_congr h, fabricKhz_congr h]

end

/-- The governor judges alike where it sees the same. -/
theorem govRefuses_congr {d d' e e' : Device} (h : SameLoad d e) (h' : SameLoad d' e') : e.govRefuses e' = d.govRefuses d' := by
  unfold govRefuses
  rw [committed_congr h, committed_congr h', ceiling_congr h]

end Device
end Sys2Proof.Machine
end

section
/-!
PROOF. O19: MATRIX_CMD closes and opens switches, and is held under HOLD.
-/

namespace Sys2Proof.Machine

-- One proof after another: the stacks of the threads that elaborate many at once exceed the memory of a check.
set_option Elab.async false

namespace Device

/-! Owners and switches. -/

section
variable (d : Device) (r : Nat) (o : Owner)

theorem setOwner_owner (q : Nat) : (d.setOwner r o).owner q = if q = r then o else d.owner q := tabGet_tabSet ..
@[simp] theorem setOwner_rd (a : Nat) : (d.setOwner r o).rd a = d.rd a := rfl

/-- Two devices that differ in the owners of resources alone. -/
structure SameButClaims (d e : Device) : Prop where
  rd : ∀ a, e.rd a = d.rd a
  closed : e.mx.closed = d.mx.closed
  moves : e.mx.moves = d.mx.moves
  opens : e.mx.opens = d.mx.opens
  held : e.mx.heldCmds = d.mx.heldCmds

theorem SameButClaims.refl (d : Device) : SameButClaims d d := ⟨fun _ => rfl, rfl, rfl, rfl, rfl⟩
theorem SameButClaims.trans {d e f : Device} (h : SameButClaims d e) (h' : SameButClaims e f) : SameButClaims d f :=
  ⟨fun a => (h'.rd a).trans (h.rd a), h'.closed.trans h.closed, h'.moves.trans h.moves, h'.opens.trans h.opens, h'.held.trans h.held⟩
theorem SameButClaims.setOwner (d : Device) (r : Nat) (o : Owner) : SameButClaims d (d.setOwner r o) := ⟨fun _ => rfl, rfl, rfl, rfl, rfl⟩

theorem SameButClaims.dropHostTaps (d : Device) : SameButClaims d d.dropHostTaps := by
  have hfold (l : List Nat) (e : Device) : SameButClaims e
      (l.foldl (fun d r => if d.mx.closed.any fun s => s.host && s.node == r - 1000 then d else d.setOwner r .free) e) := by
    induction l generalizing e with
    | nil => exact .refl e
    | cons r l ih =>
      refine SameButClaims.trans ?_ (ih _)
      dsimp only
      split
      · exact .refl e
      · exact .setOwner ..
  unfold Device.dropHostTaps
  exact hfold _ d

end

/-! MATRIX_CMD. -/

section
variable (d : Device) (p : Party) (raw : Word)

/-- The device once the clamps of a MATRIX_CMD are reported. -/
def cmdReported (d : Device) (p : Party) (raw : Word) : Device := (d.cmdFields p raw).1

theorem blockEvents_mxCmd : blockEvents 0xA0010 = some (0xA0004, 0, 1) := by decide

theorem eventReg_mxCmd (b : Nat) : EventReg 0xA0010 b ↔ b = 0xA0004 := by
  rw [EventReg, blockEvents_mxCmd]
  constructor
  · rintro (⟨c, r, he⟩ | ⟨-, hw, -⟩)
    · cases he
      rfl
    · omega
  · rintro rfl
    exact .inl ⟨0, 1, rfl⟩

theorem cmdReported_load : SameLoad d (d.cmdReported p raw) := by
  refine ⟨?_, fun a ha hr => ?_, reportHits_plant ..⟩
  · exact .reportHits blockEvents_mxCmd (by decide) (by decide) _ _ _ _ _ d
  · exact reportHits_rd _ _ _ _ _ _ _ _ (fun h => ha ((eventReg_mxCmd a).mp h)) hr

/-- Two devices in which the matrix is judged alike. -/
structure SameMatrix (d e : Device) : Prop extends SameLoad d e where
  mx : e.mx = d.mx

theorem SameLoad.matrix {d e : Device} (h : SameLoad d e) : SameMatrix d e := ⟨h, eq_of_plant Device.mx h.plant⟩

section
variable {d} {e : Device} (h : SameMatrix d e)
include h

theorem SameMatrix.busStat {b : Nat} (hb : b < 32) : e.rd (aMX (0x100 + 4 * b)) = d.rd (aMX (0x100 + 4 * b)) :=
  h.rd _ (by unfold aMX; omega) (reportReg_of_mid (by unfold aMX; omega) (by unfold aMX; omega))

theorem SameMatrix.phys {b : Nat} (hb : b < 32) : e.phys b = d.phys b := by rw [Device.phys, Device.phys, Device.fget, Device.fget, h.busStat hb]
theorem SameMatrix.busRetired {b : Nat} (hb : b < 32) : e.busRetired b = d.busRetired b := flag_eq_of_rd_eq (h.busStat hb) _
theorem SameMatrix.owner (r : Nat) : e.owner r = d.owner r := by rw [Device.owner, Device.owner, h.mx]
theorem SameMatrix.hostHolds (node bus : Nat) : e.hostHolds node bus = d.hostHolds node bus := by
  simp only [Device.hostHolds, h.owner]
theorem SameMatrix.isClosed (node : Nat) {bus : Nat} (hb : bus < 32) : e.isClosed node bus = d.isClosed node bus := by
  rw [Device.isClosed, Device.isClosed, h.mx, h.phys hb]
theorem SameMatrix.isHeldOpen (bus : Nat) : e.isHeldOpen bus = d.isHeldOpen bus := by
  rw [Device.isHeldOpen, Device.isHeldOpen, Device.busOpen, Device.busOpen, h.mx]
theorem SameMatrix.mayClose (s : Switch) : e.mayClose s = d.mayClose s := by rw [Device.mayClose, Device.mayClose, h.mx]
theorem SameMatrix.capo : e.capo = d.capo := h.fget (by decide) (by decide) 0 2
theorem SameMatrix.govRefuses (m : Matrix) : e.govRefuses (e.setMx m) = d.govRefuses (d.setMx m) := by
  refine govRefuses_congr h.toSameLoad ⟨h.listed, h.rd, ?_⟩
  rw [setMx_plant, setMx_plant, h.plant]

end

/-- A close that nothing stands against. -/
theorem hostClose_of_allowed {node bus : Nat} (hnode : node < 1320) (hh : d.hostHolds node bus = true) (hclosed : d.isClosed node bus = false)
    (hheld : d.isHeldOpen bus = false) (hret : d.busRetired bus = false) (hc : d.capo = 0) (hmay : d.mayClose ⟨node, d.phys bus, true⟩ = true)
    (hg : d.govRefuses (d.setMx { d.mx with closed := closeIn d.mx.closed ⟨node, d.phys bus, true⟩ }) = false) :
    d.hostClose node bus = if node < 1024
      then (d.setMx { d.mx with closed := closeIn d.mx.closed ⟨node, d.phys bus, true⟩ }).setOwner (resTaps node) .host
      else d.setMx { d.mx with closed := closeIn d.mx.closed ⟨node, d.phys bus, true⟩ } := by
  unfold hostClose
  dsimp only
  rw [if_neg (by omega), if_neg (by simp [hh]), if_neg (by simp [hclosed]), if_neg (by simp [hheld, hret, hc]), if_neg (by simp [hmay]), hg,
    if_neg Bool.false_ne_true]

/-- A switch that is open joins the closed ones at the end. -/
theorem closeIn_of_open {node bus : Nat} (h : d.isClosed node bus = false) (host : Bool) :
    closeIn d.mx.closed ⟨node, d.phys bus, host⟩ = d.mx.closed ++ [⟨node, d.phys bus, host⟩] := by
  unfold isClosed at h
  unfold closeIn
  dsimp only
  rw [h, if_neg Bool.false_ne_true]

/-- What a close that nothing stands against leaves. -/
theorem hostClose_closes {node bus : Nat} (hnode : node < 1320) (hh : d.hostHolds node bus = true) (hclosed : d.isClosed node bus = false)
    (hheld : d.isHeldOpen bus = false) (hret : d.busRetired bus = false) (hc : d.capo = 0) (hmay : d.mayClose ⟨node, d.phys bus, true⟩ = true)
    (hg : d.govRefuses (d.setMx { d.mx with closed := closeIn d.mx.closed ⟨node, d.phys bus, true⟩ }) = false) :
    (d.hostClose node bus).mx.closed = d.mx.closed ++ [⟨node, d.phys bus, true⟩] ∧ (node < 1024 → (d.hostClose node bus).owner (resTaps node) = .host) ∧
    (d.hostClose node bus).mx.moves = d.mx.moves ∧ (d.hostClose node bus).mx.opens = d.mx.opens ∧ ∀ a, (d.hostClose node bus).rd a = d.rd a := by
  rw [hostClose_of_allowed d hnode hh hclosed hheld hret hc hmay hg, closeIn_of_open d hclosed]
  split
  next hlt => exact ⟨rfl, fun _ => by rw [setOwner_owner, if_pos rfl], rfl, rfl, fun _ => rfl⟩
  next hge => exact ⟨rfl, fun h => absurd h hge, rfl, rfl, fun _ => rfl⟩

/-- What an open that the host may give leaves. -/
theorem hostOpen_opens {node bus : Nat} (hnode : node < 1320) (hh : d.hostHolds node bus = true) :
    (∀ x, x ∈ (d.hostOpen node bus).mx.closed ↔ x ∈ d.mx.closed ∧ ¬ (x.node = node ∧ x.phys = d.phys bus)) ∧
    (d.hostOpen node bus).mx.moves = d.mx.moves ∧ (d.hostOpen node bus).mx.opens = d.mx.opens ∧ ∀ a, (d.hostOpen node bus).rd a = d.rd a := by
  unfold hostOpen
  rw [if_neg (by omega), if_neg (by simp [hh])]
  split
  next hclosed =>
    have hdrop := SameButClaims.dropHostTaps (d.setMx { d.mx with closed := openIn d.mx.closed node (d.phys bus) })
    refine ⟨fun x => ?_, hdrop.moves, hdrop.opens, hdrop.rd⟩
    rw [hdrop.closed]
    simp [openIn, setMx, imp_iff_not_or]
  next hopen =>
    refine ⟨fun x => ⟨fun hx => ⟨hx, fun hxx => hopen ?_⟩, And.left⟩, rfl, rfl, fun _ => rfl⟩
    rw [isClosed, List.any_eq_true]
    exact ⟨x, hx, by simp [hxx.1, hxx.2]⟩

end
end Device

/-- Node and bus of a MATRIX_CMD. -/
theorem matrixCmd_eq (d : Device) (p : Party) (raw : Word) (close : Bool) : d.matrixCmd p raw close =
    if d.capo = 1 then (d.cmdReported p raw).holdCmd (.move (bitsOf (d.cook 0xA0010 raw).1 0 12) (bitsOf (d.cook 0xA0010 raw).1 12 5) close)
    else if close then (d.cmdReported p raw).hostClose (bitsOf (d.cook 0xA0010 raw).1 0 12) (bitsOf (d.cook 0xA0010 raw).1 12 5)
    else (d.cmdReported p raw).hostOpen (bitsOf (d.cook 0xA0010 raw).1 0 12) (bitsOf (d.cook 0xA0010 raw).1 12 5) := by
  rw [← (d.cmdReported_load p raw).matrix.capo]
  rfl

/-- The commands that write MATRIX_CMD with CLOSE as given. -/
theorem matrixCommand {w : Wr} {close : Bool} {c : Instr} (h : (close, c) ∈ [(true, Instr.matrixCmdClose w), (false, .matrixCmdOpen w)]) (s : State) :
    exec c s = .next (s.onDev fun d => d.write w 0xA0010 fun d => d.matrixCmd w.by_ (setBits w.data 24 1 (if close then 1 else 0)) close) := by
  simp only [List.mem_cons, Prod.mk.injEq, List.not_mem_nil, or_false] at h
  rcases h with ⟨rfl, rfl⟩ | ⟨rfl, rfl⟩
  · rfl
  · rfl

/-- Settles O19: switches close and open on command, and under HOLD the command is kept. -/
theorem matrixCommandsAct : Obligations.MatrixCommandsAct := by
  unfold Obligations.MatrixCommandsAct
  refine ⟨fun w s hadm hc hnode hh hheld hret hclosed hmay hg => ?_, fun w s hadm hc hnode hh => ?_, fun w s hc hadm close c hmem => ?_⟩
  · have hload := (s.dev.cmdReported_load w.by_ (setBits w.data 24 1 1)).matrix
    have hbus := bitsOf_lt (s.dev.cook 0xA0010 (setBits w.data 24 1 1)).1 12 5
    obtain ⟨hcl, how, hmv, hop, hrd⟩ := Device.hostClose_closes (s.dev.cmdReported w.by_ (setBits w.data 24 1 1)) hnode
      ((hload.hostHolds _ _).trans hh) ((hload.isClosed _ hbus).trans hclosed) ((hload.isHeldOpen _).trans hheld)
      ((hload.busRetired hbus).trans hret) (hload.capo.trans hc) (by rw [hload.mayClose, hload.phys hbus]; exact hmay)
      (by rw [hload.govRefuses, hload.mx, hload.phys hbus]; exact hg)
    refine givesDev_write rfl hadm ?_
    rw [matrixCmd_eq, if_neg (by omega), if_pos rfl]
    have hphys : ∀ {b}, b < 32 → ((s.dev.cmdReported w.by_ (setBits w.data 24 1 1)).hostClose
        (bitsOf (s.dev.cook 0xA0010 (setBits w.data 24 1 1)).1 0 12) (bitsOf (s.dev.cook 0xA0010 (setBits w.data 24 1 1)).1 12 5)).phys b = s.dev.phys b :=
      fun hb => by rw [← hload.phys hb, Device.phys, Device.phys, Device.fget, Device.fget, hrd]
    rw [hload.mx, hload.phys hbus] at hcl
    refine ⟨?_, hcl, how, by rw [hmv, hload.mx], by rw [hop, hload.mx], fun a ha hr => (hrd a).trans (hload.rd a ha hr)⟩
    rw [Device.isClosed, hcl, hphys hbus]
    simp
  · have hload := (s.dev.cmdReported_load w.by_ (setBits w.data 24 1 0)).matrix
    have hbus := bitsOf_lt (s.dev.cook 0xA0010 (setBits w.data 24 1 0)).1 12 5
    obtain ⟨hcl, hmv, hop, hrd⟩ := Device.hostOpen_opens (s.dev.cmdReported w.by_ (setBits w.data 24 1 0)) hnode ((hload.hostHolds _ _).trans hh)
    refine givesDev_write rfl hadm ?_
    rw [matrixCmd_eq, if_neg hc, if_neg Bool.false_ne_true]
    rw [hload.mx, hload.phys hbus] at hcl
    refine ⟨?_, hcl, by rw [hmv, hload.mx], by rw [hop, hload.mx], fun a ha hr => (hrd a).trans (hload.rd a ha hr)⟩
    rw [Device.isClosed, Device.phys, Device.fget, hrd, hload.busStat hbus, ← Device.fget, ← Device.phys, List.any_eq_false]
    intro x hx
    have := ((hcl x).mp hx).2
    simpa using this
  · refine givesDev_write_as (matrixCommand hmem s) hadm ?_
    rintro _ rfl
    have hload := (s.dev.cmdReported_load w.by_ (setBits w.data 24 1 (if close then 1 else 0))).matrix
    rw [matrixCmd_eq, if_pos hc]
    refine ⟨?_, ?_, fun a ha hr => by rw [Device.holdCmd, Device.setMx_rd, hload.rd a ha hr]⟩
    · rw [Device.holdCmd, Device.setMx_mx, hload.mx]
    · rw [Device.holdCmd, Device.setMx_chan]
      exact Device.eq_of_plant Device.chan hload.plant

end Sys2Proof.Machine
end

section
/-!
PROOF. O20: the claim registers of the host.
-/

namespace Sys2Proof.Machine

-- One proof after another: the stacks of the threads that elaborate many at once exceed the memory of a check.
set_option Elab.async false

/-! Words made of single bits. -/

theorem bitOf_eq_testBit (v : Word) (i : Nat) : bitOf v i = v.toNat.testBit i := by
  have hone : bitsOf v i 1 = 1 ↔ v.toNat.testBit i = true := by
    rw [bitsOf, Nat.testBit_eq_decide_div_mod_eq, Nat.shiftRight_eq_div_pow, pow_one, decide_eq_true_iff]
  rw [Bool.eq_iff_iff, ← hone, bitOf, decide_eq_true_iff]

/-- A number made of rising powers of two has their bits. -/
theorem testBit_foldl_two_pow (l : List Nat) (hl : l.Pairwise (· < ·)) (v : Nat) (hv : ∀ k ∈ l, v < 2 ^ k) (i : Nat) :
    (l.foldl (fun v k => v + 2 ^ k) v).testBit i = (v.testBit i || decide (i ∈ l)) := by
  induction l generalizing v with
  | nil => simp
  | cons k l ih =>
    obtain ⟨hk, hl⟩ := List.pairwise_cons.mp hl
    have hvk := hv k List.mem_cons_self
    have hadd : v + 2 ^ k = 2 ^ k ||| v := by
      have := Nat.two_pow_add_eq_or_of_lt hvk 1
      rwa [Nat.mul_one, Nat.add_comm] at this
    have hlt : ∀ j ∈ l, v + 2 ^ k < 2 ^ j := fun j hj => by
      have h2 : 2 ^ (k + 1) ≤ 2 ^ j := Nat.pow_le_pow_right (by decide) (hk j hj)
      rw [Nat.pow_succ] at h2
      omega
    rw [List.foldl_cons, ih hl _ hlt, hadd, Nat.testBit_or, Nat.testBit_two_pow]
    by_cases h : k = i
    · simp [h]
    · simp [h, Ne.symm h]

namespace Device

/-! One bit of a claim register. -/

/-- The owner of resource `r` after its bit of a claim register is written. -/
def claimed (d : Device) (r : Nat) (want : Bool) : Owner :=
  match d.owner r with
  | .host => if want || (decide (d.capo = 1) && d.hostUses r) then .host else .free
  | .free => if want && !(decide (r < 32) && d.isHeldOpen r) && !(decide (200 ≤ r ∧ r < 204) && d.flag (aRMU (r - 200) 0x14) 3) then .host else .free
  | o => o

/-- What the claim of resource `r` depends on, and what the claims of others leave. -/
structure SameClaim (d e : Device) (r : Nat) : Prop where
  owner : e.owner r = d.owner r
  busOpen : e.busOpen r = d.busOpen r

/-- What no claim changes: registers but those of the buses, the mapping of buses, and under HOLD the switches. -/
structure ClaimFrame (d e : Device) : Prop where
  rd : ∀ a, a < 0xA0100 ∨ 0xA0180 ≤ a → e.rd a = d.rd a
  phys : ∀ b < 32, e.phys b = d.phys b
  closed : d.capo = 1 → e.mx.closed = d.mx.closed

theorem ClaimFrame.refl (d : Device) : ClaimFrame d d := ⟨fun _ _ => rfl, fun _ _ => rfl, fun _ => rfl⟩

theorem ClaimFrame.capo {d e : Device} (h : ClaimFrame d e) : e.capo = d.capo := by
  rw [Device.capo, Device.capo, Device.fget, Device.fget, h.rd _ (.inl (by decide))]

theorem ClaimFrame.trans {d e f : Device} (h : ClaimFrame d e) (h' : ClaimFrame e f) : ClaimFrame d f :=
  ⟨fun a ha => (h'.rd a ha).trans (h.rd a ha), fun b hb => (h'.phys b hb).trans (h.phys b hb),
    fun hc => (h'.closed (h.capo.trans hc)).trans (h.closed hc)⟩

theorem ClaimFrame.hostUses {d e : Device} (h : ClaimFrame d e) (hc : d.capo = 1) (r : Nat) : e.hostUses r = d.hostUses r := by
  unfold Device.hostUses
  rw [h.closed hc]
  congr 1
  funext s
  unfold onRes
  split
  next hr => rw [h.phys r hr]
  next => rfl

theorem ClaimFrame.claimed {d e : Device} (h : ClaimFrame d e) {r : Nat} (hs : SameClaim d e r) (want : Bool) : e.claimed r want = d.claimed r want := by
  have hheld : e.isHeldOpen r = d.isHeldOpen r := by rw [isHeldOpen, isHeldOpen, hs.busOpen]
  have huses : (decide (e.capo = 1) && e.hostUses r) = (decide (d.capo = 1) && d.hostUses r) := by
    by_cases hc : d.capo = 1
    · rw [h.capo, h.hostUses hc]
    · rw [h.capo, decide_eq_false hc, Bool.false_and, Bool.false_and]
  have hflag : (decide (200 ≤ r ∧ r < 204) && e.flag (aRMU (r - 200) 0x14) 3) = (decide (200 ≤ r ∧ r < 204) && d.flag (aRMU (r - 200) 0x14) 3) := by
    rw [flag_eq_of_rd_eq (h.rd _ (.inr (by unfold aRMU; omega)))]
  unfold Device.claimed
  rw [hs.owner, hheld, huses, hflag]

section
variable (d : Device) (r : Nat)

theorem dropHostTaps_owner {q : Nat} (hq : q < 1000) : d.dropHostTaps.owner q = d.owner q := by
  have hfold (l : List Nat) (hl : ∀ r ∈ l, 1000 ≤ r) (e : Device) :
      (l.foldl (fun d r => if d.mx.closed.any fun s => s.host && s.node == r - 1000 then d else d.setOwner r .free) e).owner q = e.owner q := by
    induction l generalizing e with
    | nil => rfl
    | cons r l ih =>
      rw [List.foldl_cons, ih fun x hx => hl x (List.mem_cons_of_mem r hx)]
      have hr := hl r List.mem_cons_self
      split
      · rfl
      · rw [setOwner_owner, if_neg (by omega)]
  unfold dropHostTaps
  refine hfold _ (fun r hr => ?_) d
  have := (List.mem_filter.mp hr).2
  rw [Bool.and_eq_true, decide_eq_true_iff] at this
  exact this.1

theorem holdOpen_owner (b : Nat) (w : OpenWhy) (q : Nat) : (d.holdOpen b w).owner q = d.owner q := by
  rw [holdOpen, owner, owner, eq_of_plant Device.mx (fsetB_plant ..), setMx_mx]

theorem holdOpen_busOpen (b : Nat) (w : OpenWhy) (q : Nat) : (d.holdOpen b w).busOpen q = if q = b then w else d.busOpen q := by
  rw [holdOpen, busOpen, busOpen, eq_of_plant Device.mx (fsetB_plant ..), setMx_mx, tabGet_tabSet]

theorem holdOpen_closed (b : Nat) (w : OpenWhy) : (d.holdOpen b w).mx.closed = d.mx.closed := by
  rw [holdOpen, eq_of_plant Device.mx (fsetB_plant ..), setMx_mx]

theorem holdOpen_rd {b a : Nat} (w : OpenWhy) (h : a ≠ aMX (0x100 + 4 * b)) : (d.holdOpen b w).rd a = d.rd a := by
  rw [holdOpen, fsetB, rd_fset_other _ _ _ _ h, setMx_rd]

theorem holdOpen_phys (b : Nat) (w : OpenWhy) (q : Nat) : (d.holdOpen b w).phys q = d.phys q := by
  by_cases h : q = b
  · subst h
    rw [phys, phys, holdOpen, fsetB, fget_fset_disjoint _ _ _ (by decide) (by decide)]
    rfl
  · rw [phys, phys, fget, fget, holdOpen_rd _ _ (by unfold aMX; omega)]

/-- The switches of a resource open and it is free. -/
def freed (d : Device) (r : Nat) : Device :=
  ((d.setMx { d.mx with closed := d.mx.closed.filter fun s => !(s.host && d.onRes r s) }).setOwner r .free).dropHostTaps

theorem letGo_eq : d.letGo r = if decide (r < 32) && decide ((d.freed r).busOpen r = OpenWhy.overcurrent) then (d.freed r).holdOpen r .no else d.freed r := rfl

theorem freed_rd (a : Nat) : (d.freed r).rd a = d.rd a := by rw [freed, (SameButClaims.dropHostTaps _).rd, setOwner_rd, setMx_rd]

theorem freed_busOpen (q : Nat) : (d.freed r).busOpen q = d.busOpen q := by
  rw [freed, busOpen, busOpen, (SameButClaims.dropHostTaps _).opens, setOwner, setMx_mx, setMx_mx]

theorem freed_owner {q : Nat} (hq : q < 1000) : (d.freed r).owner q = if q = r then .free else d.owner q := by
  rw [freed, dropHostTaps_owner _ hq, setOwner_owner]
  rfl

theorem letGo_owner {q : Nat} (hq : q < 1000) : (d.letGo r).owner q = if q = r then .free else d.owner q := by
  rw [letGo_eq]
  split
  · rw [holdOpen_owner, freed_owner d r hq]
  · exact freed_owner d r hq

theorem letGo_busOpen {q : Nat} (hq : q ≠ r) : (d.letGo r).busOpen q = d.busOpen q := by
  rw [letGo_eq]
  split
  · rw [holdOpen_busOpen, if_neg hq, freed_busOpen]
  · exact freed_busOpen d r q

theorem freed_closed : (d.freed r).mx.closed = d.mx.closed.filter fun s => !(s.host && d.onRes r s) := by
  rw [freed, (SameButClaims.dropHostTaps _).closed, setOwner, setMx_mx, setMx_mx]

theorem letGo_frame (hr : d.capo = 1 → d.hostUses r = false) : ClaimFrame d (d.letGo r) := by
  have hclosed (hc : d.capo = 1) : (d.freed r).mx.closed = d.mx.closed := by
    have hu := hr hc
    rw [hostUses, List.any_eq_false] at hu
    rw [freed_closed, List.filter_eq_self]
    intro s hs
    simpa [imp_iff_not_or] using hu s hs
  have hphys (b : Nat) : (d.freed r).phys b = d.phys b := by rw [phys, phys, fget, fget, freed_rd]
  rw [letGo_eq]
  split
  next hlt =>
    rw [Bool.and_eq_true, decide_eq_true_iff] at hlt
    exact ⟨fun a ha => by rw [holdOpen_rd _ _ (by unfold aMX; omega), freed_rd], fun b _ => by rw [holdOpen_phys, hphys],
      fun hc => by rw [holdOpen_closed, hclosed hc]⟩
  next => exact ⟨fun a _ => freed_rd d r a, fun b _ => hphys b, hclosed⟩

variable {d r} (want : Bool)

theorem claimed_of_host (ho : d.owner r = .host) :
    d.claimed r want = if want || (decide (d.capo = 1) && d.hostUses r) then .host else .free := by
  unfold claimed
  rw [ho]

theorem claimed_of_free (ho : d.owner r = .free) : d.claimed r want =
    if want && !(decide (r < 32) && d.isHeldOpen r) && !(decide (200 ≤ r ∧ r < 204) && d.flag (aRMU (r - 200) 0x14) 3) then .host else .free := by
  unfold claimed
  rw [ho]

theorem claimed_of_other (hh : d.owner r ≠ .host) (hf : d.owner r ≠ .free) : d.claimed r want = d.owner r := by
  unfold claimed
  split
  next h => exact absurd h hh
  next h => exact absurd h hf
  next => rfl

theorem claimBit_of_host (ho : d.owner r = .host) : (d.claimBit r want).1 =
    if want then d else if d.capo = 1 ∧ d.hostUses r then d.holdCmd (.letGo r) else d.letGo r := by
  unfold claimBit
  rw [ho]
  dsimp only
  split
  · rfl
  · split
    · rfl
    · rfl

theorem claimBit_of_free (ho : d.owner r = .free) : (d.claimBit r want).1 =
    if want && !(decide (r < 32) && d.isHeldOpen r) && !(decide (200 ≤ r ∧ r < 204) && d.flag (aRMU (r - 200) 0x14) 3) then d.setOwner r .host
    else d := by
  unfold claimBit
  rw [ho]
  dsimp only
  cases want with
  | false => rfl
  | true =>
    cases decide (r < 32) && d.isHeldOpen r with
    | true => rfl
    | false =>
      cases decide (200 ≤ r ∧ r < 204) && d.flag (aRMU (r - 200) 0x14) 3 with
      | true => rfl
      | false => rfl

theorem claimBit_of_other (hh : d.owner r ≠ .host) (hf : d.owner r ≠ .free) : (d.claimBit r want).1 = d := by
  unfold claimBit
  split
  next h => exact absurd h hh
  next h => exact absurd h hf
  next => rfl

/-- What one bit of a claim register leaves: its resource has the owner it says, and no other claim changes. -/
structure Claims (d e : Device) (r : Nat) (o : Owner) : Prop where
  frame : ClaimFrame d e
  owner : e.owner r = o
  others : ∀ q < 1000, q ≠ r → SameClaim d e q

theorem Claims.refl (d : Device) (r : Nat) : Claims d d r (d.owner r) := ⟨.refl d, rfl, fun _ _ _ => ⟨rfl, rfl⟩⟩

theorem claimBit_claims (hr : r < 1000) : Claims d (d.claimBit r want).1 r (d.claimed r want) := by
  by_cases ho : d.owner r = .host
  · rw [claimBit_of_host want ho, claimed_of_host want ho]
    cases want with
    | true => exact ho ▸ Claims.refl d r
    | false =>
      rw [if_neg Bool.false_ne_true, Bool.false_or]
      by_cases hu : d.capo = 1 ∧ d.hostUses r = true
      · rw [if_pos hu, decide_eq_true hu.1, hu.2]
        exact ⟨⟨fun _ _ => rfl, fun _ _ => rfl, fun _ => rfl⟩, ho, fun _ _ _ => ⟨rfl, rfl⟩⟩
      · have hfalse : (decide (d.capo = 1) && d.hostUses r) = false := by simpa using hu
        rw [if_neg hu, hfalse]
        refine ⟨letGo_frame d r fun hc => by simpa [hc] using hu, ?_, fun q hq hne => ⟨?_, letGo_busOpen d r hne⟩⟩
        · rw [letGo_owner d r hr, if_pos rfl]
          rfl
        · rw [letGo_owner d r hq, if_neg hne]
  · by_cases hf : d.owner r = .free
    · rw [claimBit_of_free want hf, claimed_of_free want hf]
      split
      · exact ⟨⟨fun _ _ => rfl, fun _ _ => rfl, fun _ => rfl⟩, by rw [setOwner_owner, if_pos rfl],
          fun q _ hne => ⟨by rw [setOwner_owner, if_neg hne], rfl⟩⟩
      · exact hf ▸ Claims.refl d r
    · rw [claimBit_of_other want ho hf, claimed_of_other want ho hf]
      exact .refl d r

end

/-! A claim register. -/

/-- The bits of a claim register taken one after another, refused ones noted. -/
def claimBitsTaken (d : Device) (bits : List (Nat × Nat)) (raw : Word) (bad : Bool) : Device × Bool :=
  bits.foldl (fun acc b => ((acc.1.claimBit b.2 (bitOf raw b.1)).1, acc.2 || (acc.1.claimBit b.2 (bitOf raw b.1)).2)) (d, bad)

/-- What the bits of a claim register leave. -/
structure AllClaims (d e : Device) (bits : List (Nat × Nat)) (raw : Word) : Prop where
  frame : ClaimFrame d e
  owners : ∀ b ∈ bits, e.owner b.2 = d.claimed b.2 (bitOf raw b.1)
  others : ∀ q < 1000, (∀ b ∈ bits, b.2 ≠ q) → SameClaim d e q

theorem claimBitsTaken_claims (raw : Word) (bits : List (Nat × Nat)) (hnodup : (bits.map Prod.snd).Nodup) (hlt : ∀ b ∈ bits, b.2 < 1000)
    (d : Device) (bad : Bool) : AllClaims d (d.claimBitsTaken bits raw bad).1 bits raw := by
  induction bits generalizing d bad with
  | nil => exact ⟨.refl d, nofun, fun _ _ _ => ⟨rfl, rfl⟩⟩
  | cons b l ih =>
    obtain ⟨hb, hl⟩ := List.nodup_cons.mp hnodup
    have hne : ∀ x ∈ l, x.2 ≠ b.2 := fun x hx he => hb (List.mem_map.mpr ⟨x, hx, he⟩)
    have hone := claimBit_claims (d := d) (bitOf raw b.1) (hlt b List.mem_cons_self)
    have hrest := ih hl (fun x hx => hlt x (List.mem_cons_of_mem b hx)) (d.claimBit b.2 (bitOf raw b.1)).1 (bad || (d.claimBit b.2 (bitOf raw b.1)).2)
    refine ⟨hone.frame.trans hrest.frame, fun x hx => ?_, fun q hq hno => ?_⟩
    · rcases List.mem_cons.mp hx with rfl | hx
      · exact (hrest.others x.2 (hlt x List.mem_cons_self) hne).owner.trans hone.owner
      · rw [← hone.frame.claimed (hone.others x.2 (hlt x (List.mem_cons_of_mem b hx)) (hne x hx))]
        exact hrest.owners x hx
    · have h1 := hone.others q hq fun h => hno b List.mem_cons_self h.symm
      have h2 := hrest.others q hq fun x hx => hno x (List.mem_cons_of_mem b hx)
      exact ⟨h2.owner.trans h1.owner, h2.busOpen.trans h1.busOpen⟩

/-- The addresses and bits of the claim registers. -/
def ClaimRegister (a : Nat) (bits : List (Nat × Nat)) : Prop :=
  (a = 0xA0014 ∨ a = 0xA0020 ∨ a = 0xA0024 ∨ a = 0xA0028) ∧ (bits.map Prod.fst).Pairwise (· < ·) ∧ (bits.map Prod.snd).Nodup ∧
  ∀ b ∈ bits, b.1 < 32 ∧ b.2 < 1000

/-- The register shows the bits that the host holds. -/
theorem noteClaims_flag (d : Device) (a : Nat) {bits : List (Nat × Nat)} (hp : (bits.map Prod.fst).Pairwise (· < ·)) (hlt : ∀ b ∈ bits, b.1 < 32)
    {b : Nat × Nat} (hb : b ∈ bits) : (d.noteClaims a bits).flag a b.1 = decide (d.owner b.2 = .host) := by
  set held := bits.filter fun b => decide (d.owner b.2 = .host)
  have hsub : (held.map Prod.fst).Pairwise (· < ·) := hp.sublist (List.filter_sublist.map Prod.fst)
  have hword : (d.noteClaims a bits).rd a = BitVec.ofNat 32 ((held.map Prod.fst).foldl (fun v k => v + 2 ^ k) 0) := by
    rw [noteClaims, rd_wr_same, List.foldl_map]
  have hmem : b.1 ∈ held.map Prod.fst ↔ d.owner b.2 = .host := by
    rw [List.mem_map]
    constructor
    · rintro ⟨x, hx, he⟩
      obtain ⟨hx1, hx2⟩ := List.mem_filter.mp hx
      have hnd : (bits.map Prod.fst).Nodup := hp.imp fun h => Nat.ne_of_lt h
      rw [← List.inj_on_of_nodup_map hnd hx1 hb he]
      exact of_decide_eq_true hx2
    · exact fun h => ⟨b, List.mem_filter.mpr ⟨hb, decide_eq_true h⟩, rfl⟩
  have hflag : (d.noteClaims a bits).flag a b.1 = bitOf ((d.noteClaims a bits).rd a) b.1 := rfl
  rw [hflag, hword, bitOf_eq_testBit, BitVec.toNat_ofNat, Nat.testBit_mod_two_pow, decide_eq_true (hlt b hb), Bool.true_and,
    testBit_foldl_two_pow _ hsub 0 fun k _ => Nat.two_pow_pos k, Nat.zero_testBit, Bool.false_or]
  exact decide_eq_decide.mpr hmem

theorem claimWrite_eq (d : Device) (a : Nat) (bits : List (Nat × Nat)) (raw : Word) : d.claimWrite a bits raw =
    if (d.claimBitsTaken bits raw false).2 then ((d.claimBitsTaken bits raw false).1.noteClaims a bits).refuse a
    else (d.claimBitsTaken bits raw false).1.noteClaims a bits := rfl

theorem noteClaims_owner (d : Device) (a : Nat) (bits : List (Nat × Nat)) (r : Nat) : (d.noteClaims a bits).owner r = d.owner r := rfl

theorem refuse_owner (d : Device) (a r : Nat) : (d.refuse a).owner r = d.owner r := eq_of_plant (fun x => x.owner r) (refuse_plant d a)

end Device

theorem Device.ClaimRegister.notEvent {a : Nat} {bits : List (Nat × Nat)} (h : Device.ClaimRegister a bits) : ¬ Device.EventReg a a ∧ reportReg a = false := by
  have hev : Device.blockEvents a = some (0xA0004, 0, 1) := by
    rcases h.1 with rfl | rfl | rfl | rfl <;> decide
  constructor
  · rintro (⟨c, r, he⟩ | ⟨hw, hw', -⟩)
    · rw [hev] at he
      have := (Prod.mk.inj (Option.some.inj he)).1
      rcases h.1 with rfl | rfl | rfl | rfl <;> omega
    · rcases h.1 with rfl | rfl | rfl | rfl <;> omega
  · rcases h.1 with rfl | rfl | rfl | rfl <;> decide

/-- A write of a claim register: owners follow the bits, and the register shows what the host holds. -/
theorem claimWrite_claims {a : Nat} {bits : List (Nat × Nat)} (h : Device.ClaimRegister a bits) (d : Device) (raw : Word) :
    (∀ b ∈ bits, (d.claimWrite a bits raw).owner b.2 = d.claimed b.2 (bitOf raw b.1)) ∧
    (∀ r < 1000, (∀ b ∈ bits, b.2 ≠ r) → (d.claimWrite a bits raw).owner r = d.owner r) ∧
    (∀ b ∈ bits, (d.claimWrite a bits raw).flag a b.1 = decide ((d.claimWrite a bits raw).owner b.2 = .host)) := by
  have hnot := h.notEvent
  obtain ⟨-, hp, hnodup, hlt⟩ := h
  have hall := Device.claimBitsTaken_claims raw bits hnodup (fun b hb => (hlt b hb).2) d false
  have hown (r : Nat) : (d.claimWrite a bits raw).owner r = (d.claimBitsTaken bits raw false).1.owner r := by
    rw [Device.claimWrite_eq]
    split
    · rw [Device.refuse_owner, Device.noteClaims_owner]
    · rfl
  have hrd : (d.claimWrite a bits raw).rd a = ((d.claimBitsTaken bits raw false).1.noteClaims a bits).rd a := by
    rw [Device.claimWrite_eq]
    split
    · exact Device.refuse_rd _ _ _ hnot.1 hnot.2
    · rfl
  refine ⟨fun b hb => (hown _).trans (hall.owners b hb), fun r hr hno => (hown r).trans (hall.others r hr hno).owner, fun b hb => ?_⟩
  rw [Device.flag_eq_of_rd_eq hrd, hown, Device.noteClaims_flag _ a hp (fun b hb => (hlt b hb).1) hb]

theorem claimRegister_hostBus : Device.ClaimRegister 0xA0014 ((List.range 32).map fun b => (b, resBus b)) :=
  ⟨.inl rfl, by decide, by decide, by decide⟩

theorem claimRegister_claimBits (r : Fin 3) : Device.ClaimRegister (0xA0020 + 4 * r) (Device.claimBits r) := by
  revert r
  unfold Device.ClaimRegister
  decide

/-- The commands that write a claim register. -/
theorem claimCommand {w : Wr} {x : Instr × Nat × List (Nat × Nat)}
    (h : x ∈ [(Instr.matrixHostbusWrite w, 0xA0014, (List.range 32).map (fun b => (b, resBus b))), (.matrixHostClaimWrite 0 w, 0xA0020, Device.claimBits 0),
      (.matrixHostClaimWrite 1 w, 0xA0024, Device.claimBits 1), (.matrixHostClaimWrite 2 w, 0xA0028, Device.claimBits 2)]) (s : State) :
    Device.ClaimRegister x.2.1 x.2.2 ∧ exec x.1 s = .next (s.onDev fun d => d.write w x.2.1 fun d => d.claimWrite x.2.1 x.2.2 w.data) := by
  simp only [List.mem_cons, List.not_mem_nil, or_false] at h
  rcases h with rfl | rfl | rfl | rfl
  · exact ⟨claimRegister_hostBus, rfl⟩
  · exact ⟨claimRegister_claimBits 0, rfl⟩
  · exact ⟨claimRegister_claimBits 1, rfl⟩
  · exact ⟨claimRegister_claimBits 2, rfl⟩

/-- Settles O20: each bit of a claim register gives or takes its resource, and no other owner changes. -/
theorem hostClaimsFollowBits : Obligations.HostClaimsFollowBits := by
  unfold Obligations.HostClaimsFollowBits
  intro w s x hx c a bits hadm
  obtain ⟨hreg, he⟩ := claimCommand hx s
  obtain ⟨hown, hother, hflag⟩ := claimWrite_claims hreg s.dev w.data
  exact givesDev_write he hadm ⟨hown, hother, hflag⟩

end Sys2Proof.Machine
end

section
/-!
PROOF. O21: buses that are held open, released, opened by over-current, and retired.
-/

namespace Sys2Proof.Machine

-- One proof after another: the stacks of the threads that elaborate many at once exceed the memory of a check.
set_option Elab.async false

/-- The positions of the ones of a word. -/
theorem mem_onesOf {v : Word} {b : Nat} : b ∈ onesOf 32 v.toNat ↔ b < 32 ∧ bitOf v b = true := by
  rw [onesOf, List.mem_filter, List.mem_range, bitOf_eq_testBit, Nat.testBit_eq_decide_div_mod_eq]

theorem onesOf_nodup (n x : Nat) : (onesOf n x).Nodup := List.nodup_range.filter _

namespace Device

section
variable (d : Device)

/-! A bus opens (R116). -/

theorem openBus_rd (p a : Nat) : (d.openBus p).rd a = d.rd a := by rw [openBus, (SameButClaims.dropHostTaps _).rd, setMx_rd]
theorem openBus_closed (p : Nat) : (d.openBus p).mx.closed = d.mx.closed.filter fun s => s.phys != p := by
  rw [openBus, (SameButClaims.dropHostTaps _).closed, setMx_mx]
theorem openBus_busOpen (p b : Nat) : (d.openBus p).busOpen b = d.busOpen b := by
  rw [openBus, busOpen, busOpen, (SameButClaims.dropHostTaps _).opens, setMx_mx]
theorem openBus_heldCmds (p : Nat) : (d.openBus p).mx.heldCmds = d.mx.heldCmds := by
  rw [openBus, (SameButClaims.dropHostTaps _).held, setMx_mx]

theorem mem_openBus_closed (p : Nat) (x : Switch) : x ∈ (d.openBus p).mx.closed ↔ x ∈ d.mx.closed ∧ x.phys ≠ p := by
  rw [openBus_closed, List.mem_filter, bne_iff_ne]

/-- Without a segment that still conducts a per-bus open is no more than an open. -/
theorem perBusOpen_nil (p : Nat) : d.perBusOpen p [] = d.openBus p := rfl

/-- A bus opens, and is held open or no longer (R116, R120). -/
def busHeld (d : Device) (b : Nat) (w : OpenWhy) (x : Nat) : Device := ((d.holdOpen b w).fset 0xA0018 b 1 x).openBus (d.phys b)

variable (b : Nat) (w : OpenWhy) (x : Nat)

theorem busHeld_busOpen (q : Nat) : (d.busHeld b w x).busOpen q = if q = b then w else d.busOpen q := by
  rw [busHeld, openBus_busOpen, eq_of_plant (fun e => e.busOpen q) (fset_plant ..), holdOpen_busOpen]

theorem busHeld_mem (s : Switch) : s ∈ (d.busHeld b w x).mx.closed ↔ s ∈ d.mx.closed ∧ s.phys ≠ d.phys b := by
  rw [busHeld, mem_openBus_closed, eq_of_plant Device.mx (fset_plant ..), holdOpen_closed]

theorem busHeld_heldCmds : (d.busHeld b w x).mx.heldCmds = d.mx.heldCmds := by
  rw [busHeld, openBus_heldCmds, eq_of_plant Device.mx (fset_plant ..), holdOpen, eq_of_plant Device.mx (fsetB_plant ..), setMx_mx]

theorem busHeld_phys {q : Nat} : (d.busHeld b w x).phys q = d.phys q := by
  have hne : aMX (0x100 + 4 * q) ≠ 0xA0018 := by unfold aMX; omega
  rw [← holdOpen_phys d b w, phys, fget, busHeld, openBus_rd, rd_fset_other _ _ _ _ hne]
  rfl

theorem busHeld_flag {q : Nat} (hb : b < 32) : (d.busHeld b w x).flag 0xA0018 q = if q = b then decide (x % 2 = 1) else d.flag 0xA0018 q := by
  have hrd : (d.busHeld b w x).rd 0xA0018 = ((d.holdOpen b w).fset 0xA0018 b 1 x).rd 0xA0018 := openBus_rd ..
  have hold : (d.holdOpen b w).rd 0xA0018 = d.rd 0xA0018 := holdOpen_rd d w (by unfold aMX; omega)
  rw [flag_eq_of_rd_eq hrd]
  split
  next h => rw [h, flag_fset_same _ _ hb]
  next h => rw [← flag_eq_of_rd_eq hold, flag, flag, fget_fset_disjoint _ _ _ (by omega) (by omega)]

theorem busHeld_capo : (d.busHeld b w x).capo = d.capo := by
  have hne : 0x40000 ≠ aMX (0x100 + 4 * b) := by unfold aMX; omega
  rw [capo, capo, fget, fget, busHeld, openBus_rd, rd_fset_other _ _ _ _ (by decide), holdOpen_rd _ _ hne]

end

/-! Several buses. -/

/-- What the host's opens and releases of several buses leave: those of `l` are as `w` and `x` say, the others as before. -/
structure BusesHeld (d e : Device) (l : List Nat) (w : OpenWhy) (x : Bool) : Prop where
  busOpen : ∀ q, e.busOpen q = if q ∈ l then w else d.busOpen q
  flag : ∀ q, e.flag 0xA0018 q = if q ∈ l then x else d.flag 0xA0018 q
  closed : ∀ s, s ∈ e.mx.closed ↔ s ∈ d.mx.closed ∧ ∀ b ∈ l, s.phys ≠ d.phys b
  phys : ∀ q, e.phys q = d.phys q
  capo : e.capo = d.capo
  held : e.mx.heldCmds = d.mx.heldCmds

theorem BusesHeld.refl (d : Device) (w : OpenWhy) (x : Bool) : BusesHeld d d [] w x :=
  ⟨fun _ => rfl, fun _ => rfl, fun _ => ⟨fun h => ⟨h, nofun⟩, And.left⟩, fun _ => rfl, rfl, rfl⟩

theorem BusesHeld.cons {d e : Device} {l : List Nat} {w : OpenWhy} {x : Bool} {b : Nat} (hb : b < 32)
    (h : BusesHeld (d.busHeld b w (if x then 1 else 0)) e l w x) : BusesHeld d e (b :: l) w x := by
  refine ⟨fun q => ?_, fun q => ?_, fun s => ?_, fun q => (h.phys q).trans (busHeld_phys ..), h.capo.trans (busHeld_capo ..),
    h.held.trans (busHeld_heldCmds ..)⟩
  · rw [h.busOpen, busHeld_busOpen]
    by_cases hq : q ∈ l
    · rw [if_pos hq, if_pos (List.mem_cons_of_mem b hq)]
    · simp [hq]
  · have hbit : decide ((if x then 1 else 0) % 2 = 1) = x := by cases x <;> rfl
    rw [h.flag, busHeld_flag _ _ _ _ hb, hbit]
    by_cases hq : q ∈ l
    · rw [if_pos hq, if_pos (List.mem_cons_of_mem b hq)]
    · simp [hq]
  · rw [h.closed, busHeld_mem, and_assoc, List.forall_mem_cons]
    simp only [busHeld_phys]

/-- Outside HOLD every bus whose bit is one opens and is held open. -/
theorem foldl_openHeld (l : List Nat) (hl : ∀ b ∈ l, b < 32) (d : Device) (hc : d.capo ≠ 1) :
    BusesHeld d (l.foldl (fun d b => if d.capo = 1 then d.holdCmd (.open_ b) else d.openHeld b []) d) l .host true := by
  induction l generalizing d with
  | nil => exact .refl d _ _
  | cons b l ih =>
    have hheld : d.openHeld b [] = d.busHeld b .host 1 := rfl
    rw [List.foldl_cons, if_neg hc, hheld]
    exact (ih (fun q hq => hl q (List.mem_cons_of_mem b hq)) _ (by rwa [busHeld_capo])).cons (hl b List.mem_cons_self)

/-- Under HOLD the opens are kept. -/
theorem foldl_holdOpen (l : List Nat) (d : Device) (hc : d.capo = 1) :
    l.foldl (fun d b => if d.capo = 1 then d.holdCmd (.open_ b) else d.openHeld b []) d =
      d.setMx { d.mx with heldCmds := d.mx.heldCmds ++ l.map HeldCmd.open_ } := by
  induction l generalizing d with
  | nil => rw [List.map_nil, List.append_nil]; rfl
  | cons b l ih =>
    have hcapo : (d.holdCmd (.open_ b)).capo = d.capo := rfl
    rw [List.foldl_cons, if_pos hc, ih _ (hcapo.trans hc)]
    simp only [holdCmd, setMx, List.append_assoc, List.map_cons, List.cons_append, List.nil_append]

/-- A release of buses of which the host held those of `q`. -/
theorem foldl_relHeld (l : List Nat) (hl : ∀ b ∈ l, b < 32) (hnd : l.Nodup) (d : Device) (hc : d.mx.heldCmds = []) :
    BusesHeld d (l.foldl (fun d b => if d.mx.heldCmds.contains (.open_ b) then d.holdCmd (.rel b) else d.relHeld b []) d)
      (l.filter fun b => decide (d.busOpen b = .host)) .no false := by
  induction l generalizing d with
  | nil => exact .refl d _ _
  | cons b l ih =>
    obtain ⟨hb, hnd⟩ := List.nodup_cons.mp hnd
    have hl' : ∀ q ∈ l, q < 32 := fun q hq => hl q (List.mem_cons_of_mem b hq)
    rw [List.foldl_cons, hc, List.contains_nil, if_neg Bool.false_ne_true]
    by_cases ho : d.busOpen b = .host
    · have hrel : d.relHeld b [] = d.busHeld b .no 0 := if_pos ho
      have hsame : (l.filter fun q => decide (d.busOpen q = .host)) = l.filter fun q => decide ((d.busHeld b .no 0).busOpen q = .host) := by
        refine List.filter_congr fun q hq => ?_
        rw [busHeld_busOpen, if_neg fun h : q = b => hb (h ▸ hq)]
      rw [hrel, List.filter_cons_of_pos (by simpa using ho), hsame]
      exact (ih hl' hnd _ ((busHeld_heldCmds ..).trans hc)).cons (hl b List.mem_cons_self)
    · have hrel : d.relHeld b [] = d := if_neg ho
      rw [hrel, List.filter_cons_of_neg (by simpa using ho)]
      exact ih hl' hnd d hc

/-! Over-current (R115). -/

section
variable (d : Device) (p : Nat) {b : Nat}

/-- The device once an over-current of physical bus `p` is reported. -/
def currentSeen (d : Device) (p : Nat) : Device := (d.event 0xA0004 2).report (entry .d 0x04 p 0x22 0)

theorem currentSeen_plant : (d.currentSeen p).plant = d.plant := by rw [currentSeen, report_plant, event_plant]

theorem currentSeen_rd {a : Nat} (ha : a ≠ 0xA0004) (hr : reportReg a = false) : (d.currentSeen p).rd a = d.rd a := by
  rw [currentSeen, report_rd _ _ _ _ hr, event_rd _ _ _ _ ha (reportReg_false hr).2.2.2.2.2.2.2.2.1]

theorem currentSeen_flag : (d.currentSeen p).flag 0xA0004 2 = true := by
  have hrd (e : Device) : (e.report (entry .d 0x04 p 0x22 0)).rd 0xA0004 = e.rd 0xA0004 := report_rd _ _ _ _ (by decide)
  rw [currentSeen, flag_eq_of_rd_eq (hrd _), event_flag _ _ _ (by decide) (by decide)]

/-- The logical bus of a physical one is read off the registers of the buses. -/
theorem logicalOf_congr {d e : Device} (h : ∀ b < 32, e.rd (aMX (0x100 + 4 * b)) = d.rd (aMX (0x100 + 4 * b))) (p : Nat) :
    e.logicalOf p = d.logicalOf p := by
  have hfind (l : List Nat) (hl : ∀ b ∈ l, b < 32) : (l.find? fun b => e.phys b == p && !e.flag (aMX (0x100 + 4 * b)) 21) =
      l.find? fun b => d.phys b == p && !d.flag (aMX (0x100 + 4 * b)) 21 := by
    induction l with
    | nil => rfl
    | cons b l ih =>
      have hb := h b (hl b List.mem_cons_self)
      rw [List.find?_cons, List.find?_cons, ih fun q hq => hl q (List.mem_cons_of_mem b hq), phys, phys, fget, fget, hb, flag_eq_of_rd_eq hb]
  exact hfind _ fun b hb => List.mem_range.mp hb

theorem currentSeen_logicalOf (q : Nat) : (d.currentSeen p).logicalOf q = d.logicalOf q :=
  logicalOf_congr (fun b hb => currentSeen_rd _ _ (by unfold aMX; omega) (reportReg_of_mid (by unfold aMX; omega) (by unfold aMX; omega))) q

/-- COMPLIANCE on the slots of the execution that claims a bus. -/
def busFlagged (d : Device) (b : Nat) : Device :=
  match d.owner b with
  | .ctx i _ => d.flagBus i b
  | _ => d

theorem busFlagged_rd (b a : Nat) : (d.busFlagged b).rd a = d.rd a := by
  unfold busFlagged
  split
  · rfl
  · rfl

theorem busFlagged_mx (b : Nat) : (d.busFlagged b).mx = d.mx := by
  unfold busFlagged
  split
  · rfl
  · rfl

/-- An over-current in two steps: it is reported, and then the bus opens. (The definition is unfolded as a function: the kernel would otherwise evaluate
the bus that the reporting device finds.) -/
theorem overcurrent_of_none {e : Device} (he : d.currentSeen p = e) (h : e.logicalOf p = none) (stuck : List (Fin 34 × Nat)) :
    d.overcurrent p stuck = e.perBusOpen p stuck := by
  have hfun : @overcurrent = @overcurrent := rfl
  conv at hfun => rhs; delta overcurrent
  have hstep := congrFun (congrFun (congrFun hfun d) p) stuck
  beta_reduce at hstep
  rw [show (d.event 0xA0004 2).report (entry .d 0x04 p 0x22 0) = e from he] at hstep
  rw [hstep]
  dsimp only
  rw [h]

theorem overcurrent_of_some {e : Device} (he : d.currentSeen p = e) (h : e.logicalOf p = some b) (stuck : List (Fin 34 × Nat)) :
    d.overcurrent p stuck = (if (e.busFlagged b).owner b = .free ∨ (e.busFlagged b).busOpen b ≠ .no then e.busFlagged b
      else (e.busFlagged b).holdOpen b .overcurrent).perBusOpen p stuck := by
  have hfun : @overcurrent = @overcurrent := rfl
  conv at hfun => rhs; delta overcurrent
  have hstep := congrFun (congrFun (congrFun hfun d) p) stuck
  beta_reduce at hstep
  rw [show (d.event 0xA0004 2).report (entry .d 0x04 p 0x22 0) = e from he] at hstep
  rw [hstep]
  dsimp only
  rw [h]
  rfl

theorem overcurrent_of_serving (hb : d.logicalOf p = some b) (ho : d.owner b ≠ .free) (hn : d.busOpen b = .no) :
    d.overcurrent p [] = (((d.currentSeen p).busFlagged b).holdOpen b .overcurrent).openBus p := by
  have hmx : ((d.currentSeen p).busFlagged b).mx = d.mx := (busFlagged_mx ..).trans (eq_of_plant Device.mx (currentSeen_plant d p))
  have howner : ((d.currentSeen p).busFlagged b).owner b ≠ .free := by rwa [owner, hmx]
  have hopen : ((d.currentSeen p).busFlagged b).busOpen b = .no := by rw [busOpen, hmx]; exact hn
  rw [overcurrent_of_some d p rfl ((currentSeen_logicalOf d p p).trans hb) [], perBusOpen_nil, if_neg (by simp [howner, hopen])]

/-- The bus of a physical one opens on over-current and is held open. -/
theorem overcurrent_opens (hb : d.logicalOf p = some b) (ho : d.owner b ≠ .free) (hn : d.busOpen b = .no) :
    (let t := d.overcurrent p []
     t.busOpen b = .overcurrent ∧ t.flag 0xA0004 2 = true ∧ (∀ x ∈ t.mx.closed, x.phys ≠ p) ∧ (∀ b', b' ≠ b → t.busOpen b' = d.busOpen b') ∧
     keepsRegs (fun a => a = 0xA0004 ∨ a = aMX (0x100 + 4 * b)) d t) := by
  have hmx : ((d.currentSeen p).busFlagged b).mx = d.mx := (busFlagged_mx ..).trans (eq_of_plant Device.mx (currentSeen_plant d p))
  have hrd (a : Nat) (ha : a ≠ aMX (0x100 + 4 * b)) :
      ((((d.currentSeen p).busFlagged b).holdOpen b .overcurrent).openBus p).rd a = (d.currentSeen p).rd a := by
    rw [openBus_rd, holdOpen_rd _ _ ha, busFlagged_rd]
  rw [overcurrent_of_serving d p hb ho hn]
  refine ⟨?_, ?_, fun x hx => ((mem_openBus_closed ..).mp hx).2, fun q hq => ?_, fun a ha hr => ?_⟩
  · rw [openBus_busOpen, holdOpen_busOpen, if_pos rfl]
  · rw [flag_eq_of_rd_eq (hrd 0xA0004 (by unfold aMX; omega)), currentSeen_flag]
  · rw [openBus_busOpen, holdOpen_busOpen, if_neg hq, busOpen, busOpen, hmx]
  · rw [hrd a (fun h => ha (.inr h)), currentSeen_rd _ _ (fun h => ha (.inl h)) hr]

/-! A segment that still conducts (R116, R117). -/

/-- A per-bus open that finds a segment conducting isolates it, and the bus fails. -/
theorem perBusOpen_stuck (d : Device) {p k : Nat} {q : Fin 34} (hq : q.val = p) (rest : List (Fin 34 × Nat)) :
    d.perBusOpen p ((q, k) :: rest) = ((d.openBus p).isolateBus p ((q, k) :: rest)).busFails p 0x09 k [] [] := by
  unfold perBusOpen
  rw [List.filter_cons_of_pos (by simpa using hq)]

/-- Physical bus `p` is out of service; a spare that serves nothing is no longer free. -/
def busOut (d : Device) (p : Nat) : Device :=
  if 32 ≤ p then (d.setMx { d.mx with out := p :: d.mx.out }).fsetB 0xA0000 (p - 32) false else d.setMx { d.mx with out := p :: d.mx.out }

theorem busFails_of_none (d : Device) {p : Nat} (code detail : Nat) (h : d.logicalOf p = none) :
    d.busFails p code detail [] [] = (d.busOut p).report { entry .p 0x04 p code detail with action := 4 } true := by
  unfold busFails
  have hlog : (d.setMx { d.mx with out := p :: d.mx.out }).logicalOf p = none := h
  dsimp only
  rw [hlog]
  rfl

theorem isolateBus_logicalOf (d : Device) (p : Nat) (stuck : List (Fin 34 × Nat)) (q : Nat) : (d.isolateBus p stuck).logicalOf q = d.logicalOf q := rfl

/-- The bus of a segment that still conducts is retired, and the segment isolated. -/
theorem perBusOpen_retires (d : Device) {p k : Nat} {q : Fin 34} (hq : q.val = p) (hp : p < 34) (rest : List (Fin 34 × Nat)) (h : d.logicalOf p = none) :
    (let t := d.perBusOpen p ((q, k) :: rest)
     (p, k) ∈ t.mx.isolated ∧ p ∈ t.mx.out ∧ (32 ≤ p → t.flag 0xA0000 (p - 32) = false)) := by
  have hlog : ((d.openBus p).isolateBus p ((q, k) :: rest)).logicalOf p = none := by
    rw [isolateBus_logicalOf, logicalOf_congr fun b _ => openBus_rd .., h]
  rw [perBusOpen_stuck d hq, busFails_of_none _ 0x09 k hlog]
  set e := (d.openBus p).isolateBus p ((q, k) :: rest) with he
  have hmx (y : FqEntry) : ((e.busOut p).report y true).mx = { e.mx with out := p :: e.mx.out } := by
    rw [eq_of_plant Device.mx (report_plant ..), busOut]
    split
    · rw [eq_of_plant Device.mx (fsetB_plant ..), setMx_mx]
    · rw [setMx_mx]
  have hrd (y : FqEntry) : ((e.busOut p).report y true).rd 0xA0000 = (e.busOut p).rd 0xA0000 := report_rd _ _ _ _ (by decide)
  refine ⟨?_, ?_, fun h32 => ?_⟩
  · rw [hmx, he, isolateBus, setMx_mx, List.filter_cons_of_pos (by simpa using hq)]
    exact List.mem_cons_self
  · rw [hmx]
    exact List.mem_cons_self
  · rw [flag_eq_of_rd_eq (hrd _), busOut, if_pos h32, flag_fsetB_same _ _ (by have := hp; omega)]

end
end Device

/-- Settles O21: buses open and are held open on command, are released, open on over-current, and are retired where a segment conducts. -/
theorem busesOpenAndRetire : Obligations.BusesOpenAndRetire := by
  unfold Obligations.BusesOpenAndRetire
  refine ⟨fun w s hadm => ⟨fun hc => ?_, fun hc => ?_⟩, fun w s hadm hheld => ?_, fun p b s hb ho hn => ?_, fun p q k rest s hl hq => ?_⟩
  · refine givesDev_write_as rfl hadm ?_
    rintro _ rfl
    have h := Device.foldl_openHeld (onesOf 32 w.data.toNat) (fun b hb => (mem_onesOf.mp hb).1) s.dev hc
    refine ⟨fun b hb hbit => ?_, fun b _ hbit => ?_, fun x hx => ?_⟩
    · have hmem := mem_onesOf.mpr ⟨hb, hbit⟩
      exact ⟨(h.busOpen b).trans (if_pos hmem), (h.flag b).trans (if_pos hmem), fun x hx => ((h.closed x).mp hx).2 b hmem⟩
    · exact (h.busOpen b).trans (if_neg fun hm => by simp [hbit, mem_onesOf] at hm)
    · exact (h.closed x).trans ⟨And.left, fun hxx => ⟨hxx, fun b hb => hx b (mem_onesOf.mp hb).1 (mem_onesOf.mp hb).2⟩⟩
  · refine givesDev_write_as rfl hadm ?_
    rintro _ rfl
    rw [Device.busOpenWrite, Device.foldl_holdOpen _ _ hc]
    exact ⟨rfl, fun _ => rfl⟩
  · refine givesDev_write_as rfl hadm ?_
    rintro _ rfl
    have h := Device.foldl_relHeld (onesOf 32 w.data.toNat) (fun b hb => (mem_onesOf.mp hb).1) (onesOf_nodup ..) s.dev hheld
    refine ⟨fun b hb hbit hho => ?_, fun b _ hno => ?_⟩
    · have hmem : b ∈ (onesOf 32 w.data.toNat).filter fun b => decide (s.dev.busOpen b = .host) :=
        List.mem_filter.mpr ⟨mem_onesOf.mpr ⟨hb, hbit⟩, decide_eq_true hho⟩
      exact ⟨(h.busOpen b).trans (if_pos hmem), (h.flag b).trans (if_pos hmem), fun x hx => ((h.closed x).mp hx).2 b hmem⟩
    · refine (h.busOpen b).trans (if_neg fun hm => ?_)
      obtain ⟨h1, h2⟩ := List.mem_filter.mp hm
      rcases hno with hno | hno
      · simp [hno, mem_onesOf] at h1
      · exact hno (of_decide_eq_true h2)
  · refine givesDev_onDev_as rfl ?_
    rintro _ rfl
    exact Device.overcurrent_opens s.dev p hb ho hn
  · subst hq
    refine givesDev_onDev_as rfl ?_
    rintro _ rfl
    have hlog := (Device.currentSeen_logicalOf s.dev q q).trans hl
    rw [Device.overcurrent_of_none s.dev q rfl hlog]
    exact Device.perBusOpen_retires _ rfl q.isLt rest hlog

end Sys2Proof.Machine
end

section
/-!
PROOF. O22: connection-list entries, conversions and chains of the meters.
-/

namespace Sys2Proof.Machine

-- One proof after another: the stacks of the threads that elaborate many at once exceed the memory of a check.
set_option Elab.async false

namespace Device

section
variable (d : Device)

/-! A connection-list entry. -/

theorem aMX_block {o : Nat} (ho : o < 0x10000) : aMX o / 0x10000 = 0x0A := by unfold aMX; omega

theorem blockEvents_aMX {o : Nat} (ho : o < 0x10000) : blockEvents (aMX o) = some (0xA0004, 0, 1) := by
  have hb := aMX_block ho
  unfold blockEvents
  dsimp only
  rw [if_neg (by omega), if_neg (by omega), if_neg (by omega), if_neg (by omega), if_neg (by omega), if_neg (by omega), if_neg (by omega),
    if_neg (by omega), if_neg (by omega), if_neg (by omega), if_pos hb]

theorem eventReg_aMX {o b : Nat} (ho : o < 0x10000) : EventReg (aMX o) b ↔ b = 0xA0004 := by
  have hb := aMX_block ho
  rw [EventReg, blockEvents_aMX ho]
  constructor
  · rintro (⟨c, r, he⟩ | ⟨-, hw, -⟩)
    · exact (Prod.mk.inj (Option.some.inj he)).1.symm
    · omega
  · rintro rfl
    exact .inl ⟨0, 1, rfl⟩

/-- An entry that no active context's list covers, and that keeps to R87, is written. -/
theorem lentWrite_of_allowed {j : Nat} (p : Party) (raw : Word) (hbusy : ((d.covering j).any fun i => d.descBusy i) = false)
    (hfit : ((d.covering j).any fun i => listFits (d.listOf i) && !listFits ((d.putCooked p (aMX (0x8000 + 4 * j)) raw).listOf i)) = false) :
    d.lentWrite j p raw = d.putCooked p (aMX (0x8000 + 4 * j)) raw := by
  unfold lentWrite
  dsimp only
  rw [hbusy, Bool.false_and, if_neg Bool.false_ne_true, hfit, if_neg Bool.false_ne_true]

/-! Conversions of a meter (R99, R104, R109). -/

variable (r : Nat)

theorem fsetB_meter (a i : Nat) (x : Bool) (q : Nat) : (d.fsetB a i x).meter q = d.meter q := eq_of_plant (fun e => e.meter q) (fsetB_plant ..)

/-- A meter that the host holds at rest starts a conversion. -/
theorem rmuStart_starts (ho : d.owner (resRmu r) = .host) (hf : d.flag (aRMU r 0x14) 0 = false) :
    (let t := d.rmuStart r
     t.flag (aRMU r 0x14) 0 = true ∧ (∃ c, (t.meter r).conv = some c ∧ c.byHost = true ∧ c.start = d.edge + 1) ∧
     (∀ q, q ≠ r → t.meter q = d.meter q) ∧ ∀ a, a ≠ aRMU r 0x14 → t.rd a = d.rd a) := by
  have hstart : d.rmuStart r = ((d.setMeter r ⟨some (d.convOf r true 0 d.nextEdge)⟩).fsetB (aRMU r 0x14) 0 true).fsetB (aRMU r 0x14) 1
      (d.convOf r true 0 d.nextEdge).noline := if_pos ⟨ho, hf⟩
  have hconv : (d.convOf r true 0 d.nextEdge).byHost = true ∧ (d.convOf r true 0 d.nextEdge).start = d.edge + 1 := by
    unfold convOf
    dsimp only
    split
    · exact ⟨rfl, rfl⟩
    · exact ⟨rfl, rfl⟩
  rw [hstart]
  refine ⟨?_, ⟨d.convOf r true 0 d.nextEdge, ?_, hconv⟩, fun q hq => ?_, fun a ha => ?_⟩
  · rw [flag_fsetB_other _ _ (by decide) (by decide), flag_fsetB_same _ _ (by decide)]
  · rw [fsetB_meter, fsetB_meter, setMeter_same]
  · rw [fsetB_meter, fsetB_meter, setMeter_other _ _ _ _ hq]
  · rw [fsetB, rd_fset_other _ _ _ _ ha, fsetB, rd_fset_other _ _ _ _ ha]
    rfl

/-- A reading in the chain of a meter leaves every meter and, of the registers, all but its DEV_RMUFSTAT. -/
theorem rmuOutput_rd (o : ChainOut) (c a : Nat) : (d.rmuOutput r o c).rd a = d.rd a := by
  unfold rmuOutput
  split
  · rfl
  · rfl

theorem rmuOutput_meter (o : ChainOut) (c q : Nat) : (d.rmuOutput r o c).meter q = d.meter q := by
  unfold rmuOutput
  split
  · rfl
  · rfl

/-- A reading goes into the chain of the meter, and out of it when its group is complete. -/
theorem rmuFeed_cases (x : Raw) : d.rmuFeed r x = d ∨ (∃ c, d.rmuFeed r x = d.setChain (1024 + r) c) ∨
    ∃ c s o k, d.rmuFeed r x = (((d.setChain (1024 + r) c).fset (aRMUF r 8) 0 2 s).fsetB (aRMUF r 8) 9 false).rmuOutput r o k := by
  unfold rmuFeed
  split
  · extract_lets p c span back c
    split
    · exact .inr (.inl ⟨_, rfl⟩)
    · split
      extract_lets c
      split
      · exact .inr (.inl ⟨_, rfl⟩)
      · exact .inr (.inr ⟨_, _, _, _, rfl⟩)
  · exact .inl rfl

theorem rmuFeed_rd (x : Raw) {a : Nat} (ha : a ≠ aRMUF r 8) : (d.rmuFeed r x).rd a = d.rd a := by
  rcases rmuFeed_cases d r x with h | ⟨c, h⟩ | ⟨c, s, o, k, h⟩
  · rw [h]
  · rw [h, setChain_rd]
  · rw [h, rmuOutput_rd, fsetB, rd_fset_other _ _ _ _ ha, rd_fset_other _ _ _ _ ha, setChain_rd]

theorem rmuFeed_meter (x : Raw) (q : Nat) : (d.rmuFeed r x).meter q = d.meter q := by
  rcases rmuFeed_cases d r x with h | ⟨c, h⟩ | ⟨c, s, o, k, h⟩
  · rw [h]
  · rw [h]
    rfl
  · rw [h, rmuOutput_meter, fsetB_meter, eq_of_plant (fun e => e.meter q) (fset_plant ..)]
    rfl

/-- The reading of a conversion and whether it saturated. -/
def convRead (d : Device) (r : Nat) (v : Int) (beyond : Bool) : Device :=
  (((d.setMeter r Rmu.init).fsetB (aRMU r 0x14) 0 false).fsetB (aRMU r 0x14) 2 beyond).fset (aRMU r 0x18) 0 24 (ofSigned 24 v)

theorem convRead_meter (v : Int) (beyond : Bool) : (d.convRead r v beyond).meter r = Rmu.init := by
  rw [convRead, eq_of_plant (fun e => e.meter r) (fset_plant ..), fsetB_meter, fsetB_meter, setMeter_same]

theorem aRMU_ne {o o' : Nat} (h : o ≠ o') : aRMU r o ≠ aRMU r o' := by unfold aRMU; omega

theorem convRead_status (v : Int) (beyond : Bool) :
    (d.convRead r v beyond).flag (aRMU r 0x14) 0 = false ∧ (d.convRead r v beyond).flag (aRMU r 0x14) 2 = beyond := by
  have hrd (e : Device) : (e.fset (aRMU r 0x18) 0 24 (ofSigned 24 v)).rd (aRMU r 0x14) = e.rd (aRMU r 0x14) :=
    rd_fset_other _ _ _ _ (aRMU_ne r (by decide))
  rw [convRead, flag_eq_of_rd_eq (hrd _), flag_eq_of_rd_eq (hrd _), flag_fsetB_other _ _ (by decide) (by decide), flag_fsetB_same _ _ (by decide),
    flag_fsetB_same _ _ (by decide)]
  exact ⟨rfl, rfl⟩

theorem ofSigned_lt (n : Nat) (x : Int) : ofSigned n x < 2 ^ n := by
  have h0 : (0 : Int) < ((2 ^ n : Nat) : Int) := by exact_mod_cast Nat.two_pow_pos n
  have h1 := Int.emod_nonneg x (Int.ne_of_gt h0)
  have h2 := Int.emod_lt_of_pos x h0
  unfold ofSigned
  omega

theorem convRead_reading (v : Int) (beyond : Bool) : (d.convRead r v beyond).fget (aRMU r 0x18) 0 24 = ofSigned 24 v := by
  rw [convRead, fget_fset_same _ _ _ (by decide), Nat.mod_eq_of_lt (ofSigned_lt 24 v)]

theorem convRead_rd (v : Int) (beyond : Bool) {a : Nat} (h : a ≠ aRMU r 0x14) (h' : a ≠ aRMU r 0x18) : (d.convRead r v beyond).rd a = d.rd a := by
  rw [convRead, rd_fset_other _ _ _ _ h', fsetB, rd_fset_other _ _ _ _ h, fsetB, rd_fset_other _ _ _ _ h]
  rfl

/-- The value that a conversion reads. -/
def convGiven (d : Device) (r : Nat) (m : RmuMeas) : Int := if d.flag (aRMU r 0) 8 then m.raw - m.zero else m.raw

/-- A conversion of the host that is done: its reading is shown, goes through the chain, and is reported. -/
theorem convEnd_of_host {c : Conv} (m : RmuMeas) (hc : (d.meter r).conv = some c) (hh : c.byHost = true) (hdone : d.convDone c = true)
    (hcapo : d.capo ≠ 1) : ∃ compl e x, d.convEnd r m =
      ((if compl = true then (d.convRead r (clampInt (-8388607) 8388607 (d.convGiven r m))
          (decide (clampInt (-8388607) 8388607 (d.convGiven r m) ≠ d.convGiven r m))).report e
        else d.convRead r (clampInt (-8388607) 8388607 (d.convGiven r m))
          (decide (clampInt (-8388607) 8388607 (d.convGiven r m) ≠ d.convGiven r m))).rmuFeed r x).event 0xA0004 5 := by
  unfold convEnd
  rw [hc]
  dsimp only
  rw [if_neg (by simp [hdone, hcapo]), if_pos hh]
  exact ⟨_, _, _, rfl⟩

/-- What the end of a conversion of the host leaves. -/
theorem convEnd_reads {c : Conv} (m : RmuMeas) (hr : r < 4) (hc : (d.meter r).conv = some c) (hh : c.byHost = true) (hdone : d.convDone c = true)
    (hcapo : d.capo ≠ 1) : (let t := d.convEnd r m
    (t.meter r).conv = none ∧ t.flag (aRMU r 0x14) 0 = false ∧
    t.fget (aRMU r 0x18) 0 24 = ofSigned 24 (clampInt (-8388607) 8388607 (d.convGiven r m)) ∧
    t.flag (aRMU r 0x14) 2 = decide (clampInt (-8388607) 8388607 (d.convGiven r m) ≠ d.convGiven r m) ∧ t.flag 0xA0004 5 = true ∧
    keepsRegs (fun a => a = aRMU r 0x14 ∨ a = aRMU r 0x18 ∨ a = aRMUF r 8 ∨ a = 0xA0004) d t) := by
  obtain ⟨compl, e, x, ht⟩ := convEnd_of_host d r m hc hh hdone hcapo
  rw [ht]
  set v := clampInt (-8388607) 8388607 (d.convGiven r m)
  set f := d.convRead r v (decide (v ≠ d.convGiven r m)) with hf
  have hrep {a : Nat} (ha : reportReg a = false) : (if compl = true then f.report e else f).rd a = f.rd a := by
    split
    · exact report_rd _ _ _ _ ha
    · rfl
  have hrd {a : Nat} (h1 : a ≠ 0xA0004) (h2 : a ≠ aRMUF r 8) (ha : reportReg a = false) :
      (((if compl = true then f.report e else f).rmuFeed r x).event 0xA0004 5).rd a = f.rd a := by
    rw [event_rd _ _ _ _ h1 (reportReg_false ha).2.2.2.2.2.2.2.2.1, rmuFeed_rd _ _ _ h2, hrep ha]
  have hmid (o : Nat) (ho : o < 0x40) : aRMU r o ≠ 0xA0004 ∧ aRMU r o ≠ aRMUF r 8 ∧ reportReg (aRMU r o) = false := by
    refine ⟨by unfold aRMU; omega, by unfold aRMU aRMUF; omega, reportReg_of_mid (by unfold aRMU; omega) (by unfold aRMU; omega)⟩
  obtain ⟨hs1, hs2, hs3⟩ := hmid 0x14 (by decide)
  obtain ⟨hv1, hv2, hv3⟩ := hmid 0x18 (by decide)
  obtain ⟨hbusy, hovr⟩ := convRead_status d r v (decide (v ≠ d.convGiven r m))
  refine ⟨?_, ?_, ?_, ?_, event_flag _ _ _ (by decide) (by decide), fun a ha hra => ?_⟩
  · have hmeter : (if compl = true then f.report e else f).meter r = f.meter r := by
      split
      · exact eq_of_plant (fun e => e.meter r) (report_plant ..)
      · rfl
    rw [eq_of_plant (fun e => e.meter r) (event_plant ..), rmuFeed_meter, hmeter, hf, convRead_meter]
    rfl
  · rw [flag_eq_of_rd_eq (hrd hs1 hs2 hs3), hf, hbusy]
  · rw [fget, hrd hv1 hv2 hv3, ← fget, hf, convRead_reading]
  · rw [flag_eq_of_rd_eq (hrd hs1 hs2 hs3), hf, hovr]
  · rw [hrd (fun h => ha (.inr (.inr (.inr h)))) (fun h => ha (.inr (.inr (.inl h)))) hra, hf,
      convRead_rd _ _ _ _ (fun h => ha (.inl h)) fun h => ha (.inr (.inl h))]

/-! RUN of the chain of a meter (R135, R136, R151). -/

/-- The device when a write of DEV_RMUFCTL has stored its fields, before RUN acts. -/
def rmufStored (d : Device) (r : Nat) (p : Party) (raw : Word) : Device := (d.putCooked p (aRMUF r 0) raw).fsetB (aRMUF r 0) 31 (d.flag (aRMUF r 0) 31)

theorem rmufControl_of_accepted (p : Party) (raw : Word) (hclaim : (d.execs.any fun x => x.verdict.isNone && x.slots.any fun s => s.kind == .rmu r) = false)
    (hrws : d.flag (aRMUF r 0) 31 = true → d.reachesRws (aRMUF r 0) raw = false) : d.rmufControl r p raw =
      if bitOf raw 31 then (if d.flag (aRMUF r 0) 31 then d.rmufStored r p raw else (d.rmufStored r p raw).startRmuChain r d.nextEdge)
      else if d.flag (aRMUF r 0) 31 then (d.rmufStored r p raw).stopRmuChain r else d.rmufStored r p raw := by
  have hrw : (d.flag (aRMUF r 0) 31 && d.reachesRws (aRMUF r 0) raw) = false := by
    cases h : d.flag (aRMUF r 0) 31 with
    | false => rfl
    | true => rw [hrws h]; rfl
  have hedge : (d.rmufStored r p raw).nextEdge = d.nextEdge := by
    rw [nextEdge, nextEdge, rmufStored, eq_of_plant Device.edge (fsetB_plant ..), eq_of_plant Device.edge (putCooked_plant ..)]
  rw [← hedge]
  unfold rmufControl
  dsimp only
  rw [hclaim, hrw, if_neg Bool.false_ne_true, if_neg Bool.false_ne_true]
  rfl

theorem aRMUF_ne {o o' : Nat} (h : o ≠ o') : aRMUF r o ≠ aRMUF r o' := by unfold aRMUF; omega

theorem startRmuChain_run (e : Nat) : (d.startRmuChain r e).flag (aRMUF r 0) 31 = true ∧ (d.startRmuChain r e).rmuChainRuns r = true := by
  have hrd (y : Device) (o i : Nat) (x : Bool) (h : o ≠ 0) : (y.fsetB (aRMUF r o) i x).rd (aRMUF r 0) = y.rd (aRMUF r 0) :=
    rd_fset_other _ _ _ _ (aRMUF_ne r (Ne.symm h))
  have hrd' (y : Device) (lo n x : Nat) : (y.fset (aRMUF r 4) lo n x).rd (aRMUF r 0) = y.rd (aRMUF r 0) :=
    rd_fset_other _ _ _ _ (aRMUF_ne r (by decide))
  constructor
  · rw [startRmuChain, flag_eq_of_rd_eq (hrd _ _ _ _ (by decide)), flag_eq_of_rd_eq (hrd _ _ _ _ (by decide)), flag_eq_of_rd_eq (hrd' _ _ _ _),
      flag_eq_of_rd_eq (setChain_rd ..), flag_fset_same _ _ (by decide)]
    rfl
  · rw [rmuChainRuns, startRmuChain, flag_fsetB_other _ _ (by decide) (by decide), flag_fsetB_same _ _ (by decide)]

theorem stopRmuChain_run : (d.stopRmuChain r).flag (aRMUF r 0) 31 = false ∧ (d.stopRmuChain r).rmuChainRuns r = false := by
  have hrd (y : Device) (i : Nat) : (y.fsetB (aRMUF r 8) i false).rd (aRMUF r 0) = y.rd (aRMUF r 0) :=
    rd_fset_other _ _ _ _ (aRMUF_ne r (by decide))
  constructor
  · rw [stopRmuChain, flag_eq_of_rd_eq (hrd _ _), flag_eq_of_rd_eq (hrd _ _), flag_fset_same _ _ (by decide)]
    rfl
  · rw [rmuChainRuns, stopRmuChain, flag_fsetB_other _ _ (by decide) (by decide), flag_fsetB_same _ _ (by decide)]

/-- Channels, matrix and meters are the same in two devices. -/
structure SameAnalogue (d e : Device) : Prop where
  chan : e.chan = d.chan
  mx : e.mx = d.mx
  rmu : e.rmu = d.rmu

theorem SameAnalogue.trans {d e f : Device} (h : SameAnalogue d e) (h' : SameAnalogue e f) : SameAnalogue d f :=
  ⟨h'.chan.trans h.chan, h'.mx.trans h.mx, h'.rmu.trans h.rmu⟩

theorem SameAnalogue.of_plant {d e : Device} (hp : e.plant = d.plant) : SameAnalogue d e :=
  ⟨eq_of_plant Device.chan hp, eq_of_plant Device.mx hp, eq_of_plant Device.rmu hp⟩

theorem SameAnalogue.setChain (x : Device) (n : Nat) (c : Chain) : SameAnalogue x (x.setChain n c) :=
  ⟨x.setChain_chan n c, x.setChain_mx n c, x.setChain_rmu n c⟩

theorem rmufStored_analogue (p : Party) (raw : Word) : SameAnalogue d (d.rmufStored r p raw) :=
  .of_plant ((fsetB_plant ..).trans (putCooked_plant ..))

theorem startRmuChain_analogue (e : Nat) : SameAnalogue d (d.startRmuChain r e) :=
  (SameAnalogue.of_plant (fset_plant ..)).trans <| (SameAnalogue.setChain _ _ _).trans <|
    .of_plant ((fsetB_plant ..).trans ((fsetB_plant ..).trans (fset_plant ..)))

theorem stopRmuChain_analogue : SameAnalogue d (d.stopRmuChain r) :=
  .of_plant ((fsetB_plant ..).trans ((fsetB_plant ..).trans (fset_plant ..)))

/-- RUN follows an accepted write, and the chain follows RUN. -/
theorem rmufControl_run (p : Party) (raw : Word) (hclaim : (d.execs.any fun x => x.verdict.isNone && x.slots.any fun s => s.kind == .rmu r) = false)
    (hrws : d.flag (aRMUF r 0) 31 = true → d.reachesRws (aRMUF r 0) raw = false) :
    (d.rmufControl r p raw).flag (aRMUF r 0) 31 = bitOf raw 31 ∧
    (d.flag (aRMUF r 0) 31 ≠ bitOf raw 31 → (d.rmufControl r p raw).rmuChainRuns r = bitOf raw 31) ∧ SameAnalogue d (d.rmufControl r p raw) := by
  have hstored : (d.rmufStored r p raw).flag (aRMUF r 0) 31 = d.flag (aRMUF r 0) 31 := by rw [rmufStored, flag_fsetB_same _ _ (by decide)]
  have hsame := rmufStored_analogue d r p raw
  rw [rmufControl_of_accepted d r p raw hclaim hrws]
  split
  next hrun =>
    rw [hrun]
    split
    next hwas => exact ⟨hstored.trans hwas, fun h => absurd hwas h, hsame⟩
    next => exact ⟨(startRmuChain_run ..).1, fun _ => (startRmuChain_run ..).2, hsame.trans (startRmuChain_analogue ..)⟩
  next hrun =>
    rw [Bool.eq_false_iff.mpr hrun]
    split
    next => exact ⟨(stopRmuChain_run ..).1, fun _ => (stopRmuChain_run ..).2, hsame.trans (stopRmuChain_analogue ..)⟩
    next hwas => exact ⟨hstored.trans (Bool.eq_false_iff.mpr hwas), fun h => absurd (Bool.eq_false_iff.mpr hwas) h, hsame⟩

end
end Device

/-- The commands that write DEV_RMUFCTL with RUN as given. -/
theorem rmuChainCommand {r : Fin 4} {w : Wr} {run : Bool} {c : Instr}
    (h : (run, c) ∈ [(true, Instr.rmuChainStart r w), (false, .rmuChainStop r w)]) (s : State) :
    exec c s = .next (s.onDev fun d => d.write w (aRMUF r 0) fun d => d.rmufControl r w.by_ (setBits w.data 31 1 (if run then 1 else 0))) := by
  simp only [List.mem_cons, Prod.mk.injEq, List.not_mem_nil, or_false] at h
  rcases h with ⟨rfl, rfl⟩ | ⟨rfl, rfl⟩
  · rfl
  · rfl

/-- Settles O22: entries are written whole, conversions start and end, and the chain of a meter follows RUN. -/
theorem metersAndListsAct : Obligations.MetersAndListsAct := by
  unfold Obligations.MetersAndListsAct
  refine ⟨fun j w s hadm hbusy hfit => ?_, ⟨fun r w s hadm ho hf => ?_, fun r m c s hc hh hdone hcapo => ?_⟩, fun r w s run c hmem hadm hclaim hrws => ?_⟩
  · have hj : 0x8000 + 4 * j.val < 0x10000 := by omega
    have hne : aMX (0x8000 + 4 * j.val) ≠ 0xA0004 := by unfold aMX; omega
    refine givesDev_write rfl hadm ?_
    rw [s.dev.lentWrite_of_allowed w.by_ w.data hbusy hfit]
    refine ⟨?_, Device.putCooked_plant .., (Device.putCooked_keepsRegs s.dev w.by_ _ w.data).mono fun a ha => ha.imp_right (Device.eventReg_aMX hj).mp⟩
    exact Device.putCooked_rd_same _ _ _ _ (by rwa [Device.eventReg_aMX hj]) (Device.reportReg_of_mid (by unfold aMX; omega) (by unfold aMX; omega))
  · exact givesDev_write rfl hadm (s.dev.rmuStart_starts r ho hf)
  · exact givesDev_onDev rfl (s.dev.convEnd_reads r m r.isLt hc hh hdone hcapo)
  · have hrun : bitOf (setBits w.data 31 1 (if run then 1 else 0)) 31 = run := by
      rw [bitOf_setBits_same _ (by decide)]
      cases run <;> rfl
    obtain ⟨h1, h2, h3⟩ := s.dev.rmufControl_run r w.by_ (setBits w.data 31 1 (if run then 1 else 0)) hclaim hrws
    rw [hrun] at h1 h2
    refine givesDev_write_as (rmuChainCommand hmem s) hadm ?_
    rintro _ rfl
    exact ⟨h1, h2, h3.chan, h3.mx, h3.rmu⟩

end Sys2Proof.Machine
end

section
/-!
SUPPORT. A frame: an operation writes registers of `own` and reports, and leaves one part of the device beside the registers alone. What triggers,
events of Frets and messages of the link leave alone.
-/

namespace Sys2Proof.Machine

-- One proof after another: the stacks of the threads that elaborate many at once exceed the memory of a check.
set_option Elab.async false

namespace Device

/-- A register that is not a report is not the one of pending interrupts. -/
theorem ne_pending_of_reportReg {a : Nat} (h : reportReg a = false) : a ≠ 0xD9000 := (reportReg_false h).2.2.2.2.2.2.2.2.1

/-- Between two devices registers of `own` and reports changed, and `part` did not. -/
structure Keeps {α : Type} (own : Nat → Prop) (part : Device → α) (d e : Device) : Prop where
  regs : keepsRegs own d e
  part : part e = part d

namespace Keeps
variable {α : Type} {own own' : Nat → Prop} {part : Device → α} {d e f : Device}

theorem refl (own : Nat → Prop) (part : Device → α) (d : Device) : Keeps own part d d := ⟨.refl own d, rfl⟩
theorem trans (h : Keeps own part d e) (h' : Keeps own part e f) : Keeps own part d f := ⟨h.regs.trans h'.regs, h'.part.trans h.part⟩
theorem mono (h : Keeps own part d e) (ho : ∀ a, own a → own' a) : Keeps own' part d e := ⟨h.regs.mono ho, h.part⟩

/-- A change beside the registers that leaves the part alone. -/
theorem of_rd (hrd : ∀ a, e.rd a = d.rd a) (hp : part e = part d) : Keeps own part d e := ⟨fun a _ _ => hrd a, hp⟩

theorem of_plant (h : keepsRegs own d e) (hp : e.plant = d.plant) (hg : ∀ x : Device, part x.plant = part x) : Keeps own part d e :=
  ⟨h, eq_of_plant part hp hg⟩

section
variable (hg : ∀ x : Device, part x.plant = part x)
include hg
theorem fset {a : Nat} (ha : own a) (lo n x : Nat) (d : Device) : Keeps own part d (d.fset a lo n x) :=
  of_plant ((fset_keepsRegs d a lo n x).mono fun _ h => h ▸ ha) (fset_plant ..) hg
theorem fsetB {a : Nat} (ha : own a) (i : Nat) (x : Bool) (d : Device) : Keeps own part d (d.fsetB a i x) := fset hg ha ..
theorem bump {a : Nat} (ha : own a) (lo n : Nat) (d : Device) : Keeps own part d (d.bump a lo n) := fset hg ha ..
theorem wr {a : Nat} (ha : own a) (v : Word) (d : Device) : Keeps own part d (d.wr a v) :=
  of_plant (fun _ hb _ => rd_wr_other d v fun h => hb (h ▸ ha)) (wr_plant ..) hg
theorem event {a : Nat} (ha : own a) (i : Nat) (d : Device) : Keeps own part d (d.event a i) :=
  of_plant ((event_keepsRegs d a i).mono fun _ h => h ▸ ha) (event_plant ..) hg
theorem report (x : FqEntry) (forced : Bool) (d : Device) : Keeps own part d (d.report x forced) :=
  of_plant (report_keepsRegs d own x forced) (report_plant ..) hg
theorem putCooked {a : Nat} (ha : ∀ b, b = a ∨ EventReg a b → own b) (p : Party) (raw : Word) (d : Device) : Keeps own part d (d.putCooked p a raw) :=
  of_plant ((putCooked_keepsRegs d p a raw).mono ha) (putCooked_plant ..) hg
end

theorem setLst (hl : ∀ (x : Device) l y, part (x.setLst l y) = part x) (l : Nat) (y : ListSt) (d : Device) : Keeps own part d (d.setLst l y) :=
  of_rd (d.setLst_rd l y) (hl ..)
theorem setFret (hf : ∀ (x : Device) f y, part (x.setFret f y) = part x) (n : Nat) (y : Fret) (d : Device) : Keeps own part d (d.setFret n y) :=
  of_rd (d.setFret_rd n y) (hf ..)
theorem setLink (hk : ∀ (x : Device) k, part (x.setLink k) = part x) (k : Link) (d : Device) : Keeps own part d (d.setLink k) :=
  of_rd (d.setLink_rd k) (hk ..)

/-- An operation made of one for each element of a list. -/
theorem foldl {β : Type} {g : Device → β → Device} {l : List β} (h : ∀ e, ∀ x ∈ l, Keeps own part e (g e x)) (d : Device) :
    Keeps own part d (l.foldl g d) := by
  induction l generalizing d with
  | nil => exact .refl ..
  | cons x l ih => exact (h d x List.mem_cons_self).trans (ih (fun e y hy => h e y (List.mem_cons_of_mem x hy)) _)

end Keeps

section
variable {α : Type} {own : Nat → Prop} {part : Device → α} (hg : ∀ x : Device, part x.plant = part x)

/-- The due tests name edges in the lists beside the registers. -/
theorem dueList_keeps (hl : ∀ (x : Device) l y, part (x.setLst l y) = part x) (d : Device) (l : Nat) : Keeps own part d (d.dueList l) := by
  unfold dueList
  split
  · exact .refl ..
  · dsimp only
    split
    · exact .refl ..
    · exact .setLst hl ..

theorem dueAll_keeps (hl : ∀ (x : Device) l y, part (x.setLst l y) = part x) (d : Device) : Keeps own part d d.dueAll :=
  .foldl (fun e l _ => dueList_keeps hl e l) d

section
variable (hset : ∀ (x : Device) {a : Nat} (lo n y : Nat), own a → part (x.fset a lo n y) = part x)
include hset

theorem fset_keeps_of {a : Nat} (ha : own a) (lo n y : Nat) (d : Device) : Keeps own part d (d.fset a lo n y) :=
  ⟨(fset_keepsRegs d a lo n y).mono fun _ h => h ▸ ha, hset d lo n y ha⟩

/-- An event for a Fret enters its queue and its counters. -/
theorem fretEvent_keeps_of {f : Nat} (hf : ∀ (x : Device) f y, part (x.setFret f y) = part x) (ho : own (aFRET f 0x18)) (d : Device) (typ pos : Nat) (level : Bool)
    (src : Nat) : Keeps own part d (d.fretEvent f typ pos level src) := by
  unfold fretEvent
  dsimp only
  split
  · exact (Keeps.setFret hf ..).trans (fset_keeps_of hset ho ..)
  · split
    · exact fset_keeps_of hset ho ..
    · exact .refl ..

theorem fretEvents_keeps_of (hf : ∀ (x : Device) f y, part (x.setFret f y) = part x) (ho : ∀ f < 48, own (aFRET f 0x18)) (d : Device) (typ e : Nat) (level : Bool)
    (src : Nat) : Keeps own part d (d.fretEvents typ e level src) := by
  refine .foldl (fun x f hmem => ?_) d
  dsimp only
  split
  · exact fretEvent_keeps_of hset hf (ho f (List.mem_range.mp hmem)) ..
  · exact .refl ..

/-- A trigger changes its list, the lists' registers and the queues of Frets. -/
theorem trigger_keeps_of (hl : ∀ (x : Device) l y, part (x.setLst l y) = part x) (hf : ∀ (x : Device) f y, part (x.setFret f y) = part x)
    (ho : ∀ f < 48, own (aFRET f 0x18)) {l : Nat} (hstat : own (aLIST l 8)) (hnext : own (aLIST l 0xC)) (d : Device) :
    Keeps own part d (d.trigger l) := by
  unfold trigger
  split
  · exact (Keeps.setLst hl ..).trans <| (fset_keeps_of hset hstat ..).trans <| (fretEvents_keeps_of hset hf ho ..).trans (dueList_keeps hl ..)
  · split
    · exact fset_keeps_of hset hnext ..
    · exact .refl ..

end

include hg

theorem part_fset_of_plant (x : Device) {a : Nat} (lo n y : Nat) : own a → part (x.fset a lo n y) = part x := fun _ => eq_of_plant part (fset_plant ..) hg

theorem fretEvent_keeps {f : Nat} (hf : ∀ (x : Device) f y, part (x.setFret f y) = part x) (ho : own (aFRET f 0x18)) (d : Device) (typ pos : Nat) (level : Bool)
    (src : Nat) : Keeps own part d (d.fretEvent f typ pos level src) := fretEvent_keeps_of (part_fset_of_plant hg) hf ho ..

theorem fretEvents_keeps (hf : ∀ (x : Device) f y, part (x.setFret f y) = part x) (ho : ∀ f < 48, own (aFRET f 0x18)) (d : Device) (typ e : Nat) (level : Bool)
    (src : Nat) : Keeps own part d (d.fretEvents typ e level src) := fretEvents_keeps_of (part_fset_of_plant hg) hf ho ..

theorem trigger_keeps (hl : ∀ (x : Device) l y, part (x.setLst l y) = part x) (hf : ∀ (x : Device) f y, part (x.setFret f y) = part x)
    (ho : ∀ f < 48, own (aFRET f 0x18)) {l : Nat} (hol : ∀ o, own (aLIST l o)) (d : Device) : Keeps own part d (d.trigger l) :=
  trigger_keeps_of (part_fset_of_plant hg) hl hf ho (hol 8) (hol 0xC) d

theorem triggerLists_keeps (hl : ∀ (x : Device) l y, part (x.setLst l y) = part x) (hf : ∀ (x : Device) f y, part (x.setFret f y) = part x)
    (ho : ∀ f < 48, own (aFRET f 0x18)) (hol : ∀ l o, own (aLIST l o)) (d : Device) (trig : Nat) (arg : Nat → Bool) :
    Keeps own part d (d.triggerLists trig arg) := .foldl (fun e l _ => trigger_keeps hg hl hf ho (hol l) e) d

omit hg in
/-- A message of the link goes on its ports. -/
theorem sendOn_keeps (hk : ∀ (x : Device) k, part (x.setLink k) = part x) (d : Device) (ps : List Nat) (m : LinkMsg) : Keeps own part d (d.sendOn ps m) := by
  unfold sendOn
  split
  · exact .refl ..
  · exact .setLink hk ..

theorem takeTrig_keeps (hk : ∀ (x : Device) k, part (x.setLink k) = part x) (ho : own 0xB0004) (d : Device) (l n : Nat) : Keeps own part d (d.takeTrig l n) := by
  unfold takeTrig
  dsimp only
  split
  · exact .setLink hk ..
  · exact (Keeps.setLink hk ..).trans (.event hg ho ..)

theorem sendTrig_keeps (hk : ∀ (x : Device) k, part (x.setLink k) = part x) (ho : own 0xB0004) (d : Device) (dest l n : Nat) :
    Keeps own part d (d.sendTrig dest l n) := by
  have hsent := sendOn_keeps (own := own) hk d (d.routes (.trig d.chordId dest l n)) (.trig d.chordId dest l n)
  unfold sendTrig
  dsimp only
  split
  · exact hsent.trans (takeTrig_keeps hg hk ho ..)
  · exact hsent

end

end Device
end Sys2Proof.Machine
end

section
/-!
PROOF. O29, O30: compare units fire, change hands and are written.
-/

namespace Sys2Proof.Machine

-- One proof after another: the stacks of the threads that elaborate many at once exceed the memory of a check.
set_option Elab.async false

/-! Where a register of an axis lies. -/

section
variable {a o : Nat} (ha : a < 4) (ho : o < 0x1000)
include ha ho

theorem aPOS_lt : 0x70000 ≤ aPOS a o ∧ aPOS a o < 0x74000 := by unfold aPOS; omega

/-- An axis reports in its own event register. -/
theorem blockEvents_aPOS : Device.blockEvents (aPOS a o) = some (aPOS a 0x30, 7, 8) := by
  have hb : aPOS a o / 0x10000 = 7 := by unfold aPOS; omega
  have hlow : aPOS a o % 0x10000 < 0x4000 := by unfold aPOS; omega
  have haxis : aPOS a o % 0x10000 / 0x1000 = a := by unfold aPOS; omega
  unfold Device.blockEvents
  dsimp only
  rw [if_neg (by omega), if_neg (by omega), if_neg (by omega), if_neg (by omega), if_neg (by omega), if_neg (by omega), if_neg (by omega),
    if_pos hb, if_pos hlow, haxis]

theorem eventReg_aPOS {b : Nat} : Device.EventReg (aPOS a o) b ↔ b = aPOS a 0x30 := by
  have h := aPOS_lt ha ho
  rw [Device.EventReg, blockEvents_aPOS ha ho]
  constructor
  · rintro (⟨c, r, he⟩ | ⟨hw, -, -⟩)
    · exact (Prod.mk.inj (Option.some.inj he)).1.symm
    · omega
  · rintro rfl
    exact .inl ⟨7, 8, rfl⟩

theorem reportReg_aPOS : reportReg (aPOS a o) = false :=
  Device.reportReg_of_mid (by have := aPOS_lt ha ho; omega) (by have := aPOS_lt ha ho; omega)

end

theorem aPOS_inj {a o o' : Nat} : aPOS a o = aPOS a o' ↔ o = o' := by unfold aPOS; omega

/-- A register of a compare unit as one of its axis. -/
theorem aCMP_eq_aPOS (a k o : Nat) : aCMP a k o = aPOS a (0x400 + 0x10 * k + o) := by unfold aCMP aPOS; omega

theorem aCMP_inj {a k o o' : Nat} : aCMP a k o = aCMP a k o' ↔ o = o' := by unfold aCMP; omega

section
variable {a k o : Nat} (ha : a < 4) (hk : k < 64) (ho : o < 0x10)
include ha hk ho

theorem eventReg_aCMP {b : Nat} : Device.EventReg (aCMP a k o) b ↔ b = aPOS a 0x30 := by
  rw [aCMP_eq_aPOS]
  exact eventReg_aPOS ha (by omega)

theorem reportReg_aCMP : reportReg (aCMP a k o) = false := by
  rw [aCMP_eq_aPOS]
  exact reportReg_aPOS ha (by omega)

omit ha hk ho in
theorem aCMP_ne_aPOS {o' : Nat} (ho' : o' < 0x400) : aCMP a k o ≠ aPOS a o' := by unfold aCMP aPOS; omega

/-- The fields of a register of a compare unit are those of its offset (R184). -/
theorem regFields_aCMP (h4 : o % 4 = 0) : regFields (aCMP a k o) = findRow cmpRows o := by
  have hb : aCMP a k o / 0x10000 = 7 := by unfold aCMP; omega
  have hlow : aCMP a k o % 0x10000 % 0x1000 = 0x400 + 0x10 * k + o := by unfold aCMP; omega
  have hoff : (0x400 + 0x10 * k + o) % 0x10 = o := by omega
  unfold regFields
  dsimp only
  rw [if_neg (by unfold aCMP; omega), if_neg (by omega), if_pos (by omega)]
  unfold blockFldsB
  dsimp only
  rw [if_neg (by omega), if_pos hb, if_neg (by unfold aCMP; omega), if_pos (by unfold aCMP; omega), hlow, if_neg (by omega), if_pos (by omega), hoff]

end

namespace Device
variable (d : Device) (a k : Nat)

/-! Compare units beside their registers. -/

@[simp] theorem setCmpU_same (u : CmpUnit) : (d.setCmpU a k u).cmpU a k = u := tabGet_tabSet_same ..

theorem setCmpU_other (u : CmpUnit) {b j : Nat} (h : 64 * b + j ≠ 64 * a + k) : (d.setCmpU a k u).cmpU b j = d.cmpU b j := tabGet_tabSet_other _ _ _ h

@[simp] theorem setCmpU_rd (u : CmpUnit) (r : Nat) : (d.setCmpU a k u).rd r = d.rd r := rfl
@[simp] theorem setCmpU_flag (u : CmpUnit) (r i : Nat) : (d.setCmpU a k u).flag r i = d.flag r i := rfl
@[simp] theorem setCmpU_fget (u : CmpUnit) (r lo n : Nat) : (d.setCmpU a k u).fget r lo n = d.fget r lo n := rfl
@[simp] theorem setCmpU_edge (u : CmpUnit) : (d.setCmpU a k u).edge = d.edge := rfl

theorem cmpU_of_plant {d e : Device} (h : e.plant = d.plant) (a k : Nat) : e.cmpU a k = d.cmpU a k := eq_of_plant (fun x => x.cmpU a k) h

theorem cmpU_of_cmps {d e : Device} (h : e.cmps = d.cmps) (a k : Nat) : e.cmpU a k = d.cmpU a k := by rw [cmpU, cmpU, h]

@[simp] theorem fsetB_cmpU (r i : Nat) (x : Bool) (b j : Nat) : (d.fsetB r i x).cmpU b j = d.cmpU b j := cmpU_of_plant (fsetB_plant ..) b j

/-! Firing (R180, R181). -/

/-- The unit's output and its pulse after it fires, the unit's other parts aside. -/
def cmpActs (d : Device) (a k : Nat) : Device :=
  let u := { d.cmpU a k with firedAt := some d.edge }
  let e := d.setCmpU a k u
  match e.fget (aCMP a k 8) 19 3 with
  | 1 => (e.fsetB (aCMP a k 0xC) 0 true).setCmpU a k { u with pulseEnd := some (d.edge + d.fget (aCMP a k 8) 0 16) }
  | 2 => e.fsetB (aCMP a k 0xC) 0 true
  | 3 => e.fsetB (aCMP a k 0xC) 0 false
  | 4 => e.fsetB (aCMP a k 0xC) 0 (!d.cmpOut a k)
  | _ => e

/-- A unit that has fired, before its owner hears of it. -/
def cmpFired (d : Device) (a k : Nat) (jumped : Bool) : Device :=
  let e := (d.cmpActs a k).fsetB (aCMP a k 0xC) 1 true
  if jumped then e.fsetB (aCMP a k 0xC) 2 true else e

/-- The owner of a unit hears of its firing (R182). -/
def tellOwner (d : Device) (a k : Nat) : Device :=
  match d.cmpOwner a k with
  | 2 => d.triggerLists 2 fun g => decide (g % 256 = 64 * a + k)
  | 3 => d.fretCmpEvent (d.fget (aCMP a k 8) 25 6) a k
  | 4 => d.sendFired a k
  | _ => d

theorem fireCmp_eq (jumped : Bool) : d.fireCmp a k jumped = (d.cmpFired a k jumped).tellOwner a k := rfl

/-- Registers outside the axis block. -/
def offAxes (r : Nat) : Prop := r < 0x70000 ∨ 0x80000 ≤ r

/-- What the owner of a unit hears changes nothing of the axes and their units. -/
theorem tellOwner_keeps : Keeps offAxes Device.cmps d (d.tellOwner a k) := by
  have hfret (f : Nat) : offAxes (aFRET f 0x18) := by unfold offAxes aFRET; omega
  unfold tellOwner
  split
  · exact triggerLists_keeps plant_cmps (fun _ _ _ => rfl) (fun _ _ _ => rfl) (fun f _ => hfret f) (fun l o => by unfold offAxes aLIST; omega) ..
  · unfold fretCmpEvent
    dsimp only
    split
    · exact fretEvent_keeps plant_cmps (fun _ _ _ => rfl) (hfret _) ..
    · exact .refl ..
  · unfold sendFired
    split
    · exact sendTrig_keeps plant_cmps (fun _ _ => rfl) (by unfold offAxes; omega) ..
    · exact (Keeps.event plant_cmps (by unfold offAxes; omega) 9 d).trans (.report plant_cmps ..)
  · exact .refl ..

theorem cmpActs_fired : ((d.cmpActs a k).cmpU a k).firedAt = some d.edge := by
  unfold cmpActs
  dsimp only
  split <;> simp only [fsetB_cmpU, setCmpU_same]

theorem cmpActs_other {b j : Nat} (h : 64 * b + j ≠ 64 * a + k) : (d.cmpActs a k).cmpU b j = d.cmpU b j := by
  unfold cmpActs
  dsimp only
  split <;> simp only [fsetB_cmpU, setCmpU_other _ _ _ _ h]

theorem cmpActs_pulse (h : d.fget (aCMP a k 8) 19 3 = 1) : ((d.cmpActs a k).cmpU a k).pulseEnd = some (d.edge + d.fget (aCMP a k 8) 0 16) := by
  unfold cmpActs
  dsimp only
  rw [setCmpU_fget, h]
  simp only [setCmpU_same]

/-! ACT decides the output: pulse and set raise it, clear lowers it, toggle inverts it, none leaves it. -/

theorem cmpActs_raises (h : d.fget (aCMP a k 8) 19 3 = 1 ∨ d.fget (aCMP a k 8) 19 3 = 2) : (d.cmpActs a k).flag (aCMP a k 0xC) 0 = true := by
  unfold cmpActs
  dsimp only
  rw [setCmpU_fget]
  rcases h with h | h
  · simp only [h, setCmpU_flag, flag_fsetB_same _ _ (show 0 < 32 by decide)]
  · simp only [h, flag_fsetB_same _ _ (show 0 < 32 by decide)]

theorem cmpActs_lowers (h : d.fget (aCMP a k 8) 19 3 = 3) : (d.cmpActs a k).flag (aCMP a k 0xC) 0 = false := by
  unfold cmpActs
  dsimp only
  rw [setCmpU_fget]
  simp only [h, flag_fsetB_same _ _ (show 0 < 32 by decide)]

theorem cmpActs_inverts (h : d.fget (aCMP a k 8) 19 3 = 4) : (d.cmpActs a k).flag (aCMP a k 0xC) 0 = !d.cmpOut a k := by
  unfold cmpActs
  dsimp only
  rw [setCmpU_fget]
  simp only [h, flag_fsetB_same _ _ (show 0 < 32 by decide)]

theorem cmpActs_leaves (h1 : d.fget (aCMP a k 8) 19 3 ≠ 1) (h2 : d.fget (aCMP a k 8) 19 3 ≠ 2) (h3 : d.fget (aCMP a k 8) 19 3 ≠ 3)
    (h4 : d.fget (aCMP a k 8) 19 3 ≠ 4) : (d.cmpActs a k).flag (aCMP a k 0xC) 0 = d.cmpOut a k := by
  unfold cmpActs
  dsimp only
  rw [setCmpU_fget]
  split
  · exact absurd ‹_› h1
  · exact absurd ‹_› h2
  · exact absurd ‹_› h3
  · exact absurd ‹_› h4
  · rfl

variable (jumped : Bool)

theorem cmpFired_cmpU (b j : Nat) : (d.cmpFired a k jumped).cmpU b j = (d.cmpActs a k).cmpU b j := by
  unfold cmpFired
  dsimp only
  split
  · rw [fsetB_cmpU, fsetB_cmpU]
  · rw [fsetB_cmpU]

theorem cmpFired_flag {i : Nat} (hi : i < 2) : (d.cmpFired a k jumped).flag (aCMP a k 0xC) i = ((d.cmpActs a k).fsetB (aCMP a k 0xC) 1 true).flag (aCMP a k 0xC) i := by
  unfold cmpFired
  dsimp only
  split
  · rw [flag_fsetB_other _ _ (by omega) (by decide)]
  · rfl

end Device

/-- Settles O29: a unit fires by its ACT, and its pulse ends. -/
theorem compareUnitFires : Obligations.CompareUnitFires := by
  unfold Obligations.CompareUnitFires
  refine fun a k s => ⟨fun htest hnew => ?_, fun e he hdue => ?_⟩
  · have hfire : s.dev.compare a k = s.dev.fireCmp a k (s.dev.cmpTest a k).2 := if_pos (by rw [htest, Bool.true_and]; exact decide_eq_true hnew)
    refine givesDev_onDev rfl ?_
    rw [hfire, Device.fireCmp_eq]
    have hkeep := Device.tellOwner_keeps (s.dev.cmpFired a k (s.dev.cmpTest a k).2) a k
    have hcmp (b j : Nat) := (Device.cmpU_of_cmps hkeep.part b j).trans (s.dev.cmpFired_cmpU a k (s.dev.cmpTest a k).2 b j)
    have hflag {i : Nat} (hi : i < 2) := (Device.flag_eq_of_rd_eq (hkeep.regs (aCMP a k 0xC) (by unfold Device.offAxes aCMP; omega)
      (reportReg_aCMP a.isLt k.isLt (by decide))) i).trans (s.dev.cmpFired_flag a k (s.dev.cmpTest a k).2 hi)
    refine ⟨?_, ?_, ?_, fun hact => ?_, fun b j h => ?_⟩
    · rw [hcmp, Device.cmpActs_fired]
    · rw [hflag (by decide), Device.flag_fsetB_same _ _ (by decide)]
    · rw [Device.cmpOut, hflag (by decide), Device.flag_fsetB_other _ _ (by decide) (by decide)]
      split
      next h => exact s.dev.cmpActs_raises a k (.inl h)
      next h => exact s.dev.cmpActs_raises a k (.inr h)
      next h => exact s.dev.cmpActs_lowers a k h
      next h => exact s.dev.cmpActs_inverts a k h
      next h1 h2 h3 h4 => exact s.dev.cmpActs_leaves a k h1 h2 h3 h4
    · rw [hcmp, Device.cmpActs_pulse _ _ _ hact]
    · rw [hcmp, Device.cmpActs_other _ _ _ h]
  · have hover : s.dev.pulseOver a k = (s.dev.setCmpU a k { s.dev.cmpU a k with pulseEnd := none }).fsetB (aCMP a k 0xC) 0 false := by
      unfold Device.pulseOver
      rw [he]
      exact if_pos hdue
    refine givesDev_onDev rfl ?_
    rw [hover]
    refine ⟨Device.flag_fsetB_same _ _ (by decide), ?_, fun r hr => Device.rd_fset_other _ _ _ _ hr⟩
    rw [Device.fsetB_cmpU, Device.setCmpU_same]

/-! A word stored. -/

namespace Device

/-- A register without write-only fields and without bits that R478 fixes stores the word that a write gives. -/
theorem storeWord_of_readable {a : Nat} (v : Word) (hacc : ∀ f ∈ regFields a, f.acc ≠ .wo) (hal : alignMask a = 0) : storeWord a v = v := by
  have hfold (fs : List Fld) (h : ∀ f ∈ fs, f.acc ≠ .wo) : fs.foldl (fun v f => if f.acc = .wo then setBits v f.lo f.width 0 else v) v = v := by
    induction fs with
    | nil => rfl
    | cons f r ih =>
      rw [List.foldl_cons, if_neg (h f List.mem_cons_self)]
      exact ih fun g hg => h g (List.mem_cons_of_mem f hg)
  unfold storeWord
  dsimp only
  rw [hfold _ hacc, hal]
  refine BitVec.eq_of_toNat_eq ?_
  rw [setBits_toNat v 0 (by decide)]
  omega

variable (d : Device) {a : Nat} (p : Party) (raw : Word)

/-- A write of a compare unit's configuration leaves its owner. -/
theorem putCooked_cmpOwner {k : Nat} (ha : a < 4) (hk : k < 64) : (d.putCooked p (aCMP a k 8) raw).cmpOwner a k = d.cmpOwner a k := by
  have hrow := regFields_aCMP (a := a) (o := 8) ha hk (by decide) (by decide)
  have hstored : (d.putCooked p (aCMP a k 8) raw).rd (aCMP a k 8) = (d.cook (aCMP a k 8) raw).1 := by
    rw [putCooked_rd_same _ _ _ _ (by rw [eventReg_aCMP ha hk (by decide)]; exact aCMP_ne_aPOS (by decide)) (reportReg_aCMP ha hk (by decide)),
      storeWord_of_readable _ (by rw [hrow]; decide)]
    unfold alignMask aCMP
    rw [if_neg (by omega), if_neg (by omega)]
  have howner := (fieldsObeyAccessTypes.1 d (aCMP a k 8) raw (by rw [hrow]; decide)).1 ⟨"OWNER", 22, 3, .ro, none, .any⟩ (by rw [hrow]; decide)
  rw [cmpOwner, fget, hstored]
  exact howner

/-! Ownership (R182). -/

theorem refuseCmp_refused (b : Nat) (ha : a < 4) :
    (d.refuseCmp a b).plant = d.plant ∧ (d.refuseCmp a b).flag (aPOS a 0x30) 9 = true ∧ keepsRegs (fun r => r = aPOS a 0x30) d (d.refuseCmp a b) := by
  have hr := reportReg_aPOS (o := 0x30) ha (by decide)
  refine ⟨(noticeRefused_plant ..).trans (event_plant ..), ?_, (event_keepsRegs d _ _).trans (report_keepsRegs _ _ _ _)⟩
  exact (flag_eq_of_rd_eq (noticeRefused_rd _ _ _ hr) 9).trans (event_flag d _ _ (by decide) (ne_pending_of_reportReg hr))

/-- A free unit goes to the owner that the party may give it to. -/
theorem claimCmp_claims (ha : a < 4) (hgiven : bitsOf raw 8 3 ≠ 0)
    (hfree : d.cmpOwner a (bitsOf (d.cook (aPOS a 0x3C) raw).1 0 6) = 0)
    (hmay : mayGive p (bitsOf (d.cook (aPOS a 0x3C) raw).1 8 3) (bitsOf (d.cook (aPOS a 0x3C) raw).1 16 6) = true) :
    (let v := (d.cook (aPOS a 0x3C) raw).1
     let k := bitsOf v 0 6
     let t := d.claimCmp a p raw
     t.cmpOwner a k = bitsOf v 8 3 ∧ t.fget (aCMP a k 8) 25 6 = (if bitsOf v 8 3 = 3 then bitsOf v 16 6 else 0) ∧ t.plant = d.plant ∧
     keepsRegs (fun r => r = aCMP a k 8 ∨ r = aPOS a 0x30) d t) := by
  have hclaim : d.claimCmp a p raw = ((d.reportHits (srcOf p) (aPOS a 0x3C) (aPOS a 0x3C) 0 0xFFFF (d.cook (aPOS a 0x3C) raw).2).fset
      (aCMP a (bitsOf (d.cook (aPOS a 0x3C) raw).1 0 6) 8) 22 3 (bitsOf (d.cook (aPOS a 0x3C) raw).1 8 3)).fset
      (aCMP a (bitsOf (d.cook (aPOS a 0x3C) raw).1 0 6) 8) 25 6
      (if bitsOf (d.cook (aPOS a 0x3C) raw).1 8 3 = 3 then bitsOf (d.cook (aPOS a 0x3C) raw).1 16 6 else 0) :=
    if_neg (not_or.mpr ⟨hgiven, not_or.mpr ⟨not_not.mpr hfree, Bool.not_eq_false _ |>.mpr hmay⟩⟩)
  generalize (d.cook (aPOS a 0x3C) raw).1 = v at hclaim ⊢
  dsimp only
  rw [hclaim]
  refine ⟨?_, ?_, ?_, ?_⟩
  · rw [cmpOwner, fget_fset_disjoint _ _ _ (by decide) (by decide), fget_fset_same _ _ _ (by decide), Nat.mod_eq_of_lt (bitsOf_lt ..)]
  · rw [fget_fset_same _ _ _ (by decide), Nat.mod_eq_of_lt]
    split
    · exact bitsOf_lt ..
    · decide
  · rw [fset_plant, fset_plant, reportHits_plant]
  · refine .trans (e := d.reportHits (srcOf p) (aPOS a 0x3C) (aPOS a 0x3C) 0 0xFFFF (d.cook (aPOS a 0x3C) raw).2) ?_ fun r hr _ => ?_
    · exact fun r hr hrep => reportHits_rd _ _ _ _ _ _ _ _ (by rw [eventReg_aPOS ha (by decide)]; exact (not_or.mp hr).2) hrep
    · rw [rd_fset_other _ _ _ _ (not_or.mp hr).1, rd_fset_other _ _ _ _ (not_or.mp hr).1]

theorem claimCmp_refused (h : d.cmpOwner a (bitsOf (d.cook (aPOS a 0x3C) raw).1 0 6) ≠ 0 ∨
    mayGive p (bitsOf (d.cook (aPOS a 0x3C) raw).1 8 3) (bitsOf (d.cook (aPOS a 0x3C) raw).1 16 6) = false) :
    d.claimCmp a p raw = d.refuseCmp a (aPOS a 0x3C) := if_pos (.inr h)

theorem releaseCmp_frees (h : d.ownsCmp a (bitsOf raw 0 6) p = true ∨
    ((p = .host ∨ p = .firmware) ∧ (d.cmpOwner a (bitsOf raw 0 6) = 2 ∨ d.cmpOwner a (bitsOf raw 0 6) = 4))) :
    (let t := d.releaseCmp a p raw
     t.cmpOwner a (bitsOf raw 0 6) = 0 ∧ t.plant = d.plant ∧ ∀ r, r ≠ aCMP a (bitsOf raw 0 6) 8 → t.rd r = d.rd r) := by
  have hfree : d.releaseCmp a p raw = (d.fset (aCMP a (bitsOf raw 0 6) 8) 22 3 0).fset (aCMP a (bitsOf raw 0 6) 8) 25 6 0 := by
    unfold releaseCmp
    dsimp only
    refine if_pos ?_
    rcases h with h | ⟨rfl | rfl, h⟩
    · rw [h, Bool.true_or]
    · rw [decide_eq_true h, Bool.or_true]
    · rw [decide_eq_true h, Bool.or_true]
  dsimp only
  rw [hfree]
  refine ⟨?_, ?_, fun r hr => ?_⟩
  · rw [cmpOwner, fget_fset_disjoint _ _ _ (by decide) (by decide), fget_fset_same _ _ _ (by decide), Nat.zero_mod]
  · rw [fset_plant, fset_plant]
  · rw [rd_fset_other _ _ _ _ hr, rd_fset_other _ _ _ _ hr]

/-! Value and configuration (R182, R184). -/

variable {k : Nat} (ha : a < 4) (hk : k < 64)

/-- A clamped value changes its own unit and the registers that show it. -/
theorem cmpClamp_keeps (src : ClampSrc) (recd : Nat) :
    (∀ b j, 64 * b + j ≠ 64 * a + k → (d.cmpClamp a k src recd).cmpU b j = d.cmpU b j) ∧
    keepsRegs (fun r => r = aCMP a k 0 ∨ r = aCMP a k 4 ∨ r = aPOS a 0x30) d (d.cmpClamp a k src recd) := by
  unfold cmpClamp
  dsimp only
  split
  · refine ⟨fun b j h => ?_, ?_⟩
    · rw [cmpU_of_plant (event_plant ..), cmpU_of_plant (reportClamp_plant ..), cmpU_of_plant (fset_plant ..)]
      split
      · exact setCmpU_other _ _ _ _ h
      · rw [cmpU_of_plant (wr_plant ..), setCmpU_other _ _ _ _ h]
    · refine fun r hr hrep => ?_
      obtain ⟨h0, h4, h30⟩ := not_or.mp hr |>.imp_right not_or.mp
      rw [event_rd _ _ _ _ h30 (ne_pending_of_reportReg hrep), reportClamp_rd _ _ _ _ _ _ _ _ _ _ _ hrep, rd_fset_other _ _ _ _ h4]
      split
      · rfl
      · rw [rd_wr_other _ _ h0]
        rfl
  · exact ⟨fun _ _ _ => rfl, .refl _ _⟩

include ha hk

theorem putCooked_cmp_keeps {o : Nat} (ho : o < 0x10) : keepsRegs (fun r => r = aCMP a k o ∨ r = aPOS a 0x30) d (d.putCooked p (aCMP a k o) raw) :=
  (putCooked_keepsRegs d p _ raw).mono fun _ h => h.imp_right (eventReg_aCMP ha hk ho).mp

theorem putCooked_cmp_rd {o : Nat} (ho : o < 0x10) :
    (d.putCooked p (aCMP a k o) raw).rd (aCMP a k o) = storeWord (aCMP a k o) (d.cook (aCMP a k o) raw).1 :=
  putCooked_rd_same _ _ _ _ (by rw [eventReg_aCMP ha hk ho]; exact aCMP_ne_aPOS (by decide)) (reportReg_aCMP ha hk ho)

/-- The owner's high word brings the value in, from the next edge on. -/
theorem valhiWrite_applies (hown : d.ownsCmp a k p = true) (hmod : d.flag (aCMP a k 8) 16 = false) :
    (let t := d.valhiWrite a k p raw
     (t.cmpU a k).value = (d.rd (aCMP a k 0)).toNat + 2 ^ 32 * t.fget (aCMP a k 4) 0 16 ∧ (t.cmpU a k).from_ = d.edge + 1 ∧
     (t.cmpU a k).before = d.cmpNow a k ∧ t.rd (aCMP a k 4) = storeWord (aCMP a k 4) (d.cook (aCMP a k 4) raw).1 ∧
     (∀ b j, 64 * b + j ≠ 64 * a + k → t.cmpU b j = d.cmpU b j) ∧ keepsRegs (fun r => r = aCMP a k 4 ∨ r = aPOS a 0x30) d t) := by
  have hput := d.putCooked_cmp_keeps p raw ha hk (o := 4) (by decide)
  have hrd {o : Nat} (ho : o < 0x10) (h : o ≠ 4) := hput (aCMP a k o) (not_or.mpr ⟨fun he => h (aCMP_inj.mp he), aCMP_ne_aPOS (by decide)⟩) (reportReg_aCMP ha hk ho)
  have hplant : (d.putCooked p (aCMP a k 4) raw).plant = d.plant := putCooked_plant ..
  have hedge := eq_of_plant Device.edge hplant
  have hunit := cmpU_of_plant hplant
  have hword := d.putCooked_cmp_rd p raw ha hk (o := 4) (by decide)
  have hwrite : d.valhiWrite a k p raw = ((d.putCooked p (aCMP a k 4) raw).setCmpU a k { (d.putCooked p (aCMP a k 4) raw).cmpU a k with
      value := (d.putCooked p (aCMP a k 4) raw).cmpWritten a k, from_ := (d.putCooked p (aCMP a k 4) raw).nextEdge,
      before := (d.putCooked p (aCMP a k 4) raw).cmpNow a k, waits := false }).cmpClamp a k (srcOf p) (aCMP a k 0) := if_pos hown
  rw [hwrite]
  generalize d.putCooked p (aCMP a k 4) raw = e at *
  have hnoclamp (u : CmpUnit) : (e.setCmpU a k u).cmpClamp a k (srcOf p) (aCMP a k 0) = e.setCmpU a k u := by
    refine if_neg ?_
    rw [setCmpU_flag, flag_eq_of_rd_eq (hrd (by decide) (by decide)), hmod, Bool.false_and, Bool.false_and]
    exact Bool.false_ne_true
  rw [hnoclamp]
  refine ⟨?_, ?_, ?_, hword, fun b j h => (setCmpU_other _ _ _ _ h).trans (hunit b j), hput.of_rd fun _ => rfl⟩
  · rw [setCmpU_same, setCmpU_fget, cmpWritten, hrd (by decide) (by decide)]
  · rw [setCmpU_same, nextEdge, hedge]
  · rw [setCmpU_same, cmpNow, cmpNow, hunit, hedge]

/-- The owner's configuration is stored; the owner stays. -/
theorem cmpCfgWrite_stores (hown : d.ownsCmp a k p = true) :
    (let t := d.cmpCfgWrite a k p raw
     t.rd (aCMP a k 8) = storeWord (aCMP a k 8) (d.cook (aCMP a k 8) raw).1 ∧ t.cmpOwner a k = d.cmpOwner a k ∧
     (∀ b j, 64 * b + j ≠ 64 * a + k → t.cmpU b j = d.cmpU b j) ∧
     keepsRegs (fun r => r = aCMP a k 8 ∨ r = aCMP a k 0 ∨ r = aCMP a k 4 ∨ r = aPOS a 0x30) d t) := by
  have hput := (d.putCooked_cmp_keeps p raw ha hk (o := 8) (by decide)).mono (own' := fun r => r = aCMP a k 8 ∨ r = aCMP a k 0 ∨ r = aCMP a k 4 ∨ r = aPOS a 0x30)
    fun _ h => h.imp_right fun h => .inr (.inr h)
  have hword := d.putCooked_cmp_rd p raw ha hk (o := 8) (by decide)
  have howner := d.putCooked_cmpOwner p raw ha hk
  have hunit := cmpU_of_plant (putCooked_plant d p (aCMP a k 8) raw)
  have hwrite : d.cmpCfgWrite a k p raw = (if !d.flag (aCMP a k 8) 16 && (d.putCooked p (aCMP a k 8) raw).flag (aCMP a k 8) 16 then
      (d.putCooked p (aCMP a k 8) raw).cmpClamp a k (srcOf p) (aCMP a k 0) else d.putCooked p (aCMP a k 8) raw) := if_pos hown
  rw [hwrite]
  generalize d.putCooked p (aCMP a k 8) raw = e at *
  split
  · obtain ⟨hother, hkeep⟩ := e.cmpClamp_keeps (a := a) (k := k) (srcOf p) (aCMP a k 0)
    have hcfg : (e.cmpClamp a k (srcOf p) (aCMP a k 0)).rd (aCMP a k 8) = e.rd (aCMP a k 8) := hkeep _
      (not_or.mpr ⟨fun he => absurd (aCMP_inj.mp he) (by decide), not_or.mpr ⟨fun he => absurd (aCMP_inj.mp he) (by decide), aCMP_ne_aPOS (by decide)⟩⟩)
      (reportReg_aCMP ha hk (by decide))
    refine ⟨hcfg.trans hword, ?_, fun b j h => (hother b j h).trans (hunit b j), hput.trans (hkeep.mono fun _ h => .inr h)⟩
    rw [← howner, cmpOwner, cmpOwner, fget, fget, hcfg]
  · exact ⟨hword, howner, fun b j _ => hunit b j, hput⟩

end Device

/-- Settles O30: a free unit is claimed, its owner releases it and writes it. -/
theorem compareUnitsOwnedAndWritten : Obligations.CompareUnitsOwnedAndWritten := by
  unfold Obligations.CompareUnitsOwnedAndWritten
  refine ⟨fun a w s hadm => ⟨⟨fun hgiven hfree hmay => ?_, fun h => ?_⟩, fun h => ?_⟩, fun a k w s hown => ⟨fun hadm hmod => ?_, fun hadm => ?_⟩⟩
  · have hgiven' : bitsOf (setBits w.data 31 1 0) 8 3 ≠ 0 := by rwa [bitsOf_setBits_disjoint _ _ (by decide) (by decide)]
    exact givesDev_write rfl hadm (s.dev.claimCmp_claims w.by_ (setBits w.data 31 1 0) a.isLt hgiven' hfree hmay)
  · refine givesDev_write rfl hadm ?_
    rw [s.dev.claimCmp_refused w.by_ _ h]
    exact s.dev.refuseCmp_refused _ a.isLt
  · exact givesDev_write rfl hadm (s.dev.releaseCmp_frees w.by_ w.data h)
  · exact givesDev_write rfl hadm (s.dev.valhiWrite_applies w.by_ w.data a.isLt k.isLt hown hmod)
  · exact givesDev_write rfl hadm (s.dev.cmpCfgWrite_stores w.by_ w.data a.isLt k.isLt hown)

end Sys2Proof.Machine
end

section
/-!
PROOF. O26: an axis starts, stops and takes a counter value.
-/

namespace Sys2Proof.Machine

-- One proof after another: the stacks of the threads that elaborate many at once exceed the memory of a check.
set_option Elab.async false

section
variable {a o : Nat} (ha : a < 4) (ho : o < 0x50)
include ha ho

/-- The fields of a register of an axis are those of its offset (R183). -/
theorem regFields_aPOS (h4 : o % 4 = 0) : regFields (aPOS a o) = findRow posRows o := by
  have hb : aPOS a o / 0x10000 = 7 := by unfold aPOS; omega
  have hlow : aPOS a o % 0x10000 % 0x1000 = o := by unfold aPOS; omega
  unfold regFields
  dsimp only
  rw [if_neg (by unfold aPOS; omega), if_neg (by omega), if_pos (by omega)]
  unfold blockFldsB
  dsimp only
  rw [if_neg (by omega), if_pos hb, if_neg (by unfold aPOS; omega), if_pos (by unfold aPOS; omega), hlow, if_neg (by omega), if_neg (by omega), if_pos ho]

end

namespace Device

/-- A refusal reports in the event register of its block and changes nothing else. -/
theorem refuse_reports (d : Device) {a e c r : Nat} (hb : blockEvents a = some (e, c, r)) (hw : ¬ (0x78000 ≤ a ∧ a < 0x78800)) (hr : r < 32)
    (he : reportReg e = false) : (d.refuse a).plant = d.plant ∧ (d.refuse a).flag e r = true ∧ keepsRegs (fun b => b = e) d (d.refuse a) := by
  refine ⟨refuse_plant .., ?_, fun b hne hrep => refuse_rd _ _ _ ?_ hrep⟩
  · rw [refuse, flag_eq_of_rd_eq (noticeRefused_rd _ _ _ he), eventRefused, if_neg hw, hb]
    exact event_flag _ _ _ hr (ne_pending_of_reportReg he)
  · rintro (⟨c', r', h⟩ | ⟨h, h', -⟩)
    · rw [hb] at h
      exact hne (Prod.mk.inj (Option.some.inj h)).1.symm
    · exact hw ⟨h, h'⟩

section
variable {d : Device} {a o : Nat} (ha : a < 4) (ho : o < 0x50) {f : Fld} (hp : plainFld f)
include ha ho

include hp in
theorem specialClamp_aPOS (x : Nat) : d.specialClamp (aPOS a o) f x = none := by
  obtain ⟨h1, h2, h3, h4, -⟩ := hp
  obtain ⟨hlo, hhi⟩ := aPOS_lt (o := o) ha (by omega)
  unfold specialClamp
  rw [if_neg h1, if_neg h2, if_neg h3, if_neg h4, if_neg (by omega), if_neg (by omega), if_neg (by omega)]

theorem limitOf_aPOS (raw v : Word) : d.limitOf (aPOS a o) raw v f = f.lim := by
  have hb : aPOS a o / 0x10000 = 7 := by unfold aPOS; omega
  unfold limitOf
  dsimp only
  rw [if_neg (by omega), if_neg (by omega), if_neg (by omega), if_neg (by omega), if_neg (by omega), if_neg (by omega), if_neg (by omega),
    if_neg (by omega), if_neg (by omega), if_neg (by omega), if_neg (by unfold aPOS; omega)]

theorem alignMask_aPOS : alignMask (aPOS a o) = 0 := by
  obtain ⟨hlo, hhi⟩ := aPOS_lt (o := o) ha (by omega)
  unfold alignMask
  rw [if_neg (by omega), if_neg (by omega)]

include hp in
/-- A configuration field of an axis takes the nearest value of its range. -/
theorem putCooked_fget_aPOS (p : Party) (raw : Word) (h4 : o % 4 = 0) (h30 : o ≠ 0x30) (hap : fieldsApart (findRow posRows o) = true)
    (hwo : ∀ g ∈ findRow posRows o, g.acc ≠ .wo) (hf : f ∈ findRow posRows o) (hacc : f.acc = .rw ∨ f.acc = .rws ∨ f.acc = .wo) :
    (d.putCooked p (aPOS a o) raw).fget (aPOS a o) f.lo f.width = f.lim.clamp f.width (bitsOf raw f.lo f.width) % 2 ^ f.width := by
  have hrow := regFields_aPOS ha ho h4
  rw [fget, putCooked_rd_same _ _ _ _ (by rw [eventReg_aPOS ha (by omega)]; exact fun h => h30 (aPOS_inj.mp h)) (reportReg_aPOS ha (by omega)),
    storeWord_of_readable _ (hrow ▸ hwo) (alignMask_aPOS ha ho)]
  exact bitsOf_cook raw (hrow ▸ hap) (hrow ▸ hf) hacc (specialClamp_aPOS ha ho hp) (limitOf_aPOS ha ho raw)

end

/-- Axis `a` as it starts, before its source says how. -/
def freshAxis (d : Device) (a : Nat) : Axis :=
  let lv (o lo : Nat) : Bool := (d.ch (d.fget (aPOS a o) lo 10)).pad
  { seekFresh (d.ax a) with indexed := false, encA := lv 4 0, encB := lv 4 16, candA := lv 4 0, candB := lv 4 16, ageA := 0, ageB := 0 }

/-- How a source starts (R166). -/
def startBySource (d : Device) (a : Nat) : Device :=
  match d.axSrc a with
  | 1 => d.setAxState a 2
  | 3 => if d.axMeas a then (d.setAxState a 1).checkWheel a else (d.setAxState a 2).rateStep a
  | 4 => d.setAxState a 2
  | 5 => if (d.setAxState a 1).chordState = 6 then (d.setAxState a 1).event (aPOS a 0x30) 6 else (d.setAxState a 1).chordLock a
  | _ => d.setAxState a 1

theorem startAxis_eq (d : Device) (a : Nat) : d.startAxis a = (d.setAx a (d.freshAxis a)).startBySource a := rfl

/-! What an operation on one axis leaves alone. -/

/-- The other axes and the compare units. -/
def besideAxis (a : Nat) (x : Device) : ({b : Nat // b ≠ a} → Axis) × Tab CmpUnit := (fun b => x.ax b, x.cmps)

/-- An operation on axis `a`: registers of `own` and reports, the axis, and neither another axis nor a compare unit. -/
abbrev AxisOnly (a : Nat) (own : Nat → Prop) (d e : Device) : Prop := Keeps own (besideAxis a) d e

theorem besideAxis_plant (a : Nat) (x : Device) : besideAxis a x.plant = besideAxis a x := rfl

namespace AxisOnly
variable {a : Nat} {own : Nat → Prop} {d e : Device}

theorem ax (h : AxisOnly a own d e) {b : Nat} (hb : b ≠ a) : e.ax b = d.ax b := congrFun (Prod.mk.inj h.part).1 ⟨b, hb⟩
theorem cmps (h : AxisOnly a own d e) : e.cmps = d.cmps := (Prod.mk.inj h.part).2

theorem setAx (y : Axis) (d : Device) : AxisOnly a own d (d.setAx a y) :=
  .of_rd (d.setAx_rd a y) (Prod.ext (funext fun b => d.setAx_other a y b b.2) (d.setAx_cmps a y))

theorem jumpTo (h30 : own (aPOS a 0x30)) (h38 : own (aPOS a 0x38)) (c : Nat) (d : Device) : AxisOnly a own d (d.jumpTo a c) :=
  (setAx _ d).trans <| (Keeps.event (besideAxis_plant a) h30 ..).trans (.bump (besideAxis_plant a) h38 ..)

theorem dueAll (d : Device) : AxisOnly a own d d.dueAll := dueAll_keeps (fun _ _ _ => rfl) d

theorem lockAxis (h2C : own (aPOS a 0x2C)) (h30 : own (aPOS a 0x30)) (h38 : own (aPOS a 0x38)) (c : Nat) (d : Device) : AxisOnly a own d (d.lockAxis a c) :=
  (Keeps.fset (besideAxis_plant a) h2C ..).trans <| (Keeps.event (besideAxis_plant a) h30 ..).trans <| (jumpTo h30 h38 ..).trans (dueAll _)

theorem chordLock (h2C : own (aPOS a 0x2C)) (h30 : own (aPOS a 0x30)) (h38 : own (aPOS a 0x38)) (d : Device) : AxisOnly a own d (d.chordLock a) := by
  unfold Device.chordLock
  split
  · split
    · exact .refl ..
    · split
      · exact .refl ..
      · exact (setAx _ d).trans <| (Keeps.fset (besideAxis_plant a) h2C ..).trans (lockAxis h2C h30 h38 ..)
  · exact .refl ..

theorem checkWheel (h30 : own (aPOS a 0x30)) (d : Device) : AxisOnly a own d (d.checkWheel a) := by
  unfold Device.checkWheel
  split
  · exact .event (besideAxis_plant a) h30 ..
  · exact .refl ..

theorem setAxState (h2C : own (aPOS a 0x2C)) (n : Nat) (d : Device) : AxisOnly a own d (d.setAxState a n) := .fset (besideAxis_plant a) h2C ..

theorem rateStep (h1C : own (aPOS a 0x1C)) (d : Device) : AxisOnly a own d (d.rateStep a) := (Keeps.wr (besideAxis_plant a) h1C ..).trans (setAx ..)

theorem startBySource (h1C : own (aPOS a 0x1C)) (h2C : own (aPOS a 0x2C)) (h30 : own (aPOS a 0x30)) (h38 : own (aPOS a 0x38)) (d : Device) :
    AxisOnly a own d (d.startBySource a) := by
  unfold Device.startBySource
  split
  · exact setAxState h2C ..
  · split
    · exact (setAxState h2C ..).trans (checkWheel h30 _)
    · exact (setAxState h2C ..).trans (rateStep h1C _)
  · exact setAxState h2C ..
  · split
    · exact (setAxState h2C ..).trans (.event (besideAxis_plant a) h30 ..)
    · exact (setAxState h2C ..).trans (chordLock h2C h30 h38 _)
  · exact setAxState h2C ..

end AxisOnly

section
variable (d : Device) {a : Nat} (ha : a < 4)

theorem setAxState_state {n : Nat} (hn : n < 4) : (d.setAxState a n).axState a = n := by
  rw [axState, setAxState, fget_fset_same _ _ _ (by decide)]
  exact Nat.mod_eq_of_lt hn

theorem axState_of_rd {d e : Device} (h : e.rd (aPOS a 0x2C) = d.rd (aPOS a 0x2C)) : e.axState a = d.axState a := by rw [axState, axState, fget, fget, h]

include ha in
theorem checkWheel_state : (d.checkWheel a).axState a = d.axState a :=
  axState_of_rd ((AxisOnly.checkWheel (own := (· = aPOS a 0x30)) rfl d).regs _ (fun h => absurd (aPOS_inj.mp h) (by decide)) (reportReg_aPOS ha (by decide)))

theorem rateStep_state : (d.rateStep a).axState a = d.axState a :=
  axState_of_rd (rd_wr_other _ _ fun h => absurd (aPOS_inj.mp h) (by decide))

include ha in
/-- A started axis is LOCKED at once for time, encoder and synthesised angle, else SEEKING; a source CHORD has its own rule. -/
theorem startBySource_state (h5 : d.axSrc a ≠ 5) : (d.startBySource a).axState a =
    if d.axSrc a = 1 ∨ d.axSrc a = 4 ∨ (d.axSrc a = 3 ∧ d.axMeas a = false) then 2 else 1 := by
  unfold startBySource
  split
  next h => rw [setAxState_state _ (by decide), if_pos (.inl h)]
  next h =>
    split
    next hm => rw [checkWheel_state _ ha, setAxState_state _ (by decide), h, hm, if_neg (by decide)]
    next hm => rw [rateStep_state, setAxState_state _ (by decide), if_pos (.inr (.inr ⟨h, Bool.eq_false_iff.mpr hm⟩))]
  next h => rw [setAxState_state _ (by decide), if_pos (.inr (.inl h))]
  next h => exact absurd h h5
  next h1 h3 h4 _ => rw [setAxState_state _ (by decide), if_neg (fun h => h.elim h1 fun h => h.elim h4 fun h => h3 h.1)]

/-! RUN of an axis (R164, R166). -/

/-- The registers that the start and the stop of an axis write. -/
def runRegs (a r : Nat) : Prop := r = aPOS a 0 ∨ r = aPOS a 0x1C ∨ r = aPOS a 0x2C ∨ r = aPOS a 0x30 ∨ r = aPOS a 0x38

variable (p : Party) (raw : Word)

theorem posControl_of_accepted (h : d.flag (aPOS a 0) 31 = true → d.reachesRws (aPOS a 0) raw = false) :
    d.posControl a p raw = (if bitOf raw 31 then
      (if !d.flag (aPOS a 0) 31 && (d.putCooked p (aPOS a 0) raw).flag 0x20000 10 then (d.putCooked p (aPOS a 0) raw).startAxis a
        else d.putCooked p (aPOS a 0) raw)
      else (d.putCooked p (aPOS a 0) raw).setAxState a 0) := by
  refine if_neg ?_
  cases hr : d.flag (aPOS a 0) 31
  · exact Bool.false_ne_true
  · rw [h hr]
    exact Bool.false_ne_true

include ha

theorem putCooked_run : (d.putCooked p (aPOS a 0) raw).flag (aPOS a 0) 31 = bitOf raw 31 := by
  have h := putCooked_fget_aPOS (d := d) (o := 0) (f := ⟨"RUN", 31, 1, .rw, none, .any⟩) ha (by decide) (by unfold plainFld; decide) p raw (by decide) (by decide)
    (by decide) (by decide) (by decide) (.inl rfl)
  exact congrArg (fun x => decide (x = 1)) (h.trans (Nat.mod_eq_of_lt (bitsOf_lt ..)))

theorem posControl_runs (h : d.flag (aPOS a 0) 31 = true → d.reachesRws (aPOS a 0) raw = false) :
    (let t := d.posControl a p raw
     t.flag (aPOS a 0) 31 = bitOf raw 31 ∧ (bitOf raw 31 = false → t.axState a = 0) ∧
     (bitOf raw 31 = true → d.flag (aPOS a 0) 31 = false → d.flag 0x20000 10 = true → t.axSrc a ≠ 5 →
       t.axState a = if t.axSrc a = 1 ∨ t.axSrc a = 4 ∨ (t.axSrc a = 3 ∧ t.axMeas a = false) then 2 else 1) ∧
     AxisOnly a (runRegs a) d t) := by
  have hrun := d.putCooked_run ha p raw
  have hput : AxisOnly a (runRegs a) d (d.putCooked p (aPOS a 0) raw) := .putCooked (besideAxis_plant a)
    (fun b hb => hb.imp_right fun h => .inr (.inr (.inl ((eventReg_aPOS ha (by decide)).mp h)))) ..
  have hctl {e t : Device} {own : Nat → Prop} (hk : AxisOnly a own e t) (ho : ¬ own (aPOS a 0)) : t.rd (aPOS a 0) = e.rd (aPOS a 0) :=
    hk.regs _ ho (reportReg_aPOS ha (by decide))
  rw [d.posControl_of_accepted p raw h, ← hrun]
  have hfeature : (d.putCooked p (aPOS a 0) raw).flag 0x20000 10 = d.flag 0x20000 10 :=
    flag_eq_of_rd_eq (putCooked_rd_other _ _ _ _ _ (by unfold aPOS; omega) (by rw [eventReg_aPOS ha (by decide)]; unfold aPOS; omega) (by decide)) _
  generalize d.putCooked p (aPOS a 0) raw = e at *
  split
  next hon =>
    split
    next hfresh =>
      have hstart : AxisOnly a (fun r => r = aPOS a 0x1C ∨ r = aPOS a 0x2C ∨ r = aPOS a 0x30 ∨ r = aPOS a 0x38) e (e.startAxis a) := by
        rw [startAxis_eq]
        exact (AxisOnly.setAx _ e).trans (AxisOnly.startBySource (.inl rfl) (.inr (.inl rfl)) (.inr (.inr (.inl rfl))) (.inr (.inr (.inr rfl))) _)
      have hword := hctl hstart (by simp only [aPOS_inj]; decide)
      refine ⟨flag_eq_of_rd_eq hword 31, fun hoff => absurd hon (hoff ▸ Bool.false_ne_true), fun _ _ _ h5 => ?_, hput.trans (hstart.mono fun _ h => .inr h)⟩
      have hsrc : (e.startAxis a).axSrc a = (e.setAx a (e.freshAxis a)).axSrc a := by rw [axSrc, axSrc, fget, fget, hword]; rfl
      have hmeas : (e.startAxis a).axMeas a = (e.setAx a (e.freshAxis a)).axMeas a := flag_eq_of_rd_eq hword 3
      rw [hsrc] at h5
      rw [hsrc, hmeas, startAxis_eq]
      exact startBySource_state _ ha h5
    next hfresh =>
      refine ⟨rfl, fun hoff => absurd hon (hoff ▸ Bool.false_ne_true), fun _ hwas harm => absurd ?_ hfresh, hput⟩
      rw [hwas, hfeature, harm]
      rfl
  next hoff =>
    have hstop : AxisOnly a (· = aPOS a 0x2C) e (e.setAxState a 0) := AxisOnly.setAxState (own := (· = aPOS a 0x2C)) rfl 0 e
    have hword := hctl hstop (by simp only [aPOS_inj]; decide)
    exact ⟨flag_eq_of_rd_eq hword 31, fun _ => e.setAxState_state (by decide), fun hon => absurd hon hoff, hput.trans (hstop.mono fun _ h => .inr (.inr (.inl h)))⟩

/-! The load of a counter (R165). -/

omit ha in
theorem jumpTo_ax (c : Nat) : ((d.jumpTo a c).ax a).c = c % posMod ∧ ((d.jumpTo a c).ax a).loadLo = (d.ax a).loadLo := by
  unfold jumpTo
  dsimp only
  rw [eq_of_plant (fun y => y.ax a) (bump_plant ..), eq_of_plant (fun y => y.ax a) (event_plant ..), setAx_same]
  exact ⟨rfl, rfl⟩

theorem jumpTo_event (c : Nat) : (d.jumpTo a c).flag (aPOS a 0x30) 2 = true := by
  unfold jumpTo
  dsimp only
  rw [bump, flag_eq_of_rd_eq (rd_fset_other _ _ _ _ fun h => absurd (aPOS_inj.mp h) (by decide)),
    event_flag _ _ _ (by decide) (ne_pending_of_reportReg (reportReg_aPOS ha (by decide)))]

theorem jumpTo_count (c : Nat) : (d.jumpTo a c).fget (aPOS a 0x38) 16 16 = (d.fget (aPOS a 0x38) 16 16 + 1) % 2 ^ 16 := by
  unfold jumpTo
  dsimp only
  rw [bump, fget_fset_same _ _ _ (by decide), fget, event_rd _ _ _ _ (fun h => absurd (aPOS_inj.mp h) (by decide))
    (ne_pending_of_reportReg (reportReg_aPOS ha (by decide))), setAx_rd, fget]

theorem loadCounter_jumps (h : d.flag (aPOS a 0) 31 = false) :
    (let t := d.loadCounter a raw
     (t.ax a).c = ((d.ax a).loadLo.getD ((d.ax a).c % 2 ^ 32) + bitsOf raw 0 16 * 2 ^ 32) % 2 ^ 48 ∧
     (t.ax a).loadLo = none ∧ t.flag (aPOS a 0x30) 2 = true ∧ t.fget (aPOS a 0x38) 16 16 = (d.fget (aPOS a 0x38) 16 16 + 1) % 2 ^ 16 ∧
     AxisOnly a (fun r => r = aPOS a 0x30 ∨ r = aPOS a 0x38) d t) := by
  have hload : d.loadCounter a raw = (d.setAx a { d.ax a with loadLo := none }).jumpTo a
      ((d.ax a).loadLo.getD ((d.ax a).c % 2 ^ 32) + bitsOf raw 0 16 * 2 ^ 32) := if_neg (by rw [h]; exact Bool.false_ne_true)
  rw [hload]
  generalize (d.ax a).loadLo.getD ((d.ax a).c % 2 ^ 32) + bitsOf raw 0 16 * 2 ^ 32 = c
  refine ⟨?_, ?_, ?_, ?_, (AxisOnly.setAx _ d).trans (AxisOnly.jumpTo (.inl rfl) (.inr rfl) c _)⟩
  · rw [(jumpTo_ax ..).1]
    rfl
  · rw [(jumpTo_ax ..).2, setAx_same]
  · exact jumpTo_event _ ha c
  · rw [jumpTo_count _ ha, fget, setAx_rd]
    rfl

theorem loadCounter_refused (h : d.flag (aPOS a 0) 31 = true) :
    (let t := d.loadCounter a raw
     t.plant = d.plant ∧ t.flag (aPOS a 0x30) 8 = true ∧ keepsRegs (fun r => r = aPOS a 0x30) d t) := by
  have hload : d.loadCounter a raw = d.refuse (aPOS a 0x10) := if_pos h
  rw [hload]
  exact d.refuse_reports (blockEvents_aPOS ha (by decide)) (fun h => by have := aPOS_lt (o := 0x10) ha (by decide); omega) (by decide)
    (reportReg_aPOS ha (by decide))

end

end Device

/-- The commands that write POS_CTL with RUN as given. -/
theorem posRunCommand {a : Fin 4} {w : Wr} {run : Bool} {c : Instr} (h : (run, c) ∈ [(true, Instr.posRunStart a w), (false, .posRunStop a w)]) (s : State) :
    exec c s = .next (s.onDev fun d => d.write w (aPOS a 0) fun d => d.posControl a w.by_ (setBits w.data 31 1 (if run then 1 else 0))) := by
  simp only [List.mem_cons, Prod.mk.injEq, List.not_mem_nil, or_false] at h
  rcases h with ⟨rfl, rfl⟩ | ⟨rfl, rfl⟩
  · rfl
  · rfl

/-- Settles O26: RUN starts and stops an axis, and a load of its counter is a jump. -/
theorem axisRunAndLoad : Obligations.AxisRunAndLoad := by
  unfold Obligations.AxisRunAndLoad
  refine ⟨fun a w s run c hmem hadm hrws => ?_, fun a w s hadm => ⟨fun h => ?_, fun h => ?_⟩⟩
  · have hrun : bitOf (setBits w.data 31 1 (if run then 1 else 0)) 31 = run := by
      rw [bitOf_setBits_same _ (by decide)]
      cases run <;> rfl
    obtain ⟨h1, h2, h3, h4⟩ := s.dev.posControl_runs a.isLt w.by_ (setBits w.data 31 1 (if run then 1 else 0)) hrws
    rw [hrun] at h1 h2 h3
    refine givesDev_write_as (posRunCommand hmem s) hadm ?_
    rintro _ rfl
    exact ⟨h1, h2, h3, fun b hb => h4.ax hb, h4.cmps, h4.regs⟩
  · obtain ⟨h1, h2, h3, h4, h5⟩ := s.dev.loadCounter_jumps a.isLt w.data h
    refine givesDev_write_as rfl hadm ?_
    rintro _ rfl
    exact ⟨h1, h2, h3, h4, fun b hb => h5.ax hb, h5.regs⟩
  · exact givesDev_write rfl hadm (s.dev.loadCounter_refused a.isLt w.data h)

end Sys2Proof.Machine
end

section
/-!
PROOF. O36: committed results reach their ring.
-/

namespace Sys2Proof.Machine

-- One proof after another: the stacks of the threads that elaborate many at once exceed the memory of a check.
set_option Elab.async false

/-! Bytes of a memory, read together. -/

theorem readCells_congr {dflt : Nat → Byte} {m m' : List Host.Cell} {a n : Nat} (h : ∀ b, a ≤ b → b < a + n → tabGet dflt m b = tabGet dflt m' b) :
    readCells dflt m a n = readCells dflt m' a n := by
  induction n generalizing a with
  | zero => rfl
  | succ n ih => rw [readCells, readCells, h a (Nat.le_refl a) (by omega), ih fun b hb hb' => h b (by omega) (by omega)]

theorem readCells_writeCells_same (dflt : Nat → Byte) (m : List Host.Cell) (a : Nat) (bs : List Byte) :
    readCells dflt (writeCells dflt m a bs) a bs.length = bs := by
  induction bs generalizing m a with
  | nil => rfl
  | cons x r ih =>
    rw [List.length_cons, readCells, writeCells, ih, tabGet_writeCells, if_neg (by omega), tabGet_tabSet_same]

/-- Every record takes 32 bytes (R203). -/
theorem ResRec.bytes_length (r : ResRec) (seq : Nat) : (r.bytes seq).length = 32 := by
  simp only [ResRec.bytes, leBytes, List.length_append, List.length_cons, List.length_nil]

namespace Device
variable (d : Device) (q : Nat)

/-- Where the ring of queue `q` begins (R206). -/
def ringBase : Nat := bitsOf (d.rd (aRESQ q 0)) 12 20 * 4096 + d.fget (aRESQ q 4) 0 4 * 2 ^ 32

/-- How many records the ring of queue `q` holds. -/
def ringSize : Nat := 2 ^ d.fget (aRESQ q 8) 0 5

theorem ringSize_pos : 0 < d.ringSize q := Nat.two_pow_pos _

/-- Sequence numbers wrap in step with the ring. -/
theorem ringSize_dvd : d.ringSize q ∣ 2 ^ 32 := Nat.pow_dvd_pow 2 (Nat.le_of_lt (bitsOf_lt ..))

theorem succ_mod_ringSize (seq j : Nat) : ((seq + 1) % 2 ^ 32 + j) % d.ringSize q = (seq + (j + 1)) % d.ringSize q := by
  rw [Nat.add_mod, Nat.mod_mod_of_dvd _ (d.ringSize_dvd q), ← Nat.add_mod]
  congr 1
  omega

theorem writeRing_cons (seq : Nat) (r : ResRec × Bool) (rest : List (ResRec × Bool)) (m : Mem) :
    d.writeRing q seq (r :: rest) m = d.writeRing q ((seq + 1) % 2 ^ 32) rest
      (m.ddrWrite (d.ringBase q + 32 * (seq % d.ringSize q)) (r.1.bytes seq)) := rfl

/-- A byte outside the slots of the records keeps its value. -/
theorem writeRing_outside {recs : List (ResRec × Bool)} {a : Nat} (seq : Nat) (m : Mem)
    (h : ∀ j < recs.length, a < d.ringBase q + 32 * ((seq + j) % d.ringSize q) ∨ d.ringBase q + 32 * ((seq + j) % d.ringSize q) + 32 ≤ a) :
    tabGet blankRam (d.writeRing q seq recs m).ddr a = tabGet blankRam m.ddr a := by
  induction recs generalizing seq m with
  | nil => rfl
  | cons r rest ih =>
    rw [writeRing_cons, ih _ _ fun j hj => ?_]
    · have h0 := h 0 (by rw [List.length_cons]; omega)
      rw [Nat.add_zero] at h0
      refine (tabGet_writeCells ..).trans (if_neg ?_)
      rw [ResRec.bytes_length]
      omega
    · rw [succ_mod_ringSize]
      exact h (j + 1) (by rw [List.length_cons]; omega)

/-- Slots of different records of a ring that holds them all are apart. -/
theorem ring_slots_apart {n seq i j : Nat} (hn : n ≤ d.ringSize q) (hi : i < n) (hj : j < n) (hne : i ≠ j) :
    (seq + i) % d.ringSize q ≠ (seq + j) % d.ringSize q := fun h => by
  have hmod := Nat.ModEq.add_left_cancel' seq h
  rw [Nat.ModEq, Nat.mod_eq_of_lt (by omega), Nat.mod_eq_of_lt (by omega)] at hmod
  exact hne hmod

/-- Every record lies in its slot with its SEQ. -/
theorem writeRing_read {recs : List (ResRec × Bool)} {seq : Nat} (m : Mem) (hlen : recs.length ≤ d.ringSize q) (hseq : seq < 2 ^ 32) {i : Nat} {r : ResRec × Bool}
    (hr : recs[i]? = some r) :
    (d.writeRing q seq recs m).ddrRead (d.ringBase q + 32 * ((seq + i) % d.ringSize q)) 32 = r.1.bytes ((seq + i) % 2 ^ 32) := by
  induction recs generalizing seq m i with
  | nil => rw [List.getElem?_nil] at hr; cases hr
  | cons x rest ih =>
    rw [List.length_cons] at hlen
    rw [writeRing_cons]
    cases i with
    | zero =>
      rw [List.getElem?_cons_zero, Option.some.injEq] at hr
      subst hr
      rw [show seq + 0 = seq from rfl, Nat.mod_eq_of_lt hseq]
      have hsame := readCells_writeCells_same blankRam m.ddr (d.ringBase q + 32 * (seq % d.ringSize q)) (x.1.bytes seq)
      rw [ResRec.bytes_length] at hsame
      refine (readCells_congr fun b hb hb' => d.writeRing_outside q _ _ fun j hj => ?_).trans hsame
      rw [succ_mod_ringSize]
      have hne := d.ring_slots_apart q (seq := seq) (i := 0) (j := j + 1) hlen (by omega) (by omega) (by omega)
      rw [Nat.add_zero] at hne
      omega
    | succ i =>
      have hrest := ih (seq := (seq + 1) % 2 ^ 32) (m.ddrWrite (d.ringBase q + 32 * (seq % d.ringSize q)) (x.1.bytes seq)) (by omega) (Nat.mod_lt _ (by decide)) hr
      rw [succ_mod_ringSize] at hrest
      rw [hrest, Nat.mod_add_mod]
      congr 2
      omega

/-- A byte outside the ring keeps its value. -/
theorem writeRing_beyond {a : Nat} (recs : List (ResRec × Bool)) (seq : Nat) (m : Mem)
    (h : a < d.ringBase q ∨ d.ringBase q + 32 * d.ringSize q ≤ a) : (d.writeRing q seq recs m).ddrRead a 1 = m.ddrRead a 1 := by
  refine readCells_congr fun b hb hb' => d.writeRing_outside q _ _ fun j _ => ?_
  have := Nat.mod_lt (seq + j) (d.ringSize_pos q)
  omega

theorem writeRing_other (recs : List (ResRec × Bool)) (seq : Nat) (m : Mem) :
    (d.writeRing q seq recs m).flash = m.flash ∧ (d.writeRing q seq recs m).host = m.host := by
  induction recs generalizing seq m with
  | nil => exact ⟨rfl, rfl⟩
  | cons r rest ih => exact ih ..

/-! The queue's registers (R206, R208). -/

theorem aRESQ_ne {o o' : Nat} (h : o ≠ o') : aRESQ q o ≠ aRESQ q o' := by unfold aRESQ; omega

/-- A field of a whole register counts on as the register does. -/
theorem bumpBy_word (a k : Nat) : (d.bumpBy a 0 32 k).rd a = BitVec.ofNat 32 ((d.rd a).toNat + k) := by
  rw [bumpBy, fset, rd_wr_same, setBits, fget, bitsOf]
  refine BitVec.eq_of_toNat_eq ?_
  have := (d.rd a).isLt
  rw [BitVec.toNat_ofNat, BitVec.toNat_ofNat]
  omega

theorem advanceWrseq_device (m : Mem) :
    (let t := (d.advanceWrseq m q).2
     t.rd (aRESQ q 0x10) = BitVec.ofNat 32 ((d.rd (aRESQ q 0x10)).toNat + (d.que q).done.length) ∧ (t.que q).done = [] ∧
     (∀ p, p ≠ q → t.que p = d.que p) ∧ ∀ a, a ≠ aRESQ q 0x10 → a ≠ aRESQ q 0x18 → a ≠ aRESQ q 0x20 → t.rd a = d.rd a) := by
  have hque (p : Nat) : (d.advanceWrseq m q).2.que p = (d.setQue q { d.que q with done := [], ret := (d.que q).ret - ((d.que q).done.filter fun r => r.2).length }).que p := by
    unfold advanceWrseq
    dsimp only
    rw [eq_of_plant (fun x => x.que p) (fsetB_plant ..), eq_of_plant (fun x => x.que p) (fset_plant ..), eq_of_plant (fun x => x.que p) (bumpBy_plant ..)]
  refine ⟨?_, ?_, fun p hp => ?_, fun a h10 h18 h20 => ?_⟩
  · unfold advanceWrseq
    dsimp only
    rw [fsetB, rd_fset_other _ _ _ _ (aRESQ_ne q (by decide)), rd_fset_other _ _ _ _ (aRESQ_ne q (by decide)), bumpBy_word, setQue_rd]
  · rw [hque, setQue_same]
  · rw [hque, setQue_other _ _ _ _ hp]
  · unfold advanceWrseq
    dsimp only
    rw [fsetB, rd_fset_other _ _ _ _ h20, rd_fset_other _ _ _ _ h18, bumpBy, rd_fset_other _ _ _ _ h10, setQue_rd]

theorem blockEvents_aRESQ {o : Nat} (hq : q < 16) (ho : o < 0x40) : blockEvents (aRESQ q o) = some (aRESQ q 0x20, 9, 10) := by
  have hb : aRESQ q o / 0x10000 = 9 := by unfold aRESQ; omega
  have hi : aRESQ q o % 0x10000 / 0x40 = q := by unfold aRESQ; omega
  unfold blockEvents
  dsimp only
  rw [if_neg (by omega), if_neg (by omega), if_neg (by omega), if_neg (by omega), if_neg (by omega), if_neg (by omega), if_neg (by omega),
    if_neg (by omega), if_neg (by omega), if_pos hb, hi]

theorem eventReg_aRESQ {o b : Nat} (hq : q < 16) (ho : o < 0x40) : EventReg (aRESQ q o) b ↔ b = aRESQ q 0x20 := by
  rw [EventReg, blockEvents_aRESQ q hq ho]
  constructor
  · rintro (⟨c, r, he⟩ | ⟨hw, hw', -⟩)
    · exact (Prod.mk.inj (Option.some.inj he)).1.symm
    · unfold aRESQ at hw hw'
      omega
  · rintro rfl
    exact .inl ⟨9, 10, rfl⟩

end Device

/-- A command on memories and device completes with what it makes of them. -/
theorem givesMem_onMem {c : Instr} {s : State} {f : Mem → Device → Mem × Device} {P : Mem → Device → Prop} (he : exec c s = .next (s.onMem f))
    (hP : P (f s.mem s.dev).1 (f s.mem s.dev).2) (hout : ∀ m (x : Device) ws, P m x → P m (x.withOut ws) := by exact fun _ _ _ h => h) : GivesMem c s P :=
  ⟨s.onMem f, he, rfl, hout _ _ s.dev.ddrOut hP⟩

/-- Settles O36: the records lie in their slots, and the pointers follow. -/
theorem resultsReachRing : Obligations.ResultsReachRing := by
  unfold Obligations.ResultsReachRing
  refine ⟨fun q s => ?_, fun q w s hadm => givesDev_write rfl hadm ⟨?_, Device.putCooked_plant .., ?_⟩⟩
  · refine givesMem_onMem rfl ?_
    obtain ⟨hseq, hdone, hothers, hregs⟩ := s.dev.advanceWrseq_device q s.mem
    have hmem : (s.dev.advanceWrseq s.mem q).1 = s.dev.writeRing q (s.dev.rd (aRESQ q 0x10)).toNat (s.dev.que q).done s.mem := rfl
    obtain ⟨hflash, hhost⟩ := s.dev.writeRing_other q (s.dev.que q).done (s.dev.rd (aRESQ q 0x10)).toNat s.mem
    rw [hmem]
    exact ⟨hseq, hdone, fun hlen i r hr => s.dev.writeRing_read q s.mem hlen (s.dev.rd (aRESQ q 0x10)).isLt hr,
      fun a ha => s.dev.writeRing_beyond q _ _ s.mem ha, hflash, hhost, hothers, hregs⟩
  · exact Device.putCooked_rd_same _ _ _ _ (by rw [Device.eventReg_aRESQ _ q.isLt (by decide)]; exact Device.aRESQ_ne q (by decide))
      (Device.reportReg_of_mid (by unfold aRESQ; omega) (by unfold aRESQ; omega))
  · exact (Device.putCooked_keepsRegs s.dev w.by_ _ w.data).mono fun a ha => ha.imp_right (Device.eventReg_aRESQ _ q.isLt (by decide)).mp

end Sys2Proof.Machine
end

section
/-!
PROOF. O28: mains and wheel axes follow their pins, and seek when they lose them.
-/

namespace Sys2Proof.Machine

-- One proof after another: the stacks of the threads that elaborate many at once exceed the memory of a check.
set_option Elab.async false

/-- The next value of a phase is ahead by at most a cycle and has the phase. -/
theorem nextPhase_spec (c : Nat) {z ph : Nat} (hph : ph < z) :
    nextPhase c z ph % z = ph ∧ ∃ k, k < z ∧ nextPhase c z ph = c + k := by
  have hz : 0 < z := by omega
  have hc := Nat.mod_lt c hz
  refine ⟨?_, (ph + z - c % z) % z, Nat.mod_lt _ hz, rfl⟩
  rw [nextPhase, Nat.add_mod, Nat.mod_mod, ← Nat.add_mod, ← Nat.mod_add_mod, show c % z + (ph + z - c % z) = ph + z by omega, Nat.add_mod_right, Nat.mod_eq_of_lt hph]

namespace Device

section
variable (d : Device)

/-! The due tests change nothing but lists. -/

@[simp] theorem dueAll_rd (r : Nat) : d.dueAll.rd r = d.rd r :=
  congrArg (fun regs => tabGet resetWord regs r) (dueAll_keeps (own := fun _ => False) (part := Device.regs) (fun x l y => x.setLst_regs l y) d).part

@[simp] theorem dueAll_ax (b : Nat) : d.dueAll.ax b = d.ax b :=
  (dueAll_keeps (own := fun _ => False) (part := fun x => x.ax b) (fun _ _ _ => rfl) d).part

theorem dueAll_axState (b : Nat) : d.dueAll.axState b = d.axState b := axState_of_rd (dueAll_rd ..)

/-- An event leaves the other bits of its register. -/
theorem event_flag_other {a i j : Nat} (hi : i < 32) (hij : i ≠ j) (ha : a ≠ 0xD9000) : (d.event a i).flag a j = d.flag a j := by
  have hset : (d.fset a i 1 1).flag a j = d.flag a j := flag_fsetB_other d (a := a) (i := i) (j := j) true hij hi
  unfold event
  split
  · rfl
  · split
    next v hv =>
      have hlow := vectorOf_lt a v hv
      rw [← hset]
      exact flag_eq_of_rd_eq (signal_rd _ _ _ (by omega)) j
    next => exact hset

variable {a : Nat}

/-- The period taken becomes the last one, and POS_PERIOD shows it. -/
theorem takePeriod_spec (t : Nat) (x : Axis) :
    ((d.takePeriod a t x).ax a = { x with per := t, span := 65536, acc := 0, cross := some d.edge }) ∧
    (∀ b, b ≠ a → (d.takePeriod a t x).ax b = d.ax b) ∧ (d.takePeriod a t x).rd (aPOS a 0x34) = BitVec.ofNat 32 t ∧
    ∀ r, r ≠ aPOS a 0x34 → (d.takePeriod a t x).rd r = d.rd r := by
  refine ⟨?_, fun b hb => ?_, rd_wr_same .., fun r hr => rd_wr_other _ _ hr⟩
  · unfold takePeriod
    rw [eq_of_plant (fun y => y.ax a) (wr_plant ..), setAx_same]
  · unfold takePeriod
    rw [eq_of_plant (fun y => y.ax b) (wr_plant ..), setAx_other _ _ _ _ hb]

/-- A crossing in time of a LOCKED mains axis moves C to the phase of a crossing (R168). -/
theorem lineCross_follows {p : Nat} (hsrc : d.axSrc a = 2) (hlock : d.axState a = 2) (hpad : (d.ch (d.fget (aPOS a 4) 0 10)).pad = true)
    (hprev : (d.ch (d.fget (aPOS a 4) 0 10)).prevPad = false) (hcross : (d.ax a).cross = some p) (hlate : (d.ax a).per < 4 * (d.edge - p))
    (hlo : 315077 ≤ d.edge - p) (hhi : d.edge - p ≤ 455111)
    (hnear : 50 * ((d.edge - p - (d.ax a).per) + ((d.ax a).per - (d.edge - p))) ≤ (d.ax a).per) :
    d.lineCross a = (d.takePeriod a (d.edge - p)
      { d.ax a with c := nextPhase ((d.ax a).c + 1) 65536 (d.fget (aPOS a 0x20) 0 16) % posMod, debt := 0 }).dueAll := by
  unfold lineCross
  dsimp only
  rw [if_pos ⟨hsrc, by rw [hlock]; decide, hpad, by rw [hprev]; rfl⟩, hcross]
  dsimp only
  rw [if_neg (by omega)]
  unfold crossing
  rw [hlock]
  dsimp only
  refine if_pos ?_
  rw [Bool.and_eq_true]
  exact ⟨decide_eq_true ⟨hlo, hhi⟩, decide_eq_true hnear⟩

/-! Teeth (R171). -/

/-- The next tooth is a matter of the axis, its control registers and the wheel. -/
theorem nextTooth_congr {d e : Device} {a : Nat} (ha : a < 4) (hrd : ∀ r, r ≠ aPOS a 0x34 → e.rd r = d.rd r) (hax : e.ax a = d.ax a) :
    e.nextTooth a = d.nextTooth a ∧ e.toothNext a = d.toothNext a := by
  have hpos {o : Nat} (ho : o ≠ 0x34) (lo n : Nat) : e.fget (aPOS a o) lo n = d.fget (aPOS a o) lo n := by
    rw [fget, fget, hrd _ fun h => ho (aPOS_inj.mp h)]
  have hwheel (w i lo n : Nat) : e.fget (aWHEEL w i) lo n = d.fget (aWHEEL w i) lo n := by
    rw [fget, fget, hrd _ (by have := aPOS_lt (o := 0x34) ha (by decide); unfold aWHEEL; omega)]
  have hposf {o : Nat} (ho : o ≠ 0x34) (i : Nat) : e.flag (aPOS a o) i = d.flag (aPOS a o) i := flag_eq_of_rd_eq (hrd _ fun h => ho (aPOS_inj.mp h)) i
  have hpresent (w j : Nat) : e.toothPresent w j = d.toothPresent w j := by rw [toothPresent, toothPresent, flag, flag, hwheel]
  have hz : e.axZ a = d.axZ a := by
    simp only [axZ, axSrc, hpos (o := 0) (by decide), hposf (o := 0) (by decide), hpos (o := 0x28) (by decide), hax]
  constructor
  · simp only [nextTooth, hpresent, wheelLen, hpos (o := 0) (by decide), hwheel, hax]
  · have hnext (w j n : Nat) : e.flag (aWHEEL w (2 + j % n / 32)) (j % n % 32) = d.flag (aWHEEL w (2 + j % n / 32)) (j % n % 32) := hpresent w (j % n)
    simp only [toothNext, hnext, hpos (o := 0) (by decide), hwheel, hax, hz]

/-- A tooth in its place of a LOCKED axis gives C its angle. -/
theorem tooth_follows {q : Nat} (ha : a < 4) (hsrc : d.axSrc a = 3) (hmeas : d.axMeas a = true) (hlock : d.axState a = 2)
    (hpad : (d.ch (d.fget (aPOS a 4) 0 10)).pad ≠ d.flag (aWHEEL (d.fget (aPOS a 0) 8 4) 0) 18)
    (hprev : (d.ch (d.fget (aPOS a 4) 0 10)).prevPad = d.flag (aWHEEL (d.fget (aPOS a 0) 8 4) 0) 18) (hcross : (d.ax a).cross = some q)
    (hi : 0 < d.edge - q)
    (hgap : decide (0 < (d.ax a).lastInt ∧ d.fget (aPOS a 0x24) 0 6 * (d.ax a).lastInt < 16 * (d.edge - q)) = decide (1 < (d.nextTooth a).2))
    (htime : 128 * ((d.nextTooth a).2 * (36000 / d.fget (aWHEEL (d.fget (aPOS a 0) 8 4) 0) 0 9)) ≤ 75 * (d.edge - q)) :
    d.tooth a = ((d.wr (aPOS a 0x34) (BitVec.ofNat 32 (d.edge - q))).setAx a { d.ax a with
      c := (d.toothNext a).getD (d.ax a).c, tpos := (d.nextTooth a).1, per := d.edge - q,
      span := (d.nextTooth a).2 * (36000 / d.fget (aWHEEL (d.fget (aPOS a 0) 8 4) 0) 0 9), acc := 0, lastInt := d.edge - q, cross := some d.edge }).dueAll := by
  have hrd (r : Nat) (hr : r ≠ aPOS a 0x34) := rd_wr_other (d := d) (BitVec.ofNat 32 (d.edge - q)) hr
  have hax : (d.wr (aPOS a 0x34) (BitVec.ofNat 32 (d.edge - q))).ax a = d.ax a := eq_of_plant (fun y => y.ax a) (wr_plant ..)
  have hedge : (d.wr (aPOS a 0x34) (BitVec.ofNat 32 (d.edge - q))).edge = d.edge := wr_edge ..
  have hstate : (d.wr (aPOS a 0x34) (BitVec.ofNat 32 (d.edge - q))).axState a = d.axState a :=
    axState_of_rd (hrd _ fun h => absurd (aPOS_inj.mp h) (by decide))
  obtain ⟨hnext, htooth⟩ := nextTooth_congr ha hrd hax
  unfold tooth
  dsimp only
  rw [if_pos ⟨hsrc, hmeas, .inr hlock, hpad, hprev⟩, hcross]
  dsimp only
  rw [if_neg (by omega), hgap]
  generalize hd : d.wr (aPOS a 0x34) (BitVec.ofNat 32 (d.edge - q)) = e at *
  rw [if_neg (by rw [hstate, hlock]; decide)]
  have hctl : e.fget (aPOS a 0) 8 4 = d.fget (aPOS a 0) 8 4 := by rw [fget, fget, hrd _ fun h => absurd (aPOS_inj.mp h) (by decide)]
  have hwheel : e.fget (aWHEEL (d.fget (aPOS a 0) 8 4) 0) 0 9 = d.fget (aWHEEL (d.fget (aPOS a 0) 8 4) 0) 0 9 :=
    congrArg (fun v => bitsOf v 0 9) (hrd _ (by have := aPOS_lt (o := 0x34) ha (by decide); unfold aWHEEL; omega))
  unfold toothLocked
  dsimp only
  rw [hnext, htooth, hax, hctl, hwheel, hedge, if_neg (fun h => h rfl), if_neg (by omega)]

end

/-! A source lost (R169, R172, R175). -/

section
variable (d : Device) {a : Nat} (ha : a < 4)

theorem checkWheel_plant : (d.checkWheel a).plant = d.plant := by
  unfold checkWheel
  split
  · exact event_plant ..
  · rfl

/-- A mains axis without a crossing goes to HOLDOVER for HOLDC periods. -/
theorem lineLoss_holds (h : d.fget (aPOS a 0x20) 16 4 ≠ 0) :
    (d.lineLoss a).axState a = 3 ∧ (d.lineLoss a).ax a = { d.ax a with holdEnd := d.edge + d.fget (aPOS a 0x20) 16 4 * (d.ax a).per } ∧
    ∀ b, b ≠ a → (d.lineLoss a).ax b = d.ax b := by
  unfold lineLoss
  dsimp only
  rw [if_neg h]
  generalize hf : d.report _ = f
  have hfp : f.plant = d.plant := hf ▸ report_plant ..
  refine ⟨?_, ?_, fun b hb => ?_⟩
  · rw [axState_of_rd (setAx_rd ..), setAxState_state _ (by decide)]
  · rw [setAx_same]
  · rw [setAx_other _ _ _ _ hb, setAxState, eq_of_plant (fun x => x.ax b) (fset_plant ..), eq_of_plant (fun x => x.ax b) hfp]

include ha

/-- An axis that no active context uses enters SEEKING with its search begun afresh. -/
theorem loseAxis_seeks (hidle : (d.actives.filter fun x => ctxAxis x.words == a) = []) :
    (d.loseAxis a).axState a = 1 ∧ (d.loseAxis a).flag (aPOS a 0x30) 1 = true ∧ (d.loseAxis a).ax a = seekFresh (d.ax a) ∧
    ∀ b, b ≠ a → (d.loseAxis a).ax b = d.ax b := by
  have hhit : ((d.event (aPOS a 0x30) 1).actives.filter fun x => ctxAxis x.words == a) = [] := by
    rw [eq_of_plant (fun x => x.actives.filter fun x => ctxAxis x.words == a) (event_plant ..)]
    exact hidle
  have hrep := reportReg_aPOS (o := 0x30) ha (by decide)
  have hpend := ne_pending_of_reportReg hrep
  have hflag : (d.event (aPOS a 0x30) 1).flag (aPOS a 0x30) 1 = true := event_flag _ _ _ (by decide) hpend
  have hax (b : Nat) : (d.event (aPOS a 0x30) 1).ax b = d.ax b := eq_of_plant (fun x => x.ax b) (event_plant ..)
  unfold loseAxis seekAxis
  dsimp only
  rw [hhit, List.foldl_nil]
  generalize d.event (aPOS a 0x30) 1 = e at *
  generalize hf : e.report _ _ = f
  have hfp : f.plant = e.plant := hf ▸ report_plant ..
  have hfr : f.rd (aPOS a 0x30) = e.rd (aPOS a 0x30) := hf ▸ report_rd _ _ _ _ hrep
  have hwax (b : Nat) : ((f.setAxState a 1).checkWheel a).ax b = e.ax b := by
    rw [eq_of_plant (fun x => x.ax b) (checkWheel_plant ..), setAxState, eq_of_plant (fun x => x.ax b) (fset_plant ..), eq_of_plant (fun x => x.ax b) hfp]
  refine ⟨?_, ?_, ?_, fun b hb => ?_⟩
  · rw [axState_of_rd (setAx_rd ..), checkWheel_state _ ha, setAxState_state _ (by decide)]
  · have hwheel (x : Device) : (x.checkWheel a).flag (aPOS a 0x30) 1 = x.flag (aPOS a 0x30) 1 := by
      unfold checkWheel
      split
      · exact event_flag_other _ (by decide) (by decide) hpend
      · rfl
    rw [flag_eq_of_rd_eq (setAx_rd ..), hwheel, setAxState, flag_eq_of_rd_eq (rd_fset_other _ _ _ _ fun h => absurd (aPOS_inj.mp h) (by decide)),
      flag_eq_of_rd_eq hfr, hflag]
  · rw [setAx_same, hwax, hax]
  · rw [setAx_other _ _ _ _ hb, hwax, hax]

end

end Device

/-- Settles O28: crossings and teeth of a LOCKED axis set C, and a lost source leads to HOLDOVER or SEEKING. -/
theorem alignedAxesFollowAndSeek : Obligations.AlignedAxesFollowAndSeek := by
  unfold Obligations.AlignedAxesFollowAndSeek
  refine ⟨fun a p s => ?_, fun a q s => ?_, fun a s hidle => ⟨fun hsrc hlock hdue => ?_, fun hhold hdue => ?_, fun hsrc hmeas hlock hdue => ?_⟩⟩
  · intro x c t hsrc hlock hpad hprev hcross hlate hne hlo hhi hnear
    refine givesDdr_onDdr rfl ?_
    rw [s.dev.lineCross_follows hsrc hlock hpad hprev hcross (Nat.lt_of_le_of_ne hlate hne) hlo hhi hnear]
    obtain ⟨hax, hothers, hper, hregs⟩ := s.dev.takePeriod_spec (a := a) (s.dev.edge - p)
      { s.dev.ax a with c := nextPhase ((s.dev.ax a).c + 1) 65536 (s.dev.fget (aPOS a 0x20) 0 16) % posMod, debt := 0 }
    obtain ⟨hphase, k, hk, hahead⟩ := nextPhase_spec ((s.dev.ax a).c + 1) (bitsOf_lt (s.dev.rd (aPOS a 0x20)) 0 16)
    simp only [Device.dueAll_ax, Device.dueAll_rd, Device.dueAll_axState]
    refine ⟨?_, ⟨k + 1, by omega, by omega, ?_⟩, ?_, ?_, hper, ?_, hothers, hregs⟩
    · rw [hax]
      exact (Nat.mod_mod_of_dvd _ (by decide)).trans hphase
    · rw [hax]
      refine (congrArg (· % posMod) hahead).trans ?_
      rw [Nat.add_assoc, Nat.add_comm 1 k]
      rfl
    · rw [hax]
    · rw [hax]
    · exact (Device.axState_of_rd (hregs _ fun h => absurd (aPOS_inj.mp h) (by decide))).trans hlock
  · intro x c wl pol i k p hsrc hmeas hlock hpad hprev hcross hi hgap htime
    refine givesDdr_onDdr rfl ?_
    rw [s.dev.tooth_follows a.isLt hsrc hmeas hlock hpad hprev hcross hi hgap htime]
    simp only [Device.dueAll_ax, Device.dueAll_rd, Device.setAx_same, Device.setAx_rd]
    refine ⟨rfl, trivial, rfl, rfl, Device.rd_wr_same .., fun b hb => ?_, fun r hr => Device.rd_wr_other _ _ hr⟩
    rw [Device.setAx_other _ _ _ _ hb]
    exact Device.eq_of_plant (fun y => y.ax b) (Device.wr_plant ..)
  · refine givesDdr_onDdr rfl ?_
    have htimeout : s.dev.lineTimeout a = s.dev.lineLoss a := if_pos ⟨hsrc, hlock, hdue⟩
    rw [htimeout]
    by_cases hholdc : s.dev.fget (aPOS a 0x20) 16 4 = 0
    · have hlose : s.dev.lineLoss a = s.dev.loseAxis a := if_pos hholdc
      obtain ⟨hstate, hlost, hax, hothers⟩ := s.dev.loseAxis_seeks a.isLt hidle
      rw [hlose, hax]
      exact ⟨fun _ => ⟨hstate, hlost, rfl⟩, fun h => absurd hholdc h, rfl, hothers⟩
    · obtain ⟨hstate, hax, hothers⟩ := s.dev.lineLoss_holds (a := a) hholdc
      rw [hax]
      exact ⟨fun h => absurd h hholdc, fun _ => ⟨hstate, rfl⟩, rfl, hothers⟩
  · have hend : s.dev.holdoverEnd a = s.dev.loseAxis a := if_pos ⟨hhold, hdue⟩
    obtain ⟨hstate, hlost, hax, hothers⟩ := s.dev.loseAxis_seeks a.isLt hidle
    refine givesDdr_onDdr rfl ?_
    rw [hend]
    rw [hax]
    exact ⟨hstate, hlost, rfl, hothers⟩
  · have hend : s.dev.stall a = s.dev.loseAxis a := if_pos ⟨hsrc, hmeas, hlock, hdue⟩
    obtain ⟨hstate, hlost, hax, hothers⟩ := s.dev.loseAxis_seeks a.isLt hidle
    refine givesDdr_onDdr rfl ?_
    rw [hend]
    rw [hax]
    exact ⟨hstate, hlost, rfl, hothers⟩

end Sys2Proof.Machine
end

section
/-!
PROOF. O23: claims end when they are due; comparators take their level.
-/

namespace Sys2Proof.Machine

-- One proof after another: the stacks of the threads that elaborate many at once exceed the memory of a check.
set_option Elab.async false

/-- A key that a table does not list reads as its default. -/
theorem tabGet_of_not_mem {α : Type} (f : Nat → α) {t : Tab α} {k : Nat} (h : k ∉ tabKeys t) : tabGet f t k = f k := by
  induction t with
  | nil => rfl
  | cons p t ih =>
    obtain ⟨i, v⟩ := p
    have hne : i ≠ k := fun he => h (List.mem_cons.mpr (.inl he.symm))
    rw [tabGet, if_neg (by simpa using hne), ih fun hm => h (List.mem_cons_of_mem _ hm)]

namespace Device
variable (d : Device)

/-! Moves leave claims and releases (R92, R95). -/

/-- Owners of resources, releases to come and the present edge. -/
def claimState (x : Device) : Tab Owner × List Release × Nat := (x.mx.claims, x.mx.releases, x.edge)

/-- Releases to come and the present edge. -/
def releaseState (x : Device) : List Release × Nat := x.claimState.2

theorem owner_of_claimState {d e : Device} (h : e.claimState = d.claimState) (r : Nat) : e.owner r = d.owner r := by
  rw [owner, owner, (Prod.mk.inj h).1]

theorem moveSwitch_claimState (close : Bool) (s : Switch) : (d.moveSwitch close s).claimState = d.claimState := by
  unfold moveSwitch
  split
  · split
    · split
      · rfl
      · rfl
    · rfl
  · rfl

theorem flushMoves_claimState (e : Nat) : (d.flushMoves e).claimState = d.claimState := by
  unfold flushMoves
  split
  · rfl
  · dsimp only
    refine (foldl_keeps claimState _ _ _ fun x m _ => ?_).trans ((foldl_keeps claimState _ _ _ fun x (m : Move) _ => moveSwitch_claimState x false m.sw).trans rfl)
    split
    · exact moveSwitch_claimState ..
    · rfl

/-! The release of an execution's claims (R95). -/

/-- The release of one resource. -/
def freeRes (d : Device) (r : Nat) : Device :=
  if decide (r < 32) && decide ((d.setOwner r .free).busOpen r = OpenWhy.overcurrent) then
    ((d.setOwner r .free).setMx { (d.setOwner r .free).mx with opens := tabSet (fun _ => OpenWhy.no) r OpenWhy.no (d.setOwner r .free).mx.opens }).fsetB
      (aMX (0x100 + 4 * r)) 20 false
  else d.setOwner r .free

theorem freeRes_owner (r q : Nat) : (d.freeRes r).owner q = if q = r then .free else d.owner q := by
  unfold freeRes
  split
  · rw [eq_of_plant (fun x => x.owner q) (fsetB_plant ..)]
    exact setOwner_owner d r .free q
  · exact setOwner_owner d r .free q

theorem freeRes_releaseState (r : Nat) : (d.freeRes r).releaseState = d.releaseState := by
  unfold freeRes
  split
  · rw [eq_of_plant releaseState (fsetB_plant ..)]
    rfl
  · rfl

theorem releaseExec_eq (x : Nat) : d.releaseExec x = ((tabKeys d.mx.claims).filter fun r => ownsExec x (d.owner r)).foldl freeRes d := rfl

theorem foldl_freeRes_owner (rs : List Nat) (q : Nat) : (rs.foldl freeRes d).owner q = if q ∈ rs then .free else d.owner q := by
  induction rs generalizing d with
  | nil => rw [List.foldl_nil, if_neg (List.not_mem_nil)]
  | cons r rs ih =>
    rw [List.foldl_cons, ih, freeRes_owner]
    by_cases h : q ∈ rs
    · rw [if_pos h, if_pos (List.mem_cons_of_mem _ h)]
    · rw [if_neg h]
      exact if_congr (by rw [List.mem_cons, or_iff_left h]) rfl rfl

/-- Every resource of the execution becomes free, and no other. -/
theorem releaseExec_owner (x q : Nat) : (d.releaseExec x).owner q = if ownsExec x (d.owner q) then .free else d.owner q := by
  rw [releaseExec_eq, foldl_freeRes_owner]
  refine if_congr ?_ rfl rfl
  rw [List.mem_filter]
  refine ⟨And.right, fun h => ⟨?_, h⟩⟩
  by_contra hkey
  rw [owner, tabGet_of_not_mem _ hkey] at h
  exact Bool.false_ne_true h

theorem releaseExec_releaseState (x : Nat) : (d.releaseExec x).releaseState = d.releaseState := by
  rw [releaseExec_eq]
  exact foldl_keeps releaseState _ _ _ fun y r _ => freeRes_releaseState y r

theorem foldl_release_owner (ks : List Release) (q : Nat) :
    (ks.foldl (fun d k => d.releaseExec k.exec) d).owner q = if ks.any fun k => ownsExec k.exec (d.owner q) then .free else d.owner q := by
  induction ks generalizing d with
  | nil => rfl
  | cons k ks ih =>
    rw [List.foldl_cons, ih, releaseExec_owner, List.any_cons]
    by_cases h : ownsExec k.exec (d.owner q)
    · rw [if_pos h, h, Bool.true_or, if_pos rfl]
      exact ite_self _
    · rw [if_neg h, Bool.eq_false_iff.mpr h, Bool.false_or]

theorem foldl_release_releaseState (ks : List Release) : (ks.foldl (fun d k => d.releaseExec k.exec) d).releaseState = d.releaseState :=
  foldl_keeps releaseState _ _ _ fun y k _ => releaseExec_releaseState y k.exec

/-- The releases that are due. -/
def dueReleases : List Release := d.mx.releases.filter fun k => decide (k.due ≤ d.edge)

/-- A release edge outside HOLD frees what is due and nothing else. -/
theorem releaseDue_spec (hc : d.capo ≠ 1) :
    (∀ q, d.releaseDue.owner q = if d.dueReleases.any fun k => ownsExec k.exec (d.owner q) then .free else d.owner q) ∧
    d.releaseDue.mx.releases = d.mx.releases.filter fun k => !decide (k.due ≤ d.edge) := by
  have hflush := d.flushMoves_claimState d.edge
  have hrel := (foldl_release_releaseState (d.flushMoves d.edge) d.dueReleases).trans (congrArg Prod.snd hflush)
  have howner (q : Nat) := (foldl_release_owner (d.flushMoves d.edge) d.dueReleases q)
  have hdue (e : Device) (he : d.dueReleases.foldl (fun d k => d.releaseExec k.exec) (d.flushMoves d.edge) = e) :
      d.releaseDue = e.setMx { e.mx with releases := e.mx.releases.filter fun k => !decide (k.due ≤ e.edge) } := he ▸ if_neg hc
  generalize d.dueReleases.foldl (fun d k => d.releaseExec k.exec) (d.flushMoves d.edge) = e at *
  obtain ⟨hreleases, hedge⟩ := Prod.mk.inj hrel
  rw [hdue e rfl]
  refine ⟨fun q => ?_, ?_⟩
  · rw [← owner_of_claimState hflush]
    exact howner q
  · change (e.mx.releases.filter fun k => !decide (k.due ≤ e.edge)) = _
    rw [hreleases, hedge]

/-! Comparators of a tile (R113). -/

/-- Registers of Frets. -/
def fretRegs (r : Nat) : Prop := ∃ f, r = aFRET f 0x18

theorem aCAT_off (t : Nat) (ht : t < 64) {o : Nat} (ho : o < 0x20) : ¬ fretRegs (aCAT t o) ∧ reportReg (aCAT t o) = false :=
  ⟨fun ⟨f, hf⟩ => by unfold aCAT aFRET at hf; omega, reportReg_of_mid (by unfold aCAT; omega) (by unfold aCAT; omega)⟩

variable (t : Nat) (v : TileVolts) (k : Nat)

/-- The matrix and the executions. -/
def matrixExecs (x : Device) : Matrix × List Exec := (x.mx, x.execs)

theorem catLevel_keeps : Keeps (fun r => fretRegs r ∨ r = aCAT t 0x14) matrixExecs d (d.catLevel t v k) := by
  unfold catLevel
  dsimp only
  split
  · exact .refl ..
  · exact (Keeps.fsetB (fun _ => rfl) (.inr rfl) ..).trans
      (fretEvents_keeps (fun _ => rfl) (fun _ _ _ => rfl) (fun f _ => .inl ⟨f, rfl⟩) ..)

variable (ht : t < 64)
include ht

/-- The comparator's own level, and the other bits of the register. -/
theorem catLevel_flag {j : Nat} (hk : k < 2) : (d.catLevel t v k).flag (aCAT t 0x14) j =
    if j = k then cmpLevel (d.rd (aCAT t (0xC + 4 * k))) v (d.flag (aCAT t 0x14) k) else d.flag (aCAT t 0x14) j := by
  obtain ⟨hoff, hrep⟩ := aCAT_off t ht (o := 0x14) (by decide)
  unfold catLevel
  dsimp only
  generalize cmpLevel (d.rd (aCAT t (0xC + 4 * k))) v (d.flag (aCAT t 0x14) k) = level
  split
  next h =>
    split
    next hjk => rw [hjk, h]
    next => rfl
  next h =>
    have hkeep := fretEvents_keeps (own := fretRegs) (part := matrixExecs) (fun _ => rfl) (fun _ _ _ => rfl) (fun f _ => ⟨f, rfl⟩)
      (d.fsetB (aCAT t 0x14) k level) 1 (d.fsetB (aCAT t 0x14) k level).edge level (2 * t + k)
    have hrd := flag_eq_of_rd_eq (hkeep.regs _ hoff hrep) j
    refine hrd.trans ?_
    split
    next hjk => rw [hjk, flag_fsetB_same _ _ (by omega)]
    next hjk => rw [flag_fsetB_other _ _ (fun h => hjk h.symm) (by omega)]

theorem catLevel_word (j : Nat) (hj : j < 2) : (d.catLevel t v k).rd (aCAT t (0xC + 4 * j)) = d.rd (aCAT t (0xC + 4 * j)) := by
  obtain ⟨hoff, hrep⟩ := aCAT_off t ht (o := 0xC + 4 * j) (by omega)
  exact (d.catLevel_keeps t v k).regs _ (not_or.mpr ⟨hoff, by unfold aCAT; omega⟩) hrep

end Device

/-- Settles O23: what is due becomes free, and comparators follow their sources. -/
theorem claimsEndComparatorsFollow : Obligations.ClaimsEndComparatorsFollow := by
  unfold Obligations.ClaimsEndComparatorsFollow
  refine ⟨fun s => ⟨fun hc => ?_, fun hc => ?_⟩, fun u v sat s => ?_⟩
  · obtain ⟨howner, hreleases⟩ := s.dev.releaseDue_spec hc
    refine givesDev_onDev_as rfl ?_
    rintro _ rfl
    refine ⟨fun r x c ho ⟨k, hk, hx, hdue⟩ => ?_, fun r hkeep => ?_, hreleases⟩
    · rw [howner, ho]
      exact if_pos (List.any_eq_true.mpr ⟨k, List.mem_filter.mpr ⟨hk, decide_eq_true hdue⟩, show (k.exec == x) = true from beq_iff_eq.mpr hx⟩)
    · rw [howner]
      refine if_neg fun h => ?_
      obtain ⟨k, hk, hx⟩ := List.any_eq_true.mp h
      obtain ⟨hmem, hdue⟩ := List.mem_filter.mp hk
      cases ho : s.dev.owner r
      case ctx x c =>
        rw [ho] at hx
        have hlate := hkeep x c ho k hmem (beq_iff_eq.mp hx)
        have := of_decide_eq_true hdue
        omega
      all_goals
        rw [ho] at hx
        exact Bool.false_ne_true hx
  · have hstill : s.dev.releaseDue = s.dev := if_pos hc
    refine ⟨s.onDev Device.releaseDue, rfl, rfl, rfl, ?_⟩
    rw [State.onDev_dev, hstill]
  · refine givesDev_onDev_as rfl ?_
    rintro _ rfl
    have hset (o : Nat) (ho : o ≠ 0x14) : (s.dev.fsetB (aCAT u 0x14) 2 sat).rd (aCAT u o) = s.dev.rd (aCAT u o) :=
      Device.rd_fset_other _ _ _ _ (by unfold aCAT; omega)
    have hpart : (s.dev.catEvent u v sat).matrixExecs = s.dev.matrixExecs :=
      ((Device.catLevel_keeps _ u v 1).part.trans (Device.catLevel_keeps _ u v 0).part).trans
        (Device.eq_of_plant Device.matrixExecs (Device.fsetB_plant ..))
    have hbit (i : Nat) (hi : i < 2) : (s.dev.fsetB (aCAT u 0x14) 2 sat).flag (aCAT u 0x14) i = s.dev.flag (aCAT u 0x14) i :=
      Device.flag_fsetB_other _ _ (by omega) (by decide)
    refine ⟨fun k hk => ?_, ?_, (Prod.mk.inj hpart).1, (Prod.mk.inj hpart).2⟩
    · unfold Device.catEvent
      rw [Device.catLevel_flag _ _ _ _ u.isLt (by decide), Device.catLevel_word _ _ _ _ u.isLt 1 (by decide)]
      rw [Device.catLevel_flag _ _ _ _ u.isLt (by decide), Device.catLevel_flag _ _ _ _ u.isLt (by decide)]
      obtain rfl | rfl : k = 0 ∨ k = 1 := by omega
      · rw [if_neg (by decide), if_pos rfl, hset _ (by decide), hbit 0 (by decide)]
      · rw [if_pos rfl, if_neg (by decide), hset _ (by decide), hbit 1 (by decide)]
    · unfold Device.catEvent
      rw [Device.catLevel_flag _ _ _ _ u.isLt (by decide), if_neg (by decide), Device.catLevel_flag _ _ _ _ u.isLt (by decide),
        if_neg (by decide), Device.flag_fsetB_same _ _ (by decide)]

end Sys2Proof.Machine
end

section
/-!
PROOF. O24: filter chains start, stop and deliver outputs.
-/

namespace Sys2Proof.Machine

-- One proof after another: the stacks of the threads that elaborate many at once exceed the memory of a check.
set_option Elab.async false

/-! Where a register of a channel's filter lies. -/

section
variable {n o : Nat} (hn : n < 1024) (ho : o < 0x80)

theorem aFILT_inj {o' : Nat} : aFILT n o = aFILT n o' ↔ o = o' := by unfold aFILT; omega

theorem reportReg_aFILT : reportReg (aFILT n o) = false := Device.reportReg_of_ge (by unfold aFILT; omega)

include ho in
theorem aFILT_ne_aPROF (p w : Nat) : aPROF p w ≠ aFILT n o := by unfold aPROF aFILT; omega

include hn ho

theorem blockEvents_aFILT : Device.blockEvents (aFILT n o) = some (aFILT n 8, 1, 2) := by
  have hb : 0x14 ≤ aFILT n o / 0x10000 ∧ aFILT n o / 0x10000 ≤ 0x17 := by unfold aFILT; omega
  have hq : (aFILT n o - 0x140000) / 0x100 = n := by unfold aFILT; omega
  have hm : aFILT n o % 0x100 < 0x80 := by unfold aFILT; omega
  unfold Device.blockEvents
  dsimp only
  rw [if_neg (by omega), if_neg (by omega), if_neg (by omega), if_neg (by omega), if_neg (by omega), if_neg (by omega), if_neg (by omega),
    if_neg (by omega), if_neg (by omega), if_neg (by omega), if_neg (by omega), if_neg (by omega), if_neg (by omega), if_neg (by omega),
    if_neg (by omega), if_neg (by omega), if_neg (by omega), if_pos (by omega), if_pos hm, hq]

theorem eventReg_aFILT {b : Nat} : Device.EventReg (aFILT n o) b ↔ b = aFILT n 8 := by
  rw [Device.EventReg, blockEvents_aFILT hn ho]
  constructor
  · rintro (⟨c, r, he⟩ | ⟨hw, hw', -⟩)
    · exact (Prod.mk.inj (Option.some.inj he)).1.symm
    · unfold aFILT at hw'
      omega
  · rintro rfl
    exact .inl ⟨1, 2, rfl⟩

end

namespace Device

theorem rd_fsetB_other (d : Device) {a b : Nat} (i : Nat) (x : Bool) (h : b ≠ a) : (d.fsetB a i x).rd b = d.rd b := rd_fset_other _ _ _ _ h

/-- A profile is what its registers hold. -/
theorem profile_congr {d e : Device} (h : ∀ p w, e.rd (aPROF p w) = d.rd (aPROF p w)) (p : Nat) : e.profile p = d.profile p := by
  have hget (p w lo n : Nat) : e.fget (aPROF p w) lo n = d.fget (aPROF p w) lo n := by rw [fget, fget, h]
  have hgetS (p w lo n : Nat) : e.fgetS (aPROF p w) lo n = d.fgetS (aPROF p w) lo n := by rw [fgetS, fgetS, hget]
  have hcoef : e.coef p = d.coef p := funext fun i => hgetS ..
  have hbiq (b : Nat) : e.biqCoefs p b = d.biqCoefs p b := by simp only [biqCoefs, hgetS]
  simp only [profile, h, hget, hcoef, hbiq]

/-! What an operation on one filter leaves alone. -/

/-- The other chains and units, the channels and the executions. -/
def besideFilter (n : Nat) (x : Device) : ({m : Nat // m ≠ n} → Chain × Thr) × Tab Chan × List Exec := (fun m => (x.chain m, x.thr m), x.chan, x.execs)

/-- The registers that the start or stop of a chain writes. -/
def filtRegs (n a : Nat) : Prop := a = aFILT n 0 ∨ a = aFILT n 4 ∨ a = aFILT n 8 ∨ a = aFILT n 0xC ∨ a = aFILT n 0x1C ∨ a = aFILT n 0x30

theorem filtRegs_lt {n a : Nat} (h : filtRegs n a) : ∃ o < 0x80, a = aFILT n o := by
  rcases h with rfl | rfl | rfl | rfl | rfl | rfl
  all_goals exact ⟨_, by decide, rfl⟩

/-- An operation on filter `n`: its registers and reports, its chain and unit, and no other part named here. -/
abbrev FilterOnly (n : Nat) (d e : Device) : Prop := Keeps (filtRegs n) (besideFilter n) d e

theorem besideFilter_plant (n : Nat) (x : Device) : besideFilter n x.plant = besideFilter n x := rfl

namespace FilterOnly
variable {n : Nat} {d e : Device}

theorem chain (h : FilterOnly n d e) {m : Nat} (hm : m ≠ n) : e.chain m = d.chain m := (Prod.mk.inj (congrFun (Prod.mk.inj h.part).1 ⟨m, hm⟩)).1
theorem thr (h : FilterOnly n d e) {m : Nat} (hm : m ≠ n) : e.thr m = d.thr m := (Prod.mk.inj (congrFun (Prod.mk.inj h.part).1 ⟨m, hm⟩)).2
theorem chan (h : FilterOnly n d e) : e.chan = d.chan := (Prod.mk.inj (Prod.mk.inj h.part).2).1
theorem execs (h : FilterOnly n d e) : e.execs = d.execs := (Prod.mk.inj (Prod.mk.inj h.part).2).2

theorem setChain (c : Chain) (d : Device) : FilterOnly n d (d.setChain n c) :=
  .of_rd (d.setChain_rd n c) (Prod.ext (funext fun m => Prod.ext (d.setChain_other n c m m.2) rfl) rfl)

theorem setThr (c : Thr) (d : Device) : FilterOnly n d (d.setThr n c) :=
  .of_rd (d.setThr_rd n c) (Prod.ext (funext fun m => Prod.ext rfl (d.setThr_other n c m m.2)) rfl)

theorem fset {o : Nat} (ho : filtRegs n (aFILT n o)) (lo k x : Nat) (d : Device) : FilterOnly n d (d.fset (aFILT n o) lo k x) :=
  Keeps.fset (besideFilter_plant n) ho lo k x d
theorem fsetB {o : Nat} (ho : filtRegs n (aFILT n o)) (i : Nat) (x : Bool) (d : Device) : FilterOnly n d (d.fsetB (aFILT n o) i x) :=
  Keeps.fsetB (besideFilter_plant n) ho i x d

/-- Profiles lie apart from the registers of a filter. -/
theorem profile (h : FilterOnly n d e) (p : Nat) : e.profile p = d.profile p :=
  profile_congr (fun p w => h.regs _ (fun hr => have ⟨_, ho, he⟩ := filtRegs_lt hr; aFILT_ne_aPROF ho p w he) (reportReg_of_ge (by unfold aPROF; omega))) p

theorem loadThr (k : Nat) (d : Device) : FilterOnly n d (d.loadThr n k) :=
  have h30 : filtRegs n (aFILT n 0x30) := .inr (.inr (.inr (.inr (.inr rfl))))
  (fset h30 ..).trans <| (fset h30 ..).trans <| (fset h30 ..).trans (setThr ..)

end FilterOnly

section
variable (d : Device) (n e : Nat)

/-- A chain's start before threshold-only operation is asked for. -/
def chainLoaded (d : Device) (n e : Nat) : Device :=
  let p := d.profile (d.profOf n)
  let g := delay256 p.groupDelay
  ((((d.fset (aFILT n 0) 31 1 1).loadThr n e).fset (aFILT n 0xC) 0 30 g.1).fsetB (aFILT n 4) 12 g.2).fset (aFILT n 0x1C) 0 20 p.period

theorem startChain_eq : d.startChain n e = if (d.chainLoaded n e).thrOnly n then d.chainLoaded n e
    else (((d.chainLoaded n e).setChain n (freshChain (d.profile (d.profOf n)) e ((d.chainLoaded n e).chain n))).fsetB (aFILT n 4) 8 true).fsetB
      (aFILT n 4) 9 true := rfl

theorem chainLoaded_only : FilterOnly n d (d.chainLoaded n e) :=
  (FilterOnly.fset (.inl rfl) ..).trans <| (FilterOnly.loadThr ..).trans <| (FilterOnly.fset (.inr (.inr (.inr (.inl rfl)))) ..).trans <|
    (FilterOnly.fsetB (.inr (.inl rfl)) ..).trans (FilterOnly.fset (.inr (.inr (.inr (.inr (.inl rfl))))) ..)

theorem startChain_only : FilterOnly n d (d.startChain n e) := by
  have h4 : filtRegs n (aFILT n 4) := .inr (.inl rfl)
  rw [startChain_eq]
  split
  · exact d.chainLoaded_only n e
  · exact (d.chainLoaded_only n e).trans <| (FilterOnly.setChain ..).trans <| (FilterOnly.fsetB h4 ..).trans (FilterOnly.fsetB h4 ..)

/-- A start sets RUN and leaves the other bits of FILT_CTL. -/
theorem chainLoaded_ctl : (d.chainLoaded n e).rd (aFILT n 0) = setBits (d.rd (aFILT n 0)) 31 1 1 := by
  have hne {o : Nat} (ho : o ≠ 0) : aFILT n 0 ≠ aFILT n o := fun h => ho (aFILT_inj.mp h).symm
  unfold chainLoaded loadThr
  dsimp only
  rw [rd_fset_other _ _ _ _ (hne (by decide)), fsetB, rd_fset_other _ _ _ _ (hne (by decide)), rd_fset_other _ _ _ _ (hne (by decide)), setThr_rd,
    rd_fset_other _ _ _ _ (hne (by decide)), rd_fset_other _ _ _ _ (hne (by decide)), rd_fset_other _ _ _ _ (hne (by decide)), rd_fset, if_pos rfl]

theorem startChain_ctl : (d.startChain n e).rd (aFILT n 0) = setBits (d.rd (aFILT n 0)) 31 1 1 := by
  have hne : aFILT n 0 ≠ aFILT n 4 := fun h => absurd (aFILT_inj.mp h) (by decide)
  rw [startChain_eq]
  split
  · exact d.chainLoaded_ctl n e
  · rw [fsetB, rd_fset_other _ _ _ _ hne, fsetB, rd_fset_other _ _ _ _ hne, setChain_rd, chainLoaded_ctl]

theorem startChain_run : (d.startChain n e).flag (aFILT n 0) 31 = true := by
  rw [flag, fget, startChain_ctl, bitsOf_setBits_same _ _ (by decide)]
  rfl

theorem startChain_prof : (d.startChain n e).profile ((d.startChain n e).profOf n) = d.profile (d.profOf n) := by
  have hprof : (d.startChain n e).profOf n = d.profOf n := by
    rw [profOf, profOf, fget, startChain_ctl, bitsOf_setBits_disjoint _ _ (by decide) (by decide), fget]
  rw [hprof, (d.startChain_only n e).profile]

/-- The threshold unit is loaded from the profile and cleared. -/
theorem chainLoaded_thr : (d.chainLoaded n e).thr n =
    ⟨true, e, [], List.replicate (d.profile (d.profOf n)).ordN 0, List.replicate (d.profile (d.profOf n)).ordN 0, true⟩ := by
  have hctl : FilterOnly n d (d.fset (aFILT n 0) 31 1 1) := .fset (.inl rfl) ..
  have hprof : (d.fset (aFILT n 0) 31 1 1).profile ((d.fset (aFILT n 0) 31 1 1).profOf n) = d.profile (d.profOf n) := by
    rw [hctl.profile, profOf, fget_fset_disjoint _ _ _ (by decide) (by decide), profOf]
  unfold chainLoaded loadThr
  dsimp only
  rw [eq_of_plant (fun x => x.thr n) (fset_plant ..), eq_of_plant (fun x => x.thr n) (fsetB_plant ..), eq_of_plant (fun x => x.thr n) (fset_plant ..),
    setThr_same, hprof]

theorem chainLoaded_chain : (d.chainLoaded n e).chain n = d.chain n := by
  unfold chainLoaded loadThr
  dsimp only
  rw [eq_of_plant (fun x => x.chain n) (fset_plant ..), eq_of_plant (fun x => x.chain n) (fsetB_plant ..), eq_of_plant (fun x => x.chain n) (fset_plant ..)]
  refine (congrArg (fun t => tabGet (fun _ => Chain.init) t n) (setThr_chains ..)).trans ?_
  exact eq_of_plant (fun x => x.chain n) ((fset_plant ..).trans ((fset_plant ..).trans ((fset_plant ..).trans (fset_plant ..))))

theorem thrOnly_of_only {d e : Device} {n : Nat} (hn : n < 1024) (h : FilterOnly n d e) : e.thrOnly n = d.thrOnly n :=
  flag_eq_of_rd_eq (h.regs _ (fun hr => by
    obtain ⟨o, ho, he⟩ := filtRegs_lt hr
    unfold laneOf aFILT at he
    omega) (reportReg_of_mid (by omega) (by unfold laneOf; omega))) 8

/-- A start loads the threshold unit, and starts the chain outside threshold-only operation. -/
theorem startChain_starts (hn : n < 1024) : (let t := d.startChain n e
     let p := t.profile (t.profOf n)
     t.flag (aFILT n 0) 31 = true ∧ t.thr n = ⟨true, e, [], List.replicate p.ordN 0, List.replicate p.ordN 0, true⟩ ∧
     (d.thrOnly n = false → t.chainRuns n = true ∧ t.chain n = freshChain p e (d.chain n)) ∧ (d.thrOnly n = true → t.chain n = d.chain n)) := by
  dsimp only
  refine ⟨d.startChain_run n e, ?_, fun h => ?_, fun h => ?_⟩
  · rw [startChain_prof, startChain_eq]
    split
    · exact d.chainLoaded_thr n e
    · rw [eq_of_plant (fun x => x.thr n) (fsetB_plant ..), eq_of_plant (fun x => x.thr n) (fsetB_plant ..)]
      exact (congrArg (fun t => tabGet (fun _ => Thr.init) t n) (setChain_thrs ..)).trans (d.chainLoaded_thr n e)
  · rw [startChain_prof, startChain_eq, if_neg (by rw [thrOnly_of_only hn (d.chainLoaded_only n e), h]; exact Bool.false_ne_true)]
    refine ⟨?_, ?_⟩
    · rw [chainRuns, flag_fsetB_other _ _ (by decide) (by decide), flag_fsetB_same _ _ (by decide)]
    · rw [eq_of_plant (fun x => x.chain n) (fsetB_plant ..), eq_of_plant (fun x => x.chain n) (fsetB_plant ..), setChain_same, chainLoaded_chain]
  · rw [startChain_eq, if_pos (by rw [thrOnly_of_only hn (d.chainLoaded_only n e), h]), chainLoaded_chain]

/-! RUN of a chain (R135, R136). -/

/-- A write of FILT_CTL as it is stored, RUN aside. -/
def filtStored (d : Device) (n : Nat) (p : Party) (raw : Word) : Device := (d.putCooked p (aFILT n 0) raw).fsetB (aFILT n 0) 31 (d.flag (aFILT n 0) 31)

variable (p : Party) (raw : Word)

theorem filtControl_of_accepted (hclaim : d.chainClaimed n = false) (hrws : d.flag (aFILT n 0) 31 = true → d.reachesRws (aFILT n 0) raw = false) :
    d.filtControl n p raw = (if bitOf raw 31 then (if d.flag (aFILT n 0) 31 then d.filtStored n p raw else (d.filtStored n p raw).startChain n (d.filtStored n p raw).nextEdge)
      else if d.flag (aFILT n 0) 31 then (d.filtStored n p raw).stopChain n else d.filtStored n p raw) := by
  unfold filtControl
  dsimp only
  rw [hclaim, if_neg Bool.false_ne_true]
  refine if_neg ?_
  cases hr : d.flag (aFILT n 0) 31
  · exact Bool.false_ne_true
  · rw [hrws hr]
    exact Bool.false_ne_true

theorem filtStored_only (hn : n < 1024) : FilterOnly n d (d.filtStored n p raw) := by
  have hput : FilterOnly n d (d.putCooked p (aFILT n 0) raw) :=
    Keeps.putCooked (besideFilter_plant n) (fun b hb => hb.imp_right fun h => .inr (.inl ((eventReg_aFILT hn (by decide)).mp h))) ..
  exact hput.trans (FilterOnly.fsetB (.inl rfl) ..)

theorem filtStored_plant : (d.filtStored n p raw).plant = d.plant := (fsetB_plant ..).trans (putCooked_plant ..)

/-- A stop ends the chain and its group. -/
theorem stopChain_stops : (let t := d.stopChain n
     t.flag (aFILT n 0) 31 = false ∧ t.chainRuns n = false ∧ t.chain n = { d.chain n with group := [] } ∧ t.thrs = d.thrs ∧ FilterOnly n d t) := by
  have h4 : filtRegs n (aFILT n 4) := .inr (.inl rfl)
  have hne : aFILT n 0 ≠ aFILT n 4 := fun h => absurd (aFILT_inj.mp h) (by decide)
  unfold stopChain
  dsimp only
  refine ⟨?_, ?_, ?_, ?_, (FilterOnly.fset (.inl rfl) ..).trans <| (FilterOnly.setChain ..).trans <| (FilterOnly.fsetB h4 ..).trans (FilterOnly.fsetB h4 ..)⟩
  · rw [flag_eq_of_rd_eq (rd_fsetB_other _ _ _ hne), flag_eq_of_rd_eq (rd_fsetB_other _ _ _ hne), flag_eq_of_rd_eq (setChain_rd ..),
      flag_fset_same _ _ (by decide)]
    rfl
  · rw [chainRuns, flag_fsetB_other _ _ (by decide) (by decide), flag_fsetB_same _ _ (by decide)]
  · rw [eq_of_plant (fun x => x.chain n) (fsetB_plant ..), eq_of_plant (fun x => x.chain n) (fsetB_plant ..), setChain_same]
  · rw [eq_of_plant Device.thrs (fsetB_plant ..), eq_of_plant Device.thrs (fsetB_plant ..), setChain_thrs, eq_of_plant Device.thrs (fset_plant ..)]

/-- A start that is accepted. -/
theorem filtControl_starts (hclaim : d.chainClaimed n = false) (hoff : d.flag (aFILT n 0) 31 = false) (hon : bitOf raw 31 = true) :
    d.filtControl n p raw = (d.filtStored n p raw).startChain n (d.edge + 1) := by
  rw [d.filtControl_of_accepted n p raw hclaim fun h => absurd h (by rw [hoff]; exact Bool.false_ne_true), if_pos hon, hoff,
    if_neg Bool.false_ne_true, nextEdge, eq_of_plant Device.edge (d.filtStored_plant n p raw)]

/-- A stop that is accepted. -/
theorem filtControl_stops (hclaim : d.chainClaimed n = false) (hon : d.flag (aFILT n 0) 31 = true) (hrws : d.reachesRws (aFILT n 0) raw = false)
    (hoff : bitOf raw 31 = false) : d.filtControl n p raw = (d.filtStored n p raw).stopChain n := by
  rw [d.filtControl_of_accepted n p raw hclaim fun _ => hrws, hoff, if_neg Bool.false_ne_true, if_pos hon]

/-! Outputs (R131, R133, R135). -/

/-- A group leaves the start, the group and the latched output of its chain. -/
theorem runGroup_chain (p : Prof) (xs : List Int) (c : Chain) :
    (runGroup p xs c).2.2.start = c.start ∧ (runGroup p xs c).2.2.group = c.group ∧ (runGroup p xs c).2.2.lastVal = c.lastVal := ⟨rfl, rfl, rfl⟩

/-- The group of channel `n` that is complete, through its chain. -/
def groupRun (d : Device) (n : Nat) : Int × Nat × Chain :=
  runGroup (d.profile (d.profOf n)) (((d.chain n).group.take (d.profile (d.profOf n)).period).map Raw.code) (d.chain n)

/-- The edge of the last sample of that group. -/
def groupLast (d : Device) (n : Nat) : Nat := (((d.chain n).group.take (d.profile (d.profOf n)).period).getLast?.map Raw.edge).getD 0

/-- The chain after the group, its latched output aside. -/
def groupChain (d : Device) (n : Nat) : Chain := { (d.groupRun n).2.2 with group := (d.chain n).group.drop (d.profile (d.profOf n)).period }

/-- A saturation is remembered. -/
def noteSat (d : Device) (n : Nat) : Device := if (d.groupRun n).2.1 = 0 then d else d.event (aFILT n 8) 0

/-- The device with an output latched. -/
def latched (d : Device) (n flags : Nat) : Device :=
  ((((d.noteSat n).setChain n { d.groupChain n with subst := false, lastVal := (d.groupRun n).1, lastFlags := flags }).fset (aFILT n 4) 0 4 (d.groupRun n).2.1).fsetB
    (aFILT n 4) 9 false).wr (aFILT n 0x10) (BitVec.ofNat 32 (ofSigned 64 (d.groupRun n).1))

section
variable (hrun : d.chainRuns n = true) (hper : 0 < (d.profile (d.profOf n)).period) (hlen : (d.profile (d.profOf n)).period ≤ (d.chain n).group.length)
include hrun hper hlen

theorem group_complete : ¬ ((d.profile (d.profOf n)).period = 0 ∨ (d.chain n).group.length < (d.profile (d.profOf n)).period ∨ d.chainRuns n = false) := by
  rw [hrun]
  exact not_or.mpr ⟨by omega, not_or.mpr ⟨by omega, nofun⟩⟩

theorem chainStep_settles (h : d.groupLast n + 1 < (d.chain n).start + (d.profile (d.profOf n)).span) :
    d.chainStep n = ((d.noteSat n).setChain n (d.groupChain n), none) := (if_neg (d.group_complete n hrun hper hlen)).trans (if_pos h)

theorem chainStep_delivers (h : (d.chain n).start + (d.profile (d.profOf n)).span ≤ d.groupLast n + 1) :
    ∃ flags o, d.chainStep n = (d.latched n flags, some o) :=
  ⟨_, _, (if_neg (d.group_complete n hrun hper hlen)).trans (if_neg (Nat.not_lt.mpr h))⟩

end

/-! What becomes of an output (R134, R139, R149). -/

/-- Chains, threshold units and channels. -/
def signalParts (x : Device) : Tab Chain × Tab Thr × Tab Chan := (x.chains, x.thrs, x.chan)

/-- Registers below the channels'. -/
def lowRegs (a : Nat) : Prop := a < 0x100000

/-- An operation below the channels' registers that leaves chains, units and channels alone. -/
abbrev FedOnly (d e : Device) : Prop := Keeps lowRegs signalParts d e

theorem signalParts_plant (x : Device) : x.plant.signalParts = x.signalParts := rfl

omit n e p raw in
theorem capEntry_fed {b : Nat} (hb : b < 64) (bs : List Byte) : FedOnly d (d.capEntry b bs) := by
  have hcb (o : Nat) (ho : o < 0x20) : lowRegs (aCB b o) := by unfold lowRegs aCB; omega
  have hset (x : Device) (c : CapBuf) (at_ : Nat) : FedOnly x ((x.setCapBuf b c).toDdr at_ bs) := .of_rd (fun _ => rfl) rfl
  unfold capEntry
  dsimp only
  split
  · exact (Keeps.fsetB signalParts_plant (hcb 0x14 (by decide)) ..).trans (.bump signalParts_plant (hcb 0x18 (by decide)) ..)
  · split
    · exact (hset ..).trans (.fsetB signalParts_plant (hcb 0x14 (by decide)) ..)
    · exact hset ..

theorem feedSlots_fed (o : ChainOut) : FedOnly d (d.feedSlots n o) := by
  unfold feedSlots
  split
  · exact .refl ..
  · exact .of_rd (fun _ => rfl) rfl

theorem lostOutputs_fed (o : ChainOut) : FedOnly d (d.lostOutputs n o) := .of_rd (fun _ => rfl) rfl

theorem feedDecim_fed (o : ChainOut) : FedOnly d (d.feedDecim n o) := by
  unfold feedDecim
  split
  · exact .refl ..
  · refine .foldl (fun x k _ => ?_) d
    split
    next s _ =>
      split
      · unfold decimEntry
        split
        · exact x.capEntry_fed (bitsOf_lt s.w1 12 6) _
        · exact .refl ..
      · exact .refl ..
    next => exact .refl ..

/-- A group that ends before the chain has settled, or whose output is latched and fed on. -/
theorem chainOut_fed {f : Device} {o : Option ChainOut} (h : d.chainStep n = (f, o)) : FedOnly f (d.chainOut n) := by
  unfold chainOut
  dsimp only
  rw [h]
  cases o with
  | none => exact .refl ..
  | some o =>
    dsimp only
    split
    · exact (lostOutputs_fed ..).trans <| (feedSlots_fed ..).trans (feedDecim_fed ..)
    · exact (feedSlots_fed ..).trans (feedDecim_fed ..)

theorem FedOnly.chain {d e : Device} (h : FedOnly d e) (m : Nat) : e.chain m = d.chain m := by rw [Device.chain, Device.chain, (Prod.mk.inj h.part).1]

/-- A chain replaced: nothing else of chains, units and channels changes. -/
def OnlyChain (n : Nat) (d e : Device) : Prop := (∀ m, m ≠ n → e.chain m = d.chain m) ∧ e.thrs = d.thrs ∧ e.chan = d.chan

theorem OnlyChain.of_fed {d f g : Device} (h : OnlyChain n d f) (h' : FedOnly f g) : OnlyChain n d g :=
  ⟨fun m hm => (h'.chain m).trans (h.1 m hm), (Prod.mk.inj (Prod.mk.inj h'.part).2).1.trans h.2.1, (Prod.mk.inj (Prod.mk.inj h'.part).2).2.trans h.2.2⟩

theorem OnlyChain.setChain (c : Chain) : OnlyChain n d (d.setChain n c) := ⟨fun _ hm => setChain_other _ _ _ _ hm, setChain_thrs .., setChain_chan ..⟩

theorem OnlyChain.of_plant {d f g : Device} (h : OnlyChain n d f) (hp : g.plant = f.plant) : OnlyChain n d g :=
  ⟨fun m hm => (eq_of_plant (fun x => x.chain m) hp).trans (h.1 m hm), (eq_of_plant Device.thrs hp).trans h.2.1, (eq_of_plant Device.chan hp).trans h.2.2⟩

theorem OnlyChain.after_plant {d f g : Device} (hp : f.plant = d.plant) (h : OnlyChain n f g) : OnlyChain n d g :=
  ⟨fun m hm => (h.1 m hm).trans (eq_of_plant (fun x => x.chain m) hp), h.2.1.trans (eq_of_plant Device.thrs hp), h.2.2.trans (eq_of_plant Device.chan hp)⟩

theorem noteSat_plant : (d.noteSat n).plant = d.plant := by
  unfold noteSat
  split
  · rfl
  · exact event_plant ..

theorem settled_only : OnlyChain n d ((d.noteSat n).setChain n (d.groupChain n)) := .after_plant n (d.noteSat_plant n) (.setChain ..)

theorem latched_only (flags : Nat) : OnlyChain n d (d.latched n flags) :=
  .of_plant n (.after_plant n (d.noteSat_plant n) (.setChain ..)) ((wr_plant ..).trans ((fsetB_plant ..).trans (fset_plant ..)))

/-- The latched output, where its registers show it, and the chain that goes on. -/
theorem latched_shows (flags : Nat) : (let t := d.latched n flags
     (t.chain n).group = (d.chain n).group.drop (d.profile (d.profOf n)).period ∧ (t.chain n).lastVal = (d.groupRun n).1 ∧
     t.rd (aFILT n 0x10) = BitVec.ofNat 32 (ofSigned 64 (d.groupRun n).1) ∧ t.fget (aFILT n 4) 0 4 = (d.groupRun n).2.1 % 16) := by
  have hchain : (d.latched n flags).chain n = { d.groupChain n with subst := false, lastVal := (d.groupRun n).1, lastFlags := flags } := by
    unfold latched
    rw [eq_of_plant (fun x => x.chain n) (wr_plant ..), eq_of_plant (fun x => x.chain n) (fsetB_plant ..), eq_of_plant (fun x => x.chain n) (fset_plant ..),
      setChain_same]
  dsimp only
  rw [hchain]
  refine ⟨rfl, rfl, rd_wr_same .., ?_⟩
  unfold latched
  rw [fget_wr_other _ _ _ _ fun h => absurd (aFILT_inj.mp h) (by decide), fsetB, fget_fset_disjoint _ _ _ (by decide) (by decide),
    fget_fset_same _ _ _ (by decide)]
  rfl

end

end Device

/-- Settles O24: RUN starts and stops a chain, and a complete group gives its output once the chain has settled. -/
theorem chainsRunAndDeliver : Obligations.ChainsRunAndDeliver := by
  unfold Obligations.ChainsRunAndDeliver
  refine ⟨fun n w s hadm hclaim => ⟨fun hoff => ?_, fun hon hrws => ?_⟩, fun n s hrun hper hlen => ?_⟩
  · have hbit : bitOf (setBits w.data 31 1 1) 31 = true := by
      rw [bitOf_setBits_same _ (by decide)]
      rfl
    have hstored := s.dev.filtStored_only n w.by_ (setBits w.data 31 1 1) n.isLt
    have honly : Device.FilterOnly n s.dev _ := hstored.trans ((s.dev.filtStored n w.by_ (setBits w.data 31 1 1)).startChain_only n (s.dev.edge + 1))
    have hchain : (s.dev.filtStored n w.by_ (setBits w.data 31 1 1)).chain n = s.dev.chain n :=
      Device.eq_of_plant (fun x => x.chain n) (s.dev.filtStored_plant ..)
    obtain ⟨hflag, hthr, hstart, hthronly⟩ := (s.dev.filtStored n w.by_ (setBits w.data 31 1 1)).startChain_starts n (s.dev.edge + 1) n.isLt
    rw [Device.thrOnly_of_only n.isLt hstored, hchain] at hstart hthronly
    refine givesDev_write_as rfl hadm ?_
    rw [s.dev.filtControl_starts n w.by_ _ hclaim hoff hbit]
    rintro _ rfl
    exact ⟨⟨hflag, hthr, hstart, hthronly⟩, fun m hm => ⟨honly.chain hm, honly.thr hm⟩, honly.chan, honly.execs, honly.regs⟩
  · have hbit : bitOf (setBits w.data 31 1 0) 31 = false := by
      rw [bitOf_setBits_same _ (by decide)]
      rfl
    have hplant := s.dev.filtStored_plant n w.by_ (setBits w.data 31 1 0)
    obtain ⟨hflag, hruns, hchain, hthrs, honly⟩ := (s.dev.filtStored n w.by_ (setBits w.data 31 1 0)).stopChain_stops n
    have honly : Device.FilterOnly n s.dev _ := (s.dev.filtStored_only n w.by_ (setBits w.data 31 1 0) n.isLt).trans honly
    rw [Device.eq_of_plant (fun x => x.chain n) hplant] at hchain
    rw [Device.eq_of_plant Device.thrs hplant] at hthrs
    refine givesDev_write_as rfl hadm ?_
    rw [s.dev.filtControl_stops n w.by_ _ hclaim hon hrws hbit]
    rintro _ rfl
    exact ⟨hflag, hruns, hchain, hthrs, fun m hm => honly.chain hm, honly.chan, honly.execs, honly.regs⟩
  · refine givesDdr_onDdr_as rfl ?_
    rintro _ rfl
    obtain ⟨_, hgroup, hlast⟩ := Device.runGroup_chain (s.dev.profile (s.dev.profOf n))
      (((s.dev.chain n).group.take (s.dev.profile (s.dev.profOf n)).period).map Raw.code) (s.dev.chain n)
    by_cases hsettled : (s.dev.chain n).start + (s.dev.profile (s.dev.profOf n)).span ≤ s.dev.groupLast n + 1
    · obtain ⟨flags, o, hstep⟩ := s.dev.chainStep_delivers n hrun hper hlen hsettled
      have hfed := s.dev.chainOut_fed n hstep
      obtain ⟨hdrop, hval, hout, hsat⟩ := s.dev.latched_shows n flags
      obtain ⟨hchains, hthrs, hchan⟩ := Device.OnlyChain.of_fed n (s.dev.latched_only n flags) hfed
      have hrd (o : Nat) : (s.dev.chainOut n).rd (aFILT n o) = (s.dev.latched n flags).rd (aFILT n o) :=
        hfed.regs _ (by unfold Device.lowRegs aFILT; omega) reportReg_aFILT
      refine ⟨by rw [hfed.chain, hdrop], fun _ => ⟨by rw [hfed.chain, hval]; rfl, by rw [hrd, hout]; rfl, ?_⟩,
        fun h => absurd hsettled (Nat.not_le.mpr h), hchains, hthrs, hchan⟩
      rw [Device.fget, hrd]
      exact hsat
    · have hstep := s.dev.chainStep_settles n hrun hper hlen (Nat.not_le.mp hsettled)
      have hfed := s.dev.chainOut_fed n hstep
      obtain ⟨hchains, hthrs, hchan⟩ := Device.OnlyChain.of_fed n (s.dev.settled_only n) hfed
      refine ⟨by rw [hfed.chain, Device.setChain_same]; rfl, fun h => absurd h hsettled, fun _ => ?_, hchains, hthrs, hchan⟩
      rw [hfed.chain, Device.setChain_same]
      exact hlast

end Sys2Proof.Machine
end

section
/-!
PROOF. O25: threshold groups, spare lanes and the reads that latch.
-/

namespace Sys2Proof.Machine

-- One proof after another: the stacks of the threads that elaborate many at once exceed the memory of a check.
set_option Elab.async false

theorem not_mem_tabKeys_tabDrop {α : Type} (k : Nat) (t : Tab α) : k ∉ tabKeys (tabDrop k t) := by
  induction t with
  | nil => exact List.not_mem_nil
  | cons p r ih =>
    obtain ⟨j, w⟩ := p
    rw [tabDrop]
    split
    · exact ih
    · next h => exact fun hm => (List.mem_cons.mp hm).elim (fun he => h he.symm) ih

namespace Device
variable (d : Device) (n : Nat)

/-! One group of a threshold unit (R148). -/

/-- The unit after a group of `k` samples with new sums, and the levels of its comparators. -/
def thrTaken (d : Device) (n k : Nat) (integ comb : List Nat) (l0 l1 : Bool) : Device :=
  ((d.setThr n { d.thr n with group := (d.thr n).group.drop k, integ := integ, comb := comb, fresh := false }).fsetB (aFILT n 0x30) 0 l0).fsetB
    (aFILT n 0x30) 1 l1

/-- A comparator's event is shown and counted. -/
def thrCounted (n : Nat) (d : Device) (i : Nat) : Device := (d.event (aFILT n 8) (3 + i)).bump (aFILT n 0x2C) (16 * i) 16

/-- A complete group: the unit takes it, and comparators that had an event show it; after a fresh load none had. -/
theorem thrStep_of_complete (hl : (d.thr n).loaded = true) (hk : 0 < d.fget (aFILT n 0x30) 8 13)
    (hlen : d.fget (aFILT n 0x30) 8 13 ≤ (d.thr n).group.length) :
    ∃ integ comb l0 l1 evs last, d.thrStep n = (evs.foldl (thrCounted n) (d.thrTaken n (d.fget (aFILT n 0x30) 8 13) integ comb l0 l1), evs, last) ∧
      ((d.thr n).fresh = true → evs = []) := by
  refine ⟨_, _, _, _, _, _, if_neg ?_, fun hf => ?_⟩
  · rw [hl]
    exact not_or.mpr ⟨nofun, not_or.mpr ⟨by omega, by omega⟩⟩
  · simp only [hf, if_true]
    rfl

/-- Threshold units and chains. -/
def filterTabs (x : Device) : Tab Thr × Tab Chain := (x.thrs, x.chains)

/-- An operation that leaves units and chains alone. -/
abbrev FilterTabsKept (d e : Device) : Prop := Keeps (fun _ => True) filterTabs d e

theorem foldl_thrCounted_kept (evs : List Nat) : FilterTabsKept d (evs.foldl (thrCounted n) d) :=
  .foldl (fun _ _ _ => (Keeps.event (fun _ => rfl) trivial ..).trans (.bump (fun _ => rfl) trivial ..)) d

/-- What a group that has been taken means to slots, Frets and lists leaves units and chains alone. -/
theorem thrOut_kept {f : Device} {evs : List Nat} {last : Nat} (h : d.thrStep n = (f, evs, last)) : FilterTabsKept f (d.thrOut n) := by
  unfold thrOut
  rw [h]
  refine .foldl (fun x k _ => ?_) f
  dsimp only
  refine .trans ?_ (triggerLists_keeps (fun _ => rfl) (fun _ _ _ => rfl) (fun _ _ _ => rfl) (fun _ _ => trivial) (fun _ _ => trivial) ..)
  refine .trans ?_ (fretEvents_keeps (fun _ => rfl) (fun _ _ _ => rfl) (fun _ _ => trivial) ..)
  split
  · exact .refl ..
  · exact .of_rd (fun _ => rfl) rfl

theorem thrOut_of_silent {f : Device} {last : Nat} (h : d.thrStep n = (f, [], last)) : d.thrOut n = f := by
  unfold thrOut
  rw [h]
  rfl

theorem thr_of_filterTabs {d e : Device} (h : e.filterTabs = d.filterTabs) (m : Nat) : e.thr m = d.thr m := by rw [thr, thr, (Prod.mk.inj h).1]

theorem thrTaken_spec (k : Nat) (integ comb : List Nat) (l0 l1 : Bool) : (let t := d.thrTaken n k integ comb l0 l1
     ((t.thr n).group = (d.thr n).group.drop k ∧ (t.thr n).fresh = false) ∧ (∀ m, m ≠ n → t.thr m = d.thr m) ∧ t.chains = d.chains ∧
     (t.execs = d.execs ∧ t.lists = d.lists ∧ t.frets = d.frets) ∧ ∀ a, a ≠ aFILT n 0x30 → t.rd a = d.rd a) := by
  have hp (x : Device) : ((x.fsetB (aFILT n 0x30) 0 l0).fsetB (aFILT n 0x30) 1 l1).plant = x.plant := (fsetB_plant ..).trans (fsetB_plant ..)
  unfold thrTaken
  dsimp only
  refine ⟨?_, fun m hm => ?_, ?_, ⟨?_, ?_, ?_⟩, fun a ha => ?_⟩
  · rw [eq_of_plant (fun x => x.thr n) (hp _), setThr_same]
    exact ⟨rfl, rfl⟩
  · rw [eq_of_plant (fun x => x.thr m) (hp _), setThr_other _ _ _ _ hm]
  · rw [eq_of_plant Device.chains (hp _), setThr_chains]
  · rw [eq_of_plant Device.execs (hp _), setThr_execs]
  · rw [eq_of_plant Device.lists (hp _), setThr_lists]
  · rw [eq_of_plant Device.frets (hp _), setThr_frets]
  · rw [rd_fsetB_other _ _ _ ha, rd_fsetB_other _ _ _ ha, setThr_rd]

/-! A spare lane takes over (R149). -/

/-- The spare restarts the chain of one channel, if it runs. -/
def spareTakes (d : Device) (n : Nat) : Device :=
  let e := d.fsetB (aFILT n 4) 11 true
  if e.chainRuns n then (e.startChain n e.edge).setChain n { (e.startChain n e.edge).chain n with subst := true } else e

/-- An unfinished slot of the lane lost its outputs, or is remapped. -/
def laneMark (l : Nat) (x : Exec) (s : Slot) : Slot :=
  if onLane l s && s.rec_.isNone then { s with flags := s.flags ||| (if ctxDet x.words ≤ 8 then 0x820 else 0x20) } else s

/-- The lane names its spare, and its unfinished slots are marked. -/
def laneNamed (d : Device) (l : Nat) : Device :=
  let q := tabGet (fun _ => 0) d.lanePend l
  let e := ({ d with lanePend := tabDrop l d.lanePend }.fset (0x50200 + 4 * l) 0 7 q).fsetB (0x50200 + 4 * l) 9 true
  { e with execs := e.execs.map fun x => { x with slots := x.slots.map (laneMark l x) } }

theorem laneTakeover_of_pending {l : Nat} (h : l ∈ tabKeys d.lanePend) : d.laneTakeover l = (laneChans l).foldl spareTakes (d.laneNamed l) :=
  if_pos (List.contains_iff_mem.mpr h)

theorem laneTakeover_of_none {l : Nat} (h : l ∉ tabKeys d.lanePend) : d.laneTakeover l = d := if_neg fun hc => h (List.contains_iff_mem.mp hc)

/-- One channel of the lane: its own filter and nothing else. -/
theorem spareTakes_only : FilterOnly n d (d.spareTakes n) := by
  have h4 : FilterOnly n d (d.fsetB (aFILT n 4) 11 true) := .fsetB (.inr (.inl rfl)) ..
  unfold spareTakes
  dsimp only
  split
  · exact h4.trans <| (startChain_only ..).trans (FilterOnly.setChain ..)
  · exact h4

/-- A start leaves the mark of a remapped channel. -/
theorem startChain_remapped (e : Nat) : (d.startChain n e).flag (aFILT n 4) 11 = d.flag (aFILT n 4) 11 := by
  have hne {o : Nat} (ho : o ≠ 4) : aFILT n 4 ≠ aFILT n o := fun h => ho (aFILT_inj.mp h).symm
  have hloaded : (d.chainLoaded n e).flag (aFILT n 4) 11 = d.flag (aFILT n 4) 11 := by
    unfold chainLoaded loadThr
    dsimp only
    rw [flag_eq_of_rd_eq (rd_fset_other _ _ _ _ (hne (by decide))), flag_fsetB_other _ _ (by decide) (by decide),
      flag_eq_of_rd_eq (rd_fset_other _ _ _ _ (hne (by decide))), flag_eq_of_rd_eq (setThr_rd ..), flag_eq_of_rd_eq (rd_fset_other _ _ _ _ (hne (by decide))),
      flag_eq_of_rd_eq (rd_fset_other _ _ _ _ (hne (by decide))), flag_eq_of_rd_eq (rd_fset_other _ _ _ _ (hne (by decide))),
      flag_eq_of_rd_eq (rd_fset_other _ _ _ _ (hne (by decide)))]
  rw [startChain_eq]
  split
  · exact hloaded
  · rw [flag_fsetB_other _ _ (by decide) (by decide), flag_fsetB_other _ _ (by decide) (by decide), flag_eq_of_rd_eq (setChain_rd ..), hloaded]

theorem spareTakes_remapped : (d.spareTakes n).flag (aFILT n 4) 11 = true := by
  unfold spareTakes
  dsimp only
  split
  · rw [flag_eq_of_rd_eq (setChain_rd ..), startChain_remapped, flag_fsetB_same _ _ (by decide)]
  · exact flag_fsetB_same _ _ (by decide)

/-- What one channel of a lane leaves: every register but its own and those of reports, and the substitutions that wait. -/
theorem spareTakes_lanePend : (d.spareTakes n).lanePend = d.lanePend := by
  unfold spareTakes
  dsimp only
  split
  · rw [setChain_lanePend, startChain_eq]
    have hloaded (x : Device) : (x.chainLoaded n x.edge).lanePend = x.lanePend := by
      unfold chainLoaded loadThr
      dsimp only
      rw [eq_of_plant Device.lanePend (fset_plant ..), eq_of_plant Device.lanePend (fsetB_plant ..), eq_of_plant Device.lanePend (fset_plant ..),
        setThr_lanePend, eq_of_plant Device.lanePend (fset_plant ..), eq_of_plant Device.lanePend (fset_plant ..),
        eq_of_plant Device.lanePend (fset_plant ..), eq_of_plant Device.lanePend (fset_plant ..)]
    split
    · rw [hloaded, eq_of_plant Device.lanePend (fsetB_plant ..)]
    · rw [eq_of_plant Device.lanePend (fsetB_plant ..), eq_of_plant Device.lanePend (fsetB_plant ..), setChain_lanePend, hloaded,
        eq_of_plant Device.lanePend (fsetB_plant ..)]
  · exact eq_of_plant Device.lanePend (fsetB_plant ..)

theorem mem_laneChans {l c : Nat} : c ∈ laneChans l ↔ ∃ i < 16, c = 16 * l + i := by
  unfold laneChans
  rw [List.mem_map]
  exact ⟨fun ⟨i, hi, he⟩ => ⟨i, List.mem_range.mp hi, he.symm⟩, fun ⟨i, hi, he⟩ => ⟨i, List.mem_range.mpr hi, he.symm⟩⟩

theorem lane_register_apart {l a : Nat} (ha : a < 0x140000) (hr : reportReg a = false) (d : Device) :
    ((laneChans l).foldl spareTakes d).rd a = d.rd a :=
  foldl_rd _ _ _ _ fun e c _ => (e.spareTakes_only c).regs _ (fun h => by
    obtain ⟨o, ho, he⟩ := filtRegs_lt h
    unfold aFILT at he
    omega) hr

theorem laneNamed_lanePend (l : Nat) : (d.laneNamed l).lanePend = tabDrop l d.lanePend := by
  unfold laneNamed
  rw [eq_of_plant Device.lanePend (fsetB_plant ..), eq_of_plant Device.lanePend (fset_plant ..)]

theorem laneNamed_chains (l : Nat) : (d.laneNamed l).chains = d.chains := by
  unfold laneNamed
  rw [eq_of_plant Device.chains (fsetB_plant ..), eq_of_plant Device.chains (fset_plant ..)]

theorem withExecs_rd (e : Device) (xs : List Exec) (a : Nat) : ({ e with execs := xs } : Device).rd a = e.rd a := rfl

theorem laneNamed_names (l : Nat) : (d.laneNamed l).fget (0x50200 + 4 * l) 0 7 = tabGet (fun _ => 0) d.lanePend l % 2 ^ 7 ∧
    (d.laneNamed l).flag (0x50200 + 4 * l) 9 = true := by
  unfold laneNamed
  dsimp only
  rw [fget, withExecs_rd, flag_eq_of_rd_eq (withExecs_rd ..)]
  exact ⟨(fget_fset_disjoint _ _ _ (by decide) (by decide)).trans (fget_fset_same _ _ _ (by decide)), flag_fsetB_same _ _ (by decide)⟩

/-- The spare takes over the lane and each of its channels. -/
theorem laneTakeover_takes {l : Nat} (hl : l < 64) (hpend : l ∈ tabKeys d.lanePend) : (let t := d.laneTakeover l
     t.fget (0x50200 + 4 * l) 0 7 = tabGet (fun _ => 0) d.lanePend l % 2 ^ 7 ∧ t.flag (0x50200 + 4 * l) 9 = true ∧
     (∀ i < 16, t.flag (aFILT (16 * l + i) 4) 11 = true) ∧ l ∉ tabKeys t.lanePend ∧ ∀ n, n / 16 ≠ l → t.chain n = d.chain n) := by
  have hreg (e : Device) := lane_register_apart (l := l) (a := 0x50200 + 4 * l) (by omega) (reportReg_of_mid (by omega) (by omega)) e
  dsimp only
  rw [d.laneTakeover_of_pending hpend]
  refine ⟨?_, ?_, fun i hi => ?_, ?_, fun n hn => ?_⟩
  · rw [fget, hreg]
    exact (d.laneNamed_names l).1
  · rw [flag_eq_of_rd_eq (hreg _)]
    exact (d.laneNamed_names l).2
  · refine foldl_settles (P := fun e c => e.flag (aFILT c 4) 11 = true) (fun e c => e.spareTakes_remapped c) (fun e c y hne h => ?_) _ _
      (mem_laneChans.mpr ⟨i, hi, rfl⟩)
    refine (flag_eq_of_rd_eq ((e.spareTakes_only c).regs _ (fun hr => ?_) reportReg_aFILT) 11).trans h
    obtain ⟨o, ho, he⟩ := filtRegs_lt hr
    unfold aFILT at he
    omega
  · rw [foldl_keeps Device.lanePend _ _ _ fun e c _ => e.spareTakes_lanePend c, laneNamed_lanePend]
    exact not_mem_tabKeys_tabDrop l d.lanePend
  · rw [foldl_keeps (fun x => x.chain n) _ _ _ fun e c hc => ?_, chain, laneNamed_chains, ← chain]
    obtain ⟨i, hi, rfl⟩ := mem_laneChans.mp hc
    exact FilterOnly.chain (e.spareTakes_only _) (by omega)

/-! Reads that latch (R156, R183, R393). -/

theorem readAt_of_answers {a : Nat} (k : Device → Device) (h5 : 5 ≤ d.fget 0x20000 0 5) (hlive : d.dead a = false) : d.readAt a k = k d := by
  unfold readAt
  rw [if_neg (by omega), hlive, if_neg Bool.false_ne_true]

/-- A device with an answer. -/
theorem answer_rd (bs : List Byte) (a : Nat) : ({ d with answer := bs } : Device).rd a = d.rd a := rfl

theorem readOutLo_latches : (let t := d.readOutLo n
     t.answer = leBytes 4 (ofSigned 64 (d.chain n).lastVal) ∧ t.rd (aFILT n 0x14) = BitVec.ofNat 32 (ofSigned 64 (d.chain n).lastVal / 2 ^ 32) ∧
     t.rd (aFILT n 0x18) = BitVec.ofNat 32 (d.chain n).lastFlags ∧ t.chains = d.chains ∧
     ∀ a, a ≠ aFILT n 0x10 → a ≠ aFILT n 0x14 → a ≠ aFILT n 0x18 → t.rd a = d.rd a) := by
  unfold readOutLo
  dsimp only
  refine ⟨rfl, ?_, ?_, ?_, fun a h10 h14 h18 => ?_⟩
  · rw [answer_rd, rd_wr_other _ _ fun h => absurd (aFILT_inj.mp h) (by decide), rd_wr_same]
  · rw [answer_rd, rd_wr_same]
  · exact (wr_chains ..).trans ((wr_chains ..).trans (wr_chains ..))
  · rw [answer_rd, rd_wr_other _ _ h18, rd_wr_other _ _ h14, rd_wr_other _ _ h10]

theorem readCntlo_latches (a : Nat) : (let t := d.readCntlo a
     t.answer = leBytes 4 (d.ax a).c ∧ t.fget (aPOS a 0x10) 0 16 = (d.ax a).c / 2 ^ 32 % 2 ^ 16 ∧ t.axes = d.axes ∧
     ∀ b, b ≠ aPOS a 0xC → b ≠ aPOS a 0x10 → t.rd b = d.rd b) := by
  unfold readCntlo
  dsimp only
  refine ⟨rfl, ?_, ?_, fun b hC h10 => ?_⟩
  · rw [fget, answer_rd]
    exact fget_fset_same _ _ _ (by decide)
  · exact (eq_of_plant Device.axes (fset_plant ..)).trans (wr_axes ..)
  · rw [answer_rd, rd_fset_other _ _ _ _ h10, rd_wr_other _ _ hC]

end Device

/-- Settles O25: a group leaves its unit, a spare takes its lane, and a read latches the rest of its value. -/
theorem thresholdsLanesReads : Obligations.ThresholdsLanesReads := by
  unfold Obligations.ThresholdsLanesReads
  refine ⟨fun n s hl hk hlen => ?_, fun m s => ⟨fun hpend => ?_, fun hpend => ?_⟩, fun n s h5 hlive => ?_, fun a s h5 hlive => ?_⟩
  · obtain ⟨integ, comb, l0, l1, evs, last, hstep, hfresh⟩ := s.dev.thrStep_of_complete n hl hk hlen
    obtain ⟨hunit, hothers, hchains, hparts, hregs⟩ := s.dev.thrTaken_spec n (s.dev.fget (aFILT n 0x30) 8 13) integ comb l0 l1
    have hkept : Device.FilterTabsKept _ (s.dev.thrOut n) := (Device.foldl_thrCounted_kept _ n evs).trans (s.dev.thrOut_kept n hstep)
    have hthr := Device.thr_of_filterTabs hkept.part
    refine givesDev_onDev_as rfl ?_
    rintro _ rfl
    refine ⟨by rw [hthr, hunit.1], by rw [hthr, hunit.2], fun m hm => by rw [hthr, hothers m hm], (Prod.mk.inj hkept.part).2.trans hchains, fun hf => ?_⟩
    rw [hfresh hf] at hstep
    rw [s.dev.thrOut_of_silent n hstep, List.foldl_nil]
    exact ⟨hparts.1, hparts.2.1, hparts.2.2, hregs⟩
  · refine givesDev_onDev_as rfl ?_
    rintro _ rfl
    exact s.dev.laneTakeover_takes m.isLt hpend
  · have hstill := s.dev.laneTakeover_of_none hpend
    refine ⟨s.onDev fun d => d.laneTakeover m, rfl, rfl, rfl, ?_⟩
    rw [State.onDev_dev, hstill]
  · refine givesDev_onDev_as rfl ?_
    rw [s.dev.readAt_of_answers _ h5 hlive]
    rintro _ rfl
    exact s.dev.readOutLo_latches n
  · refine givesDev_onDev_as rfl ?_
    rw [s.dev.readAt_of_answers _ h5 hlive]
    rintro _ rfl
    exact s.dev.readCntlo_latches a

end Sys2Proof.Machine
end

section
/-!
PROOF. O41: pin mappings apply, and the GPIO banks keep what waits for the sample edge.
-/

namespace Sys2Proof.Machine

-- One proof after another: the stacks of the threads that elaborate many at once exceed the memory of a check.
set_option Elab.async false

/-- The event register of a block outside the wheels. -/
theorem Device.eventReg_of_blockEvents {a b e c r : Nat} (hb : Device.blockEvents a = some (e, c, r)) (hw : ¬ (0x78000 ≤ a ∧ a < 0x78800)) :
    Device.EventReg a b ↔ b = e := by
  unfold Device.EventReg
  rw [hb]
  refine ⟨?_, fun h => .inl ⟨c, r, by rw [h]⟩⟩
  rintro (⟨_, _, h⟩ | ⟨h, h', -⟩)
  · exact (Prod.mk.inj (Option.some.inj h)).1.symm
  · exact absurd ⟨h, h'⟩ hw

/-! Registers of a pin and of the GPIO banks (R267). -/

section
variable {n o : Nat} (hn : n < 1024)
include hn

theorem blockEvents_aPIN (ho : o < 0x10) : Device.blockEvents (aPIN n o) = some (0x184300, 0, 1) := by
  have hb : aPIN n o / 0x10000 = 0x18 := by unfold aPIN; omega
  unfold Device.blockEvents
  dsimp only
  rw [hb]
  rfl

theorem eventReg_aPIN (ho : o < 0x10) {b : Nat} : Device.EventReg (aPIN n o) b ↔ b = 0x184300 := by
  exact Device.eventReg_of_blockEvents (blockEvents_aPIN hn ho) (by unfold aPIN; omega)

end

theorem blockEvents_aBANK {k b : Nat} (hk : k < 3) (hb : b < 32) : Device.blockEvents (aBANK (0x4000 + 0x80 * k) b) = some (0x184300, 0, 1) := by
  have hb : aBANK (0x4000 + 0x80 * k) b / 0x10000 = 0x18 := by unfold aBANK; omega
  unfold Device.blockEvents
  dsimp only
  rw [hb]
  rfl

namespace Device

section
variable {d : Device} {n o : Nat} (hn : n < 1024) (ho : o < 0x10) (p : Party) (raw : Word)
include hn ho

theorem refuse_aPIN : (d.refuse (aPIN n o)).plant = d.plant ∧ (d.refuse (aPIN n o)).flag 0x184300 1 = true ∧
    keepsRegs (fun b => b = 0x184300) d (d.refuse (aPIN n o)) :=
  d.refuse_reports (blockEvents_aPIN hn ho) (by unfold aPIN; omega) (by decide) (reportReg_of_ge (by decide))

theorem putCooked_aPIN_keeps : keepsRegs (fun b => b = aPIN n o ∨ b = 0x184300) d (d.putCooked p (aPIN n o) raw) :=
  (putCooked_keepsRegs d p _ raw).mono fun _ => Or.imp_right (eventReg_aPIN hn ho).mp

theorem putCooked_aPIN_rd : (d.putCooked p (aPIN n o) raw).rd (aPIN n o) = storeWord (aPIN n o) (d.cook (aPIN n o) raw).1 :=
  putCooked_rd_same _ _ _ _ (fun h => by have := (eventReg_aPIN hn ho).mp h; unfold aPIN at this; omega) (reportReg_of_ge (by unfold aPIN; omega))

/-- The owner of a pin is its channel's matter. -/
theorem putCooked_aPIN_pinOwner : (d.putCooked p (aPIN n o) raw).pinOwner n = d.pinOwner n := by
  have hch (x : Nat) (hx : x < 0x100) : (d.putCooked p (aPIN n o) raw).rd (aCH n x) = d.rd (aCH n x) :=
    putCooked_aPIN_keeps hn ho p raw _ (by unfold aCH aPIN; omega) (reportReg_of_ge (by unfold aCH; omega))
  unfold pinOwner retired mode
  rw [flag_eq_of_rd_eq (hch _ (by decide)), fget, hch _ (by decide), flag_eq_of_rd_eq (hch _ (by decide))]
  rfl

end

/-- Channel `n` as a function switch leaves it (R63, R64, R258). -/
def switching (d : Device) (n : Nat) : Chan :=
  let c := { d.ch n with pinOld := some ((d.ch n).pinOld.getD (d.pinSet n)) }
  if d.queued n || d.bridging n d.nextEdge then { c with pinWait := true } else { c with holdUntil := d.nextEdge + 1 }

/-- A stored pin mapping, with the function switch that it makes or without. -/
structure PinStored (d : Device) (n o : Nat) (v : Word) (t : Device) : Prop where
  stored : t.rd (aPIN n o) = v
  others : ∀ m, m ≠ n → t.ch m = d.ch m
  own : t.ch n = { d.ch n with holdUntil := (t.ch n).holdUntil, pinOld := (t.ch n).pinOld, pinWait := (t.ch n).pinWait }
  rest : { t.plant with chan := d.chan } = d.plant
  regs : keepsRegs (fun a => a = aPIN n o ∨ a = 0x184300) d t

section
variable {d e : Device} {n o : Nat} {v : Word}

theorem pinSwitch_of_digital (hp : e.plant = d.plant) (ho : e.pinOwner n = 2) : e.pinSwitch d n = e.setCh n (d.switching n) := by
  have hch : e.ch n = d.ch n := ch_of_plant hp n
  have hedge : e.nextEdge = d.nextEdge := eq_of_plant nextEdge hp
  unfold pinSwitch switching queued bridging
  rw [if_pos ho]
  dsimp only
  rw [hch, hedge]

theorem pinSwitch_of_other (ho : e.pinOwner n ≠ 2) : e.pinSwitch d n = e := if_neg ho

/-- A register that was stored, without a function switch. -/
theorem PinStored.of_plant (hp : e.plant = d.plant) (hv : e.rd (aPIN n o) = v) (hr : keepsRegs (fun a => a = aPIN n o ∨ a = 0x184300) d e) :
    PinStored d n o v e := by
  refine ⟨hv, fun m _ => ch_of_plant hp m, by rw [ch_of_plant hp n], ?_, hr⟩
  rw [hp]
  rfl

theorem switching_eq : d.switching n = { d.ch n with
    holdUntil := (d.switching n).holdUntil, pinOld := (d.switching n).pinOld, pinWait := (d.switching n).pinWait } := by
  unfold switching
  dsimp only
  split <;> rfl

theorem switching_pinOld : (d.switching n).pinOld = some ((d.ch n).pinOld.getD (d.pinSet n)) := by
  unfold switching
  dsimp only
  split <;> rfl

theorem switching_holdUntil (hb : d.bridging n (d.edge + 1) = false) (hq : d.queued n = false) : (d.switching n).holdUntil = d.edge + 2 := by
  unfold switching
  dsimp only
  rw [hq, nextEdge, hb, if_neg (by decide)]

theorem switching_pinWait (h : d.bridging n (d.edge + 1) = true ∨ d.queued n = true) : (d.switching n).pinWait = true := by
  unfold switching
  dsimp only
  rw [nextEdge, if_pos (by rw [Bool.or_eq_true]; exact h.symm)]

theorem setCh_chan_plant (e : Device) (c : Chan) : { (e.setCh n c).plant with chan := d.chan } = { e.plant with chan := d.chan } := rfl

theorem PinStored.pinSwitch (h : PinStored d n o v e) (hp : e.plant = d.plant) : PinStored d n o v (e.pinSwitch d n) := by
  by_cases ho : e.pinOwner n = 2
  · rw [pinSwitch_of_digital hp ho]
    refine ⟨(setCh_rd ..).trans h.stored, fun m hm => (setCh_other e n _ m hm).trans (h.others m hm), ?_, ?_, h.regs.of_rd fun _ => setCh_rd ..⟩
    · rw [setCh_same]
      exact switching_eq
    · rw [setCh_chan_plant, h.rest]
  · rwa [pinSwitch_of_other ho]

end

section
variable {d : Device} {n o : Nat} (hn : n < 1024) (p : Party) (raw : Word)
include hn

theorem putCooked_aPIN_stored (ho : o < 0x10) : PinStored d n o (storeWord (aPIN n o) (d.cook (aPIN n o) raw).1) (d.putCooked p (aPIN n o) raw) :=
  .of_plant (putCooked_plant ..) (putCooked_aPIN_rd hn ho p raw) (putCooked_aPIN_keeps hn ho p raw)

theorem pinMapWrite_stored (ho : o < 0x10) (i : Nat) (hc : d.capo ≠ 1) :
    PinStored d n o (storeWord (aPIN n o) (d.cook (aPIN n o) raw).1) (d.pinMapWrite n o i p raw) := by
  unfold pinMapWrite
  dsimp only
  rw [if_neg hc]
  split
  · exact (putCooked_aPIN_stored hn p raw ho).pinSwitch (putCooked_plant ..)
  · exact putCooked_aPIN_stored hn p raw ho

omit hn in
theorem not_enables_of_zero (old : Nat) : (List.range 3).any (fun i => decide (old / 2 ^ i % 2 = 0) && decide (0 / 2 ^ i % 2 = 1)) = false := by
  simp

omit hn in
/-- A write of PIN_SRC that enables no source of an ANALOGUE pin is stored; a change of the enabled sources is a function switch. -/
theorem pinSrcWrite_accepted (hc : d.capo ≠ 1) (hs : d.pinOwner n ≠ 1 ∨ bitsOf raw 0 3 = 0) :
    d.pinSrcWrite n p raw =
      if bitsOf raw 0 3 = d.fget (aPIN n 0) 0 3 then d.putCooked p (aPIN n 0) raw else (d.putCooked p (aPIN n 0) raw).pinSwitch d n := by
  unfold pinSrcWrite
  dsimp only
  rw [if_neg hc, if_neg ?_]
  rintro ⟨ho, hany⟩
  obtain hno | hzero := hs
  · exact hno ho
  · rw [hzero, not_enables_of_zero] at hany
    exact Bool.false_ne_true hany

theorem pinSrcWrite_stored (hc : d.capo ≠ 1) (hs : d.pinOwner n ≠ 1 ∨ bitsOf raw 0 3 = 0) :
    PinStored d n 0 (storeWord (aPIN n 0) (d.cook (aPIN n 0) raw).1) (d.pinSrcWrite n p raw) := by
  rw [pinSrcWrite_accepted p raw hc hs]
  split
  · exact putCooked_aPIN_stored hn p raw (by decide)
  · exact (putCooked_aPIN_stored hn p raw (by decide)).pinSwitch (putCooked_plant ..)

/-- A change of the enabled sources of a DIGITAL pin. -/
theorem pinSrcWrite_switches (hc : d.capo ≠ 1) (hne : bitsOf raw 0 3 ≠ d.fget (aPIN n 0) 0 3) (ho : d.pinOwner n = 2) :
    (d.pinSrcWrite n p raw).ch n = d.switching n := by
  rw [pinSrcWrite_accepted p raw hc (.inl (by omega)), if_neg hne,
    pinSwitch_of_digital (putCooked_plant ..) ((putCooked_aPIN_pinOwner hn (by decide) p raw).trans ho), setCh_same]

omit hn in
theorem pinSrcWrite_analogue (hown : d.pinOwner n = 1) (hold : d.fget (aPIN n 0) 0 3 = 0) (hnew : bitsOf raw 0 3 ≠ 0) :
    d.pinSrcWrite n p raw = d.refuse (aPIN n 0) := by
  have hlt : bitsOf raw 0 3 < 8 := bitsOf_lt ..
  unfold pinSrcWrite
  dsimp only
  split
  · rfl
  · refine if_pos ⟨hown, ?_⟩
    rw [hold]
    revert hnew
    generalize bitsOf raw 0 3 = x at hlt ⊢
    revert x
    decide

end

/-- A write of the pin register at offset `o`: PIN_SRC, PIN_FAB or PIN_AXO. -/
def pinWrite (d : Device) (n o : Nat) (p : Party) (raw : Word) : Device :=
  if o = 0 then d.pinSrcWrite n p raw else d.pinMapWrite n o (o / 4) p raw

section
variable {d : Device} {n o : Nat} (hn : n < 1024) (ho : o < 0x10) (p : Party) (raw : Word)
include hn ho

theorem pinWrite_stored (hc : d.capo ≠ 1) (hs : o = 0 → d.pinOwner n ≠ 1 ∨ bitsOf raw 0 3 = 0) :
    PinStored d n o (storeWord (aPIN n o) (d.cook (aPIN n o) raw).1) (d.pinWrite n o p raw) := by
  unfold pinWrite
  split
  · next h0 => subst h0; exact pinSrcWrite_stored hn p raw hc (hs rfl)
  · exact pinMapWrite_stored hn p raw ho _ hc

omit hn ho in
theorem pinWrite_held (hc : d.capo = 1) : d.pinWrite n o p raw = d.refuse (aPIN n o) := by
  unfold pinWrite pinSrcWrite pinMapWrite
  dsimp only
  rw [if_pos hc, if_pos hc]
  split
  · next h0 => rw [h0]
  · rfl

end

/-! GPIO banks (R259, R262). -/

theorem gpioAdd_rd (d : Device) (w set clr tgl a : Nat) : (d.gpioAdd w set clr tgl).rd a = d.rd a := rfl

theorem gpioAdd_wait_same (d : Device) (w set clr tgl : Nat) : (d.gpioAdd w set clr tgl).gpioWait w =
    ⟨(d.gpioWait w).set ||| set, (d.gpioWait w).clr ||| clr, (d.gpioWait w).tgl ^^^ tgl⟩  := by
  unfold gpioWait gpioAdd
  dsimp only
  rw [tabGet_tabSet, if_pos rfl]
  rfl

theorem gpioAdd_wait_other (d : Device) {w m : Nat} (set clr tgl : Nat) (h : m ≠ w) : (d.gpioAdd w set clr tgl).gpioWait m = d.gpioWait m := by
  unfold gpioWait gpioAdd
  dsimp only
  rw [tabGet_tabSet, if_neg h]

theorem gpioAdd_rest (d : Device) (w set clr tgl : Nat) : { (d.gpioAdd w set clr tgl).plant with gpio := d.gpio } = d.plant := rfl

theorem pinBank_held (d : Device) (k b : Nat) (raw : Word) (hc : d.capo = 1) : d.pinBank k b raw = d.refuse (aBANK (0x4000 + 0x80 * k) b) := by
  unfold pinBank
  exact if_pos hc

/-- What a write of bank `k` adds: 0 SET, 1 CLR, 2 TGL. -/
theorem pinBank_adds (d : Device) {k : Nat} (hk : k < 3) (b : Nat) (raw : Word) (hc : d.capo ≠ 1) : d.pinBank k b raw =
    d.gpioAdd b (if k = 0 then raw.toNat else 0) (if k = 1 then raw.toNat else 0) (if k = 2 then raw.toNat else 0) := by
  unfold pinBank
  rw [if_neg hc]
  obtain rfl | rfl | rfl : k = 0 ∨ k = 1 ∨ k = 2 := by omega
  all_goals rfl

end Device

/-- The three commands of the registers of a pin. -/
theorem exec_pinWrite (n : Fin 1024) (w : Wr) (s : State) {o : Nat} {c : Instr}
    (h : (o, c) ∈ [(0, Instr.pinSrcWrite n w), (4, .pinFabWrite n w), (8, .pinAxoWrite n w)]) :
    o < 0x10 ∧ exec c s = .next (s.onDev fun d => d.write w (aPIN n o) fun d => d.pinWrite n o w.by_ w.data) := by
  simp only [List.mem_cons, Prod.mk.injEq, List.not_mem_nil, or_false] at h
  obtain ⟨rfl, rfl⟩ | ⟨rfl, rfl⟩ | ⟨rfl, rfl⟩ := h
  all_goals exact ⟨by decide, rfl⟩

/-- The three commands of the GPIO banks. -/
theorem exec_pinBank (b : Fin 32) (w : Wr) (s : State) {k : Nat} {c : Instr}
    (h : (k, c) ∈ [(0, Instr.pinSetWrite b w), (1, .pinClrWrite b w), (2, .pinTglWrite b w)]) :
    k < 3 ∧ exec c s = .next (s.onDev fun d => d.write w (aBANK (0x4000 + 0x80 * k) b) fun d => d.pinBank k b w.data) := by
  simp only [List.mem_cons, Prod.mk.injEq, List.not_mem_nil, or_false] at h
  obtain ⟨rfl, rfl⟩ | ⟨rfl, rfl⟩ | ⟨rfl, rfl⟩ := h
  all_goals exact ⟨by decide, rfl⟩

/-- Settles O41: pin mappings are stored with their function switch, the banks' bits join those that wait, and HOLD refuses both. -/
theorem pinsApply : Obligations.PinsApply := by
  unfold Obligations.PinsApply
  refine ⟨fun n w s => ⟨fun o c hoc hadm => ?_, fun hadm hown hold hnew => ?_⟩, fun b w s k c hkc hadm => ?_⟩
  · obtain ⟨ho, hexec⟩ := exec_pinWrite n w s hoc
    refine ⟨fun hc hs => ?_, fun hc => ?_⟩ <;> refine givesDev_write_as hexec hadm ?_ <;> rintro _ rfl
    · obtain ⟨hv, hothers, hown, hrest, hregs⟩ := Device.pinWrite_stored n.isLt ho w.by_ w.data hc hs
      refine ⟨hv, hothers, hown, fun h0 hne ho2 => ?_, hrest, hregs⟩
      subst h0
      rw [Device.pinWrite, if_pos rfl, Device.pinSrcWrite_switches n.isLt w.by_ w.data hc hne ho2]
      exact ⟨Device.switching_pinOld, Device.switching_holdUntil, Device.switching_pinWait⟩
    · rw [Device.pinWrite_held _ _ hc]
      exact Device.refuse_aPIN n.isLt ho
  · refine givesDev_write_as rfl hadm ?_
    rintro _ rfl
    rw [Device.pinSrcWrite_analogue _ _ hown hold hnew]
    exact Device.refuse_aPIN n.isLt (by decide)
  · obtain ⟨hk, hexec⟩ := exec_pinBank b w s hkc
    refine ⟨fun hc => ?_, fun hc => ?_⟩ <;> refine givesDev_write_as hexec hadm ?_ <;> rintro _ rfl
    · rw [s.dev.pinBank_adds hk b w.data hc]
      exact ⟨s.dev.gpioAdd_wait_same .., fun m hm => s.dev.gpioAdd_wait_other _ _ _ hm, s.dev.gpioAdd_rest .., fun a => s.dev.gpioAdd_rd ..⟩
    · rw [s.dev.pinBank_held k b w.data hc]
      exact s.dev.refuse_reports (blockEvents_aBANK hk b.isLt) (by unfold aBANK; omega) (by decide) (Device.reportReg_of_ge (by decide))

end Sys2Proof.Machine
end

section
/-!
PROOF. O42: requests for Frets queue, and the scrubber counts. What the loader's bookkeeping leaves alone.
-/

namespace Sys2Proof.Machine

-- One proof after another: the stacks of the threads that elaborate many at once exceed the memory of a check.
set_option Elab.async false

namespace Device

theorem reportReg_of_fabric {a : Nat} (h : 0xDA000 ≤ a) : reportReg a = false := by
  simp only [reportReg, List.contains_eq_mem, List.mem_cons, List.not_mem_nil, or_false, decide_eq_false_iff_not]
  omega

theorem fget_of_rd {d e : Device} {a : Nat} (h : e.rd a = d.rd a) (lo n : Nat) : e.fget a lo n = d.fget a lo n := by rw [fget, fget, h]

/-- A field of another register, or below the one written, keeps its value. -/
theorem fget_fset_apart (d : Device) {a b lo n lo' n' : Nat} (x : Nat) (hw : lo + n ≤ 32) (h : b ≠ a ∨ lo' + n' ≤ lo) :
    (d.fset a lo n x).fget b lo' n' = d.fget b lo' n' := by
  by_cases hb : b = a
  · subst hb
    exact fget_fset_disjoint _ _ _ hw (.inl (h.resolve_left fun hne => hne rfl))
  · exact fget_fset_other _ _ _ _ _ _ hb

theorem aFRET_inj {f g o o' : Nat} (ho : o < 0x20) (ho' : o' < 0x20) : aFRET f o = aFRET g o' ↔ f = g ∧ o = o' := by unfold aFRET; omega

/-- Registers that follow the loader: FABCFG_STATUS, FABCFG_CACHEUSE and each Fret's state register. -/
def loaderRegs (a : Nat) : Prop := a = 0xE0000 ∨ a = 0xE0018 ∨ ∃ g, a = aFRET g 0

theorem not_loaderRegs_aFRET {f o : Nat} (h0 : o ≠ 0) (ho : o < 0x20) : ¬ loaderRegs (aFRET f o) := by
  rintro (h | h | ⟨g, h⟩)
  · unfold aFRET at h; omega
  · unfold aFRET at h; omega
  · exact h0 ((aFRET_inj ho (by decide)).mp h).2

section
variable {α : Type} {own : Nat → Prop} {part : Device → α} (hg : ∀ x : Device, part x.plant = part x) (ho : ∀ a, loaderRegs a → own a)

theorem Keeps.setLoader (hl : ∀ (x : Device) k, part (x.setLoader k) = part x) (k : Loader) (d : Device) : Keeps own part d (d.setLoader k) :=
  .of_rd (d.setLoader_rd k) (hl ..)

include hg ho

theorem noteLoader_keeps (d : Device) : Keeps own part d d.noteLoader := by
  have hstat : own 0xE0000 := ho _ (.inl rfl)
  have hfret (f : Nat) : own (aFRET f 0) := ho _ (.inr (.inr ⟨f, rfl⟩))
  unfold noteLoader
  dsimp only
  refine (Keeps.fset hg hstat ..).trans <| (Keeps.fset hg hstat ..).trans <| (Keeps.fset hg hstat ..).trans (.foldl (fun e f _ => ?_) _)
  split
  · exact (Keeps.fsetB hg (hfret f) ..).trans (.fset hg (hfret f) ..)
  · exact .fsetB hg (hfret f) ..

theorem noteCache_keeps (d : Device) : Keeps own part d d.noteCache :=
  (Keeps.fset hg (ho _ (.inr (.inl rfl))) ..).trans (.fset hg (ho _ (.inr (.inl rfl))) ..)

variable (hl : ∀ (x : Device) k, part (x.setLoader k) = part x)
include hl

theorem cacheDrop_keeps (d : Device) (k : Nat) : Keeps own part d (d.cacheDrop k) := (Keeps.setLoader hl ..).trans (noteCache_keeps hg ho _)

theorem loaderNext_keeps (d : Device) : Keeps own part d d.loaderNext := by
  unfold loaderNext
  split
  · exact noteLoader_keeps hg ho d
  · split
    · exact noteLoader_keeps hg ho d
    · dsimp only
      refine Keeps.trans ?_ (noteLoader_keeps hg ho _)
      split
      · exact (Keeps.setLoader hl _ d).trans (cacheDrop_keeps hg ho hl ..)
      · exact .setLoader hl ..

theorem loaderDone_keeps (d : Device) : Keeps own part d d.loaderDone := (Keeps.setLoader hl _ d).trans (loaderNext_keeps hg ho hl _)

end

/-! The state of a Fret stands below the fields that follow the loader. -/

theorem noteLoader_fstat (d : Device) (g : Nat) {lo n : Nat} (h : lo + n ≤ 16) : d.noteLoader.fget (aFRET g 0) lo n = d.fget (aFRET g 0) lo n := by
  have hne : aFRET g 0 ≠ 0xE0000 := by unfold aFRET; omega
  unfold noteLoader
  dsimp only
  rw [foldl_keeps (fun x => x.fget (aFRET g 0) lo n) _ _ _ fun e f _ => ?_]
  · rw [fget_fset_other _ _ _ _ _ _ hne, fget_fset_other _ _ _ _ _ _ hne, fget_fset_other _ _ _ _ _ _ hne]
  · split
    · rw [fget_fset_apart _ _ (by decide) (.inr (by omega)), fsetB, fget_fset_apart _ _ (by decide) (.inr (by omega))]
    · rw [fsetB, fget_fset_apart _ _ (by decide) (.inr (by omega))]

theorem cacheDrop_fstat (d : Device) (k g lo n : Nat) : (d.cacheDrop k).fget (aFRET g 0) lo n = d.fget (aFRET g 0) lo n := by
  have hne : aFRET g 0 ≠ 0xE0018 := by unfold aFRET; omega
  unfold cacheDrop noteCache
  dsimp only
  rw [fget_fset_other _ _ _ _ _ _ hne, fget_fset_other _ _ _ _ _ _ hne, fget_of_rd (setLoader_rd ..)]

theorem loaderNext_fstat (d : Device) (g : Nat) {lo n : Nat} (h : lo + n ≤ 16) : d.loaderNext.fget (aFRET g 0) lo n = d.fget (aFRET g 0) lo n := by
  unfold loaderNext
  split
  · exact noteLoader_fstat d g h
  · split
    · exact noteLoader_fstat d g h
    · dsimp only
      rw [noteLoader_fstat _ _ h]
      split
      · rw [cacheDrop_fstat, fget_of_rd (setLoader_rd ..)]
      · exact fget_of_rd (setLoader_rd ..) ..

theorem loaderDone_fstat (d : Device) (g : Nat) {lo n : Nat} (h : lo + n ≤ 16) : d.loaderDone.fget (aFRET g 0) lo n = d.fget (aFRET g 0) lo n := by
  rw [loaderDone, loaderNext_fstat _ _ h, fget_of_rd (setLoader_rd ..)]

theorem noteLoader_plant (d : Device) : d.noteLoader.plant = d.plant :=
  (noteLoader_keeps (own := fun _ => True) (part := plant) (fun _ => rfl) (fun _ _ => trivial) d).part

theorem noteCache_plant (d : Device) : d.noteCache.plant = d.plant :=
  (noteCache_keeps (own := fun _ => True) (part := plant) (fun _ => rfl) (fun _ _ => trivial) d).part

/-! The queue of requests (R281). -/

/-- A request joins the queue; one of the same Fret that waited leaves it. -/
def joined (l : Loader) (r : FretReq) : Loader := { l with queue := (l.queue.filter fun x => x.fret != r.fret) ++ [r] }

/-- A request that replaces one is reported. -/
def noteReplaced (d : Device) (r : FretReq) : Device := if d.loader.queue.any fun x => x.fret == r.fret then d.event 0xE0004 2 else d

theorem enqueueReq_eq (d : Device) (r : FretReq) :
    d.enqueueReq r = ((d.noteReplaced r).setLoader (joined (d.noteReplaced r).loader r)).loaderNext := rfl

theorem noteReplaced_plant (d : Device) (r : FretReq) : (d.noteReplaced r).plant = d.plant := by
  unfold noteReplaced
  split
  · exact event_plant ..
  · rfl

theorem noteReplaced_loader (d : Device) (r : FretReq) : (d.noteReplaced r).loader = d.loader := eq_of_plant Device.loader (noteReplaced_plant d r)

theorem noteReplaced_rd (d : Device) (r : FretReq) {a : Nat} (ha : a ≠ 0xE0004) (hp : a ≠ 0xD9000) : (d.noteReplaced r).rd a = d.rd a := by
  unfold noteReplaced
  split
  · exact event_rd _ _ _ _ ha hp
  · rfl

theorem enqueueReq_keeps {α : Type} {own : Nat → Prop} {part : Device → α} (hg : ∀ x : Device, part x.plant = part x) (ho : ∀ a, loaderRegs a → own a)
    (h4 : own 0xE0004) (hl : ∀ (x : Device) k, part (x.setLoader k) = part x) (d : Device) (r : FretReq) : Keeps own part d (d.enqueueReq r) := by
  have hnoted : Keeps own part d (d.noteReplaced r) := by
    unfold noteReplaced
    split
    · exact .event hg h4 ..
    · exact .refl ..
  rw [enqueueReq_eq]
  exact hnoted.trans <| (Keeps.setLoader hl _ _).trans (loaderNext_keeps hg ho hl _)

/-- The request in progress when there is none waiting. -/
def taken (l : Loader) (r : FretReq) (e : Nat) : Loader := { l with cur := some r, isolated := false, since := e }

theorem loaderNext_waits (d : Device) (h : d.loader.cur.isSome = true ∨ d.capo = 1) : d.loaderNext.loader = d.loader := by
  unfold loaderNext
  rw [if_pos h]
  exact eq_of_plant Device.loader (noteLoader_plant d)

theorem loaderNext_takes (d : Device) {r : FretReq} {rest : List FretReq} (hcur : d.loader.cur = none) (hc : d.capo ≠ 1) (hq : d.loader.queue = r :: rest)
    (hr : r.again = false) : d.loaderNext.loader = { d.loader with queue := rest, cur := some r, isolated := false, since := d.edge } := by
  unfold loaderNext
  rw [if_neg (by simp [hcur, hc]), hq]
  dsimp only
  rw [hr, if_neg (by simp)]
  exact eq_of_plant Device.loader (noteLoader_plant _)

section
variable (d : Device) (r : FretReq)

theorem enqueue_capo : ((d.noteReplaced r).setLoader (joined (d.noteReplaced r).loader r)).capo = d.capo :=
  fget_of_rd ((setLoader_rd ..).trans (noteReplaced_rd d r (by decide) (by decide))) 0 2

theorem enqueueReq_waits (h : d.loader.cur.isSome = true ∨ d.capo = 1) : (d.enqueueReq r).loader = joined d.loader r := by
  rw [enqueueReq_eq, loaderNext_waits _ (by rwa [enqueue_capo, setLoader_loader, noteReplaced_loader]), setLoader_loader, noteReplaced_loader]

theorem enqueueReq_taken (hcur : d.loader.cur = none) (hq : d.loader.queue = []) (hc : d.capo ≠ 1) (hr : r.again = false) :
    (d.enqueueReq r).loader = taken d.loader r d.edge := by
  have hedge : ((d.noteReplaced r).setLoader (joined (d.noteReplaced r).loader r)).edge = d.edge :=
    (setLoader_edge ..).trans (eq_of_plant Device.edge (noteReplaced_plant d r))
  rw [enqueueReq_eq, loaderNext_takes (r := r) (rest := []) _ (by rw [setLoader_loader, noteReplaced_loader]; exact hcur) (by rwa [enqueue_capo])
    (by rw [setLoader_loader, noteReplaced_loader, joined, hq]; rfl) hr, hedge, setLoader_loader, noteReplaced_loader, taken, joined]
  dsimp only
  rw [hq]

theorem dropRetry_fret (f : Nat) : (d.dropRetry f).fret f = { d.fret f with retry := none } :=
  (eq_of_plant (fun x => x.fret f) (fsetB_plant ..)).trans (setFret_same ..)

theorem dropRetry_other {f g : Nat} (h : g ≠ f) : (d.dropRetry f).fret g = d.fret g :=
  (eq_of_plant (fun x => x.fret g) (fsetB_plant ..)).trans (setFret_other _ _ _ _ h)

end

/-! A write of FABCFG_LOAD (R281). -/

/-- The request of the word that a write of FABCFG_LOAD gives. -/
def loadReq (v : Word) : FretReq := ⟨bitsOf v 0 6, bitsOf v 8 8, bitsOf v 16 2, false, false⟩

/-- A request that is accepted, before it joins the queue. -/
def uncounted (d : Device) (f : Nat) : Device := (d.dropRetry f).fset (aFRET f 4) 0 16 0

theorem acceptReq_eq (d : Device) (r : FretReq) : d.acceptReq r = (d.uncounted r.fret).enqueueReq r := rfl

section
variable (d : Device) (f : Nat)

theorem uncounted_fret : (d.uncounted f).fret f = { d.fret f with retry := none } :=
  (eq_of_plant (fun x => x.fret f) (fset_plant ..)).trans (dropRetry_fret ..)

theorem uncounted_other {g : Nat} (h : g ≠ f) : (d.uncounted f).fret g = d.fret g :=
  (eq_of_plant (fun x => x.fret g) (fset_plant ..)).trans (dropRetry_other _ h)

theorem uncounted_keeps {α : Type} {own : Nat → Prop} {part : Device → α} (hg : ∀ x : Device, part x.plant = part x) (h0 : own (aFRET f 0))
    (h4 : own (aFRET f 4)) (hf : ∀ (x : Device) f y, part (x.setFret f y) = part x) : Keeps own part d (d.uncounted f) :=
  (Keeps.setFret hf ..).trans <| (Keeps.fsetB hg h0 ..).trans (.fset hg h4 ..)

end

/-- What belongs neither to the loader nor to a Fret, beside `d`'s. -/
def besideLoader (d x : Device) : Device := { x.plant with loader := d.loader, frets := d.frets }

section
variable {d x : Device} {r : FretReq}

theorem acceptReq_frets (hx : x.plant = d.plant) :
    ((x.acceptReq r).fret r.fret).retry = none ∧ (∀ g, g ≠ r.fret → (x.acceptReq r).fret g = d.fret g) ∧
    { (x.acceptReq r).plant with loader := d.loader, frets := d.frets } = d.plant := by
  have hfrets (y : Device) : (y.enqueueReq r).frets = y.frets :=
    (enqueueReq_keeps (own := fun _ => True) (part := Device.frets) (fun _ => rfl) (fun _ _ => trivial) trivial (fun _ _ => rfl) y r).part
  have hfret (y : Device) (g : Nat) : (y.enqueueReq r).fret g = y.fret g := by rw [fret, fret, hfrets]
  have hold (g : Nat) : x.fret g = d.fret g := eq_of_plant (fun x => x.fret g) hx
  refine ⟨?_, fun g hg => ?_, ?_⟩
  · rw [acceptReq_eq, hfret, uncounted_fret]
  · rw [acceptReq_eq, hfret, uncounted_other _ _ hg, hold]
  · have hrest : besideLoader d (x.acceptReq r) = besideLoader d x :=
      ((uncounted_keeps (own := fun _ => True) (part := besideLoader d) x r.fret (fun _ => rfl) trivial trivial (fun _ _ _ => rfl)).trans
        (enqueueReq_keeps (fun _ => rfl) (fun _ _ => trivial) trivial (fun _ _ => rfl) _ r)).part
    refine hrest.trans ?_
    rw [besideLoader, hx]
    rfl

theorem uncounted_loader (hx : x.plant = d.plant) : (x.uncounted r.fret).loader = d.loader :=
  (uncounted_keeps (own := fun _ => True) (part := Device.loader) x r.fret (fun _ => rfl) trivial trivial (fun _ _ _ => rfl)).part.trans
    (eq_of_plant Device.loader hx)

theorem uncounted_capo (hc : x.capo = d.capo) (f : Nat) : (x.uncounted f).capo = d.capo := by
  have hkeep := uncounted_keeps (own := fun a => ∃ o, a = aFRET f o) (part := fun _ => ()) x f (fun _ => rfl) ⟨0, rfl⟩ ⟨4, rfl⟩ (fun _ _ _ => rfl)
  exact (fget_of_rd (hkeep.regs _ (fun ⟨o, h⟩ => by unfold aFRET at h; omega) (by decide)) 0 2).trans hc

theorem acceptReq_waits (hx : x.plant = d.plant) (hc : x.capo = d.capo) (h : d.loader.cur.isSome = true ∨ d.capo = 1) :
    (x.acceptReq r).loader = joined d.loader r := by
  rw [acceptReq_eq, enqueueReq_waits _ _ (by rwa [uncounted_loader hx, uncounted_capo hc]), uncounted_loader hx]

theorem acceptReq_taken (hx : x.plant = d.plant) (hc : x.capo = d.capo) (hcur : d.loader.cur = none) (hq : d.loader.queue = []) (hn : d.capo ≠ 1)
    (hr : r.again = false) : (x.acceptReq r).loader = taken d.loader r d.edge := by
  have hedge : (x.uncounted r.fret).edge = d.edge :=
    (uncounted_keeps (own := fun _ => True) (part := Device.edge) x r.fret (fun _ => rfl) trivial trivial (fun _ _ _ => rfl)).part.trans
      (eq_of_plant Device.edge hx)
  rw [acceptReq_eq, enqueueReq_taken _ _ (by rwa [uncounted_loader hx]) (by rwa [uncounted_loader hx]) (by rwa [uncounted_capo hc]) hr, uncounted_loader hx,
    hedge]

/-- A request is judged by the registers of its Fret and of its region. -/
theorem reqOk_congr (h0 : x.rd (aFRET r.fret 0) = d.rd (aFRET r.fret 0)) (hc : x.rd (aCATLG r.region 0) = d.rd (aCATLG r.region 0)) : x.reqOk r = d.reqOk r := by
  unfold reqOk fretState
  rw [fget_of_rd h0, flag_eq_of_rd_eq hc, fget_of_rd hc]

end

/-- The clamps of a write of FABCFG_LOAD are reported. -/
def loadReported (d : Device) (p : Party) (raw : Word) : Device := d.reportHits (srcOf p) 0xE0008 0xE0008 0 0xFFFF (d.cook 0xE0008 raw).2

theorem loadWrite_eq (d : Device) (p : Party) {raw : Word} (hgo : bitOf raw 31 = true) : d.loadWrite p raw =
    if (d.loadReported p raw).reqOk (loadReq (d.cook 0xE0008 raw).1) then (d.loadReported p raw).acceptReq (loadReq (d.cook 0xE0008 raw).1)
    else (d.loadReported p raw).refuse 0xE0008 := by
  unfold loadWrite loadReported loadReq
  dsimp only
  rw [hgo, if_neg (by decide)]

theorem loadReported_rd (d : Device) (p : Party) (raw : Word) {a : Nat} (ha : a ≠ 0xE0004) (hr : reportReg a = false) : (d.loadReported p raw).rd a = d.rd a :=
  reportHits_rd _ _ _ _ _ _ _ _ (fun h => ha ((eventReg_of_blockEvents (by rfl) (by decide)).mp h)) hr

theorem loadReported_plant (d : Device) (p : Party) (raw : Word) : (d.loadReported p raw).plant = d.plant := reportHits_plant ..

theorem loadReported_capo (d : Device) (p : Party) (raw : Word) : (d.loadReported p raw).capo = d.capo :=
  fget_of_rd (loadReported_rd _ _ _ (by decide) (by decide)) 0 2

theorem loadReported_reqOk (d : Device) (p : Party) (raw : Word) (r : FretReq) : (d.loadReported p raw).reqOk r = d.reqOk r :=
  reqOk_congr (loadReported_rd _ _ _ (by unfold aFRET; omega) (reportReg_of_fabric (by unfold aFRET; omega)))
    (loadReported_rd _ _ _ (by unfold aCATLG; omega) (reportReg_of_fabric (by unfold aCATLG; omega)))

/-! A class P fault of a Fret (R294). -/

/-- The Fret is FAULTED, with its reports. -/
def faultNoted (d : Device) (f : Nat) : Device :=
  ((((d.report { entry .p 0x07 f 0x11 0 with action := 4 }).setFretState f 4).event 0xE0004 7).fsetB (aFRET f 8) 3 true).fsetB (0x50314 + 4 * (f / 32)) (f % 32) true

/-- The Fret's content and its events are lost. -/
def contentLost (d : Device) (f : Nat) : Device := d.setFret f { d.fret f with live := [], events := [], content := 0 }

/-- The requests of the Fret leave the queue. -/
def unqueued (l : Loader) (f : Nat) : Loader := { l with queue := l.queue.filter fun r => r.fret != f }

/-- The Fret is FAULTED, and its events, its retry and its requests are gone. -/
def faulted (d : Device) (f : Nat) : Device := 
  ((((d.faultNoted f).contentLost f).fset (aFRET f 0x18) 0 11 0).dropRetry f).setLoader (unqueued ((d.faultNoted f).contentLost f).loader f)

/-- Its compare units return to FREE. -/
def freeCmps (d : Device) (f : Nat) : Device :=
  (List.range 256).foldl (fun d i =>
    let c := aCMP (i / 64) (i % 64) 8
    if d.fget c 22 3 = 3 ∧ d.fget c 25 6 = f then (d.fset c 22 3 0).fset c 25 6 0 else d) d

/-- Its request in progress ends. -/
def faultEnd (d : Device) (f : Nat) : Device :=
  match d.loader.cur with
  | some r => if r.fret = f then d.loaderDone else d.noteLoader
  | none => d.noteLoader

/-- A fault with what follows it left open: so the kernel compares its steps without evaluating them. -/
def faultThen (d : Device) (f : Nat) (k : Device → Device) : Device :=
  let d := (d.report { entry .p 0x07 f 0x11 0 with action := 4 }).setFretState f 4
  let d := ((d.event 0xE0004 7).fsetB (aFRET f 8) 3 true).fsetB (0x50314 + 4 * (f / 32)) (f % 32) true
  let d := d.setFret f { d.fret f with live := [], events := [], content := 0 }
  let d := ((d.fset (aFRET f 0x18) 0 11 0).dropRetry f).setLoader { d.loader with queue := d.loader.queue.filter fun r => r.fret != f }
  let d := (List.range 256).foldl (fun d i =>
    let c := aCMP (i / 64) (i % 64) 8
    if d.fget c 22 3 = 3 ∧ d.fget c 25 6 = f then (d.fset c 22 3 0).fset c 25 6 0 else d) d
  k d

theorem fretFault_eq_faultThen (d : Device) (f : Nat) : d.fretFault f = d.faultThen f fun e => match e.loader.cur with
    | some r => if r.fret = f then e.loaderDone else e.noteLoader
    | none => e.noteLoader := rfl

theorem faultThen_eq (d : Device) (f : Nat) (k : Device → Device) : d.faultThen f k = k ((d.faulted f).freeCmps f) := rfl

theorem fretFault_eq (d : Device) (f : Nat) : d.fretFault f = ((d.faulted f).freeCmps f).faultEnd f :=
  (d.fretFault_eq_faultThen f).trans (d.faultThen_eq f fun e => e.faultEnd f)

theorem setFretState_keeps {α : Type} {own : Nat → Prop} {part : Device → α} (hg : ∀ x : Device, part x.plant = part x) {f : Nat} (h0 : own (aFRET f 0))
    (d : Device) (s : Nat) : Keeps own part d (d.setFretState f s) := .fset hg h0 ..

theorem dropRetry_keeps {α : Type} {own : Nat → Prop} {part : Device → α} (hg : ∀ x : Device, part x.plant = part x)
    (hfr : ∀ (x : Device) f y, part (x.setFret f y) = part x) {f : Nat} (h0 : own (aFRET f 0)) (d : Device) : Keeps own part d (d.dropRetry f) :=
  (Keeps.setFret hfr ..).trans (.fsetB hg h0 ..)

/-- Registers that the end of a fault writes: those of the loader and of compare units. -/
def faultRegs (a : Nat) : Prop := loaderRegs a ∨ a < 0x80000

section
variable {α : Type} {own : Nat → Prop} {part : Device → α} (hg : ∀ x : Device, part x.plant = part x)
include hg

theorem freeCmps_keeps (hlow : ∀ a, a < 0x80000 → own a) (d : Device) (f : Nat) : Keeps own part d (d.freeCmps f) := by
  refine .foldl (fun e i hi => ?_) d
  have hown : own (aCMP (i / 64) (i % 64) 8) := hlow _ (by have := List.mem_range.mp hi; unfold aCMP; omega)
  dsimp only
  split
  · exact (Keeps.fset hg hown ..).trans (.fset hg hown ..)
  · exact .refl ..

variable (ho : ∀ a, faultRegs a → own a)
include ho

variable (hl : ∀ (x : Device) k, part (x.setLoader k) = part x)
include hl

theorem faultEnd_keeps (d : Device) (f : Nat) : Keeps own part d (d.faultEnd f) := by
  have hlr (a : Nat) (h : loaderRegs a) : own a := ho a (.inl h)
  unfold faultEnd
  split
  · split
    · exact loaderDone_keeps hg hlr hl d
    · exact noteLoader_keeps hg hlr d
  · exact noteLoader_keeps hg hlr d

variable {f : Nat} (hf : f < 48) (hfr : ∀ (x : Device) f y, part (x.setFret f y) = part x) (h4 : own 0xE0004) (h8 : own (aFRET f 8)) (h18 : own (aFRET f 0x18))
include hf hfr h4 h8 h18

theorem faulted_keeps (d : Device) : Keeps own part d (d.faulted f) := by
  have h0 : own (aFRET f 0) := ho _ (.inl (.inr (.inr ⟨f, rfl⟩)))
  have hq : own (0x50314 + 4 * (f / 32)) := ho _ (.inr (by omega))
  have hnoted (e : Device) : Keeps own part e (e.faultNoted f) :=
    (Keeps.report hg ..).trans <| (setFretState_keeps hg h0 ..).trans <| (Keeps.event hg h4 ..).trans <| (Keeps.fsetB hg h8 ..).trans (.fsetB hg hq ..)
  have hlost (e : Device) : Keeps own part e (e.contentLost f) := .setFret hfr ..
  exact (hnoted d).trans <| (hlost _).trans <| (Keeps.fset hg h18 ..).trans <| (dropRetry_keeps hg hfr h0 _).trans (.setLoader hl ..)

theorem fretFault_keeps (d : Device) : Keeps own part d (d.fretFault f) := by
  rw [fretFault_eq]
  exact (faulted_keeps hg ho hl hf hfr h4 h8 h18 d).trans <| (freeCmps_keeps hg (fun a h => ho a (.inr h)) ..).trans (faultEnd_keeps hg ho hl ..)

end

section
variable {d : Device} {f : Nat}

/-- After a fault the events of the Fret stand. -/
theorem fretFault_of_faulted {a : Nat} (h : ¬ faultRegs a) (hr : reportReg a = false) : (d.fretFault f).rd a = (d.faulted f).rd a := by
  have hend : Keeps faultRegs (fun _ => ()) (d.faulted f) (d.fretFault f) :=
    d.fretFault_eq f ▸ (freeCmps_keeps (fun _ => rfl) (fun _ h => .inr h) _ f).trans (faultEnd_keeps (fun _ => rfl) (fun _ h => h) (fun _ _ => rfl) _ f)
  exact hend.regs a h hr

end

theorem faultNoted_off (d : Device) {f : Nat} (hf : f < 48) {a : Nat} (h0 : a ≠ aFRET f 0) (h4 : a ≠ 0xE0004) (h8 : a ≠ aFRET f 8) (hlow : 0xDA000 ≤ a) :
    (d.faultNoted f).rd a = d.rd a := by
  unfold faultNoted setFretState
  rw [rd_fsetB_other _ _ _ (by omega), rd_fsetB_other _ _ _ h8, event_rd _ _ _ _ h4 (by omega), rd_fset_other _ _ _ _ h0,
    report_rd _ _ _ _ (reportReg_of_fabric hlow)]

theorem faulted_off (d : Device) {f : Nat} {a : Nat} (h0 : a ≠ aFRET f 0) (h18 : a ≠ aFRET f 0x18) : (d.faulted f).rd a = (d.faultNoted f).rd a := by
  unfold faulted dropRetry contentLost
  rw [setLoader_rd, rd_fsetB_other _ _ _ h0, setFret_rd, rd_fset_other _ _ _ _ h18, setFret_rd]

/-- The event of an upset stands beside those of the fault. -/
theorem fretFault_flag (d : Device) {f j : Nat} (hf : f < 48) (hj : j < 3) : (d.fretFault f).flag (aFRET f 8) j = d.flag (aFRET f 8) j := by
  have hne {o : Nat} (ho : o < 0x20) (h : 8 ≠ o) : aFRET f 8 ≠ aFRET f o := fun he => h ((aFRET_inj (by decide) ho).mp he).2
  have hlow : 0xDA000 ≤ aFRET f 8 := by unfold aFRET; omega
  rw [flag_eq_of_rd_eq (fretFault_of_faulted (fun h => ?_) (reportReg_of_fabric hlow)), flag_eq_of_rd_eq (faulted_off _ (hne (by decide) (by decide)) (hne (by decide) (by decide)))]
  · unfold faultNoted setFretState
    rw [flag_eq_of_rd_eq (rd_fsetB_other _ _ _ (by omega)), flag_fsetB_other _ _ (by omega) (by decide),
      flag_eq_of_rd_eq (event_rd _ _ _ _ (by unfold aFRET; omega) (by omega)), flag_eq_of_rd_eq (rd_fset_other _ _ _ _ (hne (by decide) (by decide))),
      flag_eq_of_rd_eq (report_rd _ _ _ _ (reportReg_of_fabric hlow))]
  · exact h.elim (not_loaderRegs_aFRET (by decide) (by decide)) (by omega)

/-! The scrubber (R290 to R292). -/

/-- The scrubber moves on. -/
def withScrub (d : Device) (x : Scrub) : Device := { d with scrub := x }

theorem withScrub_rd (d : Device) (x : Scrub) (a : Nat) : (d.withScrub x).rd a = d.rd a := rfl
theorem withScrub_frets (d : Device) (x : Scrub) : (d.withScrub x).frets = d.frets := rfl
theorem withScrub_scrub (d : Device) (x : Scrub) : (d.withScrub x).scrub = x := rfl

section
variable (d : Device) {f : Nat} (hf : f < 48)

/-- An essential upset as it is counted. -/
def upsetCounted (d : Device) (f : Nat) : Device := (d.bump (aFRET f 0xC) 16 16).fsetB (aFRET f 8) 0 true

/-- The repair of an upset is reported, and a RESET may follow. -/
def upsetReported (d : Device) (f : Nat) : Device := ((d.report { entry .t 0x07 f 0x10 0 with action := 9 }).noteT (.fret (Fin.ofNat 48 f))).upsetReset f

theorem upset_essential : d.upset f true =
    if (d.upsetCounted f).tooMany (.fret (Fin.ofNat 48 f)) then (d.upsetCounted f).fretFault f else (d.upsetCounted f).upsetReported f := by
  unfold upset
  rw [if_pos rfl]
  rfl

theorem upset_other : d.upset f false = d.bump (aFRET f 0xC) 0 16 := rfl

theorem upsetCounted_count : (d.upsetCounted f).fget (aFRET f 0xC) 16 16 = (d.fget (aFRET f 0xC) 16 16 + 1) % 2 ^ 16 := by
  have hne : aFRET f 0xC ≠ aFRET f 8 := fun he => absurd ((aFRET_inj (by decide) (by decide)).mp he).2 (by decide)
  unfold upsetCounted
  rw [fget_of_rd (rd_fsetB_other _ _ _ hne)]
  exact fget_fset_same _ _ _ (by decide)

theorem noteT_rd (r : Resource) (a : Nat) : (d.noteT r).rd a = d.rd a := rfl

theorem upsetReset_rd {a : Nat} (h : ¬ loaderRegs a) (hr : reportReg a = false) : (d.upsetReset f).rd a = d.rd a := by
  unfold upsetReset
  split
  · refine ((loaderNext_keeps (own := loaderRegs) (part := fun _ => ()) (fun _ => rfl) (fun _ h => h) (fun _ _ => rfl) _).regs _ h hr).trans ?_
    exact setLoader_rd ..
  · rfl

theorem upsetReported_rd {a : Nat} (h : ¬ loaderRegs a) (hr : reportReg a = false) : (d.upsetReported f).rd a = d.rd a := by
  unfold upsetReported
  rw [upsetReset_rd _ h hr, noteT_rd, report_rd _ _ _ _ hr]

include hf

theorem upset_counts : (d.upset f true).fget (aFRET f 0xC) 16 16 = (d.fget (aFRET f 0xC) 16 16 + 1) % 2 ^ 16 := by
  have hlow : 0xDA000 ≤ aFRET f 0xC := by unfold aFRET; omega
  have hoff : ¬ faultRegs (aFRET f 0xC) := fun h => h.elim (not_loaderRegs_aFRET (by decide) (by decide)) (by omega)
  have hne {o : Nat} (ho : o < 0x20) (h : 0xC ≠ o) : aFRET f 0xC ≠ aFRET f o := fun he => h ((aFRET_inj (by decide) ho).mp he).2
  rw [← d.upsetCounted_count, upset_essential]
  split
  · rw [fget_of_rd (fretFault_of_faulted hoff (reportReg_of_fabric hlow)), fget_of_rd (faulted_off _ (hne (by decide) (by decide)) (hne (by decide) (by decide))),
      fget_of_rd (faultNoted_off _ hf (hne (by decide) (by decide)) (by unfold aFRET; omega) (hne (by decide) (by decide)) hlow)]
  · exact fget_of_rd (upsetReported_rd _ (not_loaderRegs_aFRET (by decide) (by decide)) (reportReg_of_fabric hlow)) ..

theorem upset_event : (d.upset f true).flag (aFRET f 8) 0 = true := by
  have hset : (d.upsetCounted f).flag (aFRET f 8) 0 = true := flag_fsetB_same _ _ (by decide)
  rw [upset_essential]
  split
  · rw [fretFault_flag _ hf (by decide), hset]
  · rw [flag_eq_of_rd_eq (upsetReported_rd _ (not_loaderRegs_aFRET (by decide) (by decide)) (reportReg_of_fabric (by unfold aFRET; omega))), hset]

end

section
variable (d : Device) (hon : d.fabricOn = true) (hdue : d.scrub.last + 20 ≤ d.edge)
include hon hdue

/-- A frame without an error only moves the scrubber on. -/
theorem scrubStep_clean (hn : d.scrub.next + 1 < 12288) :
    d.scrubStep .clean = { d with scrub := { next := d.scrub.next + 1, last := d.edge, good := d.scrub.good } } := by
  unfold scrubStep
  rw [if_neg (by simp only [hon, Bool.not_true, Bool.false_eq_true, false_or]; omega)]
  dsimp only
  rw [if_pos hn, ite_self]
  simp

/-- The last frame ends the pass. -/
theorem scrubStep_pass (hn : d.scrub.next + 1 = 12288) : d.scrubStep .clean =
    ({ d with scrub := { next := 0, last := d.edge, good := true } }.bump 0xE000C 0 16).fsetB 0xE000C 16 d.scrub.good := by
  unfold scrubStep
  rw [if_neg (by simp only [hon, Bool.not_true, Bool.false_eq_true, false_or]; omega)]
  dsimp only
  rw [if_neg (by omega), ite_self]
  simp

/-- An upset of a Fret that receives its inputs. -/
theorem scrubStep_upset {x : FrameCheck} (hx : x = .multi ∨ ∃ b, x = .single b) (hn : d.scrub.next + 1 < 12288)
    (hlive : d.fretLive (d.scrub.next / 256) = true) : ∃ g e, d.scrubStep x =
      (d.upset (d.scrub.next / 256) (d.essential (d.scrub.next / 256) (d.scrub.next % 256) x)).withScrub ⟨d.scrub.next + 1, e, g⟩ := by
  unfold scrubStep
  rw [if_neg (by simp only [hon, Bool.not_true, Bool.false_eq_true, false_or]; omega)]
  dsimp only
  rw [if_pos hn, hlive, if_neg (by decide)]
  obtain rfl | ⟨b, rfl⟩ := hx <;> exact ⟨_, _, rfl⟩

end

/-- What the end of a pass leaves. -/
theorem passEnded_spec (d : Device) (x : Scrub) (g : Bool) : (let t := ({ d with scrub := x }.bump 0xE000C 0 16).fsetB 0xE000C 16 g
    t.scrub = x ∧ t.fget 0xE000C 0 16 = (d.fget 0xE000C 0 16 + 1) % 2 ^ 16 ∧ t.flag 0xE000C 16 = g ∧ { t.plant with scrub := d.scrub } = d.plant ∧
    ∀ a, a ≠ 0xE000C → t.rd a = d.rd a) := by
  dsimp only
  refine ⟨?_, ?_, flag_fsetB_same _ _ (by decide), ?_, fun a ha => ?_⟩
  · rw [eq_of_plant Device.scrub (fsetB_plant ..), eq_of_plant Device.scrub (bump_plant ..)]
  · rw [fsetB, fget_fset_disjoint _ _ _ (by decide) (by decide)]
    exact fget_fset_same _ _ _ (by decide)
  · rw [fsetB_plant, bump_plant]
    rfl
  · rw [rd_fsetB_other _ _ _ ha, bump, rd_fset_other _ _ _ _ ha]
    rfl

/-- An upset is counted; an essential one sets its event. -/
theorem upset_spec (d : Device) {f : Nat} (hf : f < 48) (ess : Bool) (x : Scrub) : (let t := (d.upset f ess).withScrub x
    t.fget (aFRET f 0xC) (if ess then 16 else 0) 16 = (d.fget (aFRET f 0xC) (if ess then 16 else 0) 16 + 1) % 2 ^ 16 ∧
    (ess = true → t.flag (aFRET f 8) 0 = true) ∧ (ess = false → t.frets = d.frets ∧ ∀ a, a ≠ aFRET f 0xC → t.rd a = d.rd a)) := by
  dsimp only
  rw [fget_of_rd (withScrub_rd ..), flag_eq_of_rd_eq (withScrub_rd ..), withScrub_frets]
  cases ess with
  | true => exact ⟨d.upset_counts hf, fun _ => d.upset_event hf, fun h => absurd h (by decide)⟩
  | false =>
    rw [upset_other]
    refine ⟨fget_fset_same _ _ _ (by decide), fun h => absurd h (by decide), fun _ => ⟨eq_of_plant Device.frets (bump_plant ..), fun a ha => ?_⟩⟩
    rw [withScrub_rd, bump, rd_fset_other _ _ _ _ ha]

end Device

/-- The three commands of FABCFG_LOAD write their operation. -/
theorem exec_loadWrite (w : Wr) (s : State) {raw : Word} {c : Instr}
    (h : (raw, c) ∈ [(setBits w.data 16 2 0, Instr.fretLoad w), (setBits w.data 16 2 1, .fretUnload w), (setBits w.data 17 1 1, .fretReset w)]) :
    bitOf raw 31 = bitOf w.data 31 ∧ exec c s = .next (s.onDev fun d => d.write w 0xE0008 fun d => d.loadWrite w.by_ raw) := by
  have hgo (lo n x : Nat) (hlo : lo + n ≤ 31) : bitOf (setBits w.data lo n x) 31 = bitOf w.data 31 := by
    unfold bitOf
    rw [bitsOf_setBits_disjoint _ _ (by omega) (.inr hlo)]
  simp only [List.mem_cons, Prod.mk.injEq, List.not_mem_nil, or_false] at h
  obtain ⟨rfl, rfl⟩ | ⟨rfl, rfl⟩ | ⟨rfl, rfl⟩ := h
  all_goals exact ⟨hgo _ _ _ (by decide), rfl⟩

/-- Settles O42: requests that can be accepted join the queue or are taken, and the scrubber counts what it finds. -/
theorem fretRequestsAndScrubber : Obligations.FretRequestsAndScrubber := by
  unfold Obligations.FretRequestsAndScrubber
  refine ⟨fun w s raw c hc hadm hgo => ?_, fun s hon hdue => ⟨fun hn => ?_, fun hn => ?_, fun x hx hn hlive => ?_⟩⟩
  · obtain ⟨hgo', hexec⟩ := exec_loadWrite w s hc
    rw [hgo] at hgo'
    have hplant := s.dev.loadReported_plant w.by_ raw
    have hcapo := s.dev.loadReported_capo w.by_ raw
    refine ⟨fun hok => ?_, fun hno => ?_⟩ <;> refine givesDev_write_as hexec hadm ?_ <;> rintro _ rfl <;> rw [s.dev.loadWrite_eq _ hgo', s.dev.loadReported_reqOk]
    · obtain ⟨hretry, hothers, hrest⟩ := Device.acceptReq_frets (r := Device.loadReq (s.dev.cook 0xE0008 raw).1) hplant
      rw [if_pos (show s.dev.reqOk (Device.loadReq _) = true from hok)]
      exact ⟨fun hcur hq hn => Device.acceptReq_taken hplant hcapo hcur hq hn rfl, fun h => Device.acceptReq_waits hplant hcapo h, hretry, hothers, hrest⟩
    · obtain ⟨hp, hflag, hregs⟩ := (s.dev.loadReported w.by_ raw).refuse_reports (a := 0xE0008) (e := 0xE0004) (c := 0) (r := 1) (by rfl) (by decide) (by decide)
        (by decide)
      rw [if_neg (show ¬ s.dev.reqOk (Device.loadReq _) = true from Bool.eq_false_iff.mp hno)]
      exact ⟨hp.trans hplant, hflag, fun a ha hr => (hregs a ha hr).trans (s.dev.loadReported_rd _ _ ha hr)⟩
  · refine ⟨s.onDev fun d => d.scrubStep .clean, rfl, rfl, rfl, ?_⟩
    rw [State.onDev_dev, s.dev.scrubStep_clean hon hdue hn]
  · refine givesDev_onDev_as rfl ?_
    rintro _ rfl
    rw [s.dev.scrubStep_pass hon hdue hn]
    exact s.dev.passEnded_spec _ _
  · obtain ⟨g, e, hstep⟩ := s.dev.scrubStep_upset hon hdue hx hn hlive
    have hf : s.dev.scrub.next / 256 < 48 := by omega
    refine givesDev_onDev_as rfl ?_
    rintro _ rfl
    rw [hstep]
    exact ⟨s.dev.upset_spec hf _ _, congrArg Scrub.next (Device.withScrub_scrub ..)⟩

end Sys2Proof.Machine
end

section
/-!
PROOF. O44: the shell port, the window and the border outputs of a Fret.
-/

namespace Sys2Proof.Machine

-- One proof after another: the stacks of the threads that elaborate many at once exceed the memory of a check.
set_option Elab.async false

namespace Device

variable (d : Device)

/-! The shell port (R275, R285). -/

theorem shellWrite_live {f : Fin 48} (hl : d.fretLive f = true) (hon : d.fabricOn = true) (a : Nat) (be : BitVec 4) (data : Word) :
    d.shellWrite f a be data = d.write ⟨.shell f, be, data⟩ a fun d => d.shellRoute a (.shell f) data := by
  unfold shellWrite
  rw [hl, hon]
  rfl

theorem shellWrite_isolated {f : Fin 48} (hl : d.fretLive f = false) (a : Nat) (be : BitVec 4) (data : Word) : d.shellWrite f a be data = d := by
  unfold shellWrite
  rw [hl]
  rfl

theorem shellRoute_set (b : Fin 32) (p : Party) (raw : Word) : d.shellRoute (aBANK 0x4000 b) p raw = d.pinBank 0 b raw := by
  have hb := b.isLt
  have hbank : (aBANK 0x4000 b - 0x184000) / 0x80 = 0 := by unfold aBANK; omega
  have hword : (aBANK 0x4000 b - 0x184000) % 0x80 / 4 = b := by unfold aBANK; omega
  unfold shellRoute
  rw [if_pos (by unfold aBANK; omega), hbank, hword]

/-- A write without the Fret's grant is refused and reported. -/
theorem write_ungranted {f : Fin 48} {a : Nat} {data : Word} (k : Device → Device) (hd : d.dead a = false) (hg : d.shellGrants f a data = false) :
    d.write ⟨.shell f, 15, data⟩ a k = d.refuseShell a := by
  have hno : d.admits ⟨.shell f, 15, data⟩ a = false := by
    unfold admits
    dsimp only
    rw [hg, Bool.and_false, Bool.and_false]
  unfold write turnAway
  rw [hno, if_neg (by decide), if_neg (fun h => h rfl), hd, if_neg (by decide)]

theorem refuseShell_reports (a : Nat) : (d.refuseShell a).plant = d.plant ∧ (d.refuseShell a).flag 0xE0004 5 = true ∧
    keepsRegs (fun b => b = 0xE0004) d (d.refuseShell a) := by
  refine ⟨refuseShell_plant .., ?_, fun b hne hr => ?_⟩
  · rw [refuseShell, flag_eq_of_rd_eq (noticeRefused_rd _ _ _ (by decide))]
    exact event_flag _ _ _ (by decide) (by decide)
  · rw [refuseShell, noticeRefused_rd _ _ _ hr, event_rd _ _ _ _ hne (ne_pending_of_reportReg hr)]

/-! The window and the border outputs (R273, R276). -/

theorem windowTimeout_answers : d.windowTimeout.answer = leBytes 4 0 ∧ d.windowTimeout.flag 0xE0004 6 = true ∧
    { d.windowTimeout.plant with answer := d.answer } = d.plant := by
  have hplant : d.windowTimeout.plant = { (d.event 0xE0004 6).plant with answer := leBytes 4 0 } := rfl
  refine ⟨rfl, ?_, ?_⟩
  · unfold windowTimeout
    rw [flag_eq_of_rd_eq (answer_rd ..)]
    exact event_flag _ _ _ (by decide) (by decide)
  · rw [hplant, event_plant]
    rfl

theorem windowAccess_open {f : Nat} (h : d.windowOpen f = true) (o : BitVec 18) (v : Word) :
    d.windowAccess f (.read o v) = { d with answer := leBytes 4 v.toNat } := if_pos h

theorem windowAccess_closed {f : Nat} (h : d.windowOpen f = false) (o : BitVec 18) (v : Word) : d.windowAccess f (.read o v) = d.windowTimeout :=
  if_neg (Bool.eq_false_iff.mp h)

theorem borderChange_live {f : Nat} (sig : Nat) (level : Bool) (hl : d.fretLive f = true) (hon : d.fabricOn = true) :
    d.borderChange f sig level = d.setFret f { d.fret f with live := tabSet (fun _ => false) sig level (d.fret f).live } := if_pos ⟨hl, hon⟩

end Device

/-- Settles O44: a granted write waits for its edge, an isolated Fret writes nothing, and windows and border outputs follow the design. -/
theorem fretPortsAct : Obligations.FretPortsAct := by
  unfold Obligations.FretPortsAct
  refine fun f s => ⟨fun b data hl hon hadm hc => ?_, fun addr be data hl => ?_, fun addr data hl hon hd hg => ?_, fun o v => ?_, fun hw => ?_,
    fun sig level hl hon => ?_⟩
  · have haddr : (BitVec.ofNat 24 (aBANK 0x4000 b)).toNat = aBANK 0x4000 b := by
      have hb := b.isLt
      rw [BitVec.toNat_ofNat, Nat.mod_eq_of_lt (by unfold aBANK; omega)]
    refine givesDdr_onDdr_as rfl ?_
    rintro _ rfl
    rw [haddr, s.dev.shellWrite_live hl hon, Device.write_of_admits hadm, s.dev.shellRoute_set, s.dev.pinBank_adds (by decide) b data hc]
    exact ⟨congrArg GpioWait.set (s.dev.gpioAdd_wait_same ..), fun m hm => s.dev.gpioAdd_wait_other _ _ _ hm, s.dev.gpioAdd_rest ..,
      fun a => s.dev.gpioAdd_rd ..⟩
  · refine givesDdr_onDdr_as rfl ?_
    rintro _ rfl
    rw [s.dev.shellWrite_isolated hl]
    exact ⟨rfl, fun _ => rfl⟩
  · refine givesDdr_onDdr_as rfl ?_
    rintro _ rfl
    rw [s.dev.shellWrite_live hl hon, s.dev.write_ungranted _ hd hg]
    exact s.dev.refuseShell_reports _
  · refine givesDev_onDev_as rfl ?_
    rintro _ rfl
    cases hw : s.dev.windowOpen f with
    | true =>
      rw [s.dev.windowAccess_open hw]
      exact ⟨fun _ => ⟨rfl, fun _ => rfl⟩, fun h => absurd h (by decide), rfl⟩
    | false =>
      obtain ⟨hanswer, hflag, hrest⟩ := s.dev.windowTimeout_answers
      rw [s.dev.windowAccess_closed hw]
      exact ⟨fun h => absurd h (by decide), fun _ => ⟨hanswer, hflag⟩, hrest⟩
  · refine givesDev_onDev_as rfl ?_
    rintro _ rfl
    rw [if_pos hw]
    exact s.dev.windowTimeout_answers
  · refine givesDev_onDev_as rfl ?_
    rintro _ rfl
    rw [s.dev.borderChange_live _ _ hl hon]
    refine ⟨?_, fun g hg => ?_, fun g hg => s.dev.setFret_other _ _ _ hg, fun a => s.dev.setFret_rd ..⟩
    · rw [Device.setFret_same, tabGet_tabSet, if_pos rfl]
    · rw [Device.setFret_same, tabGet_tabSet, if_neg hg]

end Sys2Proof.Machine
end

section
/-!
PROOF. O43: the load of a Fret from its fetch to its release, its failures and their repeats.
-/

namespace Sys2Proof.Machine

-- One proof after another: the stacks of the threads that elaborate many at once exceed the memory of a check.
set_option Elab.async false

namespace Device

/-! The loader's cache and its next request (R280, R281). -/

/-- An image that is not in the cache does not come there by eviction. -/
theorem mem_of_mem_evict (d : Device) (n : Nat) {e : CacheEnt} (k : Nat) {es : List CacheEnt} (h : e ∈ d.evict n k es) : e ∈ es := by
  induction k generalizing es with
  | zero => exact h
  | succ k ih =>
    unfold evict at h
    split at h
    · exact h
    · split at h
      · exact List.mem_of_mem_filter (ih h)
      · exact h

section
variable (d : Device)

theorem noteCache_loader : d.noteCache.loader = d.loader := eq_of_plant Device.loader (noteCache_plant d)
theorem noteLoader_loader : d.noteLoader.loader = d.loader := eq_of_plant Device.loader (noteLoader_plant d)

theorem cachePut_cachedImg (k : Nat) (x : RegionImg) : (d.cachePut k x).cachedImg k = some x := by
  unfold cachedImg cachePut
  dsimp only
  rw [noteCache_loader, setLoader_loader, List.find?_append, List.find?_eq_none.mpr]
  · simp
  · intro e he
    have hkey := (List.mem_filter.mp (mem_of_mem_evict d _ _ he)).2
    simp only [bne_iff_ne] at hkey
    simpa using hkey

theorem cachePut_cur (k : Nat) (x : RegionImg) : (d.cachePut k x).loader.cur = d.loader.cur := by
  unfold cachePut
  dsimp only
  rw [noteCache_loader, setLoader_loader]

theorem cachePut_frets (k : Nat) (x : RegionImg) : (d.cachePut k x).frets = d.frets := by
  unfold cachePut
  dsimp only
  rw [eq_of_plant Device.frets (noteCache_plant _), setLoader_frets]

theorem cacheDrop_cache (k : Nat) : (d.cacheDrop k).loader.cache = d.loader.cache.filter fun e => e.key != k := by
  unfold cacheDrop
  rw [noteCache_loader, setLoader_loader]

theorem cacheDrop_queue (k : Nat) : (d.cacheDrop k).loader.queue = d.loader.queue ∧ (d.cacheDrop k).loader.cur = d.loader.cur := by
  unfold cacheDrop
  rw [noteCache_loader, setLoader_loader]
  exact ⟨rfl, rfl⟩

/-- An image leaves the cache; none enters it. -/
theorem cacheDrop_same (k : Nat) : (d.cacheDrop k).cached k = false := by
  unfold cached cachedImg
  rw [cacheDrop_cache, List.find?_eq_none.mpr]
  · rfl
  · intro e he
    simpa using (List.mem_filter.mp he).2

theorem cached_eq_false {k : Nat} : d.cached k = false ↔ ∀ e ∈ d.loader.cache, e.key ≠ k := by
  unfold cached cachedImg
  rw [Option.isSome_map, Option.isSome_eq_false_iff, Option.isNone_iff_eq_none, List.find?_eq_none]
  simp

/-- What the loader takes next adds nothing to the cache. -/
theorem loaderNext_cached {k : Nat} (h : d.cached k = false) : d.loaderNext.cached k = false := by
  have hsame {e : Device} (he : e.loader.cache = d.loader.cache) : e.cached k = false := by rwa [cached_eq_false, he, ← cached_eq_false]
  have hnoted (e : Device) : e.noteLoader.loader.cache = e.loader.cache := congrArg Loader.cache (noteLoader_loader e)
  unfold loaderNext
  split
  · exact hsame (hnoted d)
  · split
    · exact hsame (hnoted d)
    · dsimp only
      split
      · rw [cached_eq_false, hnoted, cacheDrop_cache, setLoader_loader]
        exact fun e he => d.cached_eq_false.mp h e (List.mem_of_mem_filter he)
      · rw [cached_eq_false, hnoted, setLoader_loader]
        exact d.cached_eq_false.mp h

theorem loaderDone_cached {k : Nat} (h : d.cached k = false) : d.loaderDone.cached k = false := by
  unfold loaderDone
  exact loaderNext_cached _ (by rw [cached_eq_false, setLoader_loader]; exact d.cached_eq_false.mp h)

/-- The loader takes the request at the front of its queue. -/
theorem loaderNext_front {r : FretReq} {rest : List FretReq} (hcur : d.loader.cur = none) (hc : d.capo ≠ 1) (hq : d.loader.queue = r :: rest) :
    d.loaderNext.loader.cur = some r ∧ d.loaderNext.loader.queue = rest := by
  unfold loaderNext
  rw [if_neg (by simp [hcur, hc]), hq]
  dsimp only
  rw [noteLoader_loader]
  split
  · obtain ⟨hqueue, hcur'⟩ := cacheDrop_queue (d.setLoader { d.loader with queue := rest, cur := some r, isolated := false, since := d.edge }) (reqKey r)
    exact ⟨hcur', hqueue⟩
  · exact ⟨rfl, rfl⟩

/-- A request that joins the queue is in progress or waits. -/
theorem enqueueReq_held (r : FretReq) : (d.enqueueReq r).loader.cur = some r ∨ r ∈ (d.enqueueReq r).loader.queue := by
  have hmem : r ∈ (joined d.loader r).queue := List.mem_append_right _ List.mem_cons_self
  by_cases h : d.loader.cur.isSome = true ∨ d.capo = 1
  · rw [enqueueReq_waits _ _ h]
    exact .inr hmem
  · obtain ⟨hcur, hc⟩ := not_or.mp h
    have hq : ((d.noteReplaced r).setLoader (joined (d.noteReplaced r).loader r)).loader.queue = (joined d.loader r).queue := by
      rw [setLoader_loader, noteReplaced_loader]
    obtain ⟨x, rest, hx⟩ : ∃ x rest, (joined d.loader r).queue = x :: rest := List.exists_cons_of_ne_nil (List.ne_nil_of_mem hmem)
    obtain ⟨hfront, hrest⟩ := loaderNext_front _ (r := x) (rest := rest)
      (by rw [setLoader_loader, noteReplaced_loader]; simpa [joined] using hcur) (by rwa [enqueue_capo]) (hq.trans hx)
    rw [enqueueReq_eq, hfront, hrest]
    rcases List.mem_cons.mp (hx ▸ hmem) with rfl | h
    · exact .inl rfl
    · exact .inr h

end

/-! What the loader keeps: registers beside its own, Frets and frames. -/

/-- The Frets and the frames. -/
def fretsFrames (x : Device) : Tab Fret × Tab (Option (List Byte)) := (x.frets, x.frames)

theorem loaderDone_kept (d : Device) : Keeps loaderRegs fretsFrames d d.loaderDone := loaderDone_keeps (fun _ => rfl) (fun _ h => h) (fun _ _ => rfl) d

theorem fret_of_fretsFrames {d e : Device} (h : fretsFrames e = fretsFrames d) (g : Nat) : e.fret g = d.fret g := by rw [fret, fret, (Prod.mk.inj h).1]

/-! A load that fails (R288, R289). -/

/-- The failure is noted. -/
def failNoted (d : Device) (r : FretReq) (n code : Nat) : Device :=
  ((((d.fset (aFRET r.fret 4) 0 16 n).fset (aFRET r.fret 4) 28 4 code).event 0xE0004 4).fsetB (aFRET r.fret 8) 2 true).notice 0x07 r.fret 0x35 code

/-- The repeat is scheduled. -/
def repeatSet (d : Device) (r : FretReq) (wait : Nat) : Device :=
  (d.setFret r.fret { d.fret r.fret with retry := some ({ r with again := true }, d.edge + 20480 * wait) }).fsetB (aFRET r.fret 0) 25 true

/-- The attempts that have failed, with the one that fails now. -/
def attempts (d : Device) (f : Nat) : Nat := min 65535 (d.fget (aFRET f 4) 0 16 + 1)

theorem loadFails_eq (d : Device) (r : FretReq) (code : Nat) :
    d.loadFails r code = ((d.failNoted r (d.attempts r.fret) code).repeatSet r (retryWait (d.attempts r.fret))).loaderDone := rfl

section
variable (d : Device) (r : FretReq) (n code : Nat)

theorem failNoted_plant : (d.failNoted r n code).plant = d.plant := by
  unfold failNoted
  rw [notice_plant, fsetB_plant, event_plant, fset_plant, fset_plant]

theorem repeatSet_fret (wait : Nat) : (d.repeatSet r wait).fret r.fret = { d.fret r.fret with retry := some ({ r with again := true }, d.edge + 20480 * wait) } :=
  (eq_of_plant (fun x => x.fret r.fret) (fsetB_plant ..)).trans (setFret_same ..)

theorem repeatSet_other (wait : Nat) {g : Nat} (h : g ≠ r.fret) : (d.repeatSet r wait).fret g = d.fret g :=
  (eq_of_plant (fun x => x.fret g) (fsetB_plant ..)).trans (setFret_other _ _ _ _ h)

theorem repeatSet_frames (wait : Nat) : (d.repeatSet r wait).frames = d.frames :=
  (eq_of_plant Device.frames (fsetB_plant ..)).trans (setFret_frames ..)

theorem repeatSet_rd (wait : Nat) {a : Nat} (h : a ≠ aFRET r.fret 0) : (d.repeatSet r wait).rd a = d.rd a := rd_fsetB_other _ _ _ h

end

section
variable (d : Device) (r : FretReq) {code : Nat}

/-- What a failed load leaves: LASTERR, the count of attempts and the repeat; every other Fret, the frames and the Fret's state are as before. -/
theorem loadFails_spec (hcode : code < 16) : (let t := d.loadFails r code
    (t.fget (aFRET r.fret 4) 28 4 = code ∧ t.fget (aFRET r.fret 4) 0 16 = d.attempts r.fret ∧
     (t.fret r.fret).retry = some ({ r with again := true }, d.edge + 20480 * retryWait (d.attempts r.fret))) ∧
    (∀ g, g ≠ r.fret → t.fret g = d.fret g) ∧ t.frames = d.frames ∧ t.fretState r.fret = d.fretState r.fret) := by
  have hn : d.attempts r.fret < 2 ^ 16 := by unfold attempts; omega
  generalize hx : d.failNoted r (d.attempts r.fret) code = x
  have hplant : x.plant = d.plant := hx ▸ failNoted_plant ..
  generalize hy : x.repeatSet r (retryWait (d.attempts r.fret)) = y
  have hdone := loaderDone_kept y
  have h40 : aFRET r.fret 4 ≠ aFRET r.fret 0 := fun he => absurd ((aFRET_inj (by decide) (by decide)).mp he).2 (by decide)
  have h48 : aFRET r.fret 4 ≠ aFRET r.fret 8 := fun he => absurd ((aFRET_inj (by decide) (by decide)).mp he).2 (by decide)
  have hlow : 0xDA000 ≤ aFRET r.fret 4 := by unfold aFRET; omega
  have hword : y.loaderDone.rd (aFRET r.fret 4) = ((d.fset (aFRET r.fret 4) 0 16 (d.attempts r.fret)).fset (aFRET r.fret 4) 28 4 code).rd (aFRET r.fret 4) := by
    rw [hdone.regs _ (not_loaderRegs_aFRET (by decide) (by decide)) (reportReg_of_fabric hlow), ← hy, repeatSet_rd _ _ _ h40, ← hx, failNoted,
      notice_rd _ _ _ _ _ _ (reportReg_of_fabric hlow), rd_fsetB_other _ _ _ h48, event_rd _ _ _ _ (by unfold aFRET; omega) (by omega)]
  have hstate : x.fretState r.fret = d.fretState r.fret := by
    rw [← hx, failNoted, fretState, fget_of_rd (notice_rd _ _ _ _ _ _ (reportReg_of_fabric (by unfold aFRET; omega))),
      fget_of_rd (rd_fsetB_other _ _ _ fun he => absurd ((aFRET_inj (by decide) (by decide)).mp he).2 (by decide)),
      fget_of_rd (event_rd _ _ _ _ (by unfold aFRET; omega) (by unfold aFRET; omega)), fget_fset_other _ _ _ _ _ _ h40.symm, fget_fset_other _ _ _ _ _ _ h40.symm]
    rfl
  dsimp only
  rw [loadFails_eq, hx, hy, fget_of_rd hword, fget_of_rd hword]
  refine ⟨⟨?_, ?_, ?_⟩, fun g hg => ?_, ?_, ?_⟩
  · rw [fget_fset_same _ _ _ (by decide)]
    omega
  · rw [fget_fset_disjoint _ _ _ (by decide) (by decide), fget_fset_same _ _ _ (by decide)]
    omega
  · rw [fret_of_fretsFrames hdone.part, ← hy, repeatSet_fret, eq_of_plant Device.edge hplant]
  · rw [fret_of_fretsFrames hdone.part, ← hy, repeatSet_other _ _ _ hg]
    exact eq_of_plant (fun x => x.fret g) hplant
  · exact ((Prod.mk.inj hdone.part).2.trans (hy ▸ repeatSet_frames ..)).trans (eq_of_plant Device.frames hplant)
  · rw [← hstate, fretState, loaderDone_fstat _ _ (by decide), ← hy, repeatSet, fsetB, fget_fset_apart _ _ (by decide) (.inr (by decide)),
      fget_of_rd (setFret_rd ..)]
    rfl

theorem loadFails_cached {k : Nat} (h : d.cached k = false) : (d.loadFails r code).cached k = false := by
  have hloader : ((d.failNoted r (d.attempts r.fret) code).repeatSet r (retryWait (d.attempts r.fret))).loader = d.loader :=
    ((eq_of_plant Device.loader (fsetB_plant ..)).trans (setFret_loader ..)).trans (eq_of_plant Device.loader (failNoted_plant ..))
  rw [loadFails_eq]
  exact loaderDone_cached _ (by rw [cached_eq_false, hloader]; exact d.cached_eq_false.mp h)

end

/-! The frames that a load writes (R283). -/

/-- The device with other frames. -/
def withFrames (d : Device) (t : Tab (Option (List Byte))) : Device := { d with frames := t }

theorem withFrames_rd (d : Device) (t : Tab (Option (List Byte))) (a : Nat) : (d.withFrames t).rd a = d.rd a := rfl
theorem withFrames_frames (d : Device) (t : Tab (Option (List Byte))) : (d.withFrames t).frames = t := rfl

theorem foldl_writeFrame (l : List (Nat × Option (List Byte))) (d : Device) : l.foldl writeFrame d = d.withFrames (l.foldl writeFrame d).frames := by
  induction l generalizing d with
  | nil => rfl
  | cons x l ih =>
    rw [List.foldl_cons, ih]
    rfl

theorem writeFrames_eq (d : Device) (r : FretReq) (n : Nat) : d.writeFrames r n = d.withFrames (d.writeFrames r n).frames := foldl_writeFrame ..

/-! How a Fret becomes EMPTY, is released and is RUNNING (R284, R286). -/

section
variable (d : Device) (f : Nat)

theorem fretEmpty_state : (d.fretEmpty f).fretState f = 0 := by
  rw [fretState, fretEmpty, fget_of_rd (setFret_rd ..), fget_fset_disjoint _ _ _ (by decide) (by decide)]
  exact fget_fset_same _ _ _ (by decide)

theorem fretEmpty_fret : (d.fretEmpty f).fret f = { d.fret f with content := 0, live := [] } := setFret_same ..

theorem fretEmpty_other {g : Nat} (h : g ≠ f) : (d.fretEmpty f).fret g = d.fret g :=
  (setFret_other _ _ _ _ h).trans ((eq_of_plant (fun x => x.fret g) (fset_plant ..)).trans (eq_of_plant (fun x => x.fret g) (fset_plant ..)))

theorem fretEmpty_frames : (d.fretEmpty f).frames = d.frames :=
  (setFret_frames ..).trans ((eq_of_plant Device.frames (fset_plant ..)).trans (eq_of_plant Device.frames (fset_plant ..)))

theorem fretEmpty_edge : (d.fretEmpty f).edge = d.edge :=
  (setFret_edge ..).trans ((eq_of_plant Device.edge (fset_plant ..)).trans (eq_of_plant Device.edge (fset_plant ..)))

theorem fretEmpty_rd {a : Nat} (h : a ≠ aFRET f 0) : (d.fretEmpty f).rd a = d.rd a := by
  rw [fretEmpty, setFret_rd, rd_fset_other _ _ _ _ h, setFretState, rd_fset_other _ _ _ _ h]

theorem fretEmpty_attempts : (d.fretEmpty f).attempts f = d.attempts f := by
  rw [attempts, attempts, fget_of_rd (fretEmpty_rd _ _ fun he => absurd ((aFRET_inj (by decide) (by decide)).mp he).2 (by decide))]

theorem releaseFret_fstat {lo n : Nat} (hlo : 3 ≤ lo) : (d.releaseFret f).fget (aFRET f 0) lo n = d.fget (aFRET f 0) lo n := by
  rw [releaseFret, setFretState, fget_fset_disjoint _ _ _ (by decide) (.inr (by omega)), fget_of_rd (setFret_rd ..)]

theorem releaseFret_state : (d.releaseFret f).fretState f = 2 := fget_fset_same _ _ _ (by decide)

theorem releaseFret_fret : (d.releaseFret f).fret f = { d.fret f with released := d.edge, cut := false, live := [], events := [] } :=
  (eq_of_plant (fun x => x.fret f) (fset_plant ..)).trans (setFret_same ..)

theorem releaseFret_other {g : Nat} (h : g ≠ f) : (d.releaseFret f).fret g = d.fret g :=
  (eq_of_plant (fun x => x.fret g) (fset_plant ..)).trans (setFret_other _ _ _ _ h)

theorem releaseFret_frames : (d.releaseFret f).frames = d.frames := (eq_of_plant Device.frames (fset_plant ..)).trans (setFret_frames ..)

theorem noteLoader_fret (g : Nat) : d.noteLoader.fret g = d.fret g := eq_of_plant (fun x => x.fret g) (noteLoader_plant d)

theorem noteLoader_state : d.noteLoader.fretState f = d.fretState f := noteLoader_fstat d f (by decide)

theorem loaderDone_state : d.loaderDone.fretState f = d.fretState f := loaderDone_fstat d f (by decide)

/-- The design of the Fret runs. -/
def connected (d : Device) (f : Nat) : Device := (d.setFretState f 3).setFret f { d.fret f with ran := true }

theorem connected_state : (d.connected f).fretState f = 3 := by
  rw [fretState, connected, fget_of_rd (setFret_rd ..)]
  exact fget_fset_same _ _ _ (by decide)

theorem connected_fret : (d.connected f).fret f = { d.fret f with ran := true } := setFret_same ..

theorem connected_other {g : Nat} (h : g ≠ f) : (d.connected f).fret g = d.fret g :=
  (setFret_other _ _ _ _ h).trans (eq_of_plant (fun x => x.fret g) (fset_plant ..))

/-- The region in force is named. -/
def regionNamed (d : Device) (r : FretReq) : Device := (d.setFret r.fret { d.fret r.fret with content := reqKey r }).noteCache.fset (aFRET r.fret 0) 8 8 r.region

/-- The region's grants are in force; the base content of a Fret has none. -/
def regionGranted (d : Device) (r : FretReq) (c : Word) : Device :=
  if r.region = 255 then d else d.wr (aFRET r.fret 0x10) (BitVec.ofNat 32 (bitsOf c 9 1 + bitsOf c 16 10 * 2 ^ 16))

/-- The end of a load is reported. -/
def loadNoted (d : Device) (f : Nat) : Device := (d.event 0xE0004 3).fsetB (aFRET f 8) 1 true

theorem regionLoaded_eq (r : FretReq) :
    d.regionLoaded r = ((((d.regionNamed r).regionGranted r (d.rd (aCATLG r.region 0))).loadNoted r.fret).releaseFret r.fret).noteLoader := rfl

theorem regionGranted_plant (r : FretReq) (c : Word) : (d.regionGranted r c).plant = d.plant := by
  unfold regionGranted
  split
  · rfl
  · exact wr_plant ..

theorem regionGranted_fstat (r : FretReq) (c : Word) : (d.regionGranted r c).rd (aFRET r.fret 0) = d.rd (aFRET r.fret 0) := by
  unfold regionGranted
  split
  · rfl
  · exact rd_wr_other _ _ fun he => absurd ((aFRET_inj (by decide) (by decide)).mp he).2 (by decide)

theorem loadNoted_plant : (d.loadNoted f).plant = d.plant := (fsetB_plant ..).trans (event_plant ..)

theorem loadNoted_fstat : (d.loadNoted f).rd (aFRET f 0) = d.rd (aFRET f 0) :=
  (rd_fsetB_other _ _ _ fun he => absurd ((aFRET_inj (by decide) (by decide)).mp he).2 (by decide)).trans
    (event_rd _ _ _ _ (by unfold aFRET; omega) (by unfold aFRET; omega))

theorem regionNamed_fret (r : FretReq) : (d.regionNamed r).fret r.fret = { d.fret r.fret with content := reqKey r } :=
  (eq_of_plant (fun x => x.fret r.fret) (fset_plant ..)).trans ((eq_of_plant (fun x => x.fret r.fret) (noteCache_plant _)).trans (setFret_same ..))

theorem regionNamed_other (r : FretReq) {g : Nat} (h : g ≠ r.fret) : (d.regionNamed r).fret g = d.fret g :=
  (eq_of_plant (fun x => x.fret g) (fset_plant ..)).trans ((eq_of_plant (fun x => x.fret g) (noteCache_plant _)).trans (setFret_other _ _ _ _ h))

theorem regionNamed_frames (r : FretReq) : (d.regionNamed r).frames = d.frames :=
  (eq_of_plant Device.frames (fset_plant ..)).trans ((eq_of_plant Device.frames (noteCache_plant _)).trans (setFret_frames ..))

theorem regionNamed_region (r : FretReq) : (d.regionNamed r).fget (aFRET r.fret 0) 8 8 = r.region % 256 := fget_fset_same _ _ _ (by decide)

/-- What a good load leaves. -/
theorem regionLoaded_spec (r : FretReq) : (let t := d.regionLoaded r
    (t.fretState r.fret = 2 ∧ (t.fret r.fret).content = reqKey r ∧ t.fget (aFRET r.fret 0) 8 8 = r.region % 256) ∧
    (∀ g, g ≠ r.fret → t.fret g = d.fret g) ∧ t.frames = d.frames) := by
  rw [regionLoaded_eq]
  generalize hx : d.regionNamed r = x
  generalize hy : (x.regionGranted r (d.rd (aCATLG r.region 0))).loadNoted r.fret = y
  have hplant : y.plant = x.plant := hy ▸ (loadNoted_plant ..).trans (regionGranted_plant ..)
  have hstat : y.rd (aFRET r.fret 0) = x.rd (aFRET r.fret 0) := hy ▸ (loadNoted_fstat ..).trans (regionGranted_fstat ..)
  dsimp only
  rw [noteLoader_state, releaseFret_state, noteLoader_fret, releaseFret_fret, noteLoader_fstat _ _ (by decide), releaseFret_fstat _ _ (by decide),
    fget_of_rd hstat]
  refine ⟨⟨rfl, ?_, ?_⟩, fun g hg => ?_, ?_⟩
  · rw [eq_of_plant (fun x => x.fret r.fret) hplant, ← hx, regionNamed_fret]
  · rw [← hx, regionNamed_region]
  · rw [noteLoader_fret, releaseFret_other _ _ hg, eq_of_plant (fun x => x.fret g) hplant, ← hx, regionNamed_other _ _ hg]
  · rw [eq_of_plant Device.frames (noteLoader_plant _), releaseFret_frames, eq_of_plant Device.frames hplant, ← hx, regionNamed_frames]

end

/-! A frame that cannot be written (R294). -/

section
variable (d : Device) {f : Nat} (hf : f < 48)

theorem faulted_other {g : Nat} (h : g ≠ f) : (d.faulted f).fret g = d.fret g := by
  have hnoted : (d.faultNoted f).plant = d.plant := by
    unfold faultNoted setFretState
    rw [fsetB_plant, fsetB_plant, event_plant, fset_plant, report_plant]
  have hset (e : Device) (l : Loader) : (e.setLoader l).fret g = e.fret g := rfl
  unfold faulted contentLost
  rw [hset, dropRetry_other _ h, eq_of_plant (fun x => x.fret g) (fset_plant ..), setFret_other _ _ _ _ h]
  exact eq_of_plant (fun x => x.fret g) hnoted

theorem fretFault_other {g : Nat} (h : g ≠ f) : (d.fretFault f).fret g = d.fret g := by
  have hfree := freeCmps_keeps (own := faultRegs) (part := Device.frets) (fun _ => rfl) (fun _ h => .inr h) (d.faulted f) f
  have hend := hfree.trans (faultEnd_keeps (fun _ => rfl) (fun _ h => h) (fun _ _ => rfl) _ f)
  rw [fretFault_eq, fret, hend.part, ← fret, faulted_other _ h]

theorem faultEnd_state (e : Device) : (e.faultEnd f).fretState f = e.fretState f := by
  unfold faultEnd
  split
  · split
    · exact loaderDone_state ..
    · exact noteLoader_state ..
  · exact noteLoader_state ..

theorem freeCmps_state (e : Device) : (e.freeCmps f).fretState f = e.fretState f := by
  have hkeep := freeCmps_keeps (own := fun a => a < 0x80000) (part := fun _ => ()) (fun _ => rfl) (fun _ h => h) e f
  exact fget_of_rd (hkeep.regs _ (by unfold aFRET; omega) (reportReg_of_fabric (by unfold aFRET; omega))) ..

include hf

theorem fretFault_state : (d.fretFault f).fretState f = 4 := by
  have h08 : aFRET f 0 ≠ aFRET f 8 := fun he => absurd ((aFRET_inj (by decide) (by decide)).mp he).2 (by decide)
  have h018 : aFRET f 0 ≠ aFRET f 0x18 := fun he => absurd ((aFRET_inj (by decide) (by decide)).mp he).2 (by decide)
  have hlow : 0xDA000 ≤ aFRET f 0 := by unfold aFRET; omega
  have hq : aFRET f 0 ≠ 0x50314 + 4 * (f / 32) := by omega
  rw [fretFault_eq, faultEnd_state, freeCmps_state, fretState, faulted, fget_of_rd (setLoader_rd ..), dropRetry, fsetB,
    fget_fset_apart _ _ (by decide) (.inr (by decide)), fget_of_rd (setFret_rd ..), fget_of_rd (rd_fset_other _ _ _ _ h018), contentLost,
    fget_of_rd (setFret_rd ..), faultNoted, fget_of_rd (rd_fsetB_other _ _ _ hq), fget_of_rd (rd_fsetB_other _ _ _ h08),
    fget_of_rd (event_rd _ _ _ _ (by unfold aFRET; omega) (by omega))]
  exact fget_fset_same _ _ _ (by decide)

theorem fretFault_event : (d.fretFault f).flag 0xE0004 7 = true := by
  have hne (o : Nat) : (0xE0004 : Nat) ≠ aFRET f o := by unfold aFRET; omega
  have hoff : ¬ faultRegs 0xE0004 := by
    rintro ((h | h | ⟨g, h⟩) | h)
    · exact absurd h (by decide)
    · exact absurd h (by decide)
    · unfold aFRET at h; omega
    · exact absurd h (by decide)
  rw [flag_eq_of_rd_eq (fretFault_of_faulted hoff (by decide)), flag_eq_of_rd_eq (faulted_off _ (hne _) (hne _)), faultNoted,
    flag_eq_of_rd_eq (rd_fsetB_other _ _ _ (by omega)), flag_eq_of_rd_eq (rd_fsetB_other _ _ _ (hne _))]
  exact event_flag _ _ _ (by decide) (by decide)

end

/-! The commands of a load (R283, R288). -/

/-- The record at which a load fails has LASTERR 5 or 6. -/
theorem badRecord_code {f : Nat} {as seen : List Nat} {i k code : Nat} (h : badRecord f as seen i = some (k, code)) : code < 16 := by
  induction as generalizing seen i with
  | nil => exact absurd h (by simp [badRecord])
  | cons a r ih =>
    unfold badRecord at h
    split at h
    · have := (Prod.mk.inj (Option.some.inj h)).2
      omega
    · split at h
      · have := (Prod.mk.inj (Option.some.inj h)).2
        omega
      · exact ih h

theorem rejects_code {d : Device} {r : FretReq} {k code : Nat} (h : d.rejects r = some (k, code)) : code < 16 := by
  unfold rejects at h
  split at h
  · exact badRecord_code h
  · exact absurd h (by simp)

/-- What a read of a region finds wrong is LASTERR 2 or 3. -/
theorem regionRead_code {d : Device} {m : Mem} {r : FretReq} {segs : List (List Byte)} {code : Nat} (h : d.regionRead m r segs = .error code) : code < 16 := by
  unfold regionRead at h
  dsimp only at h
  split at h
  · have := Except.error.inj h
    omega
  · split at h
    · exact absurd h (by simp)
    · have := Except.error.inj h
      omega

section
variable {d : Device} {r : FretReq} (hcur : d.loader.cur = some r)
include hcur

section
variable (m : Mem) (h0 : r.op = 0) (hiso : d.loader.isolated = false) (hcached : d.cached (reqKey r) = false)
include h0 hiso hcached

theorem imageCached_flashError : d.imageCached m .flashError = d.loadFails r 1 := by
  unfold imageCached
  rw [hcur]
  dsimp only
  rw [if_neg (by simp [h0, hiso, hcached])]

theorem imageCached_good {segs : List (List Byte)} {img : RegionImg} (h : d.regionRead m r segs = .ok img) :
    d.imageCached m (.read segs) = (d.cachePut (reqKey r) img).noteLoader := by
  unfold imageCached
  rw [hcur]
  dsimp only
  rw [if_neg (by simp [h0, hiso, hcached]), h]

theorem imageCached_bad {segs : List (List Byte)} {code : Nat} (h : d.regionRead m r segs = .error code) :
    d.imageCached m (.read segs) = d.loadFails r code := by
  unfold imageCached
  rw [hcur]
  dsimp only
  rw [if_neg (by simp [h0, hiso, hcached]), h]

end

theorem loadComplete_cacheCrc (h0 : r.op = 0) (hiso : d.loader.isolated = false) (hcached : d.cached (reqKey r) = true) :
    d.loadComplete .cacheCrc = (d.cacheDrop (reqKey r)).loadFails r 4 := by
  unfold loadComplete
  rw [hcur]
  dsimp only
  rw [if_pos hiso, if_pos ⟨rfl, h0, hcached⟩]

section
variable (hiso : d.loader.isolated = true) (hload : d.fretState r.fret = 1) (hon : d.fabricOn = true)
include hiso hload hon

theorem loadComplete_ok : d.loadComplete .ok = d.framesEnd r := by
  unfold loadComplete
  rw [hcur]
  dsimp only
  rw [if_neg (by simp [hiso]), if_neg (by simp [hload, hon])]

theorem loadComplete_failed (hrej : d.rejects r = none) (hn : 0 < d.framesDone) (hop : r.op < 2) :
    d.loadComplete .frameWriteFailed = (d.writeFrames r d.framesDone).fretFault r.fret := by
  unfold loadComplete
  rw [hcur]
  dsimp only
  rw [if_neg (by simp [hiso]), if_neg (by simp [hload, hon]), hrej]
  dsimp only
  rw [if_neg (by omega)]

end
end

section
variable {d : Device} {r : FretReq}

theorem framesEnd_reset (h2 : r.op = 2) (hs : d.loader.since + 64 ≤ d.edge) : d.framesEnd r = (d.releaseFret r.fret).noteLoader := by
  unfold framesEnd
  dsimp only
  rw [if_pos h2, if_pos hs]

theorem framesEnd_rejected {k code : Nat} (h : d.rejects r = some (k, code)) (hk : k ≤ d.framesDone) (hs : d.loader.since + 32 ≤ d.edge) :
    d.framesEnd r = ((d.writeFrames r k).fretEmpty r.fret).loadFails r code := by
  have hop : r.op ≠ 2 := fun h2 => by
    unfold rejects at h
    rw [if_neg (by omega)] at h
    exact absurd h (by simp)
  unfold framesEnd
  dsimp only
  rw [if_neg hop, h]
  dsimp only
  rw [if_pos ⟨hk, hs⟩]

section
variable (hrej : d.rejects r = none) (hn : 256 ≤ d.framesDone)
include hrej hn

theorem framesEnd_unload (h1 : r.op = 1) : d.framesEnd r = ((d.writeFrames r 256).fretEmpty r.fret).loaderDone := by
  unfold framesEnd
  dsimp only
  rw [if_neg (by omega), hrej]
  dsimp only
  rw [if_neg (by omega), if_pos h1]

theorem framesEnd_load (h0 : r.op = 0) : d.framesEnd r =
    if some ((d.writeFrames r 256).framesCrc (256 * r.fret) 256) = (d.cachedImg (reqKey r)).map RegionImg.wcrc then (d.writeFrames r 256).regionLoaded r
    else ((d.writeFrames r 256).fretEmpty r.fret).loadFails r 7 := by
  have hcached : (d.writeFrames r 256).cachedImg (reqKey r) = d.cachedImg (reqKey r) := by rw [writeFrames_eq]; rfl
  unfold framesEnd
  dsimp only
  rw [if_neg (by omega), hrej]
  dsimp only
  rw [if_neg (by omega), if_neg (by omega), hcached]

end

/-- Once RELDLY has passed the Fret runs. -/
theorem borderConnect_connects {f : Nat} (hon : d.fabricOn = true) (hs : d.fretState f = 2)
    (he : 20480 * d.fget (aFRET f 0x10) 16 10 ≤ (d.edge - (d.fret f).released) * d.fabricKhz) :
    d.borderConnect f = d.connected f ∨ d.borderConnect f = (d.connected f).loaderDone := by
  unfold borderConnect
  rw [if_pos ⟨hon, hs, he⟩]
  dsimp only
  split
  · split
    · exact .inr rfl
    · exact .inl rfl
  · exact .inl rfl

theorem regionRetry_due {f e : Nat} (hr : (d.fret f).retry = some (r, e)) (he : e ≤ d.edge) (hc : d.capo ≠ 1) (hs : d.fretState f ≠ 4) :
    d.regionRetry f = (d.dropRetry f).enqueueReq r := by
  unfold regionRetry
  rw [hr]
  exact if_pos ⟨he, hc, hs⟩

end

end Device
namespace Device

/-- A failure after frames were written: the Fret is EMPTY with LASTERR. -/
theorem emptied_fails (d : Device) (r : FretReq) (n : Nat) {code : Nat} (hcode : code < 16) :
    (let t := ((d.writeFrames r n).fretEmpty r.fret).loadFails r code
     (t.fget (aFRET r.fret 4) 28 4 = code ∧ t.fget (aFRET r.fret 4) 0 16 = d.attempts r.fret ∧
      (t.fret r.fret).retry = some ({ r with again := true }, d.edge + 20480 * retryWait (d.attempts r.fret))) ∧
     (∀ g, g ≠ r.fret → t.fret g = d.fret g) ∧ t.frames = (d.writeFrames r n).frames ∧ t.fretState r.fret = 0) := by
  obtain ⟨hfail, hothers, hframes, hstate⟩ := ((d.writeFrames r n).fretEmpty r.fret).loadFails_spec r hcode
  rw [fretEmpty_attempts, fretEmpty_edge] at hfail
  have hattempts : (d.writeFrames r n).attempts r.fret = d.attempts r.fret := by rw [writeFrames_eq]; rfl
  have hedge : (d.writeFrames r n).edge = d.edge := by rw [writeFrames_eq]; rfl
  have hfret (g : Nat) : (d.writeFrames r n).fret g = d.fret g := by rw [writeFrames_eq]; rfl
  rw [hattempts, hedge] at hfail
  exact ⟨hfail, fun g hg => (hothers g hg).trans ((fretEmpty_other _ _ hg).trans (hfret g)), hframes.trans (fretEmpty_frames ..),
    hstate.trans (fretEmpty_state ..)⟩

/-- An UNLOAD leaves the Fret EMPTY. -/
theorem unloaded_spec (d : Device) (r : FretReq) (n : Nat) : (let t := ((d.writeFrames r n).fretEmpty r.fret).loaderDone
     t.fretState r.fret = 0 ∧ (t.fret r.fret).content = 0 ∧ t.frames = (d.writeFrames r n).frames ∧ ∀ g, g ≠ r.fret → t.fret g = d.fret g) := by
  have hfret (g : Nat) : (d.writeFrames r n).fret g = d.fret g := by rw [writeFrames_eq]; rfl
  have hdone := loaderDone_kept ((d.writeFrames r n).fretEmpty r.fret)
  dsimp only
  rw [loaderDone_state, fretEmpty_state, fret_of_fretsFrames hdone.part, fretEmpty_fret]
  refine ⟨rfl, rfl, (Prod.mk.inj hdone.part).2.trans (fretEmpty_frames ..), fun g hg => ?_⟩
  rw [fret_of_fretsFrames hdone.part, fretEmpty_other _ _ hg, hfret]

/-- A cached image that fails its check leaves the cache. -/
theorem dropped_fails (d : Device) (r : FretReq) : (let t := (d.cacheDrop (reqKey r)).loadFails r 4
     (t.fget (aFRET r.fret 4) 28 4 = 4 ∧ t.fget (aFRET r.fret 4) 0 16 = d.attempts r.fret ∧
      (t.fret r.fret).retry = some ({ r with again := true }, d.edge + 20480 * retryWait (d.attempts r.fret))) ∧ t.cached (reqKey r) = false) := by
  have hattempts : (d.cacheDrop (reqKey r)).attempts r.fret = d.attempts r.fret := by
    have hkeep := cacheDrop_keeps (own := loaderRegs) (part := fun _ => ()) (fun _ => rfl) (fun _ h => h) (fun _ _ => rfl) d (reqKey r)
    rw [attempts, attempts, fget_of_rd (hkeep.regs _ (not_loaderRegs_aFRET (by decide) (by decide)) (reportReg_of_fabric (by unfold aFRET; omega)))]
  have hedge : (d.cacheDrop (reqKey r)).edge = d.edge := (eq_of_plant Device.edge (noteCache_plant _)).trans (setLoader_edge ..)
  have hfail := ((d.cacheDrop (reqKey r)).loadFails_spec r (code := 4) (by decide)).1
  rw [hattempts, hedge] at hfail
  exact ⟨hfail, loadFails_cached _ _ (cacheDrop_same ..)⟩

/-- The frames of a request that nothing rejects are written. -/
theorem loaded_spec (d : Device) (r : FretReq) (hreg : r.region < 256) (hrej : d.rejects r = none) (hn : 256 ≤ d.framesDone) (hop : r.op < 2) :
    (let t := d.framesEnd r
     let e := d.writeFrames r 256
     t.frames = e.frames ∧ (∀ g, g ≠ r.fret → t.fret g = d.fret g) ∧
     (r.op = 1 → t.fretState r.fret = 0 ∧ (t.fret r.fret).content = 0) ∧
     (r.op = 0 → some (e.framesCrc (256 * r.fret) 256) = (d.cachedImg (reqKey r)).map RegionImg.wcrc →
       t.fretState r.fret = 2 ∧ (t.fret r.fret).content = reqKey r ∧ t.fget (aFRET r.fret 0) 8 8 = r.region) ∧
     (r.op = 0 → some (e.framesCrc (256 * r.fret) 256) ≠ (d.cachedImg (reqKey r)).map RegionImg.wcrc → t.fretState r.fret = 0 ∧
       t.fget (aFRET r.fret 4) 28 4 = 7 ∧ t.fget (aFRET r.fret 4) 0 16 = d.attempts r.fret ∧
       (t.fret r.fret).retry = some ({ r with again := true }, d.edge + 20480 * retryWait (d.attempts r.fret)))) := by
  have hfret (g : Nat) : (d.writeFrames r 256).fret g = d.fret g := by rw [writeFrames_eq]; rfl
  dsimp only
  obtain h1 | h0 : r.op = 1 ∨ r.op = 0 := by omega
  · obtain ⟨hstate, hcontent, hframes, hothers⟩ := d.unloaded_spec r 256
    rw [framesEnd_unload hrej hn h1]
    exact ⟨hframes, hothers, fun _ => ⟨hstate, hcontent⟩, fun h => by omega, fun h => by omega⟩
  · rw [framesEnd_load hrej hn h0]
    split
    next hcrc =>
      obtain ⟨⟨hstate, hcontent, hregion⟩, hothers, hframes⟩ := (d.writeFrames r 256).regionLoaded_spec r
      exact ⟨hframes, fun g hg => (hothers g hg).trans (hfret g), fun h => by omega,
        fun _ _ => ⟨hstate, hcontent, hregion.trans (Nat.mod_eq_of_lt hreg)⟩, fun _ h => absurd hcrc h⟩
    next hcrc =>
      obtain ⟨hfail, hothers, hframes, hstate⟩ := d.emptied_fails r 256 (code := 7) (by decide)
      exact ⟨hframes, hothers, fun h => by omega, fun _ h => absurd h hcrc, fun _ _ => ⟨hstate, hfail⟩⟩

end Device

/-- Settles O43: the load of a Fret from its fetch to its release, with each failure and its repeat. -/
theorem fretLoadsRun : Obligations.FretLoadsRun := by
  unfold Obligations.FretLoadsRun
  refine fun r s hf hreg => ⟨fun hcur => ⟨fun h0 hiso => ⟨fun hcached => ⟨fun segs img hok => ?_, fun segs code hbad => ?_, ?_⟩, fun hcached => ?_⟩,
    fun hiso hload hon => ⟨fun h2 hs => ?_, fun hrej hn hop => ?_, fun k code hrej hk hs => ?_, fun hrej hn hop => ?_⟩⟩, fun f hon hs he => ?_,
    fun f e hr he hc hs => ?_⟩
  · refine givesDev_onDev_as (f := fun d => d.imageCached s.mem (.read segs)) rfl ?_
    rintro _ rfl
    rw [Device.imageCached_good hcur s.mem h0 hiso hcached hok]
    refine ⟨?_, ?_, ?_⟩
    · rw [Device.cachedImg, Device.noteLoader_loader]
      exact Device.cachePut_cachedImg ..
    · exact (Device.eq_of_plant Device.frets (Device.noteLoader_plant _)).trans (Device.cachePut_frets ..)
    · rw [Device.noteLoader_loader, Device.cachePut_cur, hcur]
  · refine givesDev_onDev_as (f := fun d => d.imageCached s.mem (.read segs)) rfl ?_
    rintro _ rfl
    rw [Device.imageCached_bad hcur s.mem h0 hiso hcached hbad]
    exact (s.dev.loadFails_spec r (Device.regionRead_code hbad)).1
  · refine givesDev_onDev_as (f := fun d => d.imageCached s.mem .flashError) rfl ?_
    rintro _ rfl
    rw [Device.imageCached_flashError hcur s.mem h0 hiso hcached]
    exact (s.dev.loadFails_spec r (by decide)).1
  · refine givesDev_onDev_as rfl ?_
    rintro _ rfl
    rw [Device.loadComplete_cacheCrc hcur h0 hiso hcached]
    exact s.dev.dropped_fails r
  · refine givesDev_onDev_as rfl ?_
    rintro _ rfl
    rw [Device.loadComplete_ok hcur hiso hload hon, Device.framesEnd_reset h2 hs]
    refine ⟨?_, ?_, ?_, fun g hg => ?_⟩
    · rw [Device.noteLoader_state, Device.releaseFret_state]
    · rw [Device.noteLoader_fret, Device.releaseFret_fret]
    · exact (Device.eq_of_plant Device.frames (Device.noteLoader_plant _)).trans (Device.releaseFret_frames ..)
    · rw [Device.noteLoader_fret, Device.releaseFret_other _ _ hg]
  · refine givesDev_onDev_as rfl ?_
    rintro _ rfl
    rw [Device.loadComplete_ok hcur hiso hload hon]
    exact s.dev.loaded_spec r hreg hrej hn hop
  · obtain ⟨hfail, hothers, hframes, hstate⟩ := s.dev.emptied_fails r k (Device.rejects_code hrej)
    refine givesDev_onDev_as rfl ?_
    rintro _ rfl
    rw [Device.loadComplete_ok hcur hiso hload hon, Device.framesEnd_rejected hrej hk hs]
    exact ⟨hstate, hframes, hfail, hothers⟩
  · refine givesDev_onDev_as rfl ?_
    rintro _ rfl
    rw [Device.loadComplete_failed hcur hiso hload hon hrej hn hop]
    refine ⟨Device.fretFault_state _ hf, Device.fretFault_event _ hf, fun g hg => ?_⟩
    rw [Device.fretFault_other _ hg, Device.writeFrames_eq]
    rfl
  · refine givesDev_onDev_as rfl ?_
    rintro _ rfl
    have hconn : ∀ g, (s.dev.borderConnect f).fret g = (s.dev.connected f).fret g ∧ (s.dev.borderConnect f).fretState f = 3 := fun g => by
      rcases Device.borderConnect_connects hon hs he with h | h <;> rw [h]
      · exact ⟨rfl, s.dev.connected_state f⟩
      · exact ⟨Device.fret_of_fretsFrames (Device.loaderDone_kept _).part g, (Device.loaderDone_state ..).trans (s.dev.connected_state f)⟩
    refine ⟨(hconn 0).2, fun sig => ?_, fun g hg => (hconn g).1.trans (s.dev.connected_other f hg)⟩
    rw [Device.border, if_pos (hconn 0).2, (hconn f).1, s.dev.connected_fret f]
  · refine givesDev_onDev_as rfl ?_
    rintro _ rfl
    have hfrets := (Device.enqueueReq_keeps (own := fun _ => True) (part := Device.frets) (fun _ => rfl) (fun _ _ => trivial) trivial (fun _ _ => rfl)
      (s.dev.dropRetry f) r).part
    have hfret (g : Nat) : ((s.dev.dropRetry f).enqueueReq r).fret g = (s.dev.dropRetry f).fret g := by rw [Device.fret, Device.fret, hfrets]
    rw [Device.regionRetry_due hr he hc hs]
    refine ⟨?_, Device.enqueueReq_held .., fun g hg => ?_⟩
    · rw [hfret, Device.dropRetry_fret]
    · rw [hfret, Device.dropRetry_other _ hg]

end Sys2Proof.Machine
end

section
/-!
SUPPORT. What the end of an execution, a trigger and a list that goes on leave alone (R34, R196 to R208): the registers below the axes' and
every part beside lists, executions, queues, captures, switches, meters, engines, axes, Frets and the GPIO bits that wait.
-/

namespace Sys2Proof.Machine

-- One proof after another: the stacks of the threads that elaborate many at once exceed the memory of a check.
set_option Elab.async false

namespace Device

theorem Keeps.ite {α : Type} {own : Nat → Prop} {part : Device → α} {c : Prop} [Decidable c] {d x y : Device} (hx : Keeps own part d x)
    (hy : Keeps own part d y) : Keeps own part d (if c then x else y) := by
  split
  · exact hx
  · exact hy

/-- The device without what executions and lists own beside the registers. -/
def core (d : Device) : Device :=
  { d.plant with execs := [], lists := [], capRuns := [], capBufs := [], queues := [], frets := [], gpio := [] }

/-- The core without what the end of an execution changes beside (R34). -/
def endCore (d : Device) : Device := { d.core with mx := ⟨[], [], [], [], [], [], [], []⟩, rmu := [], engines := [], axes := [] }

/-- Registers from the axes' on. -/
def upRegs (a : Nat) : Prop := 0x70000 ≤ a

/-- Registers from the axes' on but STEP_STATUS and the status registers of the meters. -/
def stepRegs (a : Nat) : Prop := 0x70000 ≤ a ∧ a ≠ 0x80004 ∧ ¬ (0xA1800 ≤ a ∧ a < 0xA1900 ∧ a % 16 = 4)

/-- The core, and the count of class P events, which is a register in which others report (R356). -/
def stepPart (d : Device) : Device × Word := (d.core, d.rd 0x50044)

/-- An operation of the step engine: registers from 0x70000 on, no part of the device's core, and no class P event. -/
abbrev StepOnly (d e : Device) : Prop := Keeps stepRegs stepPart d e

/-- An operation of the step engine that may end an execution; the count of active contexts stands in one register with ARMED (R209). -/
abbrev StepEnds (d e : Device) : Prop := Keeps upRegs (fun x => (endCore x, x.armed)) d e

theorem core_plant (x : Device) : core x.plant = core x := rfl

/-- A part that the core shows. -/
theorem eq_of_core {α : Type} {d e : Device} (g : Device → α) (h : e.core = d.core) (hg : ∀ x : Device, g x.core = g x := by exact fun _ => rfl) : g e = g d := by
  rw [← hg e, h, hg d]

/-- A part that stays when an execution ends. -/
theorem eq_of_endCore {α : Type} {d e : Device} (g : Device → α) (h : e.endCore = d.endCore)
    (hg : ∀ x : Device, g x.endCore = g x := by exact fun _ => rfl) : g e = g d := by rw [← hg e, h, hg d]

theorem stepRegs_aLIST (l : Nat) {o : Nat} (ho : o % 16 ≠ 4) : stepRegs (aLIST l o) := by unfold stepRegs aLIST; omega
theorem stepRegs_aRESQ (q : Nat) {o : Nat} (ho : o % 16 ≠ 4) : stepRegs (aRESQ q o) := by unfold stepRegs aRESQ; omega
theorem stepRegs_aCB (b o : Nat) : stepRegs (aCB b o) := by unfold stepRegs aCB; omega
theorem stepRegs_aPOS (a : Nat) {o : Nat} (ho : o % 16 ≠ 4) : stepRegs (aPOS a o) := by unfold stepRegs aPOS; omega
theorem stepRegs_aFRET (f o : Nat) : stepRegs (aFRET f o) := by unfold stepRegs aFRET; omega

/-- What a list does after a verdict, beside the bit that ONFAIL ASSERT sets (R198). -/
def verdictOn (d : Device) (x : Exec) (pass ended : Bool) : Device :=
  if (d.lst x.list).ending = 2 then
    if d.execs.any fun y => y.list == x.list && y.id != x.id && y.verdict.isNone then d
    else (d.setLst x.list { d.lst x.list with pend := none, ending := 0 }).setLstState x.list 0
  else if !d.isLatest x then d
  else if d.lstState x.list ≠ 2 ∨ ended then d
  else
    match ctxOnfail x.words with
    | 1 =>
      if pass then (match ctxNext x.words with | some _ => d.makeEligible x.list | none => d.listEnds x.list)
      else d.namePend x.list (ctxFailarg x.words) false (some d.edge) true
    | 2 =>
      if pass then (match ctxNext x.words with | some _ => d.makeEligible x.list | none => d.listEnds x.list)
      else (d.dropPend x.list).setLstState x.list 3
    | _ => match ctxNext x.words with | some _ => d | none => d.listEnds x.list

theorem afterVerdict_eq (d : Device) (x : Exec) (pass ended : Bool) : d.afterVerdict x pass ended =
    (if !pass && decide (ctxOnfail x.words = 3) then d.gpioAdd (ctxFailarg x.words / 32) (2 ^ (ctxFailarg x.words % 32)) 0 0 else d).verdictOn x pass ended := rfl

/-- STEP_LNEXT follows the pending context of a list. -/
def showNext (d : Device) (l : Nat) : Device :=
  match (d.lst l).pend with
  | some p => d.fset (aLIST l 0xC) 0 14 p.ctx
  | none => d

/-- An execution that is active no longer. -/
def closed (d : Device) (x : Exec) : Exec := { x with active := false, closeEdge := d.edge, closePos := (d.ax (ctxAxis x.words)).c }

theorem endActive_eq (d : Device) (x : Exec) (cause : Nat) : d.endActive x cause =
    (let e := (((d.setExec (d.closed x)).freeEntry (d.closed x)).endRuns (fun r => r.exec == x.id) cause).showNext x.list
     if e.capo = 1 then e else e.closeMatrix (d.closed x)) := rfl

namespace StepOnly
variable {d e : Device}

theorem rd (h : StepOnly d e) {a : Nat} (ha : a < 0x70000) (hr : reportReg a = false) : e.rd a = d.rd a :=
  h.regs a (by unfold stepRegs; omega) hr

theorem of_plant (hr : keepsRegs stepRegs d e) (hp : e.plant = d.plant) (hc : e.rd 0x50044 = d.rd 0x50044) : StepOnly d e :=
  ⟨hr, Prod.ext (eq_of_plant Device.core hp core_plant) hc⟩

theorem core (h : StepOnly d e) : e.core = d.core := congrArg Prod.fst h.part
theorem classP (h : StepOnly d e) : e.rd 0x50044 = d.rd 0x50044 := congrArg Prod.snd h.part

theorem part_fset (d : Device) {a : Nat} (lo n x : Nat) (ha : stepRegs a) : stepPart (d.fset a lo n x) = stepPart d :=
  Prod.ext (eq_of_plant Device.core (fset_plant ..) core_plant) (rd_fset_other _ _ _ _ (by unfold stepRegs at ha; omega))

theorem fset {a : Nat} (ha : stepRegs a) (lo n x : Nat) (d : Device) : StepOnly d (d.fset a lo n x) := fset_keeps_of part_fset ha ..
theorem fsetB {a : Nat} (ha : stepRegs a) (i : Nat) (x : Bool) (d : Device) : StepOnly d (d.fsetB a i x) := fset ha ..
theorem bump {a : Nat} (ha : stepRegs a) (lo n : Nat) (d : Device) : StepOnly d (d.bump a lo n) := fset ha ..
theorem event {a : Nat} (ha : stepRegs a) (i : Nat) (d : Device) : StepOnly d (d.event a i) :=
  of_plant ((event_keepsRegs d a i).mono fun _ h => h ▸ ha) (event_plant ..) (event_rd _ _ _ _ (by unfold stepRegs at ha; omega) (by decide))

theorem setExec (x : Exec) (d : Device) : StepOnly d (d.setExec x) := .of_rd (fun _ => rfl) rfl
theorem setLst (l : Nat) (x : ListSt) (d : Device) : StepOnly d (d.setLst l x) := .of_rd (d.setLst_rd l x) rfl
theorem setQue (q : Nat) (x : Queue) (d : Device) : StepOnly d (d.setQue q x) := .of_rd (fun _ => rfl) rfl
theorem toDdr (a : Nat) (bs : List Byte) (d : Device) : StepOnly d (d.toDdr a bs) := .of_rd (fun _ => rfl) rfl
theorem setCapBuf (b : Nat) (x : CapBuf) (d : Device) : StepOnly d (d.setCapBuf b x) := .of_rd (fun _ => rfl) rfl
theorem gpioAdd (w s c t : Nat) (d : Device) : StepOnly d (d.gpioAdd w s c t) := .of_rd (d.gpioAdd_rd w s c t) rfl
theorem setLstState (l s : Nat) (d : Device) : StepOnly d (d.setLstState l s) := fset (stepRegs_aLIST l (by decide)) ..

/-! Lists (R191 to R198). -/

theorem dueList (l : Nat) (d : Device) : StepOnly d (d.dueList l) := dueList_keeps (fun _ _ _ => rfl) d l

theorem fretEvents (typ e : Nat) (level : Bool) (src : Nat) (d : Device) : StepOnly d (d.fretEvents typ e level src) :=
  fretEvents_keeps_of part_fset (fun _ _ _ => rfl) (fun f _ => stepRegs_aFRET f 0x18) d typ e level src

theorem trigger (l : Nat) (d : Device) : StepOnly d (d.trigger l) :=
  trigger_keeps_of part_fset (fun _ _ _ => rfl) (fun _ _ _ => rfl) (fun f _ => stepRegs_aFRET f 0x18) (stepRegs_aLIST l (by decide)) (stepRegs_aLIST l (by decide)) d

theorem dropPend (l : Nat) (d : Device) : StepOnly d (d.dropPend l) := setLst ..

theorem namePend (l c : Nat) (first : Bool) (el : Option Nat) (vw : Bool) (d : Device) : StepOnly d (d.namePend l c first el vw) := by
  unfold Device.namePend
  dsimp only
  refine Keeps.trans ?_ (dueList l _)
  split
  · exact (setLst ..).trans (fset (stepRegs_aLIST l (by decide)) ..)
  · exact setLst ..

theorem armList (l : Nat) (fresh : Bool) (d : Device) : StepOnly d (d.armList l fresh) := by
  unfold Device.armList
  dsimp only
  have hnamed (x : ListSt) : StepOnly d (((d.setLst l x).setLstState l 1).namePend l (((d.setLst l x).setLstState l 1).fget (aLIST l 0) 0 14) true none false) :=
    (setLst l x d).trans <| (setLstState ..).trans (namePend ..)
  exact .ite (Keeps.trans (hnamed _) (trigger l _)) (hnamed _)

theorem makeEligible (l : Nat) (d : Device) : StepOnly d (d.makeEligible l) := by
  unfold Device.makeEligible
  split
  · exact (setLst ..).trans (dueList ..)
  · exact .refl ..

theorem listEnds (l : Nat) (d : Device) : StepOnly d (d.listEnds l) := by
  unfold Device.listEnds
  dsimp only
  refine Keeps.trans ?_ (.foldl (fun e m _ => trigger m e) _)
  have hcounted (x : ListSt) (e : Nat) : StepOnly d (((d.setLst l x).bump (aLIST l 8) 16 16).fretEvents 4 e false l) :=
    (setLst l x d).trans <| (bump (stepRegs_aLIST l (by decide)) ..).trans (fretEvents ..)
  exact .ite (hcounted _ _) (.ite (Keeps.trans (hcounted _ _) (armList l false _)) (Keeps.trans (hcounted _ _) (setLstState l 0 _)))

theorem listFollows (x : Exec) (d : Device) : StepOnly d (d.listFollows x) := by
  unfold Device.listFollows
  split
  · exact .refl ..
  · split
    · exact makeEligible ..
    · exact listEnds ..

theorem ofList (f : Device → Nat → Device) (hf : ∀ e l, StepOnly e (f e l)) (ls : List Nat) (d : Device) : StepOnly d (ls.foldl f d) :=
  .foldl (fun e l _ => hf e l) d

theorem afterVerdict (x : Exec) (pass ended : Bool) (d : Device) : StepOnly d (d.afterVerdict x pass ended) := by
  have hafter (e : Device) (he : StepOnly d e) : StepOnly d (verdictOn e x pass ended) := by
    unfold verdictOn
    refine .ite (.ite he ?_) (.ite he (.ite he ?_))
    · exact he.trans <| (setLst ..).trans (setLstState ..)
    · split
      · split
        · split
          · exact he.trans (makeEligible ..)
          · exact he.trans (listEnds ..)
        · exact he.trans (namePend ..)
      · split
        · split
          · exact he.trans (makeEligible ..)
          · exact he.trans (listEnds ..)
        · exact he.trans <| (dropPend ..).trans (setLstState ..)
      · split
        · exact he
        · exact he.trans (listEnds ..)
  rw [afterVerdict_eq]
  exact hafter _ (.ite (gpioAdd ..) (.refl ..))

/-! Records and queues (R204 to R208). -/

theorem signal (v : Nat) (d : Device) : StepOnly d (d.signal v) :=
  .of_plant (fun a ha _ => signal_rd _ _ _ (by unfold stepRegs at ha; omega)) (signal_plant ..) (signal_rd _ _ _ (by omega))

theorem queIrq (q : Nat) (d : Device) : StepOnly d (d.queIrq q) := by
  unfold Device.queIrq
  exact .ite (Keeps.trans (setQue q _ d) (signal _ _)) (.refl ..)

theorem commitRec (q : Nat) (r : ResRec) (b : Bool) (d : Device) : StepOnly d (d.commitRec q r b) := (setQue ..).trans (queIrq ..)

theorem commitExecs (q : Nat) (xs : List Exec) (d : Device) : StepOnly d (d.commitExecs q xs) := by
  induction xs generalizing d with
  | nil => exact .refl ..
  | cons x rest ih =>
    unfold Device.commitExecs
    have hdone (y : Exec) (rs : List (ResRec × Bool)) : StepOnly d (rs.foldl (fun d r => d.commitRec q r.1 r.2) (d.setExec y)) :=
      (setExec y d).trans (.foldl (fun e r _ => commitRec q r.1 r.2 e) _)
    exact .ite (ih d) (.ite (Keeps.trans (hdone _ _) (ih _)) (hdone _ _))

theorem commit (q : Nat) (d : Device) : StepOnly d (d.commit q) := commitExecs ..

theorem finish (i : Nat) (ended : Bool) (d : Device) : StepOnly d (d.finish i ended) := by
  unfold Device.finish
  split
  · exact .refl ..
  · exact .ite (commit ..) ((setExec _ d).trans <| (afterVerdict ..).trans (commit ..))

/-! The end of an execution (R34, R92, R95, R196, R243). -/

theorem flushWord (r : CapRun) (d : Device) : StepOnly d (d.flushWord r).1 := by
  unfold Device.flushWord
  split
  · exact .refl ..
  · exact (setCapBuf ..).trans (toDdr ..)

theorem countRuns (b : Nat) (d : Device) : StepOnly d (d.countRuns b) :=
  (fset (stepRegs_aCB b _) ..).trans (fset (by unfold stepRegs; decide) ..)

theorem putIndex (r : CapRun) (count cause : Nat) (d : Device) : StepOnly d (d.putIndex r count cause) := toDdr ..

theorem withRuns (rs : List CapRun) (d : Device) : StepOnly d { d with capRuns := rs } := .of_rd (fun _ => rfl) rfl

theorem endRun (r : CapRun) (cause : Nat) (d : Device) : StepOnly d (d.endRun r cause) :=
  (flushWord r d).trans <| (putIndex ..).trans <| (withRuns ..).trans (countRuns ..)

theorem endRuns (p : CapRun → Bool) (cause : Nat) (d : Device) : StepOnly d (d.endRuns p cause) := .foldl (fun e r _ => endRun r cause e) _

theorem checkWheel (a : Nat) (d : Device) : StepOnly d (d.checkWheel a) := .ite (event (stepRegs_aPOS a (by decide)) ..) (.refl ..)

end StepOnly

namespace StepEnds
variable {d e : Device}

theorem ofOnly (h : StepOnly d e) : StepEnds d e :=
  ⟨h.regs.mono fun _ ha => ha.1, Prod.ext (eq_of_core Device.endCore h.core) (flag_eq_of_rd_eq (h.regs 0x80004 (fun ha => ha.2.1 rfl) (by decide)) 16)⟩

theorem core (h : StepEnds d e) : e.endCore = d.endCore := congrArg Prod.fst h.part
theorem armed (h : StepEnds d e) : e.armed = d.armed := congrArg Prod.snd h.part

theorem rd (h : StepEnds d e) {a : Nat} (ha : a < 0x70000) (hr : reportReg a = false) : e.rd a = d.rd a := h.regs a (by unfold upRegs; omega) hr

theorem upRegs_aACT (i : Nat) : upRegs (aACT i) := by unfold upRegs aACT; omega
theorem upRegs_aRMU (r o : Nat) : upRegs (aRMU r o) := by unfold upRegs aRMU; omega

/-- Another register than STEP_STATUS from the axes' on. -/
theorem wr {a : Nat} (ha : upRegs a) (h4 : a ≠ 0x80004) (v : Word) (d : Device) : StepEnds d (d.wr a v) :=
  ⟨fun b hb _ => rd_wr_other _ _ (fun h => hb (h ▸ ha)), Prod.ext (eq_of_plant Device.endCore (wr_plant ..)) (flag_eq_of_rd_eq (rd_wr_other _ _ h4.symm) 16)⟩

theorem showActives (k : Nat) (d : Device) : StepEnds d (d.fset 0x80004 0 7 k) := by
  refine ⟨(fset_keepsRegs d 0x80004 0 7 k).mono fun a ha => ?_, Prod.ext ?_ ?_⟩
  · unfold upRegs
    omega
  · exact eq_of_plant Device.endCore (fset_plant ..)
  · exact congrArg (fun k => decide (k = 1)) (fget_fset_disjoint d _ _ (by decide) (.inr (by decide)))

theorem freeEntry (x : Exec) (d : Device) : StepEnds d (d.freeEntry x) :=
  (StepEnds.wr (upRegs_aACT x.entry) (by unfold aACT; omega) 0 d).trans (showActives _ _)

theorem report (x : FqEntry) (forced : Bool) (d : Device) : StepEnds d (d.report x forced) :=
  ⟨report_keepsRegs d _ x forced, Prod.ext (eq_of_plant Device.endCore (report_plant ..)) (flag_eq_of_rd_eq (report_rd _ _ _ _ (by decide)) 16)⟩

theorem setMx (m : Matrix) (d : Device) : StepEnds d (d.setMx m) := .of_rd (fun _ => rfl) rfl
theorem setEng (n : Nat) (g : Engine) (d : Device) : StepEnds d (d.setEng n g) := .of_rd (fun _ => rfl) rfl
theorem setAx (a : Nat) (x : Axis) (d : Device) : StepEnds d (d.setAx a x) := .of_rd (d.setAx_rd a x) rfl

theorem closeMatrix (x : Exec) (d : Device) : StepEnds d (d.closeMatrix x) := (setMx ..).trans (setMx ..)

theorem withRmu (t : Tab Rmu) (d : Device) : StepEnds d { d with rmu := t } := .of_rd (fun _ => rfl) rfl

theorem stopConvs (x : Exec) (d : Device) : StepEnds d (d.stopConvs x) := by
  refine .foldl (fun e r _ => ?_) d
  exact .ite ((withRmu _ e).trans (wr (upRegs_aRMU r _) (by unfold aRMU; omega) ..)) (.refl ..)

theorem dropTxs (i : Nat) (d : Device) : StepEnds d (d.dropTxs i) := .foldl (fun e n _ => setEng n _ e) _

theorem endActive (x : Exec) (cause : Nat) (d : Device) : StepEnds d (d.endActive x cause) := by
  have hnamed (e : Device) : StepOnly e (e.showNext x.list) := by
    unfold showNext
    split
    · exact .fset (stepRegs_aLIST _ (by decide)) ..
    · exact .refl ..
  rw [endActive_eq]
  have hended (y : Exec) : StepEnds d ((((d.setExec y).freeEntry y).endRuns (fun r => r.exec == x.id) cause).showNext x.list) :=
    (ofOnly (.setExec y d)).trans <| (freeEntry ..).trans <| (ofOnly (.endRuns ..)).trans (ofOnly (hnamed _))
  exact .ite (hended _) (Keeps.trans (hended _) (closeMatrix _ _))

theorem endExec (x : Exec) (fseq busFlag : Nat) (d : Device) : StepEnds d (d.endExec x fseq busFlag) := by
  unfold Device.endExec
  dsimp only
  refine Keeps.trans ?_ ((dropTxs ..).trans (ofOnly (.finish ..)))
  have hset (y : Exec) : StepEnds d (d.setExec y) := ofOnly (.setExec y d)
  exact .ite (Keeps.trans (hset _) (Keeps.trans (stopConvs _ _) (endActive _ 3 _))) (hset _)

/-! Axes (R166, R175). -/

theorem seekAxis (a : Nat) (d : Device) : StepEnds d (d.seekAxis a) := by
  have hfound (e : Device) : StepOnly e ((e.setAxState a 1).checkWheel a) :=
    (StepOnly.fset (stepRegs_aPOS a (by decide)) ..).trans (StepOnly.checkWheel ..)
  have hseek (e : FqEntry) (b : Bool) : StepEnds d ((((d.report e b).setAxState a 1).checkWheel a).setAx a
      (seekFresh ((((d.report e b).setAxState a 1).checkWheel a).ax a))) := (report e b d).trans <| (ofOnly (hfound _)).trans (setAx ..)
  refine Keeps.trans (hseek _ _) (.foldl (fun e x _ => ?_) _)
  split
  · exact (endExec ..).trans (ofOnly (.listFollows ..))
  · exact .refl ..

theorem loseAxis (a : Nat) (d : Device) : StepEnds d (d.loseAxis a) := (ofOnly (.event (stepRegs_aPOS a (by decide)) ..)).trans (seekAxis ..)

theorem axisReturns (a : Nat) (d : Device) : StepEnds d (d.axisReturns a) :=
  .ite (.refl ..) (.ite (seekAxis ..) ((setAx ..).trans (ofOnly (.checkWheel ..))))

end StepEnds
end Device
end Sys2Proof.Machine
end

section
/-!
PROOF. O52: planned switches, the fabric clock and the clock outputs.
-/

namespace Sys2Proof.Machine

-- One proof after another: the stacks of the threads that elaborate many at once exceed the memory of a check.
set_option Elab.async false

theorem blockEvents_clock {a : Nat} (h : a / 0x10000 = 0x01) : Device.blockEvents a = some (0x10004, 7, 6) := by
  unfold Device.blockEvents
  dsimp only
  rw [h]
  rfl

theorem eventReg_clock {a b : Nat} (h : a / 0x10000 = 0x01) : Device.EventReg a b ↔ b = 0x10004 :=
  Device.eventReg_of_blockEvents (blockEvents_clock h) (by omega)

namespace Device

/-! Switching to another reference (R363, R368 to R371). -/

/-- The device beside what the end of an execution changes, without the link and the state of the references. -/
def unclocked (d : Device) : Device := { d.endCore with link := Link.init, sys := { d.sys with clk := ⟨none, none, false, false, 0⟩ } }

theorem unclocked_plant (x : Device) : x.plant.unclocked = x.unclocked := rfl

theorem StepEnds.unclocked {own : Nat → Prop} {d e : Device} (h : StepEnds d e) (ho : ∀ a, upRegs a → own a) : Keeps own Device.unclocked d e :=
  ⟨h.regs.mono ho, by rw [Device.unclocked, Device.unclocked, h.core, eq_of_endCore Device.sys h.core]⟩

/-- Registers of the references, and those from the axes' on. -/
def clkRegs (a : Nat) : Prop := a = 0x10000 ∨ a = 0x10004 ∨ a = 0x1001C ∨ a = 0x10020 ∨ upRegs a

theorem clkRegs_of_step {a : Nat} (h : upRegs a) : clkRegs a := .inr (.inr (.inr (.inr h)))

section
variable {own : Nat → Prop} (ho : ∀ a, upRegs a → own a) (d : Device)
include ho

theorem unalign_keeps (st : Nat) : Keeps own Device.unclocked d (d.unalign st) := by
  refine .ite ?_ (.refl ..)
  refine Keeps.trans (.fset (a := 0xB0000) unclocked_plant (ho _ (by unfold upRegs; decide)) 0 3 st d) ?_
  refine Keeps.trans (.event (a := 0xB0004) unclocked_plant (ho _ (by unfold upRegs; decide)) 1 _) ?_
  refine Keeps.trans (.setLink (fun _ _ => rfl) _ _) (.foldl (fun e a _ => ?_) _)
  exact .ite ((StepEnds.loseAxis a e).unclocked ho) (.refl ..)

theorem unaligned_keeps (b : Bool) : Keeps own Device.unclocked d (if b then d else d.unalign 2) := .ite (.refl ..) (unalign_keeps ho d 2)

end

theorem setClk_keeps {own : Nat → Prop} (d : Device) (c : ClkSt) : Keeps own Device.unclocked d (d.setClk c) := .of_rd (fun _ => rfl) rfl

theorem forced_keeps (d : Device) : Keeps clkRegs Device.unclocked d d.forced :=
  Keeps.trans (.event unclocked_plant (.inr (.inl rfl)) 5 d) (.bump unclocked_plant (.inr (.inr (.inr (.inl rfl)))) 16 16 _)

theorem unforced_keeps (d : Device) (b : Bool) : Keeps clkRegs Device.unclocked d (if d.refReady (!b) then d else d.forced) :=
  .ite (.refl ..) (forced_keeps d)

theorem selectRef_keeps (d : Device) (b : Bool) : Keeps clkRegs Device.unclocked d (d.selectRef b) := by
  refine Keeps.trans (unforced_keeps d b) ?_
  refine Keeps.trans (.fsetB unclocked_plant (.inl rfl) 12 b _) ?_
  refine Keeps.trans (.fsetB unclocked_plant (.inr (.inr (.inl rfl))) 16 false _) ?_
  exact Keeps.trans (unaligned_keeps (fun _ => clkRegs_of_step) _ b) (setClk_keeps ..)

theorem unaligned_rd (d : Device) (b : Bool) {a : Nat} (ha : a < 0x70000) (hr : reportReg a = false) : (if b then d else d.unalign 2).rd a = d.rd a := by
  split
  · rfl
  · exact (unalign_keeps (own := upRegs) (fun _ h => h) d 2).regs a (by unfold upRegs; omega) hr

theorem selectRef_rd (d : Device) (b : Bool) : (d.selectRef b).rd 0x10000 = ((if d.refReady (!b) then d else d.forced).fsetB 0x10000 12 b).rd 0x10000 := by
  have h := unaligned_rd ((((if d.refReady (!b) then d else d.forced).fsetB 0x10000 12 b).fsetB 0x1001C 16 false)) b (a := 0x10000) (by decide) (by decide)
  refine Eq.trans ?_ (h.trans (rd_fset_other _ _ _ _ (by decide)))
  rfl

theorem selectRef_activeRef (d : Device) (b : Bool) : (d.selectRef b).activeRef = b := by
  rw [activeRef, flag_eq_of_rd_eq (d.selectRef_rd b), flag_fsetB_same _ b (by decide)]

/-- A switch that CLK_CMD begins in good order (R371). -/
theorem clkCmd_hitless (d : Device) {raw : Word} (hne : bitOf raw 0 ≠ d.activeRef) (hl : d.sys.clk.lossAt = none) (hr : d.refReady (bitOf raw 0) = true) :
    d.clkCmd raw = (d.selectRef (bitOf raw 0)).fsetB 0x10000 15 true := by
  unfold clkCmd
  rw [if_neg hne, hl, if_neg (by decide), if_pos hr]

theorem clkCmd_same (d : Device) {raw : Word} (h : bitOf raw 0 = d.activeRef) : d.clkCmd raw = d := if_pos h

theorem hitless_state (d : Device) (b : Bool) : ((d.selectRef b).fsetB 0x10000 15 true).activeRef = b ∧
    ((d.selectRef b).fsetB 0x10000 15 true).flag 0x10000 15 = true ∧ ((d.selectRef b).fsetB 0x10000 15 true).capo = d.capo ∧
    ((d.selectRef b).fsetB 0x10000 15 true).chan = d.chan := by
  have hk : Keeps clkRegs Device.unclocked d ((d.selectRef b).fsetB 0x10000 15 true) := (selectRef_keeps d b).trans (.fsetB unclocked_plant (.inl rfl) 15 true _)
  refine ⟨?_, flag_fsetB_same _ true (by decide), ?_, ?_⟩
  · rw [activeRef, flag_fsetB_other _ true (by decide) (by decide)]
    exact selectRef_activeRef d b
  · exact fget_of_rd (hk.regs 0x40000 (by unfold clkRegs upRegs; decide) (by decide)) 0 2
  · exact (congrArg Device.chan hk.part : _)

/-- A switch is counted, and its event set (R370, R382). -/
theorem switched_spec (d : Device) : d.switched.fget 0x10020 0 16 = (d.fget 0x10020 0 16 + 1) % 2 ^ 16 ∧ d.switched.plant = d.plant ∧
    keepsRegs (fun a => a = 0x10004 ∨ a = 0x10020) d d.switched := by
  have hev : keepsRegs (fun a => a = 0x10004) d (d.event 0x10004 4) := event_keepsRegs d _ _
  refine ⟨?_, by rw [switched, bump_plant, event_plant], (hev.mono fun _ => .inl).trans ((fset_keepsRegs _ 0x10020 0 16 _).mono fun _ => .inr)⟩
  rw [switched, bump, fget_fset_same _ _ _ (by decide), fget_of_rd (hev 0x10020 (by decide) (by decide))]

theorem slewEnd_spec (d : Device) (h : d.flag 0x10000 15 = true) : d.slewEnd.flag 0x10000 15 = false ∧
    d.slewEnd.fget 0x10020 0 16 = (d.fget 0x10020 0 16 + 1) % 2 ^ 16 ∧ d.slewEnd.plant = d.plant ∧
    keepsRegs (fun a => a = 0x10000 ∨ a = 0x10004 ∨ a = 0x10020) d d.slewEnd := by
  obtain ⟨hn, hp, hr⟩ := switched_spec (d.fsetB 0x10000 15 false)
  rw [slewEnd, if_pos h]
  refine ⟨?_, ?_, hp.trans (fsetB_plant ..), ((fsetB_keepsRegs _ 0x10000 15 false).mono fun _ => .inl).trans (hr.mono fun _ => .inr)⟩
  · rw [flag_eq_of_rd_eq (hr 0x10000 (by decide) (by decide)), flag_fsetB_same _ false (by decide)]
  · rw [hn, fget_of_rd (fsetB_keepsRegs d 0x10000 15 false 0x10020 (by decide) (by decide))]

/-! The fabric clock (R365, R367). -/

/-- CLK_CFG and CLK_FABFREQ as `fabricClock` stores them, before the fabric PLL follows. -/
theorem fabricClock_eq (d : Device) {a : Nat} (p : Party) {raw : Word} (h : d.fabricRuns = false ∨ d.reachesRws a raw = false) :
    d.fabricClock a p raw =
      if (d.putCooked p a raw).flag 0x10008 1 then
        (if d.flag 0x10008 1 = false ∨ d.rd 0x1000C ≠ (d.putCooked p a raw).rd 0x1000C then
          ((d.putCooked p a raw).fsetB 0x10000 3 false).setClk { (d.putCooked p a raw).sys.clk with fabOld := d.fabricKhz } else d.putCooked p a raw)
      else (d.putCooked p a raw).fsetB 0x10000 3 false := by
  unfold fabricClock
  refine if_neg ?_
  · rw [Bool.and_eq_true]
    rintro ⟨h1, h2⟩
    rcases h with h | h
    · exact absurd (h.symm.trans h1) (by decide)
    · exact absurd (h.symm.trans h2) (by decide)

theorem fabricClock_refused (d : Device) {a : Nat} (p : Party) {raw : Word} (h : d.fabricRuns = true) (hr : d.reachesRws a raw = true) :
    d.fabricClock a p raw = d.refuse a := by
  unfold fabricClock
  rw [if_pos]
  rw [h, hr]
  rfl

/-- The device with another former clock of the fabric domain (R367). -/
def withFabOld (d : Device) (k : Nat) : Device := d.setClk { d.sys.clk with fabOld := k }

theorem withFabOld_plant (d : Device) (k : Nat) : (d.withFabOld k).plant = d.plant.withFabOld k := rfl
theorem withFabOld_same (d : Device) : d.withFabOld d.sys.clk.fabOld = d := rfl
theorem withFabOld_fabOld (d : Device) (k : Nat) : (d.withFabOld k).sys.clk.fabOld = k := rfl

/-- What the fabric PLL does with stored settings: it loses its lock, to a new setting in FREE or with FREE's end (R365, R367). -/
structure FabricStored (d t : Device) : Prop where
  aligned : t.flag 0x10008 1 = false → t.flag 0x10000 3 = false
  fresh : t.flag 0x10008 1 = true ∧ (d.flag 0x10008 1 = false ∨ t.rd 0x1000C ≠ d.rd 0x1000C) →
    t.flag 0x10000 3 = false ∧ t.sys.clk.fabOld = d.fabricKhz
  old : ¬ (t.flag 0x10008 1 = true ∧ (d.flag 0x10008 1 = false ∨ t.rd 0x1000C ≠ d.rd 0x1000C)) → t.sys.clk.fabOld = d.sys.clk.fabOld
  plant : t.plant = d.plant.withFabOld t.sys.clk.fabOld

theorem setClk_rd (d : Device) (c : ClkSt) (a : Nat) : (d.setClk c).rd a = d.rd a := rfl
theorem setClk_flag (d : Device) (c : ClkSt) (a i : Nat) : (d.setClk c).flag a i = d.flag a i := rfl

section
variable (d : Device) {a : Nat} (p : Party) {raw : Word} (ha : a = 0x10008 ∨ a = 0x1000C)
include ha

theorem putCooked_fabric_rd : (d.putCooked p a raw).rd a = storeWord a (d.cook a raw).1 := by
  refine putCooked_rd_same _ _ _ _ (fun h => ?_) ?_
  · have := (eventReg_clock (by omega)).mp h
    omega
  · rcases ha with rfl | rfl <;> decide

theorem putCooked_fabric_keeps : keepsRegs (fun b => b = a ∨ b = 0x10004) d (d.putCooked p a raw) :=
  (putCooked_keepsRegs d p a raw).mono fun _ => Or.imp_right (eventReg_clock (by omega)).mp

end

/-- The device `e` with the settings stored, and the fabric PLL as it follows. -/
theorem fabricStored_of {d e : Device} (hp : e.plant = d.plant) : FabricStored d
    (if e.flag 0x10008 1 then
      (if d.flag 0x10008 1 = false ∨ d.rd 0x1000C ≠ e.rd 0x1000C then (e.fsetB 0x10000 3 false).withFabOld d.fabricKhz else e)
    else e.fsetB 0x10000 3 false) := by
  have hclk : e.sys = d.sys := eq_of_plant Device.sys hp
  split
  case isTrue hfree =>
    split
    case isTrue hnew =>
      have hf : ((e.fsetB 0x10000 3 false).withFabOld d.fabricKhz).flag 0x10008 1 = true :=
        (flag_eq_of_rd_eq (rd_fset_other e _ _ _ (by decide)) 1).trans hfree
      have hr : ((e.fsetB 0x10000 3 false).withFabOld d.fabricKhz).rd 0x1000C = e.rd 0x1000C := rd_fset_other e _ _ _ (by decide)
      refine ⟨fun h => absurd (h.symm.trans hf) (by decide), fun _ => ⟨?_, rfl⟩, fun h => absurd ⟨hf, hnew.imp_right fun hne => hr ▸ hne.symm⟩ h, ?_⟩
      · exact flag_fsetB_same _ false (by decide)
      · rw [withFabOld_plant, withFabOld_fabOld, fsetB_plant, hp]
    case isFalse hold =>
      refine ⟨fun h => absurd (h.symm.trans hfree) (by decide), fun h => absurd (h.2.imp_right Ne.symm) hold, fun _ => by rw [hclk], ?_⟩
      rw [hp, hclk]
      exact (withFabOld_same d.plant).symm
  case isFalse haligned =>
    have hf : (e.fsetB 0x10000 3 false).flag 0x10008 1 = false := by
      rw [flag_eq_of_rd_eq (fsetB_keepsRegs e 0x10000 3 false 0x10008 (by decide) (by decide))]
      exact Bool.eq_false_iff.mpr haligned
    refine ⟨fun _ => flag_fsetB_same _ false (by decide), fun h => absurd (h.1.symm.trans hf) (by decide), fun _ => ?_, ?_⟩
    · exact congrArg (fun x => x.clk.fabOld) ((eq_of_plant Device.sys (fsetB_plant e _ _ _)).trans hclk)
    · have hs : (e.fsetB 0x10000 3 false).sys = d.sys := (eq_of_plant Device.sys (fsetB_plant e _ _ _)).trans hclk
      rw [fsetB_plant, hp, hs]
      exact (withFabOld_same d.plant).symm

theorem fabricClock_keeps (d : Device) {a : Nat} (p : Party) {raw : Word}
    (h : d.fabricRuns = false ∨ d.reachesRws a raw = false) :
    keepsRegs (fun b => b = 0x10000) (d.putCooked p a raw) (d.fabricClock a p raw) := by
  have hunlock (e : Device) : keepsRegs (fun b => b = 0x10000) e (e.fsetB 0x10000 3 false) := fsetB_keepsRegs e 0x10000 3 false
  rw [fabricClock_eq d p h]
  split
  · split
    · exact (hunlock _).of_rd fun _ => rfl
    · exact keepsRegs.refl _ _
  · exact hunlock _

theorem fabricClock_stored (d : Device) {a : Nat} (p : Party) {raw : Word} (h : d.fabricRuns = false ∨ d.reachesRws a raw = false) :
    FabricStored d (d.fabricClock a p raw) := by
  rw [fabricClock_eq d p h]
  exact fabricStored_of (putCooked_plant ..)

/-- The fabric PLL locks at the setting that its domain waits for. -/
theorem fabLock_spec (d : Device) (hf : d.flag 0x10008 1 = true) (hl : d.flag 0x10000 3 = false) :
    d.fabLock.flag 0x10000 3 = true ∧ d.fabLock.plant = d.plant ∧ keepsRegs (fun a => a = 0x10000 ∨ a = 0x10004 ∨ a = 0x10020) d d.fabLock := by
  have hset : keepsRegs (fun a => a = 0x10000 ∨ a = 0x10004 ∨ a = 0x10020) d (d.fsetB 0x10000 3 true) := (fsetB_keepsRegs d 0x10000 3 true).mono fun _ => .inl
  have hflag : (d.fsetB 0x10000 3 true).flag 0x10000 3 = true := flag_fsetB_same _ true (by decide)
  unfold fabLock
  rw [if_pos ⟨hf, hl⟩]
  dsimp only
  split
  · have hforced : keepsRegs (fun a => a = 0x10004 ∨ a = 0x10020) (d.fsetB 0x10000 3 true) (d.fsetB 0x10000 3 true).forced :=
      ((event_keepsRegs _ 0x10004 5).mono fun _ => .inl).trans ((fset_keepsRegs _ 0x10020 16 16 _).mono fun _ => .inr)
    refine ⟨?_, ?_, hset.trans (hforced.mono fun _ => .inr)⟩
    · rw [flag_eq_of_rd_eq (hforced 0x10000 (by decide) (by decide)), hflag]
    · rw [forced, bump_plant, event_plant, fsetB_plant]
  · exact ⟨hflag, fsetB_plant .., hset⟩

/-! Clock outputs (R378, R379). -/

theorem depthFit_le (mode freq : Nat) : ∀ k, depthFit mode freq k ≤ k
  | 0 => Nat.le_refl 0
  | k + 1 => by
    unfold depthFit
    split
    · exact Nat.le_refl _
    · exact (depthFit_le mode freq k).trans (Nat.le_succ k)

theorem depthFit_ok (mode freq : Nat) : ∀ k, sweepOk mode freq (depthFit mode freq k) = true ∨ depthFit mode freq k = 0
  | 0 => .inr rfl
  | k + 1 => by
    unfold depthFit
    split
    case isTrue h => exact .inl h
    case isFalse => exact depthFit_ok mode freq k

/-- The sweep of an output stays inside its limits, or it has no depth (R379). -/
def SweepFits (t : Device) (n : Nat) : Prop :=
  sweepOk (t.fget (aOUT n 4) 0 2) (t.fget (aOUT n 0) 0 28) (t.fget (aOUT n 4) 8 6) = true ∨ t.fget (aOUT n 4) 8 6 = 0

theorem sweepFits_of_rd {d e : Device} {n : Nat} (h4 : e.rd (aOUT n 4) = d.rd (aOUT n 4)) (h0 : e.rd (aOUT n 0) = d.rd (aOUT n 0)) (h : SweepFits d n) :
    SweepFits e n := by
  unfold SweepFits
  rw [fget_of_rd h4, fget_of_rd h4, fget_of_rd h0]
  exact h

section
variable {n : Nat} (hn : n < 4)
include hn

theorem aOUT_range {o : Nat} (ho : o < 0x10) : 0x10040 ≤ aOUT n o ∧ aOUT n o < 0x10080 := by unfold aOUT; omega

theorem reportReg_aOUT {o : Nat} (ho : o < 0x10) : reportReg (aOUT n o) = false := by
  have h := aOUT_range hn ho
  unfold reportReg
  simp only [List.contains_eq_mem, List.mem_cons, List.not_mem_nil, or_false, decide_eq_false_iff_not]
  omega

omit hn in
theorem spreadClamp_keeps (d : Device) (src : ClampSrc) (recd word : Nat) :
    keepsRegs (fun a => a = aOUT n 4 ∨ a = 0x10004) d (d.spreadClamp n src recd word) := by
  unfold spreadClamp
  dsimp only
  split
  · exact keepsRegs.refl _ _
  · generalize depthFit (d.fget (aOUT n 4) 0 2) (d.fget (aOUT n 0) 0 28) (d.fget (aOUT n 4) 8 6) = y
    intro a ha hr
    rw [event_keepsRegs _ 0x10004 7 a (fun h => ha (.inr h)) hr, reportClamp_rd _ _ _ _ _ _ _ _ _ _ _ hr, rd_fset_other _ _ _ _ fun h => ha (.inl h)]

omit hn in
theorem spreadClamp_plant (d : Device) (src : ClampSrc) (recd word : Nat) : (d.spreadClamp n src recd word).plant = d.plant := by
  unfold spreadClamp
  dsimp only
  split
  · rfl
  · rw [event_plant, reportClamp_plant, fset_plant]

theorem spreadClamp_fits (d : Device) (src : ClampSrc) (recd word : Nat) : SweepFits (d.spreadClamp n src recd word) n := by
  have hok := depthFit_ok (d.fget (aOUT n 4) 0 2) (d.fget (aOUT n 0) 0 28) (d.fget (aOUT n 4) 8 6)
  have hle := depthFit_le (d.fget (aOUT n 4) 0 2) (d.fget (aOUT n 0) 0 28) (d.fget (aOUT n 4) 8 6)
  have hlt : d.fget (aOUT n 4) 8 6 < 2 ^ 6 := bitsOf_lt ..
  unfold spreadClamp
  dsimp only
  split
  case isTrue h =>
    rw [h] at hok
    exact hok
  case isFalse =>
    generalize depthFit (d.fget (aOUT n 4) 0 2) (d.fget (aOUT n 0) 0 28) (d.fget (aOUT n 4) 8 6) = y at hok hle
    have hfits : SweepFits (d.fset (aOUT n 4) 8 6 y) n := by
      unfold SweepFits
      rw [fget_fset_same _ _ _ (by decide), fget_fset_apart d y (by decide) (.inr (by decide)), fget_fset_apart d y (by decide) (.inl (by unfold aOUT; omega)),
        Nat.mod_eq_of_lt (by omega)]
      exact hok
    have hkeep (o : Nat) (ho : o < 0x10) (e : Device) (k z : Int) :
        ((e.reportClamp src (some (aOUT n 4)) 0 0xFFFF 6 recd (32 * word + 8) k z).event 0x10004 7).rd (aOUT n o) = e.rd (aOUT n o) := by
      have h := aOUT_range hn ho
      rw [event_keepsRegs _ 0x10004 7 (aOUT n o) (by omega) (reportReg_aOUT hn ho), reportClamp_rd _ _ _ _ _ _ _ _ _ _ _ (reportReg_aOUT hn ho)]
    exact sweepFits_of_rd (hkeep 4 (by decide) _ _ _) (hkeep 0 (by decide) _ _ _) hfits

/-- A register of an output as it is stored, with its depth clamped. -/
def outStored (d : Device) (n o : Nat) (p : Party) (raw : Word) : Device := (d.putCooked p (aOUT n o) raw).spreadClamp n (srcOf p) (aOUT n 4) 0

/-- The output has to lock anew (R378). -/
def OutRelocks (d e : Device) (n : Nat) : Prop :=
  d.flag (aOUT n 8) 0 ≠ e.flag (aOUT n 8) 0 ∨
    ((e.rd (aOUT n 0), e.rd (aOUT n 4)) ≠ (d.rd (aOUT n 0), d.rd (aOUT n 4)) ∧ (Config.freeByte e.freeCtr).toNat % 2 = 1)


omit hn in
theorem takeByte_rd (d : Device) (a : Nat) : d.takeByte.rd a = d.rd a := rfl

omit hn in
/-- The synthesiser follows the settings stored. -/
theorem outWrite_cases (d : Device) (n o : Nat) (p : Party) (raw : Word) :
    (OutRelocks d (outStored d n o p raw) n ∧ d.outWrite n o p raw = ((outStored d n o p raw).fsetB 0x10000 (6 + n) false).takeByte) ∨
    (¬ OutRelocks d (outStored d n o p raw) n ∧ d.outWrite n o p raw = (outStored d n o p raw).takeByte) := by
  by_cases h : OutRelocks d (outStored d n o p raw) n
  · exact .inl ⟨h, congrArg takeByte (if_pos h)⟩
  · exact .inr ⟨h, congrArg takeByte (if_neg h)⟩

variable (d : Device) {o : Nat} (ho : o < 0x10) (p : Party) (raw : Word)
include ho

theorem eventReg_aOUT {b : Nat} : EventReg (aOUT n o) b ↔ b = 0x10004 := eventReg_clock (by have := aOUT_range hn ho; omega)

theorem outStored_keeps : keepsRegs (fun a => a = aOUT n o ∨ a = aOUT n 4 ∨ a = 0x10004) d (outStored d n o p raw) :=
  ((putCooked_keepsRegs d p (aOUT n o) raw).mono fun _ h => h.imp_right fun he => .inr ((eventReg_aOUT hn ho).mp he)).trans
    ((spreadClamp_keeps _ _ _ _).mono fun _ => .inr)

omit hn ho in
theorem outStored_plant : (outStored d n o p raw).plant = d.plant := (spreadClamp_plant ..).trans (putCooked_plant ..)

theorem outStored_rd (h4 : o ≠ 4) : (outStored d n o p raw).rd (aOUT n o) = storeWord (aOUT n o) (d.cook (aOUT n o) raw).1 := by
  have hr := aOUT_range hn ho
  rw [outStored, spreadClamp_keeps _ _ _ _ (aOUT n o) (by unfold aOUT; omega) (reportReg_aOUT hn ho),
    putCooked_rd_same _ _ _ _ (fun h => by have := (eventReg_aOUT hn ho).mp h; omega) (reportReg_aOUT hn ho)]

omit hn ho in
theorem outWrite_rd {a : Nat} (ha : a ≠ 0x10000) : (d.outWrite n o p raw).rd a = (outStored d n o p raw).rd a := by
  obtain ⟨-, h⟩ | ⟨-, h⟩ := outWrite_cases d n o p raw
  · rw [h, takeByte_rd, fsetB, rd_fset_other _ _ _ _ ha]
  · rw [h, takeByte_rd]

omit hn ho in
theorem outWrite_plant : (d.outWrite n o p raw).plant = { d.plant with freeCtr := (d.outWrite n o p raw).freeCtr } := by
  have htake (e : Device) (he : e.plant = d.plant) : e.takeByte.plant = { d.plant with freeCtr := e.takeByte.freeCtr } := by
    rw [← he]
    rfl
  obtain ⟨-, h⟩ | ⟨-, h⟩ := outWrite_cases d n o p raw
  · rw [h]
    exact htake _ ((fsetB_plant ..).trans (outStored_plant ..))
  · rw [h]
    exact htake _ (outStored_plant ..)

theorem outWrite_keeps : keepsRegs (fun a => a = aOUT n o ∨ a = aOUT n 4 ∨ a = 0x10000 ∨ a = 0x10004) d (d.outWrite n o p raw) := by
  intro a ha hr
  rw [outWrite_rd d p raw (fun h => ha (.inr (.inr (.inl h))))]
  exact outStored_keeps hn d ho p raw a (fun h => ha (h.imp_right (Or.imp_right .inr))) hr

theorem outWrite_ready (hsame : (d.outWrite n o p raw).flag (aOUT n 8) 0 = d.flag (aOUT n 8) 0)
    (h0 : (d.outWrite n o p raw).rd (aOUT n 0) = d.rd (aOUT n 0)) (h4 : (d.outWrite n o p raw).rd (aOUT n 4) = d.rd (aOUT n 4)) :
    (d.outWrite n o p raw).flag 0x10000 (6 + n) = d.flag 0x10000 (6 + n) := by
  have hne (k : Nat) : aOUT n k ≠ 0x10000 := by unfold aOUT; omega
  have hrange := aOUT_range hn ho
  rw [flag_eq_of_rd_eq (outWrite_rd d p raw (hne 8))] at hsame
  rw [outWrite_rd d p raw (hne 0)] at h0
  rw [outWrite_rd d p raw (hne 4)] at h4
  obtain ⟨hrel, -⟩ | ⟨-, h⟩ := outWrite_cases d n o p raw
  · rcases hrel with hrel | ⟨hrel, -⟩
    · exact absurd hsame.symm hrel
    · exact absurd (by rw [h0, h4]) hrel
  · rw [h]
    exact flag_eq_of_rd_eq (outStored_keeps hn d ho p raw 0x10000 (by unfold aOUT; omega) (by decide)) _

omit ho in
theorem outWrite_restarts (hne : (d.outWrite n o p raw).flag (aOUT n 8) 0 ≠ d.flag (aOUT n 8) 0) : (d.outWrite n o p raw).flag 0x10000 (6 + n) = false := by
  obtain ⟨-, h⟩ | ⟨hrel, -⟩ := outWrite_cases d n o p raw
  · rw [h]
    exact flag_fsetB_same _ false (by omega)
  · rw [flag_eq_of_rd_eq (outWrite_rd d p raw (by unfold aOUT; omega))] at hne
    exact absurd (.inl hne.symm) hrel

omit ho in
theorem outWrite_fits : SweepFits (d.outWrite n o p raw) n :=
  sweepFits_of_rd (outWrite_rd d p raw (by unfold aOUT; omega)) (outWrite_rd d p raw (by unfold aOUT; omega)) (spreadClamp_fits hn ..)
end

end Device

/-- Settles O52: CLK_CMD, the fabric clock and the clock outputs one by one. -/
theorem clocksFollow : Obligations.ClocksFollow := by
  unfold Obligations.ClocksFollow
  have hgo (w : Wr) : bitOf (setBits w.data 31 1 1) 0 = bitOf w.data 0 := bitOf_setBits_other w.data 1 (by decide) (by decide)
  refine ⟨fun w s => ⟨fun hadm hl => ⟨fun hsame => ?_, fun hne hr => ?_⟩, fun h => ?_⟩,
    ⟨fun r w s hadm => ⟨fun hfree => ?_, fun hruns hrws => ?_⟩, fun s hf hl => ?_, fun n r w s hadm => ?_, fun n s => ⟨?_, ?_⟩⟩⟩
  · refine givesDdr_write_as rfl hadm ?_
    rintro _ rfl
    rw [Device.clkCmd_same _ ((hgo w).trans hsame)]
    exact ⟨rfl, fun _ => rfl⟩
  · refine givesDdr_write_as rfl hadm ?_
    rintro _ rfl
    rw [← hgo w] at hne hr ⊢
    rw [Device.clkCmd_hitless _ hne hl hr]
    exact Device.hitless_state ..
  · refine givesDev_onDev_as rfl ?_
    rintro _ rfl
    exact s.dev.slewEnd_spec h
  · have ha : 0x10008 + 4 * r.val = 0x10008 ∨ 0x10008 + 4 * r.val = 0x1000C := by omega
    refine givesDev_write_as rfl hadm ?_
    rintro _ rfl
    have hstored := s.dev.fabricClock_stored w.by_ hfree
    have hkeeps := s.dev.fabricClock_keeps w.by_ hfree
    refine ⟨?_, hstored.aligned, ⟨hstored.fresh, hstored.old⟩, hstored.plant, ?_⟩
    · rw [hkeeps _ (by omega) (by rcases ha with h | h <;> rw [h] <;> decide)]
      exact Device.putCooked_fabric_rd _ _ ha
    · refine Device.keepsRegs.trans ((Device.putCooked_fabric_keeps _ _ ha).mono fun _ => Or.imp_right .inr) (hkeeps.mono fun _ h => .inr (.inl h))
  · refine givesDev_write_as rfl hadm ?_
    rintro _ rfl
    rw [Device.fabricClock_refused _ _ hruns hrws]
    exact s.dev.refuse_reports (blockEvents_clock (by omega)) (by omega) (by decide) (by decide)
  · refine givesDev_onDev_as rfl ?_
    rintro _ rfl
    exact s.dev.fabLock_spec hf hl
  · refine givesDev_write_as rfl hadm ?_
    rintro _ rfl
    have hr : 4 * r.val < 0x10 := by omega
    refine ⟨fun h1 => ?_, Device.outWrite_fits n.isLt _ _ _, Device.outWrite_restarts n.isLt _ _ _, Device.outWrite_ready n.isLt _ hr _ _,
      Device.outWrite_plant _ _ _, Device.outWrite_keeps n.isLt _ hr _ _⟩
    rw [Device.outWrite_rd _ _ _ (by unfold Device.aOUT; omega)]
    exact Device.outStored_rd n.isLt _ hr _ _ (by omega)
  · intro hon hfab
    refine givesDev_onDev_as rfl ?_
    rintro _ rfl
    rw [if_pos ⟨hon, hfab⟩]
    exact ⟨Device.flag_fsetB_same _ true (by omega), Device.fsetB_plant .., fun a ha => Device.rd_fset_other _ _ _ _ ha⟩
  · intro hoff
    refine ⟨s.onDev fun d => if d.flag (Device.aOUT n 8) 0 ∧ d.fabricOn then d.fsetB 0x10000 (6 + n) true else d, rfl, rfl, rfl, ?_⟩
    rw [State.onDev_dev]
    dsimp only
    rw [if_neg]
    rintro ⟨hon, hfab⟩
    rcases hoff with hoff | hoff
    · exact absurd (hoff.symm.trans hon) (by decide)
    · exact absurd (hoff.symm.trans hfab) (by decide)

end Sys2Proof.Machine
end

section
/-!
SUPPORT. What Capo SAFE and the end of a calibration leave alone (R69, R70, R94, R202, R244, R319).
-/

namespace Sys2Proof.Machine

-- One proof after another: the stacks of the threads that elaborate many at once exceed the memory of a check.
set_option Elab.async false

namespace Device

/-! The ends of frames and transactions (R243 to R245, R466). -/

/-- Registers from the capture buffers' on. -/
def wireRegs (a : Nat) : Prop := 0xC0000 ≤ a

/-- What an engine's wire does as its frame ends: marks, and the engine's own state. -/
abbrev WireOnly (d e : Device) : Prop := Keeps wireRegs endCore d e

namespace WireOnly

theorem endCore_plant (x : Device) : x.plant.endCore = x.endCore := rfl

theorem setEng (n : Nat) (g : Engine) (d : Device) : WireOnly d (d.setEng n g) := .of_rd (fun _ => rfl) rfl

theorem capEntry (b : Nat) (bs : List Byte) (d : Device) : WireOnly d (d.capEntry b bs) := by
  have hreg (o : Nat) : wireRegs (aCB b o) := by
    unfold wireRegs aCB
    omega
  have hfull (e : Device) : WireOnly e (e.fsetB (aCB b 0x14) 0 true) := .fsetB endCore_plant (hreg _) ..
  unfold Device.capEntry
  dsimp only
  refine .ite ((hfull d).trans (.bump endCore_plant (hreg _) ..)) ?_
  have hput (x : CapBuf) (a : Nat) : WireOnly d ((d.setCapBuf b x).toDdr a bs) := .of_rd (fun _ => rfl) rfl
  exact .ite (Keeps.trans (hput _ _) (hfull _)) (hput _ _)

theorem putMark (b eng frame : Nat) (m : Mark) (d : Device) : WireOnly d (d.putMark b eng frame m) :=
  .ite (.refl ..) (.ite (.event endCore_plant (by unfold wireRegs; decide) ..) (capEntry ..))

theorem markAll (e : Nat) (t : Tx) (ms : List Mark) (d : Device) : WireOnly d (d.markAll e t ms) :=
  .ite (.refl ..) (.foldl (fun f m _ => putMark _ e t.frameNo m f) _)

theorem cutWave (e : Nat) (d : Device) : WireOnly d (d.cutWave e) := by
  obtain h | ⟨c, h, rfl | ⟨t, ms, rfl⟩⟩ := cutWave_cases d e
  · rw [h]
    exact .refl ..
  · rw [h]
    exact setEng ..
  · rw [h]
    exact (markAll ..).trans (setEng ..)

theorem haltEng (e : Nat) (d : Device) : WireOnly d (d.haltEng e) := (cutWave e d).trans <| (setEng ..).trans (setEng ..)

theorem haltEngines (d : Device) : WireOnly d d.haltEngines := .foldl (fun e n _ => haltEng n e) _

end WireOnly

theorem StepEnds.ofWire {d e : Device} (h : WireOnly d e) : StepEnds d e :=
  ⟨h.regs.mono fun a ha => by unfold wireRegs at ha; unfold upRegs; omega,
    Prod.ext h.part (flag_eq_of_rd_eq (h.regs 0x80004 (by unfold wireRegs; decide) (by decide)) 16)⟩

/-! Handovers (R78, R80). -/

section
variable {α : Type} {own : Nat → Prop} {part : Device → α} (hc : ∀ (x : Device) c y, part (x.setCrs c y) = part x)
include hc

theorem beginHand_keeps (c : Nat) (h : Handover) (d : Device) : Keeps own part d (d.beginHand c h) := by
  have hset (x : Course) : Keeps own part d (d.setCrs c x) := .of_rd (d.setCrs_rd c x) (hc ..)
  exact .ite (hset _) (.ite (hset _) (hset _))

theorem nextHand_keeps (c : Nat) (d : Device) : Keeps own part d (d.nextHand c) := by
  have hset (e : Device) (x : Course) : Keeps own part e (e.setCrs c x) := .of_rd (e.setCrs_rd c x) (hc ..)
  unfold Device.nextHand
  refine .ite (.refl ..) ?_
  dsimp only
  have hgaps (x : Course) (hs : List Handover) : Keeps own part d (hs.foldl (fun d h => d.beginHand c h) (d.setCrs c x)) :=
    (hset d x).trans (.foldl (fun e h _ => beginHand_keeps hc c h e) _)
  split
  · exact Keeps.trans (hgaps _ _) (Keeps.trans (hset _ _) (beginHand_keeps hc ..))
  · exact hgaps _ _

end

/-! What follows once lists and engines stand still. -/

/-- The device without what the matrix, the slices, the chains, the Tuning engine, the link and Capo's own state hold. -/
def calmCore (d : Device) : Device :=
  { d.plant with mx := ⟨[], [], [], [], [], [], [], []⟩, rmu := [], course := [], cal := Cal.init, calP := 0, chains := [], thrs := [], link := Link.init,
                 sys := { d.sys with capo := ⟨[], false, 0, none, false, 0, false, false⟩ } }

/-- Registers from the Tuning engine's on, but STEP_STATUS and the states of lists. -/
def lateRegs (a : Nat) : Prop := 0x60000 ≤ a ∧ a ≠ 0x80004 ∧ (0x81000 ≤ a → a < 0x82000 → a % 0x10 ≠ 8)

/-- Those of them that configure no engine. -/
def calmRegs (a : Nat) : Prop := lateRegs a ∧ (0x191000 ≤ a → a % 0x40 ≠ 0)

/-- An operation on switches, slices, chains, calibration or the link: no register below the Tuning engine's, no list, and EN of no engine. -/
abbrev LateOnly (d e : Device) : Prop := Keeps lateRegs (fun x => (calmCore x, fun e : Nat => x.flag (aENG e 0) 0)) d e

theorem calmCore_plant (x : Device) : calmCore x.plant = calmCore x := rfl

namespace LateOnly
variable {d e : Device}

theorem ofCalm (h : Keeps calmRegs calmCore d e) : LateOnly d e :=
  ⟨h.regs.mono fun _ ha => ha.1, Prod.ext h.part (funext fun e => flag_eq_of_rd_eq
    (h.regs (aENG e 0) (fun ha => ha.2 (by unfold aENG; omega) (by unfold aENG; omega)) (reportReg_of_ge (by unfold aENG; omega))) 0)⟩

theorem core (h : LateOnly d e) : e.calmCore = d.calmCore := congrArg Prod.fst h.part
theorem engineOn (h : LateOnly d e) (n : Nat) : e.flag (aENG n 0) 0 = d.flag (aENG n 0) 0 := congrFun (congrArg Prod.snd h.part) n

theorem fset {a : Nat} (ha : calmRegs a) (lo n x : Nat) (d : Device) : LateOnly d (d.fset a lo n x) := ofCalm (.fset calmCore_plant ha ..)
theorem fsetB {a : Nat} (ha : calmRegs a) (i : Nat) (x : Bool) (d : Device) : LateOnly d (d.fsetB a i x) := fset ha ..
theorem bump {a : Nat} (ha : calmRegs a) (lo n : Nat) (d : Device) : LateOnly d (d.bump a lo n) := fset ha ..
theorem wr {a : Nat} (ha : calmRegs a) (v : Word) (d : Device) : LateOnly d (d.wr a v) := ofCalm (.wr calmCore_plant ha ..)
theorem event {a : Nat} (ha : calmRegs a) (i : Nat) (d : Device) : LateOnly d (d.event a i) := ofCalm (.event calmCore_plant ha ..)
theorem setMx (m : Matrix) (d : Device) : LateOnly d (d.setMx m) := .of_rd (fun _ => rfl) rfl
theorem setCrs (c : Nat) (x : Course) (d : Device) : LateOnly d (d.setCrs c x) := .of_rd (fun _ => rfl) rfl
theorem setCal (k : Cal) (d : Device) : LateOnly d (d.setCal k) := .of_rd (fun _ => rfl) rfl
theorem setChain (n : Nat) (c : Chain) (d : Device) : LateOnly d (d.setChain n c) := .of_rd (fun _ => rfl) rfl
theorem setThr (n : Nat) (c : Thr) (d : Device) : LateOnly d (d.setThr n c) := .of_rd (fun _ => rfl) rfl
theorem setLink (k : Link) (d : Device) : LateOnly d (d.setLink k) := .of_rd (fun _ => rfl) rfl
theorem setCapoSt (c : CapoSt) (d : Device) : LateOnly d (d.setCapoSt c) := .of_rd (fun _ => rfl) rfl
theorem withRmu (t : Tab Rmu) (d : Device) : LateOnly d { d with rmu := t } := .of_rd (fun _ => rfl) rfl
theorem withRun (r : Option CalRun) (p : Nat) (d : Device) : LateOnly d { d with cal := { d.cal with run := r }, calP := p } := .of_rd (fun _ => rfl) rfl

/-- RUN of a chain stands in no bit that enables an engine, whatever the channel. -/
theorem setRun (n : Nat) (d : Device) : LateOnly d (d.fset (aFILT n 0) 31 1 1) := by
  refine ⟨(fset_keepsRegs d (aFILT n 0) 31 1 1).mono fun a ha => ?_, Prod.ext ?_ (funext fun e => ?_)⟩
  · unfold lateRegs aFILT at *
    omega
  · exact eq_of_plant Device.calmCore (fset_plant ..)
  · exact congrArg (fun k => decide (k = 1)) (fget_fset_apart d 1 (by decide) (.inr (by decide)))

theorem calmRegs_aFILT (n : Nat) {o : Nat} (ho : o % 0x40 ≠ 0) : calmRegs (aFILT n o) := by
  unfold calmRegs lateRegs aFILT
  omega

theorem loadThr (n k : Nat) (d : Device) : LateOnly d (d.loadThr n k) :=
  (fset (calmRegs_aFILT n (by decide)) ..).trans <| (fset (calmRegs_aFILT n (by decide)) ..).trans <|
    (fset (calmRegs_aFILT n (by decide)) ..).trans (setThr ..)

theorem startChain (n k : Nat) (d : Device) : LateOnly d (d.startChain n k) := by
  have hloaded : LateOnly d (d.chainLoaded n k) :=
    (setRun n d).trans <| (loadThr ..).trans <| (fset (calmRegs_aFILT n (by decide)) ..).trans <|
      (fsetB (calmRegs_aFILT n (by decide)) ..).trans (fset (calmRegs_aFILT n (by decide)) ..)
  rw [startChain_eq]
  exact .ite hloaded (hloaded.trans <| (setChain ..).trans <| (fsetB (calmRegs_aFILT n (by decide)) ..).trans (fsetB (calmRegs_aFILT n (by decide)) ..))

theorem reconnect (n : Nat) (d : Device) : LateOnly d (d.reconnect n) := .ite (startChain ..) (.refl ..)

/-! Calibration (R319, R325). -/

theorem calmRegs_aCALCH (n : Nat) {o : Nat} (ho : o = 0x10 ∨ o = 0x14) : calmRegs (aCALCH n o) := by
  unfold calmRegs lateRegs aCALCH
  omega

theorem calmRegs_aCAL (s : Nat) {o : Nat} (ho : o = 0x10 ∨ o = 0x14) : calmRegs (aCAL s o) := by
  unfold calmRegs lateRegs aCAL aCALCH aCALSP
  split <;> omega

theorem countCal (s : Nat) (n : Option Nat) (d : Device) : LateOnly d (d.countCal s n) := by
  have hch (n : Nat) (e : Device) : LateOnly e ((e.bump (aCALCH n 0x10) 0 32).wr (aCALCH n 0x14) (e.rd 0x60018)) :=
    (bump (calmRegs_aCALCH n (.inl rfl)) 0 32 e).trans (wr (calmRegs_aCALCH n (.inr rfl)) ..)
  have hsp (e : Device) : LateOnly e ((e.bump (aCAL s 0x10) 0 32).wr (aCAL s 0x14) (e.rd 0x60018)) :=
    (bump (calmRegs_aCAL s (.inl rfl)) 0 32 e).trans (wr (calmRegs_aCAL s (.inr rfl)) ..)
  cases n with
  | none => exact .ite (hsp _) (.refl ..)
  | some n => exact .ite (Keeps.trans (hch n d) (hsp _)) (hch n d)

theorem beginHand (c : Nat) (h : Handover) (d : Device) : LateOnly d (d.beginHand c h) := beginHand_keeps (fun _ _ _ => rfl) c h d

theorem nextHand (c : Nat) (d : Device) : LateOnly d (d.nextHand c) := nextHand_keeps (fun _ _ _ => rfl) c d

theorem holdOpen {b : Nat} (hb : b < 32) (w : OpenWhy) (d : Device) : LateOnly d (d.holdOpen b w) :=
  (setMx _ d).trans (fsetB (by unfold calmRegs lateRegs aMX; omega) ..)

/-- Buses that over-current opened are held no longer where a test says so. -/
theorem freeBuses (p : Device → Nat → Prop) [∀ d b, Decidable (p d b)] (d : Device) :
    LateOnly d ((List.range 32).foldl (fun d b => if p d b then d.holdOpen b .no else d) d) :=
  .foldl (fun _ _ hb => .ite (holdOpen (List.mem_range.mp hb) ..) (.refl ..)) d

theorem clearRun (d : Device) : LateOnly d d.clearRun := by
  have hfree (e : Device) : LateOnly e e.freeTuning :=
    Keeps.trans (.foldl (fun _ _ hb => .ite (holdOpen (List.mem_range.mp hb) ..) (.refl ..)) e) (setMx ..)
  exact (withRun none 0 d).trans <| (hfree _).trans <| (fsetB (by unfold calmRegs lateRegs; omega) ..).trans (wr (by unfold calmRegs lateRegs; omega) ..)

theorem handBack (r : CalRun) (d : Device) : LateOnly d (d.handBack r) := by
  unfold Device.handBack
  dsimp only
  split
  · split
    · exact .ite ((setCrs ..).trans (nextHand ..)) (.refl ..)
    · exact beginHand ..
  · split
    · exact Keeps.trans (.ite (countCal ..) (.refl ..)) (reconnect ..)
    · exact beginHand ..
  · exact .ite (countCal ..) (.refl ..)
  · exact .refl ..

theorem endCal (drop : Bool) (d : Device) : LateOnly d (d.endCal drop) := by
  unfold Device.endCal
  split
  · exact .refl ..
  next r _ =>
    have hcleared : LateOnly d (d.clearRun.event 0x60008 5) := (clearRun d).trans (event (by unfold calmRegs lateRegs; omega) ..)
    exact Keeps.trans (.ite hcleared (hcleared.trans (setCal ..))) (handBack r _)

/-! The matrix, the slices and the meters (R70, R94). -/

theorem stopMeters (d : Device) : LateOnly d d.stopMeters :=
  .foldl (fun e r _ => (withRmu _ e).trans (fsetB (by unfold calmRegs lateRegs aRMU; omega) ..)) d

theorem safeMatrix (d : Device) : LateOnly d d.safeMatrix := by
  have hw {a : Nat} (ha : 0xA0000 ≤ a ∧ a < 0xA1000) : calmRegs a := by
    unfold calmRegs lateRegs
    omega
  refine Keeps.trans (freeBuses (fun d b => d.busOpen b = .overcurrent) d) ?_
  exact (setMx ..).trans <| (wr (hw (by decide)) ..).trans <| (wr (hw (by decide)) ..).trans <| (wr (hw (by decide)) ..).trans (wr (hw (by decide)) ..)

theorem safeHands (d : Device) : LateOnly d d.safeHands := by
  refine .foldl (fun e c _ => ?_) _
  exact Keeps.trans (setCrs c _ e) (.foldl (fun f h _ => Keeps.trans (.ite (countCal ..) (.refl ..)) (reconnect ..)) _)

theorem sendMsg (m : LinkMsg) (d : Device) : LateOnly d (d.sendMsg m) :=
  ofCalm (sendOn_keeps (fun _ _ => rfl) d _ m)

theorem noteOwn (d : Device) : LateOnly d d.noteOwn := by
  have hsend (c : CapoSt) (m : LinkMsg) : LateOnly d ((d.setCapoSt c).sendMsg m) := (setCapoSt c d).trans (sendMsg ..)
  exact .ite (.ite (hsend _ _) (.refl ..)) (.ite (hsend _ _) (.refl ..))

end LateOnly

/-! SAFE as a whole (R35, R69, R94, R202, R244). -/

/-- The device without what SAFE changes beside the registers. -/
def safeCore (d : Device) : Device :=
  { d.endCore with heldIn := none, chan := [], course := [], cal := Cal.init, calP := 0, chains := [], thrs := [], link := Link.init,
                   sys := { d.sys with capo := ⟨[], false, 0, none, false, 0, false, false⟩ } }

/-- Registers that SAFE may change beside Capo's own. -/
def safeRegs (a : Nat) : Prop := a = 0x4001C ∨ 0x60000 ≤ a

/-- A part of Capo's entry into SAFE: ARMED stands. -/
abbrev SafeOnly (d e : Device) : Prop := Keeps safeRegs (fun x => (safeCore x, x.armed)) d e

/-- A part that SAFE leaves. -/
theorem eq_of_safeCore {α : Type} {d e : Device} (g : Device → α) (h : e.safeCore = d.safeCore)
    (hg : ∀ x : Device, g x.safeCore = g x := by exact fun _ => rfl) : g e = g d := by rw [← hg e, h, hg d]

namespace SafeOnly
variable {d e : Device}

theorem core (h : SafeOnly d e) : e.safeCore = d.safeCore := congrArg Prod.fst h.part
theorem armed (h : SafeOnly d e) : e.armed = d.armed := congrArg Prod.snd h.part

theorem rd (h : SafeOnly d e) {a : Nat} (ha : a < 0x60000) (hc : a ≠ 0x4001C := by decide) (hr : reportReg a = false := by decide) : e.rd a = d.rd a :=
  h.regs a (by unfold safeRegs; omega) hr

theorem ofPlant {own : Nat → Prop} (h : Keeps own safeCore d e) (ho : ∀ a, own a → safeRegs a ∧ a ≠ 0x80004) : SafeOnly d e :=
  ⟨h.regs.mono fun a ha => (ho a ha).1, Prod.ext h.part (flag_eq_of_rd_eq (h.regs 0x80004 (fun ha => (ho _ ha).2 rfl) (by decide)) 16)⟩

theorem ofEnds (h : StepEnds d e) : SafeOnly d e :=
  ⟨h.regs.mono fun a ha => .inr (by unfold upRegs at ha; omega), Prod.ext (eq_of_endCore Device.safeCore h.core) h.armed⟩

theorem ofLate (h : LateOnly d e) : SafeOnly d e := by
  refine ⟨h.regs.mono fun a ha => .inr ha.1, Prod.ext ?_ (flag_eq_of_rd_eq (h.regs 0x80004 (fun ha => ha.2.1 rfl) (by decide)) 16)⟩
  have hk (x : Device) : x.calmCore.safeCore = x.safeCore := rfl
  rw [← hk e, h.core, hk d]

theorem safeCore_plant (x : Device) : x.plant.safeCore = x.safeCore := rfl

theorem capoNotice (code action : Nat) (d : Device) : SafeOnly d (d.capoNotice code action) :=
  ofPlant (own := (· = 0x4001C)) (Keeps.trans (.report safeCore_plant _ _ d) (.wr (own := (· = 0x4001C)) safeCore_plant (by rfl) _ _))
    fun a ha => ⟨.inl ha, by omega⟩

theorem chanReg (n o lo k x : Nat) (d : Device) : SafeOnly d (d.fset (aCH n o) lo k x) :=
  ofPlant (own := (· = aCH n o)) (.fset (own := (· = aCH n o)) safeCore_plant (by rfl) ..) fun a ha => ⟨.inr (by unfold aCH at ha; omega), by unfold aCH at ha; omega⟩

theorem setCh (n : Nat) (c : Chan) (d : Device) : SafeOnly d (d.setCh n c) := .of_rd (fun _ => rfl) rfl

theorem dropClamp (n : Nat) (m0 m1 : Word) (d : Device) : SafeOnly d (d.dropClamp n m0 m1) :=
  .ite (.refl ..) ((setCh ..).trans (chanReg ..))

theorem takeSafe (n : Nat) (d : Device) : SafeOnly d (d.takeSafe n) :=
  (chanReg ..).trans <| (chanReg ..).trans <| (chanReg ..).trans <| (chanReg ..).trans (chanReg ..)

theorem dropStream (n : Nat) (d : Device) : SafeOnly d (d.dropStream n) := .ite (setCh ..) (.refl ..)

theorem safeChan (n : Nat) (d : Device) : SafeOnly d (d.safeChan n) :=
  (takeSafe n d).trans <| (chanReg n 0x18 ..).trans <| (dropStream ..).trans <| (chanReg n 0x38 ..).trans <| (setCh ..).trans (dropClamp ..)

theorem setCapoSt (c : CapoSt) (d : Device) : SafeOnly d (d.setCapoSt c) := ofLate (.setCapoSt ..)

theorem safeExec (f i : Nat) (d : Device) : SafeOnly d (d.safeExec f i) := by
  unfold Device.safeExec
  split
  · exact .refl ..
  · have hbus (x : Exec) : StepEnds d (d.endBusSlots x f) :=
      (StepEnds.ofOnly (.setExec _ d)).trans <| (StepEnds.dropTxs ..).trans (StepEnds.ofOnly (.finish ..))
    exact .ite (ofEnds (.endExec ..)) (.ite (.refl ..) (.ite (ofEnds (hbus _)) (.refl ..)))

theorem safeLists (d : Device) : SafeOnly d d.safeLists :=
  Keeps.trans (setCapoSt _ d) (.foldl (fun e l _ => ofEnds (.ofOnly ((StepOnly.dropPend l e).trans (StepOnly.setLstState ..)))) _)

end SafeOnly

/-- SAFE up to the lists and engines: the pins take their safe states, contexts end (R69, R202). -/
def safePins (d : Device) : Device :=
  let f := d.nextFseq.toNat
  let d := ({ d with heldIn := none }.fset 0x40000 0 2 2).bump 0x40018 0 16
  let d := d.capoNotice 0x36 6
  let d := if d.quiet then d else d.forChans allChans safeChan
  (d.execs.map Exec.id).foldl (safeExec f) d

/-- SAFE after the lists: engines, meters, the matrix, the slices, the calibration. -/
def safeRest (d : Device) : Device := (d.stopMeters.safeMatrix.safeHands).endCal false

theorem enterSafe_eq (d : Device) : d.enterSafe = d.safePins.safeLists.haltEngines.safeRest := rfl

/-- The device as SAFE finds it, in state SAFE and counted. -/
def safeSeen (d : Device) : Device := ({ d with heldIn := none }.fset 0x40000 0 2 2).bump 0x40018 0 16

theorem safePins_only (d : Device) : SafeOnly d.safeSeen d.safePins := by
  have hpins (e : Device) : SafeOnly e (if e.quiet then e else e.forChans allChans Device.safeChan) :=
    .ite (.refl ..) (.foldl (fun f n _ => SafeOnly.safeChan n f) e)
  exact (SafeOnly.capoNotice 0x36 6 d.safeSeen).trans <| (hpins _).trans (.foldl (fun f i _ => SafeOnly.safeExec _ i f) _)

theorem safeRest_only (d : Device) : LateOnly d d.safeRest :=
  (LateOnly.stopMeters d).trans <| (LateOnly.safeMatrix ..).trans <| (LateOnly.safeHands ..).trans (LateOnly.endCal ..)

theorem enterSafe_only (d : Device) : SafeOnly d.safeSeen d.enterSafe := by
  rw [enterSafe_eq]
  exact (safePins_only d).trans <| (SafeOnly.safeLists _).trans <| (SafeOnly.ofEnds (.ofWire (.haltEngines _))).trans (SafeOnly.ofLate (safeRest_only _))

theorem safeSeen_capo (d : Device) : d.safeSeen.capo = 2 := by
  unfold safeSeen capo bump
  rw [fget_fset_other _ _ _ _ _ _ (by decide)]
  exact fget_fset_same _ _ _ (by decide)

theorem enterSafe_capo (d : Device) : d.enterSafe.capo = 2 := by
  rw [capo, fget_of_rd ((enterSafe_only d).rd (by decide))]
  exact d.safeSeen_capo

theorem safeSeen_keeps (d : Device) : Keeps (fun a => a = 0x40000 ∨ a = 0x40018) safeCore d d.safeSeen :=
  have hin : Keeps (fun a => a = 0x40000 ∨ a = 0x40018) safeCore d { d with heldIn := none } := .of_rd (fun _ => rfl) rfl
  hin.trans <| (Keeps.fset SafeOnly.safeCore_plant (.inl rfl) ..).trans (.bump SafeOnly.safeCore_plant (.inr rfl) ..)

theorem enterSafe_count (d : Device) : d.enterSafe.fget 0x40018 0 16 = (d.fget 0x40018 0 16 + 1) % 2 ^ 16 := by
  rw [fget_of_rd ((enterSafe_only d).rd (by decide))]
  unfold safeSeen bump
  rw [fget_fset_same _ _ _ (by decide), fget_fset_other _ _ _ _ _ _ (by decide)]
  rfl

/-! Lists and engines at rest (R202, R244). -/

theorem lstState_lt (d : Device) (l : Nat) : d.lstState l < 4 := bitsOf_lt ..

theorem lstState_setLstState (d : Device) (l m s : Nat) (hs : s < 4) : (d.setLstState l s).lstState m = if m = l then s else d.lstState m := by
  unfold lstState setLstState
  by_cases h : m = l
  · rw [if_pos h, h, fget_fset_same _ _ _ (by decide)]
    exact Nat.mod_eq_of_lt hs
  · rw [if_neg h, fget_fset_other _ _ _ _ _ _ (by unfold aLIST; omega)]

/-- A list is neither ARMED nor RUNNING. -/
def AtRest (d : Device) (l : Nat) : Prop := d.lstState l = 0 ∨ d.lstState l = 3

theorem stopList_atRest (d : Device) (l m : Nat) (h : m = l ∨ d.AtRest m) : ((d.dropPend l).setLstState l 3).AtRest m := by
  unfold AtRest
  rw [lstState_setLstState _ _ _ _ (by decide)]
  split
  · exact .inr rfl
  next hne => exact h.resolve_left hne

theorem stopLists_atRest (ls : List Nat) (m : Nat) (d : Device) (h : m ∈ ls ∨ d.AtRest m) :
    (ls.foldl (fun d l => (d.dropPend l).setLstState l 3) d).AtRest m := by
  induction ls generalizing d with
  | nil => exact h.resolve_left (List.not_mem_nil)
  | cons l ls ih =>
    refine ih _ ?_
    rcases h with h | h
    · exact (List.mem_cons.mp h).elim (fun he => .inr (stopList_atRest d l m (.inl he))) .inl
    · exact .inr (stopList_atRest d l m (.inr h))

theorem safeLists_atRest (d : Device) {l : Nat} (hl : l < 256) : d.safeLists.AtRest l := by
  refine stopLists_atRest _ l _ ?_
  have hlt := d.lstState_lt l
  by_cases h : d.lstState l = 1 ∨ d.lstState l = 2
  · exact .inl (List.mem_filter.mpr ⟨List.mem_range.mpr hl, decide_eq_true h⟩)
  · have hrest : d.AtRest l := by
      unfold AtRest
      omega
    exact .inr hrest

theorem LateOnly.lstState {d e : Device} (h : LateOnly d e) {l : Nat} (hl : l < 256) : e.lstState l = d.lstState l :=
  fget_of_rd (h.regs (aLIST l 8) (fun ha => ha.2.2 (by unfold aLIST; omega) (by unfold aLIST; omega) (by unfold aLIST; omega))
    (reportReg_of_mid (by unfold aLIST; omega) (by unfold aLIST; omega))) 0 2

theorem enterSafe_atRest (d : Device) {l : Nat} (hl : l < 256) : d.enterSafe.AtRest l := by
  have hwire := (WireOnly.haltEngines d.safePins.safeLists).regs (aLIST l 8) (by unfold wireRegs aLIST; omega)
    (reportReg_of_mid (by unfold aLIST; omega) (by unfold aLIST; omega))
  have hrest := d.safePins.safeLists_atRest hl
  unfold AtRest at hrest ⊢
  rw [enterSafe_eq, (safeRest_only _).lstState hl, lstState, fget_of_rd hwire]
  exact hrest

/-- An engine that SAFE halted has nothing to serve. -/
def HaltedIdle (d : Device) (e : Nat) : Prop := (d.eng e).halted = true ∧ (d.eng e).txs = []

theorem haltEng_idle (d : Device) (e : Nat) : (d.haltEng e).HaltedIdle e := by
  unfold HaltedIdle
  rw [haltEng, setEng_same]
  refine ⟨rfl, ?_⟩
  rw [clearEng_eq, setEng_same]
  rfl

theorem haltEngines_idle (d : Device) {e : Nat} (he : e < 120) (hon : d.flag (aENG e 0) 0 = true) : d.haltEngines.HaltedIdle e := by
  rw [haltEngines_eq]
  refine foldl_settles (P := HaltedIdle) haltEng_idle (fun d x y hy h => ?_) _ d (List.mem_filter.2 ⟨List.mem_range.2 he, hon⟩)
  unfold HaltedIdle at h ⊢
  rwa [haltEng_eng_other d hy]

theorem LateOnly.engines {d e : Device} (h : LateOnly d e) : e.engines = d.engines := by
  have hk (x : Device) : x.calmCore.engines = x.engines := rfl
  rw [← hk e, h.core, hk d]

theorem enterSafe_idle (d : Device) {e : Nat} (he : e < 120) (hon : d.enterSafe.flag (aENG e 0) 0 = true) : d.enterSafe.HaltedIdle e := by
  have hlate := safeRest_only d.safePins.safeLists.haltEngines
  rw [enterSafe_eq, hlate.engineOn, flag_eq_of_rd_eq (haltEngines_rd _ (by unfold aENG; omega))] at hon
  have hidle := haltEngines_idle _ he hon
  unfold HaltedIdle at hidle ⊢
  rw [enterSafe_eq, eng_eq_of_engines_eq hlate.engines]
  exact hidle

/-! Causes (R346, R347). -/

/-- The device without Capo's own state and the link. -/
def unsent (d : Device) : Device :=
  { d.plant with link := Link.init, sys := { d.sys with capo := ⟨[], false, 0, none, false, 0, false, false⟩ } }

theorem unsent_plant (x : Device) : x.plant.unsent = x.unsent := rfl

/-- A part beside Capo's own state and the link. -/
theorem eq_of_unsent {α : Type} {d e : Device} (g : Device → α) (h : e.unsent = d.unsent)
    (hg : ∀ x : Device, g x.unsent = g x := by exact fun _ => rfl) : g e = g d := by rw [← hg e, h, hg d]

section
variable {own : Nat → Prop} (d : Device)

theorem setCapoSt_unsent (c : CapoSt) : Keeps own unsent d (d.setCapoSt c) := .of_rd (fun _ => rfl) rfl

theorem noteOwn_keeps : Keeps own unsent d d.noteOwn := by
  have hsend (c : CapoSt) (m : LinkMsg) : Keeps own unsent d ((d.setCapoSt c).sendMsg m) :=
    (setCapoSt_unsent d c).trans (sendOn_keeps (fun _ _ => rfl) _ _ m)
  exact .ite (.ite (hsend _ _) (.refl ..)) (.ite (hsend _ _) (.refl ..))

theorem noteRel_keeps (ho : own 0x40000) : Keeps own unsent d d.noteRel := (setCapoSt_unsent d _).trans (.fsetB unsent_plant ho ..)

end

theorem noteRel_capo (d : Device) : d.noteRel.capo = d.capo := fget_fset_disjoint _ _ _ (by decide) (.inl (by decide))

/-- The end of a cause: its bit, and what firmware notes. -/
theorem causeGone_keeps (d : Device) (i : Nat) : Keeps (fun a => a = 0x40008 ∨ a = 0x40000) unsent d (d.causeGone i) :=
  (Keeps.fsetB unsent_plant (.inl rfl) i false d).trans <| (noteOwn_keeps _).trans (noteRel_keeps _ (.inr rfl))

/-- What firmware notes after a cause changed leaves every register but CAPO_STATE. -/
theorem noted_keeps (d : Device) : Keeps (fun a => a = 0x40000) unsent d d.noteOwn.noteRel := (noteOwn_keeps _).trans (noteRel_keeps _ rfl)

theorem noted_capo (d : Device) : d.noteOwn.noteRel.capo = d.capo := by
  have h : Keeps (fun _ => False) unsent d d.noteOwn := noteOwn_keeps d
  rw [noteRel_capo, capo, fget_of_rd (h.regs 0x40000 (fun h => h) (by decide))]
  rfl

theorem causeGone_capo (d : Device) (i : Nat) : (d.causeGone i).capo = d.capo := by
  refine (noted_capo (d.fsetB 0x40008 i false)).trans ?_
  exact fget_of_rd (fsetB_keepsRegs d 0x40008 i false 0x40000 (by decide) (by decide)) 0 2

theorem causeGone_flag (d : Device) (i j : Nat) : (d.causeGone i).flag 0x40008 j = (d.fsetB 0x40008 i false).flag 0x40008 j :=
  flag_eq_of_rd_eq ((noted_keeps (d.fsetB 0x40008 i false)).regs 0x40008 (by decide) (by decide)) j

/-- SAFE with its cause latched and shown, before firmware notes it. -/
def tripped (d : Device) (i : Nat) : Device :=
  if ((d.event 0x40004 i).fsetB 0x40008 i true).capo = 2 then (d.event 0x40004 i).fsetB 0x40008 i true
  else ((d.event 0x40004 i).fsetB 0x40008 i true).enterSafe

theorem tripSafe_eq (d : Device) (i : Nat) : d.tripSafe i = (d.tripped i).noteOwn.noteRel := rfl

/-- Registers that a cause of SAFE may change. -/
def tripRegs (a : Nat) : Prop := a = 0x40000 ∨ a = 0x40004 ∨ a = 0x40008 ∨ a = 0x40018 ∨ safeRegs a

/-- The cause is latched and shown. -/
theorem latched_keeps (d : Device) (i : Nat) : Keeps (fun a => a = 0x40004 ∨ a = 0x40008) unsent d ((d.event 0x40004 i).fsetB 0x40008 i true) :=
  (Keeps.event unsent_plant (.inl rfl) i d).trans (.fsetB unsent_plant (.inr rfl) i true _)

theorem latched_capo (d : Device) (i : Nat) : ((d.event 0x40004 i).fsetB 0x40008 i true).capo = d.capo :=
  fget_of_rd ((latched_keeps d i).regs 0x40000 (by decide) (by decide)) 0 2

theorem unsent_safeCore (x : Device) : x.unsent.safeCore = x.safeCore := rfl

theorem safeOnly_of_unsent {own : Nat → Prop} {d e : Device} (h : Keeps own unsent d e) (ho : ∀ a, own a → tripRegs a ∧ a ≠ 0x80004) :
    Keeps tripRegs (fun x => (safeCore x, x.armed)) d e :=
  ⟨h.regs.mono fun a ha => (ho a ha).1, Prod.ext (by rw [← unsent_safeCore e, h.part, unsent_safeCore d])
    (flag_eq_of_rd_eq (h.regs 0x80004 (fun ha => (ho _ ha).2 rfl) (by decide)) 16)⟩

theorem enterSafe_keeps (d : Device) : Keeps tripRegs (fun x => (safeCore x, x.armed)) d d.enterSafe := by
  have hseen := safeSeen_keeps d
  refine Keeps.trans ⟨hseen.regs.mono fun a ha => ?_, Prod.ext hseen.part (flag_eq_of_rd_eq (hseen.regs 0x80004 (by decide) (by decide)) 16)⟩
    ((enterSafe_only d).mono fun a ha => ?_)
  · unfold tripRegs
    omega
  · exact .inr (.inr (.inr (.inr ha)))

theorem tripped_keeps (d : Device) (i : Nat) : Keeps tripRegs (fun x => (safeCore x, x.armed)) d (d.tripped i) := by
  have hlatch := safeOnly_of_unsent (latched_keeps d i) fun a ha => ⟨by unfold tripRegs; omega, by omega⟩
  exact .ite hlatch (hlatch.trans (enterSafe_keeps _))

theorem tripSafe_keeps (d : Device) (i : Nat) : Keeps tripRegs (fun x => (safeCore x, x.armed)) d (d.tripSafe i) :=
  (tripped_keeps d i).trans (safeOnly_of_unsent (noted_keeps _) fun a ha => ⟨.inl ha, by omega⟩)

theorem tripSafe_capo (d : Device) (i : Nat) : (d.tripSafe i).capo = 2 := by
  rw [tripSafe_eq, noted_capo, tripped]
  split
  next h => exact h
  · exact enterSafe_capo _

/-- CAPO_CAUSE and CAPO_ACTIVE as a cause leaves them. -/
theorem tripSafe_rd (d : Device) (i : Nat) {a : Nat} (ha : a = 0x40004 ∨ a = 0x40008) :
    (d.tripSafe i).rd a = ((d.event 0x40004 i).fsetB 0x40008 i true).rd a := by
  have hr : reportReg a = false := by rcases ha with rfl | rfl <;> decide
  rw [tripSafe_eq, (noted_keeps _).regs a (by omega) hr, tripped]
  split
  · rfl
  · rw [(enterSafe_only _).rd (by omega) (by omega) hr, (safeSeen_keeps _).regs a (by omega) hr]

theorem tripSafe_shown (d : Device) {i : Nat} (hi : i < 32) : (d.tripSafe i).flag 0x40008 i = true := by
  rw [flag_eq_of_rd_eq (tripSafe_rd d i (.inr rfl))]
  exact flag_fsetB_same _ true hi

theorem tripSafe_latched (d : Device) {i : Nat} (hi : i < 32) : (d.tripSafe i).flag 0x40004 i = true := by
  rw [flag_eq_of_rd_eq (tripSafe_rd d i (.inl rfl)), flag_eq_of_rd_eq (fsetB_keepsRegs (d.event 0x40004 i) 0x40008 i true 0x40004 (by decide) (by decide))]
  exact event_flag _ _ _ hi (by decide)

/-- A cause under SAFE changes nothing of the device beside Capo's own. -/
theorem tripSafe_again (d : Device) (i : Nat) (h : d.capo = 2) : (d.tripSafe i).unsent = d.unsent := by
  rw [tripSafe_eq, (noted_keeps _).part, tripped, if_pos ((latched_capo d i).trans h), (latched_keeps d i).part]

theorem tripped_of_capo (d : Device) (i : Nat) (h : d.capo ≠ 2) : d.tripped i = ((d.event 0x40004 i).fsetB 0x40008 i true).enterSafe :=
  if_neg fun he => h ((latched_capo d i).symm.trans he)

theorem tripSafe_count (d : Device) (i : Nat) (h : d.capo ≠ 2) : (d.tripSafe i).fget 0x40018 0 16 = (d.fget 0x40018 0 16 + 1) % 2 ^ 16 := by
  rw [tripSafe_eq, fget_of_rd ((noted_keeps _).regs 0x40018 (by decide) (by decide)), tripped_of_capo d i h, enterSafe_count,
    fget_of_rd ((latched_keeps d i).regs 0x40018 (by decide) (by decide))]

theorem tripSafe_atRest (d : Device) (i : Nat) (h : d.capo ≠ 2) {l : Nat} (hl : l < 256) : (d.tripSafe i).AtRest l := by
  have hrest := enterSafe_atRest ((d.event 0x40004 i).fsetB 0x40008 i true) hl
  rw [← tripped_of_capo d i h] at hrest
  unfold AtRest lstState at hrest ⊢
  rw [tripSafe_eq, fget_of_rd ((noted_keeps _).regs (aLIST l 8) (by unfold aLIST; omega) (reportReg_of_mid (by unfold aLIST; omega) (by unfold aLIST; omega)))]
  exact hrest

theorem tripSafe_idle (d : Device) (i : Nat) (h : d.capo ≠ 2) {e : Nat} (he : e < 120) (hon : (d.tripSafe i).flag (aENG e 0) 0 = true) :
    (d.tripSafe i).HaltedIdle e := by
  have hnoted := noted_keeps (d.tripped i)
  rw [tripSafe_eq, flag_eq_of_rd_eq (hnoted.regs (aENG e 0) (by unfold aENG; omega) (reportReg_of_ge (by unfold aENG; omega))), tripped_of_capo d i h] at hon
  have hidle := enterSafe_idle _ he hon
  rw [← tripped_of_capo d i h] at hidle
  unfold HaltedIdle at hidle ⊢
  rw [tripSafe_eq, eng_eq_of_engines_eq (eq_of_unsent Device.engines hnoted.part)]
  exact hidle

/-- Under SAFE a clock output with CAPOSTOP is low (R380). -/
theorem clkOut_safe {d : Device} {n : Nat} (hc : d.capo = 2) (hs : d.flag (aOUT n 8) 1 = true) : d.clkOut n = .low := by
  unfold clkOut
  dsimp only
  rw [if_neg]
  rintro ⟨-, -, -, -, h⟩
  rcases h with h | h
  · exact h hc
  · rw [hs] at h
    exact absurd h (by decide)

end Device
end Sys2Proof.Machine
end

section
/-!
PROOF. O48: Capo enters SAFE, its causes end, SAFE is released.
-/

namespace Sys2Proof.Machine

-- One proof after another: the stacks of the threads that elaborate many at once exceed the memory of a check.
set_option Elab.async false

theorem GivesDdr.mono {c : Instr} {s : State} {P Q : Device → Prop} (h : GivesDdr c s P) (hPQ : ∀ t, P t → Q t) : GivesDdr c s Q :=
  have ⟨t, he, hp, hf, hh, hP⟩ := h
  ⟨t, he, hp, hf, hh, hPQ _ hP⟩

theorem givesDdr_onDev_as {c : Instr} {s : State} {f : Device → Device} {P : Device → Prop} (he : exec c s = .next (s.onDev f))
    (hP : ∀ e, f s.dev = e → P e) (hout : ∀ (x : Device) ws, P x → P (x.withOut ws) := by exact fun _ _ h => h) : GivesDdr c s P :=
  ⟨s.onDev f, he, rfl, rfl, rfl, hout _ s.dev.ddrOut (hP _ rfl)⟩

/-- The bits of a word with a field replaced. -/
theorem bitOf_setBits (v : Word) {lo n : Nat} (x : Nat) (h : lo + n ≤ 32) (i : Nat) :
    bitOf (setBits v lo n x) i = if i < lo then bitOf v i else if i < lo + n then x.testBit (i - lo) else bitOf v i := by
  rw [bitOf_eq_testBit, bitOf_eq_testBit, setBits_testBit v x h]

namespace Device

/-! The entry into SAFE (R346, R347). -/

/-- What a cause `i` of SAFE leaves of `d`. -/
structure SafeBy (d t : Device) (i : Nat) : Prop where
  capo : t.capo = 2
  latched : t.flag 0x40004 i = true
  shown : t.flag 0x40008 i = true
  entered : d.capo ≠ 2 → t.fget 0x40018 0 16 = (d.fget 0x40018 0 16 + 1) % 2 ^ 16 ∧ (∀ l < 256, t.lstState l = 0 ∨ t.lstState l = 3) ∧
    ∀ e < 120, t.flag (aENG e 0) 0 = true → (t.eng e).halted = true ∧ (t.eng e).txs = []
  outputs : ∀ n < 4, t.flag (aOUT n 8) 1 = true → t.clkOut n = .low
  again : d.capo = 2 → t.execs = d.execs ∧ t.chan = d.chan ∧ t.lists = d.lists

/-- A cause after a change that leaves Capo and its counters. -/
theorem safeBy_tripSafe {d e : Device} {i : Nat} (hi : i < 32) (hc : e.capo = d.capo) (hn : e.fget 0x40018 0 16 = d.fget 0x40018 0 16)
    (hu : e.unsent = d.unsent) : SafeBy d (e.tripSafe i) i := by
  refine ⟨tripSafe_capo e i, tripSafe_latched e hi, tripSafe_shown e hi, fun h => ?_, fun n _ => clkOut_safe (tripSafe_capo e i), fun h => ?_⟩
  · rw [← hc] at h
    exact ⟨by rw [tripSafe_count e i h, hn], fun l hl => tripSafe_atRest e i h hl, fun n hn hon => tripSafe_idle e i h hn hon⟩
  · have hs : (e.tripSafe i).unsent = d.unsent := (tripSafe_again e i (hc.trans h)).trans hu
    exact ⟨eq_of_unsent Device.execs hs, eq_of_unsent Device.chan hs, eq_of_unsent Device.lists hs⟩

theorem safeBy_of_keeps {own : Nat → Prop} {d e : Device} {i : Nat} (hi : i < 32) (hk : Keeps own unsent d e) (h0 : ¬ own 0x40000) (h8 : ¬ own 0x40018) :
    SafeBy d (e.tripSafe i) i :=
  safeBy_tripSafe hi (fget_of_rd (hk.regs 0x40000 h0 (by decide)) 0 2) (fget_of_rd (hk.regs 0x40018 h8 (by decide)) 0 16) hk.part

theorem setCapoSt_flag (d : Device) (c : CapoSt) (a i : Nat) : (d.setCapoSt c).flag a i = d.flag a i := rfl

/-- CAPO_N low, masked: the pin's level is noted (R346). -/
theorem capoNLow_masked (d : Device) (h : d.flag 0x4000C 4 = true) : d.capoNLow = d.setCapoSt { d.sys.capo with pinLow := true } := if_pos h

theorem capoNLow_trips (d : Device) (h : d.flag 0x4000C 4 = false) : d.capoNLow = (d.setCapoSt { d.sys.capo with pinLow := true }).tripSafe 4 := by
  refine if_neg ?_
  rw [setCapoSt_flag, h]
  decide

/-- CAPO_CMD with SAFE: what acts before leaves Capo as it is (R346, R393). -/
theorem capoCmd_safe (d : Device) (p : Party) {raw : Word} (h0 : bitOf raw 0 = true) (h31 : bitOf raw 31 = false) : SafeBy d (d.capoCmd p raw) 6 := by
  have hrefused (b : Bool) : Keeps (fun _ => False) unsent d (if b then d.noticeRefused 0x40010 else d) :=
    .ite (.of_plant (fun a _ hr => noticeRefused_rd _ _ _ hr) (noticeRefused_plant ..) unsent_plant) (.refl ..)
  unfold capoCmd
  dsimp only
  rw [if_pos h0]
  split
  · exact safeBy_of_keeps (by decide) (hrefused _) (fun h => h) (fun h => h)
  · rw [h31, Bool.false_and, Bool.false_and, if_neg (by decide)]
    split
    · have hk := causeGone_keeps d 6
      exact safeBy_tripSafe (by decide) (causeGone_capo d 6) (fget_of_rd (hk.regs 0x40018 (by decide) (by decide)) 0 16) hk.part
    · exact safeBy_of_keeps (by decide) (Keeps.refl (fun _ => False) unsent d) (fun h => h) (fun h => h)

/-! The end of a cause (R346). -/

/-- What the end of cause `i` leaves of `d`. -/
structure CauseEnds (d t : Device) (i : Nat) : Prop where
  ended : t.flag 0x40008 i = false
  others : ∀ j < 32, j ≠ i → t.flag 0x40008 j = d.flag 0x40008 j
  capo : t.capo = d.capo
  execs : t.execs = d.execs
  chan : t.chan = d.chan
  lists : t.lists = d.lists
  engines : t.engines = d.engines
  regs : keepsRegs (fun a => a = 0x40008 ∨ a = 0x40000) d t

theorem causeEnds_causeGone (d : Device) {i : Nat} (hi : i < 32) : CauseEnds d (d.causeGone i) i := by
  have hk := causeGone_keeps d i
  refine ⟨?_, fun j _ hne => ?_, causeGone_capo d i, eq_of_unsent Device.execs hk.part, eq_of_unsent Device.chan hk.part, eq_of_unsent Device.lists hk.part,
    eq_of_unsent Device.engines hk.part, hk.regs⟩
  · rw [causeGone_flag, flag_fsetB_same _ false hi]
  · rw [causeGone_flag, flag_fsetB_other _ false hne.symm hi]

/-- CAPO_CMD with CLRHOST alone, where it acts. -/
theorem capoCmd_clrhost (d : Device) (p : Party) {raw : Word} (hp : p = .firmware ∨ d.writesOn = true) (h0 : bitOf raw 0 = false) (h1 : bitOf raw 1 = true)
    (h31 : bitOf raw 31 = false) : d.capoCmd p raw = d.causeGone 6 := by
  have hearly : (decide (p ≠ .firmware) && !d.writesOn) = false := by
    rcases hp with rfl | h
    · rfl
    · rw [h, Bool.not_true, Bool.and_false]
  unfold capoCmd
  dsimp only
  rw [hearly, h0, h1, h31, if_neg (by decide), if_neg (by decide), if_pos rfl, Bool.false_and, Bool.false_and, if_neg (by decide)]

/-! The release (R348, R349). -/

/-- CAPO_CMD with RELEASE alone, under policy HOST and in SAFE. -/
theorem capoCmd_release (d : Device) (p : Party) {raw : Word} (hp : p = .firmware ∨ d.writesOn = true) (h0 : bitOf raw 0 = false) (h1 : bitOf raw 1 = false)
    (h31 : bitOf raw 31 = true) (hpol : d.flag 0x4000C 0 = true) (hc : d.capo = 2) :
    d.capoCmd p raw = if d.mayRelease then d.releaseCapo else d.noticeRefused 0x40010 := by
  have hearly : (decide (p ≠ .firmware) && !d.writesOn) = false := by
    rcases hp with rfl | h
    · rfl
    · rw [h, Bool.not_true, Bool.and_false]
  unfold capoCmd
  dsimp only
  have hkept : (if bitOf raw 1 then d.causeGone 6 else d) = d := by rw [h1, if_neg (by decide)]
  rw [hearly, h0, h31, if_neg (by decide), if_neg (by decide), hkept, hpol, hc, if_pos (by decide)]

/-- Registers that the release changes beside CAPO_STATE. -/
def releaseRegs (a : Nat) : Prop := a = 0x4001C ∨ stepRegs a

/-- A part of the release that leaves the matrix. -/
abbrev ReleaseOnly (d e : Device) : Prop := Keeps releaseRegs Device.mx d e

theorem mx_plant (x : Device) : x.plant.mx = x.mx := rfl

theorem releaseOnly_ofStep {d e : Device} (h : StepOnly d e) : ReleaseOnly d e := ⟨h.regs.mono fun _ => .inr, eq_of_core Device.mx h.core⟩

theorem releaseOnly_ofRd {d e : Device} (hr : ∀ a, e.rd a = d.rd a) (hm : e.mx = d.mx) : ReleaseOnly d e := .of_rd hr hm

theorem rearmAfter_keeps (d : Device) : ReleaseOnly d d.rearmAfter := by
  have harm (e : Device) (l : Nat) : ReleaseOnly e (e.armIfAtRest l) := .ite (releaseOnly_ofStep (.armList l true e)) (.refl ..)
  have hunhalt (e : Device) (ls : List Nat) : ReleaseOnly e (e.unhaltLists ls) := by
    refine .ite (.refl ..) (.foldl (g := unhaltEng) (fun f n _ => ?_) e)
    exact releaseOnly_ofRd (fun _ => rfl) rfl
  exact Keeps.trans (.foldl (fun e l _ => harm e l) d) (hunhalt _ _)

theorem resumeHands_keeps (d : Device) : ReleaseOnly d d.resumeHands := by
  have hcourse (t : Tab Course) : ReleaseOnly d { d with course := t } := releaseOnly_ofRd (fun _ => rfl) rfl
  exact Keeps.trans (hcourse _) (.foldl (fun e c _ => nextHand_keeps (fun _ _ _ => rfl) c e) _)

/-- CAPO_STATE as the release leaves it: state NONE and RELPEND zero; no cause and no switch changes. -/
structure Released (d t : Device) : Prop where
  capo : t.capo = 0
  relpend : t.flag 0x40000 2 = false
  cause : t.rd 0x40004 = d.rd 0x40004
  active : t.rd 0x40008 = d.rd 0x40008
  mx : t.mx = d.mx

theorem releaseCapo_keeps (d : Device) : ReleaseOnly (d.fset 0x40000 0 3 0) d.releaseCapo := by
  have hnotice (e : Device) : ReleaseOnly e (e.capoNotice 0x37 8) := Keeps.trans (.report mx_plant _ _ e) (.wr mx_plant (.inl rfl) _ _)
  have hset (e : Device) (c : CapoSt) : ReleaseOnly e (e.setCapoSt c) := releaseOnly_ofRd (fun _ => rfl) rfl
  exact (hnotice _).trans <| (Keeps.ite (rearmAfter_keeps _) (.refl ..)).trans <| (hset _ _).trans (resumeHands_keeps _)

theorem releaseCapo_released (d : Device) : Released d d.releaseCapo := by
  have hk := releaseCapo_keeps d
  have hrd {a : Nat} (ha : a < 0x4001C) (hr : reportReg a = false) : d.releaseCapo.rd a = (d.fset 0x40000 0 3 0).rd a :=
    hk.regs a (by unfold releaseRegs stepRegs; omega) hr
  have hzero : (d.fset 0x40000 0 3 0).fget 0x40000 0 3 = 0 := fget_fset_same _ _ _ (by decide)
  have hbits : bitsOf ((d.fset 0x40000 0 3 0).rd 0x40000) 0 3 = 0 := hzero
  refine ⟨?_, ?_, ?_, ?_, hk.part⟩
  · rw [capo, fget_of_rd (hrd (by decide) (by decide)), fget]
    unfold bitsOf at hbits ⊢
    omega
  · rw [flag, fget_of_rd (hrd (by decide) (by decide)), fget]
    unfold bitsOf at hbits ⊢
    simp only [Nat.shiftRight_eq_div_pow] at hbits ⊢
    refine decide_eq_false ?_
    omega
  · rw [hrd (by decide) (by decide), rd_fset_other _ _ _ _ (by decide)]
  · rw [hrd (by decide) (by decide), rd_fset_other _ _ _ _ (by decide)]

theorem rdelayOver_releases (d : Device) {e : Nat} (hr : d.sys.capo.ready = some e) (hpol : d.flag 0x4000C 0 = false) (hc : d.capo = 2)
    (hm : d.mayRelease = true) (he : e + 20480 * d.fget 0x4000C 8 8 ≤ d.edge) : d.rdelayOver = d.releaseCapo := by
  unfold rdelayOver
  rw [hr]
  exact if_pos ⟨hpol, hc, hm, he⟩

end Device

/-- Settles O48: entry into SAFE cause by cause, ends of causes, and the release under both policies. -/
theorem safeEnteredAndReleased : Obligations.SafeEnteredAndReleased := by
  unfold Obligations.SafeEnteredAndReleased
  have hsafe (w : Wr) : bitOf (setBits w.data 0 1 1) 0 = true := bitOf_setBits_same _ (by decide)
  have hclr (w : Wr) (j : Nat) : bitOf (setBits w.data 0 2 2) j = if j < 2 then Nat.testBit 2 j else bitOf w.data j := by
    rw [bitOf_setBits _ _ (by decide), if_neg (by omega)]
    rfl
  have hrel (w : Wr) : bitOf (setBits (setBits w.data 0 2 0) 31 1 1) 0 = false ∧ bitOf (setBits (setBits w.data 0 2 0) 31 1 1) 1 = false ∧
      bitOf (setBits (setBits w.data 0 2 0) 31 1 1) 31 = true := by
    rw [bitOf_setBits_other _ _ (by decide) (by decide), bitOf_setBits_other _ _ (by decide) (by decide), bitOf_setBits_same _ (by decide),
      bitOf_setBits _ _ (by decide), bitOf_setBits _ _ (by decide)]
    exact ⟨rfl, rfl, rfl⟩
  refine ⟨⟨fun s hmask => ?_, fun c i s hcause => ?_⟩, fun c i s hcause => ?_, fun w s hadm hp hpol hc => ⟨fun hm => ?_, fun hm => ?_⟩, fun e s hr hpol hc hm he => ?_⟩
  · refine givesDdr_of_exec_onDdr (f := fun d => d.capoNLow) rfl ?_
    rw [Device.capoNLow_masked _ hmask]
    rfl
  · suffices h : GivesDdr c s fun t => Device.SafeBy s.dev t i from
      h.mono fun t ⟨h1, h2, h3, h4, h5, h6⟩ => ⟨h1, h2, h3, h4, h5, h6⟩
    rcases hcause with ⟨r, rfl, rfl⟩ | ⟨rfl, rfl⟩ | ⟨rfl, rfl, hmask⟩ | ⟨w, rfl, rfl, hadm, h31⟩
    · refine givesDdr_onDdr_as rfl ?_ fun _ _ h => ⟨h.1, h.2, h.3, h.4, h.5, h.6⟩
      rintro _ rfl
      exact Device.safeBy_of_keeps (by decide) (.event (own := (· = 0x40014)) Device.unsent_plant rfl r _) (by decide) (by decide)
    · refine givesDdr_onDdr_as rfl ?_ fun _ _ h => ⟨h.1, h.2, h.3, h.4, h.5, h.6⟩
      rintro _ rfl
      exact Device.safeBy_of_keeps (by decide) (.refl (fun _ => False) _ _) (fun h => h) (fun h => h)
    · refine givesDdr_onDdr_as rfl ?_ fun _ _ h => ⟨h.1, h.2, h.3, h.4, h.5, h.6⟩
      rintro _ rfl
      rw [Device.capoNLow_trips _ hmask]
      exact Device.safeBy_of_keeps (by decide) (Device.setCapoSt_unsent (own := fun _ => False) ..) (fun h => h) (fun h => h)
    · refine givesDdr_write_as rfl hadm ?_ fun _ _ h => ⟨h.1, h.2, h.3, h.4, h.5, h.6⟩
      rintro _ rfl
      exact Device.capoCmd_safe _ _ (hsafe w) ((bitOf_setBits_other _ _ (by decide) (by decide)).trans h31)
  · suffices h : GivesDdr c s fun t => Device.CauseEnds s.dev t i from
      h.mono fun t ⟨h1, h2, h3, h4, h5, h6, h7, h8⟩ => ⟨h1, h2, h3, h4, h5, h6, h7, h8⟩
    rcases hcause with ⟨rfl, rfl⟩ | ⟨rfl, rfl⟩ | ⟨rfl, rfl⟩ | ⟨w, rfl, rfl, hadm, h31, hp⟩
    · refine givesDdr_onDev_as rfl ?_ fun _ _ h => ⟨h.1, h.2, h.3, h.4, h.5, h.6, h.7, h.8⟩
      rintro _ rfl
      exact Device.causeEnds_causeGone _ (by decide)
    · refine givesDdr_onDev_as rfl ?_ fun _ _ h => ⟨h.1, h.2, h.3, h.4, h.5, h.6, h.7, h.8⟩
      rintro _ rfl
      exact Device.causeEnds_causeGone _ (by decide)
    · refine givesDdr_onDev_as rfl ?_ fun _ _ h => ⟨h.1, h.2, h.3, h.4, h.5, h.6, h.7, h.8⟩
      rintro _ rfl
      have h := Device.causeEnds_causeGone (s.dev.setCapoSt { s.dev.sys.capo with pinLow := false }) (i := 4) (by decide)
      exact ⟨h.1, h.2, h.3, h.4, h.5, h.6, h.7, h.8⟩
    · refine givesDdr_write_as rfl hadm ?_ fun _ _ h => ⟨h.1, h.2, h.3, h.4, h.5, h.6, h.7, h.8⟩
      rintro _ rfl
      rw [Device.capoCmd_clrhost _ _ hp (hclr w 0) (hclr w 1) ((hclr w 31).trans h31)]
      exact Device.causeEnds_causeGone _ (by decide)
  · refine givesDdr_write_as rfl hadm ?_
    rintro _ rfl
    rw [Device.capoCmd_release _ _ hp (hrel w).1 (hrel w).2.1 (hrel w).2.2 hpol hc, if_pos hm]
    obtain ⟨h1, h2, h3, h4, h5⟩ := s.dev.releaseCapo_released
    exact ⟨h1, h2, h3, h4, h5⟩
  · refine givesDdr_write_as rfl hadm ?_
    rintro _ rfl
    rw [Device.capoCmd_release _ _ hp (hrel w).1 (hrel w).2.1 (hrel w).2.2 hpol hc, if_neg (by rw [hm]; decide)]
    exact ⟨(Device.fget_of_rd (Device.noticeRefused_rd _ _ _ (by decide)) 0 2).trans hc, Device.noticeRefused_plant .., fun a _ hr => Device.noticeRefused_rd _ _ _ hr⟩
  · refine givesDev_onDev_as rfl ?_
    rintro _ rfl
    rw [Device.rdelayOver_releases _ hr hpol hc hm he]
    obtain ⟨h1, h2, h3, h4, h5⟩ := s.dev.releaseCapo_released
    exact ⟨h1, h2, h3, h5⟩

end Sys2Proof.Machine
end

section
/-!
PROOF. O50 fails: the window that makes the other reference READY also lets FAILOVER select it, which withdraws the window's result.
-/

namespace Sys2Proof.Machine

-- One proof after another: the stacks of the threads that elaborate many at once exceed the memory of a check.
set_option Elab.async false

theorem onDdr_flag (s : State) (f : Device → Device) (a i : Nat) : (s.onDdr f).dev.flag a i = (f s.dev).flag a i := rfl

/-- REFA failed and came back, REFB completed its count meanwhile, and no switch is under way: FAILOVER AUTO waits for REFB's window (R360, R361, R372). -/
def betweenReferences : State :=
  let d := (((State.reset.dev.fset 0x20000 0 5 10).fset 0x10000 0 1 1).setRefCount false 8192).setRefCount true 8192
  { State.reset with dev := d.setClk { d.sys.clk with lossAt := some 4, winAfter := true } }

theorem betweenReferences_judged : betweenReferences.dev.hasActive = true ∧ betweenReferences.dev.refReady betweenReferences.dev.activeRef = true := by decide

/-- A window without a difference ends: the switch to REFB that follows clears CLK_REFPPM's flag. -/
theorem betweenReferences_window : (betweenReferences.dev.windowEnd 102400).flag 0x1001C 16 = false := by decide

/-- Refutes O50: `refWindowEnd` leaves the flag of CLK_REFPPM zero where the window makes the other reference READY under FAILOVER AUTO while the root
PLL is in holdover, because the switch requested at once (R372) starts the windows of the other reference anew. -/
theorem not_referencesJudgedAndLost : ¬ Obligations.ReferencesJudgedAndLost := by
  unfold Obligations.ReferencesJudgedAndLost
  intro h
  obtain ⟨hjudged, -⟩ := h
  obtain ⟨-, -, hwindow⟩ := hjudged betweenReferences
  obtain ⟨hactive, hready⟩ := betweenReferences_judged
  obtain ⟨t, hexec, -, -, -, -, hflag, -⟩ := hwindow 102400 hactive hready
  have ht : t = betweenReferences.onDdr fun d => d.windowEnd 102400 := (Host.Outcome.next.inj hexec).symm
  have hfalse : t.dev.flag 0x1001C 16 = false := by
    rw [ht, onDdr_flag]
    exact betweenReferences_window
  exact absurd (hflag.symm.trans hfalse) (by decide)

end Sys2Proof.Machine
end

section
/-!
PROOF. O49: the stages of the watchdog.
-/

namespace Sys2Proof.Machine

-- One proof after another: the stacks of the threads that elaborate many at once exceed the memory of a check.
set_option Elab.async false

namespace Device

/-! The kick (R351). -/

/-- What the watchdog keeps beside its stage. -/
def wdState (d : Device) : Bool × Nat := (d.sys.capo.kicked, d.sys.capo.wdFrom)

theorem causeGone_wdState (d : Device) (i : Nat) : (d.causeGone i).wdState = d.wdState := by
  have hset (e : Device) (c : CapoSt) (hc : (c.kicked, c.wdFrom) = e.wdState) : Keeps (fun _ => True) wdState e (e.setCapoSt c) := .of_rd (fun _ => rfl) hc
  have hown (e : Device) : Keeps (fun _ => True) wdState e e.noteOwn := by
    have hsend (c : CapoSt) (m : LinkMsg) (hc : (c.kicked, c.wdFrom) = e.wdState) : Keeps (fun _ => True) wdState e ((e.setCapoSt c).sendMsg m) :=
      (hset e c hc).trans (sendOn_keeps (fun _ _ => rfl) _ _ m)
    exact .ite (.ite (hsend _ _ rfl) (.refl ..)) (.ite (hsend _ _ rfl) (.refl ..))
  have hrel (e : Device) : Keeps (fun _ => True) wdState e e.noteRel := Keeps.trans (hset e _ (by rfl)) (.fsetB (fun _ => rfl) trivial ..)
  exact ((Keeps.fsetB (own := fun _ => True) (fun _ => rfl) trivial i false d).trans <| (hown _).trans (hrel _)).part

/-- The period starts again (R351). -/
def kicked (d : Device) : Device :=
  d.setCapoSt { d.sys.capo with kicked := true, wdFrom := if d.wdStage = 0 then d.edge else d.sys.capo.wdFrom }

/-- A stage that a kick ends. -/
def restaged (d : Device) (c : CapoSt) (stage : Nat) : Device :=
  if c.rearmed || decide (stage = 2) then (d.fset 0x50010 0 2 0).setCapoSt { d.sys.capo with wdFrom := d.edge } else d

theorem kick_eq (d : Device) (h : d.wdStage ≠ 3) : d.kick .firmware 0xC3A5 =
    if (restaged d.kicked d.sys.capo d.wdStage).flag 0x40008 5 then (restaged d.kicked d.sys.capo d.wdStage).causeGone 5
    else restaged d.kicked d.sys.capo d.wdStage := by
  unfold kick
  rw [if_pos ⟨rfl, rfl, h⟩]
  rfl

theorem kick_ignored (d : Device) {p : Party} {raw : Word} (h : p ≠ .firmware ∨ raw ≠ 0xC3A5 ∨ d.wdStage = 3) : d.kick p raw = d := by
  refine if_neg ?_
  rintro ⟨hp, hraw, hs⟩
  rcases h with h | h | h
  · exact h hp
  · exact h hraw
  · exact hs h

theorem restaged_unsent (d : Device) (c : CapoSt) (k : Nat) : (restaged d c k).unsent = d.unsent := by
  have hk : Keeps (fun a => a = 0x50010) unsent d (restaged d c k) :=
    .ite (Keeps.trans (.fset (own := fun a => a = 0x50010) unsent_plant (by rfl) 0 2 0 d) (setCapoSt_unsent _ _)) (.refl ..)
  exact hk.part

theorem restaged_wdState (d : Device) (c : CapoSt) (k : Nat) :
    (restaged d c k).wdState = d.wdState ∨ (restaged d c k).wdState = (d.sys.capo.kicked, d.edge) := by
  unfold restaged
  split
  · exact .inr rfl
  · exact .inl rfl

theorem kick_spec (d : Device) (h : d.wdStage ≠ 3) : (d.kick .firmware 0xC3A5).sys.capo.kicked = true ∧
    (d.wdStage = 0 → (d.kick .firmware 0xC3A5).sys.capo.wdFrom = d.edge) ∧ (d.kick .firmware 0xC3A5).unsent = d.unsent := by
  have hcause (e : Device) : (if e.flag 0x40008 5 then e.causeGone 5 else e).wdState = e.wdState := by
    split
    · exact causeGone_wdState e 5
    · rfl
  have hunsent (e : Device) : (if e.flag 0x40008 5 then e.causeGone 5 else e).unsent = e.unsent := by
    split
    · exact (causeGone_keeps e 5).part
    · rfl
  have hw : (d.kick .firmware 0xC3A5).wdState = (restaged d.kicked d.sys.capo d.wdStage).wdState := by rw [kick_eq d h, hcause]
  have hu : (d.kick .firmware 0xC3A5).unsent = d.unsent := by
    rw [kick_eq d h, hunsent, restaged_unsent]
    rfl
  rcases restaged_wdState d.kicked d.sys.capo d.wdStage with hr | hr
  · rw [hr] at hw
    obtain ⟨hkick, hfrom⟩ := Prod.mk.inj hw
    exact ⟨hkick, fun h0 => hfrom.trans (if_pos h0), hu⟩
  · rw [hr] at hw
    obtain ⟨hkick, hfrom⟩ := Prod.mk.inj hw
    exact ⟨hkick, fun _ => hfrom, hu⟩

/-! A warm start begins (R33, R34, R399). -/

/-- The lists and engines as a warm start leaves them: contexts end at this moment (R34, R243). -/
def warmStopped (d : Device) (new : List (Nat × Bool)) : Device :=
  ((new.foldl (fun d p => match d.execOf p.1 with
    | some x => if x.active then (d.stopConvs x).endActive x 3 else d
    | none => d) d).holdEngines (new.map Prod.fst)).endCal false

/-- A patch verification ends ABORTED (R448). -/
def patchAborted (d : Device) : Device :=
  match d.sys.sec.task with
  | some (.patch _) =>
    let d := { d with sys := { d.sys with sec := { d.sys.sec with task := none } } }
    ((((d.fsetB 0x30000 0 false).fsetB 0x30000 1 true).fset 0x30000 2 4 8).event 0x30004 0).noticeRefused 0x30008
  | _ => d

/-- The device in a warm start. -/
def withWarm (d : Device) (w : WarmRun) : Device := { d with sys := { d.sys with warm := some w } }

/-- The phase of a warm start is shown and counted. -/
def warmPhase (d : Device) : Device := ((d.fset 0x20000 0 5 11).fset 0x20000 5 2 1).bump 0x20030 0 16

/-- The watchdog starts anew with a warm start. -/
def wdAnew (d : Device) : Device := d.setCapoSt { d.sys.capo with rearmed := false, kicked := false, wdFrom := d.edge, ready := none }

/-- The phase of a warm start is shown, and the step engine disarmed. -/
def warmShown (d : Device) : Device := (d.warmPhase.fsetB 0x80004 16 false).wdAnew

/-- The record of a warm start. -/
def warmRun (d : Device) (cause : Nat) : WarmRun :=
  ⟨cause, match d.sys.warm with | some w => w.phase | none => d.fget 0x20000 0 5, (match d.sys.warm with | some w => w.ended | none => []) ++ d.warmEnds⟩

/-- Registers from the Tuning engine's on. -/
def outerRegs (a : Nat) : Prop := 0x60000 ≤ a

theorem outer_of_ends {d e : Device} (h : StepEnds d e) : keepsRegs outerRegs d e :=
  h.regs.mono fun a ha => by unfold upRegs at ha; unfold outerRegs; omega

theorem warmStopped_keeps (d : Device) (new : List (Nat × Bool)) : keepsRegs outerRegs d (d.warmStopped new) := by
  have hends (p : Nat × Bool) (e : Device) : StepEnds e (match e.execOf p.1 with
      | some x => if x.active then (e.stopConvs x).endActive x 3 else e
      | none => e) := by
    split
    · exact .ite ((StepEnds.stopConvs _ e).trans (StepEnds.endActive _ 3 _)) (.refl ..)
    · exact .refl ..
  have hhold (e : Device) (xs : List Nat) : StepEnds e (e.holdEngines xs) :=
    Keeps.trans (.foldl (fun f n _ => StepEnds.ofWire (WireOnly.cutWave n f)) e) <|
      Keeps.trans (.foldl (fun f x _ => StepEnds.dropTxs x f) _) (.foldl (fun f n _ => StepEnds.setEng n _ f) _)
  have hlate (e : Device) : keepsRegs outerRegs e (e.endCal false) := (LateOnly.endCal false e).regs.mono fun a ha => ha.1
  have hfold : StepEnds d (new.foldl (fun d p => match d.execOf p.1 with
    | some x => if x.active then (d.stopConvs x).endActive x 3 else d
    | none => d) d) := .foldl (fun e p _ => hends p e) d
  exact ((outer_of_ends hfold).trans (outer_of_ends (hhold _ _))).trans (hlate _)

/-- Registers that a patch verification shows itself in. -/
def patchRegs (a : Nat) : Prop := a = 0x30000 ∨ a = 0x30004

theorem patchAborted_keeps (d : Device) : Keeps patchRegs (fun x => x.sys.warm) d d.patchAborted := by
  have hg (x : Device) : x.plant.sys.warm = x.sys.warm := rfl
  have htask (e : Device) : Keeps patchRegs (fun x => x.sys.warm) e
      (((((e.fsetB 0x30000 0 false).fsetB 0x30000 1 true).fset 0x30000 2 4 8).event 0x30004 0).noticeRefused 0x30008) :=
    (Keeps.fsetB hg (.inl rfl) 0 false e).trans <| (Keeps.fsetB hg (.inl rfl) 1 true _).trans <| (Keeps.fset hg (.inl rfl) 2 4 8 _).trans <|
      (Keeps.event hg (.inr rfl) 0 _).trans (.of_plant (fun a _ hr => noticeRefused_rd _ _ _ hr) (noticeRefused_plant ..) hg)
  unfold patchAborted
  split
  · have hnone : Keeps patchRegs (fun x => x.sys.warm) d { d with sys := { d.sys with sec := { d.sys.sec with task := none } } } := .of_rd (fun _ => rfl) rfl
    exact hnone.trans (htask _)
  · exact .refl ..

/-- Registers that show a warm start. -/
def shownRegs (a : Nat) : Prop := a = 0x20000 ∨ a = 0x20030 ∨ a = 0x80004

theorem warmShown_keeps (d : Device) : Keeps shownRegs (fun x => x.sys.warm) d d.warmShown := by
  have hg (x : Device) : x.plant.sys.warm = x.sys.warm := rfl
  have hanew (e : Device) : Keeps shownRegs (fun x => x.sys.warm) e e.wdAnew := .of_rd (fun _ => rfl) rfl
  exact (Keeps.fset hg (.inl rfl) 0 5 11 d).trans <| (Keeps.fset hg (.inl rfl) 5 2 1 _).trans <| (Keeps.bump hg (.inr (.inl rfl)) 0 16 _).trans <|
    (Keeps.fsetB hg (.inr (.inr rfl)) 16 false _).trans (hanew _)

theorem wdAnew_rd (d : Device) (a : Nat) : d.wdAnew.rd a = d.rd a := rfl

theorem warmShown_phase (d : Device) : d.warmShown.fget 0x20000 0 5 = 11 := by
  have h : d.warmShown.rd 0x20000 = ((d.fset 0x20000 0 5 11).fset 0x20000 5 2 1).rd 0x20000 := by
    rw [warmShown, wdAnew_rd, fsetB, rd_fset_other _ _ _ _ (by decide), warmPhase, bump, rd_fset_other _ _ _ _ (by decide)]
  rw [fget_of_rd h, fget_fset_disjoint _ _ _ (by decide) (.inl (by decide))]
  exact fget_fset_same _ _ _ (by decide)

theorem warmShown_armed (d : Device) : d.warmShown.armed = false := by
  rw [armed, warmShown, flag_eq_of_rd_eq (wdAnew_rd _ _)]
  exact flag_fsetB_same _ false (by decide)

/-- HOLD as Capo enters it: inputs noted, preparations paused (R80, R262, R347). -/
def holding (d : Device) : Device := (((d.holdInputs.fset 0x40000 0 2 1).bump 0x40018 16 16).capoNotice 0x36 7).pauseHands

theorem enterHold_eq (d : Device) : d.enterHold =
    if ((d.event 0x40004 9).fsetB 0x40008 9 true).capo = 0 then ((d.event 0x40004 9).fsetB 0x40008 9 true).holding
    else (d.event 0x40004 9).fsetB 0x40008 9 true := rfl

/-- Registers of Capo's that the entry into HOLD changes. -/
def holdRegs (a : Nat) : Prop := a = 0x40018 ∨ a = 0x4001C

theorem holdInputs_rd (d : Device) (a : Nat) : d.holdInputs.rd a = d.rd a := rfl
theorem pauseHands_rd (d : Device) (a : Nat) : d.pauseHands.rd a = d.rd a := rfl

theorem capoNotice_rd (d : Device) (code action : Nat) {a : Nat} (ha : a ≠ 0x4001C) (hr : reportReg a = false) : (d.capoNotice code action).rd a = d.rd a := by
  unfold capoNotice
  dsimp only
  rw [rd_wr_other _ _ ha, report_rd _ _ _ _ hr]

theorem holding_rd (d : Device) {a : Nat} (ha : ¬ holdRegs a) (hr : reportReg a = false) : d.holding.rd a = (d.holdInputs.fset 0x40000 0 2 1).rd a := by
  rw [holding, pauseHands_rd, capoNotice_rd _ _ _ (fun h => ha (.inr h)) hr, bump, rd_fset_other _ _ _ _ fun h => ha (.inl h)]

theorem enterHold_capo (d : Device) : d.enterHold.capo = if d.capo = 0 then 1 else d.capo := by
  rw [enterHold_eq, latched_capo]
  split
  · rw [capo, fget_of_rd (holding_rd _ (by unfold holdRegs; decide) (by decide))]
    exact fget_fset_same _ _ _ (by decide)
  · exact latched_capo d 9

/-- Beside CAPO_STATE HOLD leaves the registers as its cause does. -/
theorem enterHold_rd (d : Device) {a : Nat} (ha : ¬ holdRegs a) (h0 : a ≠ 0x40000) (hr : reportReg a = false) :
    d.enterHold.rd a = ((d.event 0x40004 9).fsetB 0x40008 9 true).rd a := by
  rw [enterHold_eq]
  split
  · rw [holding_rd _ ha hr, rd_fset_other _ _ _ _ h0, holdInputs_rd]
  · rfl

/-- A warm start after HOLD, before firmware notes it. -/
def warming (d : Device) (cause : Nat) : Device := (((d.enterHold.warmStopped d.warmEnds).withWarm (d.warmRun cause)).patchAborted).warmShown

theorem beginWarm_noted (d : Device) (cause : Nat) : d.beginWarm cause = (d.warming cause).noteRel := by
  unfold beginWarm warming warmShown wdAnew warmPhase patchAborted withWarm warmStopped warmRun
  rfl

theorem withWarm_rd (d : Device) (w : WarmRun) (a : Nat) : (d.withWarm w).rd a = d.rd a := rfl

theorem warming_rd (d : Device) (cause : Nat) {a : Nat} (ha : ¬ (outerRegs a ∨ patchRegs a ∨ shownRegs a)) (hr : reportReg a = false) :
    (d.warming cause).rd a = d.enterHold.rd a := by
  rw [warming, (warmShown_keeps _).regs a (fun h => ha (.inr (.inr h))) hr, (patchAborted_keeps _).regs a (fun h => ha (.inr (.inl h))) hr, withWarm_rd,
    warmStopped_keeps _ _ a (fun h => ha (.inl h)) hr]

theorem noteRel_rd (d : Device) {a : Nat} (h0 : a ≠ 0x40000) (hr : reportReg a = false) : d.noteRel.rd a = d.rd a :=
  (noteRel_keeps (own := fun b => b = 0x40000) d rfl).regs a h0 hr

theorem noteRel_warm (d : Device) : d.noteRel.sys.warm = d.sys.warm := rfl

theorem beginWarm_rd (d : Device) (cause : Nat) {a : Nat} (h0 : a ≠ 0x40000) (hr : reportReg a = false) : (d.beginWarm cause).rd a = (d.warming cause).rd a := by
  rw [beginWarm_noted, noteRel_rd _ h0 hr]

theorem withWarm_warm (d : Device) (w : WarmRun) : (d.withWarm w).sys.warm = some w := rfl

/-- A warm start as it begins. -/
structure WarmBegun (d t : Device) : Prop where
  capo : t.capo = if d.capo = 0 then 1 else d.capo
  shown : t.flag 0x40008 9 = true
  armed : t.armed = false
  phase : t.fget 0x20000 0 5 = 11
  warm : t.sys.warm.isSome = true
  stage : t.rd 0x50010 = d.rd 0x50010

theorem beginWarm_begun (d : Device) (cause : Nat) : WarmBegun d (d.beginWarm cause) := by
  have hw : (d.beginWarm cause).sys.warm = some (d.warmRun cause) := by
    rw [beginWarm_noted, noteRel_warm, warming, (warmShown_keeps _).part, (patchAborted_keeps _).part, withWarm_warm]
  refine ⟨?_, ?_, ?_, ?_, by rw [hw]; rfl, ?_⟩
  · rw [beginWarm_noted, noteRel_capo, capo, fget_of_rd (warming_rd d cause (by unfold outerRegs patchRegs shownRegs; decide) (by decide))]
    exact enterHold_capo d
  · rw [flag_eq_of_rd_eq (beginWarm_rd d cause (by decide) (by decide)),
      flag_eq_of_rd_eq (warming_rd d cause (by unfold outerRegs patchRegs shownRegs; decide) (by decide)),
      flag_eq_of_rd_eq (enterHold_rd d (by unfold holdRegs; decide) (by decide) (by decide))]
    exact flag_fsetB_same _ true (by decide)
  · rw [armed, flag_eq_of_rd_eq (beginWarm_rd d cause (by decide) (by decide))]
    exact warmShown_armed _
  · rw [fget_of_rd (beginWarm_rd d cause (by decide) (by decide))]
    exact warmShown_phase _
  · rw [beginWarm_rd d cause (by decide) (by decide), warming_rd d cause (by unfold outerRegs patchRegs shownRegs; decide) (by decide),
      enterHold_rd d (by unfold holdRegs; decide) (by decide) (by decide), (latched_keeps d 9).regs 0x50010 (by decide) (by decide)]

/-! The stages (R351). -/

/-- The first stage before its warm start. -/
def firstStage (d : Device) : Device := (((d.fset 0x50010 0 2 1).bump 0x50010 16 16).event 0x50004 5).notice 0x0A 0 0x38 0

theorem wdExpiry_eq (d : Device) (hon : d.flag 0x50008 31 = true) (hs : d.wdStage = 0) (he : d.sys.capo.wdFrom + 20480 * d.fget 0x50008 0 10 ≤ d.edge) :
    d.wdExpiry = d.firstStage.beginWarm 1 := if_pos ⟨hon, hs, he⟩

theorem firstStage_rd (d : Device) : d.firstStage.rd 0x50010 = ((d.fset 0x50010 0 2 1).bump 0x50010 16 16).rd 0x50010 := by
  rw [firstStage, notice, report_rd _ _ _ _ (by decide)]
  exact event_keepsRegs _ 0x50004 5 0x50010 (by decide) (by decide)

theorem firstStage_stage (d : Device) : d.firstStage.fget 0x50010 0 2 = 1 ∧ d.firstStage.fget 0x50010 16 16 = (d.fget 0x50010 16 16 + 1) % 2 ^ 16 := by
  rw [fget_of_rd (firstStage_rd d), fget_of_rd (firstStage_rd d), bump, fget_fset_disjoint _ _ _ (by decide) (.inl (by decide)),
    fget_fset_same _ _ _ (by decide), fget_fset_same _ _ _ (by decide), fget_fset_disjoint _ _ _ (by decide) (.inr (by decide))]
  exact ⟨rfl, rfl⟩

theorem firstStage_capo (d : Device) : d.firstStage.capo = d.capo := by
  have h : d.firstStage.rd 0x40000 = d.rd 0x40000 := by
    rw [firstStage, notice, report_rd _ _ _ _ (by decide), event_keepsRegs _ 0x50004 5 0x40000 (by decide) (by decide), bump,
      rd_fset_other _ _ _ _ (by decide), rd_fset_other _ _ _ _ (by decide)]
  exact fget_of_rd h 0 2

/-- The watchdog's registers in the second stage: firmware restarts without the patch. -/
def secondHeld (d : Device) : Device := (((d.fset 0x50010 0 2 2).fsetB 0x50010 2 true).fsetB 0x30010 1 false).wr 0x30014 0

/-- A warm start in the second stage, under HOLD's cause. -/
def secondShown (d : Device) : Device :=
  ((((d.fset 0x20000 0 5 11).fset 0x20000 5 2 1).fsetB 0x80004 16 false).event 0x40004 9).fsetB 0x40008 9 true

/-- The second stage before its cause of SAFE. -/
def secondStage (d : Device) : Device :=
  (d.secondHeld.withWarm (match d.secondHeld.sys.warm with | some w => w | none => ⟨1, d.secondHeld.fget 0x20000 0 5, []⟩)).secondShown

theorem secondHeld_stage (d : Device) : d.secondHeld.fget 0x50010 0 2 = 2 := by
  have h : d.secondHeld.rd 0x50010 = ((d.fset 0x50010 0 2 2).fsetB 0x50010 2 true).rd 0x50010 := by
    rw [secondHeld, rd_wr_other _ _ (by decide), fsetB, rd_fset_other _ _ _ _ (by decide)]
  rw [fget_of_rd h, fsetB, fget_fset_disjoint _ _ _ (by decide) (.inl (by decide))]
  exact fget_fset_same _ _ _ (by decide)

theorem secondShown_stage (d : Device) : d.secondShown.rd 0x50010 = d.rd 0x50010 := by
  rw [secondShown, fsetB, rd_fset_other _ _ _ _ (by decide), event_keepsRegs _ 0x40004 9 0x50010 (by decide) (by decide), fsetB,
    rd_fset_other _ _ _ _ (by decide), rd_fset_other _ _ _ _ (by decide), rd_fset_other _ _ _ _ (by decide)]

theorem secondShown_armed (d : Device) : d.secondShown.armed = false := by
  have h (e : Device) : ((e.event 0x40004 9).fsetB 0x40008 9 true).rd 0x80004 = e.rd 0x80004 := (latched_keeps e 9).regs 0x80004 (by decide) (by decide)
  rw [armed, secondShown, flag_eq_of_rd_eq (h _)]
  exact flag_fsetB_same _ false (by decide)

theorem wdSecond_eq (d : Device) (hs : d.wdStage = 1) (hk : (d.sys.capo.rearmed && d.sys.capo.kicked) = false) (he : d.sys.capo.wdFrom + 819200 ≤ d.edge) :
    d.wdSecond = (d.secondStage.tripSafe 5).wdAnew := by
  unfold wdSecond
  rw [if_pos ⟨hs, hk, he⟩]
  rfl

theorem wdSecond_spec (d : Device) (hs : d.wdStage = 1) (hk : (d.sys.capo.rearmed && d.sys.capo.kicked) = false) (he : d.sys.capo.wdFrom + 819200 ≤ d.edge) :
    d.wdSecond.fget 0x50010 0 2 = 2 ∧ d.wdSecond.capo = 2 ∧ d.wdSecond.flag 0x40008 5 = true ∧ d.wdSecond.armed = false ∧
      d.wdSecond.sys.capo.kicked = false := by
  have hkeeps := tripSafe_keeps d.secondStage 5
  rw [wdSecond_eq d hs hk he]
  refine ⟨?_, ?_, ?_, ?_, rfl⟩
  · rw [fget_of_rd (wdAnew_rd _ _), fget_of_rd (hkeeps.regs 0x50010 (by unfold tripRegs safeRegs; decide) (by decide)), secondStage,
      fget_of_rd (secondShown_stage _), fget_of_rd (withWarm_rd ..)]
    exact secondHeld_stage d
  · exact (fget_of_rd (wdAnew_rd _ _) 0 2).trans (tripSafe_capo _ _)
  · exact (flag_eq_of_rd_eq (wdAnew_rd _ _) 5).trans (tripSafe_shown _ (by decide))
  · rw [armed, flag_eq_of_rd_eq (wdAnew_rd _ _)]
    exact (congrArg Prod.snd hkeeps.part).trans (secondShown_armed _)

theorem wdThird_spec (d : Device) (hs : d.wdStage = 2) (hk : d.sys.capo.kicked = false) (he : d.sys.capo.wdFrom + 20480000 ≤ d.edge) :
    d.wdThird.fget 0x50010 0 2 = 3 ∧ d.wdThird.capo = d.capo ∧ d.wdThird.unsent = d.unsent ∧
      keepsRegs (fun a => a = 0x50010 ∨ a = 0x40000) d d.wdThird := by
  have hthird : d.wdThird = (d.fset 0x50010 0 2 3).noteRel := if_pos ⟨hs, hk, he⟩
  have hkeeps : Keeps (fun a => a = 0x50010 ∨ a = 0x40000) unsent d (d.fset 0x50010 0 2 3).noteRel :=
    (Keeps.fset unsent_plant (.inl rfl) 0 2 3 d).trans (noteRel_keeps _ (.inr rfl))
  rw [hthird]
  refine ⟨?_, ?_, hkeeps.part, hkeeps.regs⟩
  · rw [fget_of_rd (noteRel_rd _ (by decide) (by decide))]
    exact fget_fset_same _ _ _ (by decide)
  · rw [noteRel_capo]
    exact fget_of_rd (fset_keepsRegs d 0x50010 0 2 3 0x40000 (by decide) (by decide)) 0 2

end Device

/-- Settles O49: the kick and the three stages. -/
theorem watchdogStages : Obligations.WatchdogStages := by
  unfold Obligations.WatchdogStages
  refine fun s => ⟨fun w hadm => ⟨fun hby hdata hs => ?_, fun hignored => ?_⟩, fun hon hs he => ?_, fun hs hk he => ?_, fun hs hk he => ?_⟩
  · refine givesDev_write_as rfl hadm ?_
    rintro _ rfl
    rw [hby, hdata]
    obtain ⟨hkick, hfrom, hu⟩ := s.dev.kick_spec hs
    exact ⟨hkick, hfrom, Device.eq_of_unsent Device.execs hu, Device.eq_of_unsent Device.chan hu⟩
  · refine ⟨s.onDev fun d => d.write w 0x5000C fun d => d.kick w.by_ w.data, rfl, rfl, rfl, ?_⟩
    rw [State.onDev_dev, Device.write_of_admits hadm, Device.kick_ignored _ hignored]
  · refine givesDdr_onDdr_as rfl ?_
    rintro _ rfl
    rw [Device.wdExpiry_eq _ hon hs he]
    obtain ⟨hcapo, hshown, harmed, hphase, hwarm, hstage⟩ := s.dev.firstStage.beginWarm_begun 1
    rw [Device.firstStage_capo] at hcapo
    obtain ⟨hone, hcount⟩ := s.dev.firstStage_stage
    exact ⟨(Device.fget_of_rd hstage 0 2).trans hone, (Device.fget_of_rd hstage 16 16).trans hcount, hcapo, hshown, harmed, hphase, hwarm⟩
  · refine givesDdr_onDdr_as rfl ?_
    rintro _ rfl
    exact s.dev.wdSecond_spec hs hk he
  · refine givesDev_onDev_as rfl ?_
    rintro _ rfl
    obtain ⟨h3, hcapo, hu, hregs⟩ := s.dev.wdThird_spec hs hk he
    exact ⟨h3, hcapo, Device.eq_of_unsent Device.execs hu, Device.eq_of_unsent Device.chan hu, hregs⟩

end Sys2Proof.Machine
end

section
/-!
PROOF. O12 fails: nothing bounds the list that a waiting trigger of the link names, and the registers of a list that does not exist lie in the GPIO bank.
-/

namespace Sys2Proof.Machine

-- One proof after another: the stacks of the threads that elaborate many at once exceed the memory of a check.
set_option Elab.async false

/-- A trigger for list 66,304 is due; the registers that it would have are GPIO words 0 to 3, which show it ARMED with trigger source CHORD. -/
def strayTrigger : State :=
  let d := ((State.reset.dev.fset (aBANK 0x4000 0) 16 3 4).fset (aBANK 0x4000 2) 0 2 1).fset 0x10000 14 1 0
  { State.reset with dev := d.setLink { d.link with trigs := [(66304, 0)] } }

theorem strayTrigger_runs : strayTrigger.dev.flag 0x10000 14 = false := by decide

/-- No GPIO change waits for word 2. -/
theorem strayTrigger_word : Device.gpioNext (strayTrigger.dev.rd (aBANK 0x4000 2)).toNat (strayTrigger.dev.gpioWait 2) = 1 := by decide

set_option maxRecDepth 100000 in
/-- The edge runs the list: its state RUNNING lands in GPIO word 2. -/
theorem strayTrigger_edge : (strayTrigger.dev.sampleEdge []).rd (aBANK 0x4000 2) = 2 := by decide

theorem onDdr_rd (s : State) (f : Device → Device) (a : Nat) : (s.onDdr f).dev.rd a = (f s.dev).rd a := rfl

/-- Refutes O12: in a state whose link holds a trigger for a list number past the last list, the edge that serves it writes GPIO word 2, though no
GPIO change waits. -/
theorem not_sampleEdgeAdvances : ¬ Obligations.SampleEdgeAdvances := by
  unfold Obligations.SampleEdgeAdvances
  intro h
  obtain ⟨hruns, -⟩ := h
  obtain ⟨t, hexec, -, -, -, -, -, -, hbank, -⟩ := hruns [] strayTrigger strayTrigger_runs
  have ht : t = strayTrigger.onDdr fun d => d.sampleEdge [] := (Host.Outcome.next.inj hexec).symm
  have hword := hbank 2 (by decide)
  rw [ht, onDdr_rd, strayTrigger_edge, strayTrigger_word] at hword
  exact absurd hword (by decide)

end Sys2Proof.Machine
end

section
/-!
PROOF. O32: triggers, stops and disabling of lists.
-/

namespace Sys2Proof.Machine

-- One proof after another: the stacks of the threads that elaborate many at once exceed the memory of a check.
set_option Elab.async false

namespace Device

/-! Operations on one list (R191 to R196). -/

/-- The other lists, and all of the device but its lists and what Frets are told. -/
def besideList (l : Nat) (x : Device) : ({m : Nat // m ≠ l} → ListSt) × Device :=
  (fun m => x.lst m, { x.plant with lists := [], frets := [] })

/-- The registers that list `l` writes: STEP_LSTAT, STEP_LCUR and the Frets' counters of events. -/
def listRegs (l a : Nat) : Prop := a = aLIST l 8 ∨ a = aLIST l 0xC ∨ ∃ f < 48, a = aFRET f 0x18

/-- An operation of list `l`. -/
abbrev ListOnly (l : Nat) (d e : Device) : Prop := Keeps (listRegs l) (besideList l) d e

theorem besideList_plant (l : Nat) (x : Device) : besideList l x.plant = besideList l x := rfl

/-- A list's registers are in no block that reports. -/
theorem lstat_ordinary {l o : Nat} (hl : l < 256) (ho : o < 0x10 := by decide) : reportReg (aLIST l o) = false :=
  reportReg_of_mid (by unfold aLIST; omega) (by unfold aLIST; omega)

namespace ListOnly
variable {l : Nat} {d e : Device}

theorem lst (h : ListOnly l d e) {m : Nat} (hm : m ≠ l) : e.lst m = d.lst m := congrFun (Prod.mk.inj h.part).1 ⟨m, hm⟩

theorem rest (h : ListOnly l d e) {α : Type} (g : Device → α) (hg : ∀ x : Device, g { x.plant with lists := [], frets := [] } = g x := by exact fun _ => rfl) :
    g e = g d := by rw [← hg e, (Prod.mk.inj h.part).2, hg d]

theorem rd (h : ListOnly l d e) {a : Nat} (h8 : a ≠ aLIST l 8) (hC : a ≠ aLIST l 0xC) (hf : a < 0xE0000) (hr : reportReg a = false) : e.rd a = d.rd a :=
  h.regs a (by
    rintro (h | h | ⟨f, hlt, h⟩)
    · exact h8 h
    · exact hC h
    · unfold aFRET at h
      omega) hr

theorem lstTrig (h : ListOnly l d e) {m : Nat} (hm : m < 256) : e.lstTrig m = d.lstTrig m :=
  fget_of_rd (h.rd (by unfold aLIST; omega) (by unfold aLIST; omega) (by unfold aLIST; omega) (lstat_ordinary hm)) ..

theorem setLst (x : ListSt) (d : Device) : ListOnly l d (d.setLst l x) :=
  .of_rd (d.setLst_rd l x) (congrArg (·, _) (funext fun m => d.setLst_other l x m.1 m.2))

theorem setLstState (s : Nat) (d : Device) : ListOnly l d (d.setLstState l s) := Keeps.fset (besideList_plant l) (.inl rfl) ..

theorem fretEvents (typ e : Nat) (level : Bool) (src : Nat) (d : Device) : ListOnly l d (d.fretEvents typ e level src) :=
  fretEvents_keeps (besideList_plant l) (fun _ _ _ => rfl) (fun f hf => .inr (.inr ⟨f, hf, rfl⟩)) d typ e level src

theorem dueList (d : Device) : ListOnly l d (d.dueList l) := by
  unfold Device.dueList
  split
  · exact .refl ..
  · exact .ite (.refl ..) (setLst ..)

theorem trigger (d : Device) : ListOnly l d (d.trigger l) := by
  unfold Device.trigger
  split
  · exact (setLst _ d).trans <| (setLstState ..).trans <| (fretEvents ..).trans (dueList _)
  · exact .ite (Keeps.bump (besideList_plant l) (.inr (.inl rfl)) ..) (.refl ..)

theorem dropPend (d : Device) : ListOnly l d (d.dropPend l) := setLst ..

theorem stopList (d : Device) : ListOnly l d (d.stopList l) := (dropPend d).trans (setLstState ..)

end ListOnly

/-! What an operation makes of its list. -/

variable (d : Device) (l : Nat)

theorem fretEvents_lst (typ e : Nat) (level : Bool) (src m : Nat) : (d.fretEvents typ e level src).lst m = d.lst m :=
  congrArg (fun t => tabGet (fun _ => ListSt.init) t m) (fretEvents_keeps (own := fun _ => True) (part := Device.lists) (fun _ => rfl) (fun _ _ _ => rfl)
    (fun _ _ => trivial) d typ e level src).part

theorem setLstState_lst (s m : Nat) : (d.setLstState l s).lst m = d.lst m := by rw [← plant_lst, setLstState, fset_plant, plant_lst]

theorem dueList_rd (a : Nat) : (d.dueList l).rd a = d.rd a := by
  unfold dueList
  split
  · rfl
  · dsimp only
    split
    · rfl
    · exact setLst_rd ..

/-- Being due leaves the name of the context, and the list's trigger. -/
theorem dueList_named : ((d.dueList l).lst l).trig = (d.lst l).trig ∧
    ∀ p, (d.lst l).pend = some p → ∃ q, ((d.dueList l).lst l).pend = some q ∧ q.ctx = p.ctx ∧ q.first = p.first := by
  unfold dueList
  split
  next h => exact ⟨rfl, fun p hp => by rw [h] at hp; exact nomatch hp⟩
  next p h =>
    dsimp only
    split
    · exact ⟨rfl, fun q hq => ⟨q, hq, rfl, rfl⟩⟩
    · rw [setLst_same]
      exact ⟨rfl, fun q hq => ⟨_, rfl, by rw [← Option.some.inj (h.symm.trans hq)], by rw [← Option.some.inj (h.symm.trans hq)]⟩⟩

theorem dropPend_pend : ((d.dropPend l).lst l).pend = none := by rw [dropPend, setLst_same]

theorem stopList_spec : (d.stopList l).lstState l = 3 ∧ (d.stopList l).lst l = { d.lst l with pend := none } := by
  refine ⟨(lstState_setLstState _ l l 3 (by decide)).trans (if_pos rfl), ?_⟩
  rw [stopList, setLstState_lst, dropPend, setLst_same]

theorem stopList_rd {a : Nat} (h : a ≠ aLIST l 8) : (d.stopList l).rd a = d.rd a := by
  rw [stopList, setLstState, rd_fset_other _ _ _ _ h, dropPend, setLst_rd]

/-! Triggers (R191 to R193). -/

/-- An ARMED list as its trigger finds it. -/
def triggeredLst : ListSt :=
  { d.lst l with trig := (List.range 4).map fun a => (d.ax a).c, pend := (d.lst l).pend.map fun p => { p with eligible := some d.edge } }

def triggered : Device := (d.setLst l (d.triggeredLst l)).setLstState l 2

theorem trigger_of_armed (h : d.lstState l = 1) : d.trigger l = ((d.triggered l).fretEvents 3 (d.triggered l).edge false l).dueList l := if_pos h

theorem trigger_of_running (h : d.lstState l = 2) : d.trigger l = d.bump (aLIST l 0xC) 16 16 :=
  (if_neg (by rw [h]; decide)).trans (if_pos h)

theorem triggered_lst : (d.triggered l).lst l = d.triggeredLst l := by
  rw [triggered, setLstState_lst, setLst_same]

/-- A trigger starts an ARMED list from the axis positions of its edge. -/
theorem trigger_runs (hl : l < 256) (h : d.lstState l = 1) : (d.trigger l).lstState l = 2 ∧ ((d.trigger l).lst l).trig = (List.range 4).map (fun a => (d.ax a).c) ∧
    ∀ p, (d.lst l).pend = some p → ∃ q, ((d.trigger l).lst l).pend = some q ∧ q.ctx = p.ctx ∧ q.first = p.first := by
  obtain ⟨htrig, hpend⟩ := dueList_named ((d.triggered l).fretEvents 3 (d.triggered l).edge false l) l
  rw [trigger_of_armed d l h]
  refine ⟨?_, ?_, fun p hp => ?_⟩
  · have hfret : ((d.triggered l).fretEvents 3 (d.triggered l).edge false l).lstState l = (d.triggered l).lstState l :=
      fget_of_rd ((fretEvents_keeps (own := fun a => 0xE0000 ≤ a) (part := fun _ => ()) (fun _ => rfl) (fun _ _ _ => rfl)
        (fun f _ => by unfold aFRET; omega) (d.triggered l) ..).regs (aLIST l 8) (by unfold aLIST; omega) (lstat_ordinary hl)) 0 2
    exact (fget_of_rd (dueList_rd ..) 0 2).trans (hfret.trans ((lstState_setLstState _ l l 2 (by decide)).trans (if_pos rfl)))
  · rw [htrig, fretEvents_lst, triggered_lst, triggeredLst]
  · obtain ⟨q, hq, hctx, hfirst⟩ := hpend { p with eligible := some d.edge } (by rw [fretEvents_lst, triggered_lst, triggeredLst, hp]; rfl)
    exact ⟨q, hq, hctx, hfirst⟩

theorem trigger_missed (h : d.lstState l = 2) : (d.trigger l).fget (aLIST l 0xC) 16 16 = (d.fget (aLIST l 0xC) 16 16 + 1) % 2 ^ 16 ∧
    (d.trigger l).lst l = d.lst l := by
  rw [trigger_of_running d l h]
  exact ⟨fget_fset_same _ _ _ (by decide), by rw [← plant_lst, bump_plant, plant_lst]⟩

theorem startGo_of_refused {d : Device} {l : Nat} (h0 : d.lstTrig l ≠ 0) (h6 : d.lstTrig l ≠ 6) : d.startGo l = d.refuse 0x80020 :=
  if_neg (not_or.mpr ⟨h0, h6⟩)

/-- The write arms its list (R194). -/
def startArms (d : Device) (raw : Word) : Bool := bitOf raw 30 && decide (d.lstState (bitsOf raw 0 8) = 0 ∨ d.lstState (bitsOf raw 0 8) = 3)

/-- The list armed, and the engines of its contexts out of HALTED (R194, R244). -/
def startArmed (d : Device) (l : Nat) : Device := (d.armIfAtRest l).unhaltLists [l]

/-- A context that cannot be read stops its list (R187). -/
def unreadable (d : Device) (l : Nat) (bad : Bool) : Device :=
  match bad, (d.lst l).pend with
  | true, some p => d.eccStop l p.ctx 0
  | _, _ => d

theorem startWrite_eq (raw : Word) (ecc : Bool) : d.startWrite raw ecc =
    (let e := (if d.startArms raw then d.startArmed (bitsOf raw 0 8) else d).unreadable (bitsOf raw 0 8) (ecc && d.startArms raw)
     if bitOf raw 31 then e.startGo (bitsOf raw 0 8) else e) := rfl

theorem unreadable_false : d.unreadable l false = d := rfl

/-- A write of STEP_START without ARM. -/
theorem startWrite_of_go {raw : Word} (h30 : bitOf raw 30 = false) (h31 : bitOf raw 31 = true) : d.startWrite raw false = d.startGo (bitsOf raw 0 8) := by
  have harms : d.startArms raw = false := by rw [startArms, h30, Bool.false_and]
  rw [startWrite_eq, harms, if_neg Bool.false_ne_true, Bool.false_and, unreadable_false, if_pos h31]

theorem pinTrigger_of_rise (h3 : d.lstTrig l = 3) (hp : (d.ch (d.lstArg l % 1024)).pad = true) (hq : (d.ch (d.lstArg l % 1024)).prevPad = false) :
    d.pinTrigger l = d.trigger l := if_pos ⟨h3, hp, by rw [hq]; rfl⟩

/-! STEP_STOP (R194, R195). -/

theorem stopWrite_plain (p : Party) {raw : Word} (h31 : bitOf raw 31 = true) (h30 : bitOf raw 30 = false) :
    d.stopWrite p raw = d.stopList (bitsOf raw 0 8) := by
  unfold stopWrite
  dsimp only
  rw [h31, h30, if_neg (by decide)]
  split <;> rfl

/-- The list with the end of its active execution set for the next edge. -/
def abortSet (d : Device) (l : Nat) (p : Party) : Device :=
  match d.activeOf l with
  | some x => d.setLst l { d.lst l with abort := some (x.id, writerCode p) }
  | none => d

theorem stopWrite_abort (p : Party) {raw : Word} (h31 : bitOf raw 31 = true) (h30 : bitOf raw 30 = true) :
    d.stopWrite p raw = (d.stopList (bitsOf raw 0 8)).abortSet (bitsOf raw 0 8) p := by
  unfold stopWrite abortSet
  dsimp only
  rw [h31, h30, if_neg (by decide)]
  rfl

theorem abortSet_only (p : Party) : ListOnly l d (d.abortSet l p) := by
  unfold abortSet
  split
  · exact .setLst ..
  · exact .refl ..

theorem abortSet_rd (p : Party) (a : Nat) : (d.abortSet l p).rd a = d.rd a := by
  unfold abortSet
  split
  · exact setLst_rd ..
  · rfl

/-- The execution that the next edge ends, and the writer's code. -/
def abortOf (d : Device) (l : Nat) (p : Party) : Option (Nat × Nat) :=
  match d.activeOf l with
  | some x => some (x.id, writerCode p)
  | none => (d.lst l).abort

theorem abortSet_lst (p : Party) : (d.abortSet l p).lst l = { d.lst l with abort := d.abortOf l p } := by
  unfold abortSet abortOf
  cases h : d.activeOf l with
  | some x => exact setLst_same ..
  | none => rfl

theorem abortOf_congr {d e : Device} {l : Nat} (p : Party) (ha : e.activeOf l = d.activeOf l) (hl : (e.lst l).abort = (d.lst l).abort) :
    e.abortOf l p = d.abortOf l p := by rw [abortOf, abortOf, ha, hl]

/-! STEP_LDESC (R194). -/

section
variable {d : Device} {l : Nat} (hl : l < 256) (p : Party) (raw : Word)
include hl

theorem eventReg_aLIST {o b : Nat} (ho : o < 0x10) : EventReg (aLIST l o) b ↔ b = 0x80008 := by
  have hb : blockEvents (aLIST l o) = some (0x80008, 0, 1) := by
    have h8 : aLIST l o / 0x10000 = 8 := by unfold aLIST; omega
    unfold blockEvents
    dsimp only
    rw [h8]
    rfl
  constructor
  · rintro (⟨c, r, h⟩ | ⟨-, h, -⟩)
    · rw [hb] at h
      exact (Prod.mk.inj (Option.some.inj h)).1.symm
    · unfold aLIST at h
      omega
  · rintro rfl
    exact .inl ⟨0, 1, hb⟩

theorem regFields_ldesc : regFields (aLIST l 0) = findRow steplRows 0 := by
  have hb : aLIST l 0 / 0x10000 = 8 := by unfold aLIST; omega
  have hlow : aLIST l 0 % 0x10000 % 0x10 = 0 := by unfold aLIST; omega
  unfold regFields
  dsimp only
  rw [if_neg (by unfold aLIST; omega), if_neg (by omega), if_pos (by omega)]
  unfold blockFldsB
  dsimp only
  rw [if_neg (by omega), if_neg (by omega), if_pos hb, if_pos (by unfold aLIST; omega), hlow]

theorem putCooked_listEn : (d.putCooked p (aLIST l 0) raw).flag (aLIST l 0) 31 = bitOf raw 31 := by
  have hrow := regFields_ldesc hl
  have hmask : alignMask (aLIST l 0) = 0 := by
    unfold alignMask
    rw [if_neg (by unfold aLIST; omega), if_neg (by unfold aLIST; omega)]
  have hsp (x : Nat) : d.specialClamp (aLIST l 0) ⟨"EN", 31, 1, .rw, none, .any⟩ x = none := by
    unfold specialClamp
    rw [if_neg (by decide), if_neg (by decide), if_neg (by decide), if_neg (by decide), if_neg (by unfold aLIST; omega), if_neg (by unfold aLIST; omega),
      if_neg (by unfold aLIST; omega)]
  have hlim (v : Word) : d.limitOf (aLIST l 0) raw v ⟨"EN", 31, 1, .rw, none, .any⟩ = .any := by
    have h8 : aLIST l 0 / 0x10000 = 8 := by unfold aLIST; omega
    unfold limitOf
    dsimp only
    rw [h8, if_neg (by decide), if_neg (by decide), if_neg (by decide), if_neg (by omega), if_neg (by decide), if_neg (by decide), if_neg (by decide),
      if_neg (by decide), if_neg (by decide), if_neg (by decide), if_neg (by unfold aLIST; omega)]
  have h : (d.putCooked p (aLIST l 0) raw).fget (aLIST l 0) 31 1 = Lim.any.clamp 1 (bitsOf raw 31 1) % 2 ^ 1 := by
    rw [fget, putCooked_rd_same _ _ _ _ (by rw [eventReg_aLIST hl (by decide)]; unfold aLIST; omega) (lstat_ordinary hl),
      storeWord_of_readable _ (by rw [hrow]; decide) hmask]
    exact bitsOf_cook raw (by rw [hrow]; decide) (f := ⟨"EN", 31, 1, .rw, none, .any⟩) (by rw [hrow]; decide) (.inl rfl) hsp hlim
  exact congrArg (fun x => decide (x = 1)) (h.trans (Nat.mod_eq_of_lt (bitsOf_lt ..)))

omit hl

/-- The list as a disabling leaves it, by whether an execution of it is unfinished. -/
def disabled (d : Device) (l : Nat) : Device :=
  if d.execs.any fun x => x.list == l && x.verdict.isNone then d.setLst l { d.lst l with ending := 2 } else d.setLstState l 0

theorem disableList_of_accepted (h : d.lstState l = 1 ∨ d.lstState l = 2 → d.reachesRws (aLIST l 0) raw = false) :
    d.disableList l p raw = ((d.putCooked p (aLIST l 0) raw).dropPend l).disabled l := by
  refine if_neg ?_
  by_cases hb : d.lstState l = 1 ∨ d.lstState l = 2
  · rw [h hb, Bool.and_false]
    exact Bool.false_ne_true
  · rw [decide_eq_false hb, Bool.false_and]
    exact Bool.false_ne_true

theorem disabled_only : ListOnly l d (d.disabled l) := .ite (ListOnly.setLst ..) (ListOnly.setLstState ..)

theorem disabled_rd {a : Nat} (h : a ≠ aLIST l 8) : (d.disabled l).rd a = d.rd a := by
  unfold disabled
  split
  · exact setLst_rd ..
  · exact rd_fset_other _ _ _ _ h

theorem disabled_spec : ((d.disabled l).lst l).pend = (d.lst l).pend ∧
    ((d.execs.any fun x => x.list == l && x.verdict.isNone) = false → (d.disabled l).lstState l = 0) ∧
    ((d.execs.any fun x => x.list == l && x.verdict.isNone) = true → ((d.disabled l).lst l).ending = 2 ∧ (d.disabled l).lstState l = d.lstState l) := by
  unfold disabled
  cases h : d.execs.any fun x => x.list == l && x.verdict.isNone
  · rw [if_neg Bool.false_ne_true, setLstState_lst]
    exact ⟨rfl, fun _ => (lstState_setLstState _ l l 0 (by decide)).trans (if_pos rfl), nofun⟩
  · rw [if_pos rfl, setLst_same]
    exact ⟨rfl, nofun, fun _ => ⟨rfl, rfl⟩⟩

end

end Device

open Device in
/-- A write of STEP_START with GO alone. -/
theorem startWrite_goBits (d : Device) (v : Word) : d.startWrite (setBits (setBits v 31 1 1) 30 1 0) false = d.startGo (bitsOf v 0 8) := by
  have h30 : bitOf (setBits (setBits v 31 1 1) 30 1 0) 30 = false := by
    rw [bitOf_setBits_same _ (by decide)]
    decide
  have h31 : bitOf (setBits (setBits v 31 1 1) 30 1 0) 31 = true := by
    rw [bitOf_setBits _ _ (by decide), if_neg (by decide), if_neg (by decide), bitOf_setBits_same _ (by decide)]
    decide
  rw [startWrite_of_go _ h30 h31, bitsOf_setBits_disjoint _ _ (by decide) (by decide), bitsOf_setBits_disjoint _ _ (by decide) (by decide)]

/-- What a trigger leaves beside its list. -/
theorem Device.trigger_beside (d : Device) (l : Nat) : (∀ m, m ≠ l → (d.trigger l).lst m = d.lst m) ∧ (d.trigger l).execs = d.execs :=
  have h := ListOnly.trigger (l := l) d
  ⟨fun _ => h.lst, h.rest Device.execs⟩

open Device in
/-- STEP_STOP: without ABORT the list stops, with it its execution is to end. -/
theorem stopCommands (w : Wr) (s : State) (hadm : s.dev.admits w 0x80024 = true) (h31 : bitOf w.data 31 = true) {P Q : Device → Prop}
    (hP : ∀ e, s.dev.stopList (bitsOf w.data 0 8) = e → P e) (hQ : ∀ e, (s.dev.stopList (bitsOf w.data 0 8)).abortSet (bitsOf w.data 0 8) w.by_ = e → Q e)
    (hPout : ∀ (x : Device) ws, P x → P (x.withOut ws)) (hQout : ∀ (x : Device) ws, Q x → Q (x.withOut ws)) :
    GivesDdr (.stepStop w) s P ∧ GivesDdr (.stepStopAbort w) s Q := by
  have hbit (b : Nat) : bitOf (setBits w.data 30 1 b) 31 = true := by rw [bitOf_setBits _ _ (by decide), if_neg (by decide), if_neg (by decide), h31]
  have hl (b : Nat) : bitsOf (setBits w.data 30 1 b) 0 8 = bitsOf w.data 0 8 := bitsOf_setBits_disjoint _ _ (by decide) (by decide)
  constructor
  · refine givesDdr_write_as rfl hadm ?_ hPout
    rw [stopWrite_plain _ _ (hbit 0) (by rw [bitOf_setBits _ _ (by decide)]; rfl), hl]
    exact hP
  · refine givesDdr_write_as rfl hadm ?_ hQout
    rw [stopWrite_abort _ _ (hbit 1) (by rw [bitOf_setBits _ _ (by decide)]; rfl), hl]
    exact hQ

open Device in
/-- Settles O32: a trigger, a stop and a disabling each change their own list; what the other lists and the executions are follows from the frame of
operations on one list. -/
theorem listsTriggerAndStop : Obligations.ListsTriggerAndStop := by
  unfold Obligations.ListsTriggerAndStop
  refine ⟨⟨fun w s hadm => ⟨fun htrig => givesDev_write_as rfl hadm ?_, fun h0 h6 => givesDev_write_as rfl hadm ?_⟩, fun l s h3 hp hq => ?_⟩, fun w s hadm h31 => ?_,
    fun l w s hadm hacc => ?_⟩
  · have hl : bitsOf w.data 0 8 < 256 := bitsOf_lt ..
    rintro _ rfl
    rw [startWrite_goBits, startGo, if_pos htrig]
    exact ⟨fun h => ⟨(trigger_runs _ _ hl h).1, (trigger_runs _ _ hl h).2.1⟩, trigger_missed _ _, trigger_beside ..⟩
  · rintro _ rfl
    rw [startWrite_goBits, startGo_of_refused h0 h6]
    exact s.dev.refuse_reports (a := 0x80020) (e := 0x80008) (c := 0) (r := 1) rfl (by decide) (by decide) (by decide)
  · refine givesDev_onDev rfl ?_
    rw [pinTrigger_of_rise _ _ h3 hp hq]
    exact ⟨fun h => ⟨(trigger_runs _ _ l.isLt h).1, (trigger_runs _ _ l.isLt h).2.1⟩, trigger_beside ..⟩
  · obtain ⟨hstate, hlst⟩ := s.dev.stopList_spec (bitsOf w.data 0 8)
    have honly := ListOnly.stopList (l := bitsOf w.data 0 8) s.dev
    refine stopCommands w s hadm h31 ?_ ?_ (fun _ _ h => h) (fun _ _ h => h)
    · rintro _ rfl
      exact ⟨hstate, by rw [hlst], honly.rest Device.execs, fun _ => honly.lst, fun a ha => stopList_rd _ _ ha⟩
    · rintro _ rfl
      have hset := abortSet_only (s.dev.stopList (bitsOf w.data 0 8)) (bitsOf w.data 0 8) w.by_
      have hrd := abortSet_rd (s.dev.stopList (bitsOf w.data 0 8)) (bitsOf w.data 0 8) w.by_
      have hall : ListOnly (bitsOf w.data 0 8) s.dev _ := honly.trans hset
      have hact : (s.dev.stopList (bitsOf w.data 0 8)).activeOf (bitsOf w.data 0 8) = s.dev.activeOf (bitsOf w.data 0 8) := by
        rw [activeOf, activeOf, honly.rest Device.execs]
      refine ⟨(fget_of_rd (hrd _) 0 2).trans hstate, ?_, hall.rest Device.execs, fun _ => hall.lst, ?_, fun a ha => ?_⟩
      · rw [abortSet_lst, hlst]
      · rw [abortSet_lst]
        refine (abortOf_congr w.by_ hact (by rw [hlst])).trans ?_
        unfold abortOf
        cases s.dev.activeOf (bitsOf w.data 0 8) <;> rfl
      · rw [hrd, stopList_rd _ _ ha]
  · refine givesDev_write_as rfl hadm ?_
    rintro _ rfl
    rw [disableList_of_accepted _ _ hacc]
    have hput : keepsRegs (fun a => a = aLIST l 0 ∨ a = 0x80008) s.dev (s.dev.putCooked w.by_ (aLIST l 0) (setBits w.data 31 1 0)) :=
      (s.dev.putCooked_keepsRegs w.by_ (aLIST l 0) (setBits w.data 31 1 0)).mono fun _ h => h.imp_right (eventReg_aLIST l.isLt (by decide)).mp
    have hplant := s.dev.putCooked_plant w.by_ (aLIST l 0) (setBits w.data 31 1 0)
    have hexecs : (s.dev.putCooked w.by_ (aLIST l 0) (setBits w.data 31 1 0)).execs = s.dev.execs := eq_of_plant Device.execs hplant
    have hen := putCooked_listEn (d := s.dev) l.isLt w.by_ (setBits w.data 31 1 0)
    rw [bitOf_setBits_same _ (by decide)] at hen
    generalize hx : s.dev.putCooked w.by_ (aLIST l 0) (setBits w.data 31 1 0) = x at *
    have hdrop := ListOnly.dropPend (l := l) x
    obtain ⟨hpend, hidle, hending⟩ := (x.dropPend l).disabled_spec (l := l)
    have hall : ListOnly l x _ := hdrop.trans disabled_only
    have hrd {a : Nat} (ha : a ≠ aLIST l 8) : ((x.dropPend l).disabled l).rd a = x.rd a := disabled_rd ha
    have hstate : x.lstState l = s.dev.lstState l := fget_of_rd (hput _ (by unfold aLIST; omega) (lstat_ordinary l.isLt)) 0 2
    have hex : (x.dropPend l).execs = s.dev.execs := (hdrop.rest Device.execs).trans hexecs
    rw [hex] at hidle hending
    refine ⟨?_, hpend.trans (dropPend_pend x l), hidle, fun h => ⟨(hending h).1, (hending h).2.trans hstate⟩, fun m hm => ?_, ?_, fun a ha hr => ?_⟩
    · rw [flag_eq_of_rd_eq (hrd (by unfold aLIST; omega)), hen]
      rfl
    · rw [hall.lst hm]
      exact eq_of_plant (fun y => y.lst m) hplant
    · exact (hall.rest Device.execs).trans hexecs
    · rw [hrd fun h => ha (.inr (.inl h))]
      exact hput a (fun h => ha (h.imp_right .inr)) hr

end Sys2Proof.Machine
end

section
/-!
PROOF. O33: the fetch of setup records.
-/

namespace Sys2Proof.Machine

-- One proof after another: the stacks of the threads that elaborate many at once exceed the memory of a check.
set_option Elab.async false

/-! The nearest value of a range (R13). -/

theorem clampInt_mem {lo hi : Int} (h : lo ≤ hi) (x : Int) : lo ≤ clampInt lo hi x ∧ clampInt lo hi x ≤ hi := by
  unfold clampInt
  split
  · omega
  · split <;> omega

theorem clampInt_of_mem {lo hi x : Int} (h : lo ≤ x ∧ x ≤ hi) : clampInt lo hi x = x := by
  unfold clampInt
  rw [if_neg (by omega), if_neg (by omega)]

theorem clampNat_of_mem {lo hi x : Nat} (h : lo ≤ x ∧ x ≤ hi) : clampNat lo hi x = x := by
  unfold clampNat
  rw [if_neg (by omega), if_neg (by omega)]

theorem toSigned_ofSigned {x : Int} (h : -131072 ≤ x ∧ x < 131072) : toSigned 18 (ofSigned 18 x) = x := by
  unfold toSigned ofSigned
  split <;> omega

/-- A number lies in a range as a field of `width` bits reads it. -/
def Lim.Holds (l : Lim) (width x : Nat) : Prop :=
  match l with
  | .rng lo hi => lo ≤ x ∧ x ≤ hi
  | .srng lo hi => lo ≤ toSigned width x ∧ toSigned width x ≤ hi
  | _ => True

/-- The range fits the field: what clamping gives can be stored. -/
def Lim.fits (l : Lim) (width : Nat) : Bool :=
  match l with
  | .rng lo hi => decide (lo ≤ hi ∧ hi < 2 ^ width)
  | .srng lo hi => decide (lo ≤ hi ∧ width = 18 ∧ -131072 ≤ lo ∧ hi < 131072)
  | _ => true

theorem Lim.clamp_holds {l : Lim} {width : Nat} (h : l.fits width = true) (x : Nat) : l.Holds width (l.clamp width x % 2 ^ width) := by
  match l, h with
  | .rng lo hi, h =>
    obtain ⟨hle, hlt⟩ := of_decide_eq_true h
    obtain ⟨h1, h2⟩ := clampNat_mem hle x
    show lo ≤ clampNat lo hi x % 2 ^ width ∧ clampNat lo hi x % 2 ^ width ≤ hi
    rw [Nat.mod_eq_of_lt (by omega)]
    exact ⟨h1, h2⟩
  | .srng lo hi, h =>
    obtain ⟨hle, hw, hlo, hhi⟩ := of_decide_eq_true h
    subst hw
    obtain ⟨h1, h2⟩ := clampInt_mem hle (toSigned 18 x)
    show lo ≤ toSigned 18 (ofSigned 18 (clampInt lo hi (toSigned 18 x)) % 2 ^ 18) ∧ toSigned 18 (ofSigned 18 (clampInt lo hi (toSigned 18 x)) % 2 ^ 18) ≤ hi
    rw [Nat.mod_eq_of_lt (Device.ofSigned_lt ..), toSigned_ofSigned (by omega)]
    exact ⟨h1, h2⟩
  | .any, _ => exact trivial
  | .sgn, _ => exact trivial
  | .dyn, _ => exact trivial

theorem Lim.holds_of_clamp {l : Lim} {width x : Nat} (h : l.fits width = true) (hx : x < 2 ^ width) (heq : l.clamp width x = x) : l.Holds width x := by
  have hh := Lim.clamp_holds h x
  rwa [heq, Nat.mod_eq_of_lt hx] at hh

namespace Device

/-- Field `f` of a record holds a number of its range. -/
def FldHolds (f : SetupFld) (k : Setup) : Prop := f.lim.Holds f.width (bitsOf (setupWord k f.word) f.lo f.width)

/-- Two fields of setup records share no bit. -/
def FldsApart (f g : SetupFld) : Prop := f.word ≠ g.word ∨ g.lo + g.width ≤ f.lo ∨ f.lo + f.width ≤ g.lo

/-- A field that a setup record can hold. -/
def FldOk (f : SetupFld) : Prop := f.word < 4 ∧ f.lo + f.width ≤ 32 ∧ f.lim.fits f.width = true

theorem setupWord_set {i : Nat} (hi : i < 4) (k : Setup) (w : Word) (j : Nat) (hj : j < 4) :
    setupWord (setSetupWord k i w) j = if j = i then w else setupWord k j := by
  match i, hi, j, hj with
  | 0, _, 0, _ | 0, _, 1, _ | 0, _, 2, _ | 0, _, 3, _ | 1, _, 0, _ | 1, _, 1, _ | 1, _, 2, _ | 1, _, 3, _ => rfl
  | 2, _, 0, _ | 2, _, 1, _ | 2, _, 2, _ | 2, _, 3, _ | 3, _, 0, _ | 3, _, 1, _ | 3, _, 2, _ | 3, _, 3, _ => rfl

section
variable (ctx idx : Nat) (ds : Device × Setup)

/-- A clamp of a setup record is an event of the step engine (R189). -/
theorem clampSetupFld_keeps (f : SetupFld) : Keeps (fun a => a = 0x80008) Device.plant ds.1 (clampSetupFld ctx idx ds f).1 := by
  unfold clampSetupFld
  dsimp only
  split
  · exact .refl ..
  · exact Keeps.trans (.of_plant (fun a _ hr => reportClamp_rd _ _ _ _ _ _ _ _ _ _ _ hr) (reportClamp_plant ..) plant_plant) (.event (own := fun a => a = 0x80008) plant_plant (by rfl) ..)

theorem clampSetupFld_holds {f : SetupFld} (hf : FldOk f) : FldHolds f (clampSetupFld ctx idx ds f).2 := by
  obtain ⟨hword, hbits, hfits⟩ := hf
  unfold clampSetupFld FldHolds
  dsimp only
  split
  next h => exact Lim.holds_of_clamp hfits (bitsOf_lt ..) h.symm
  next h =>
    rw [setupWord_set hword _ _ _ hword, if_pos rfl, bitsOf_setBits_same _ _ hbits]
    exact Lim.clamp_holds hfits _

theorem clampSetupFld_other {f g : SetupFld} (hf : FldOk f) (hg : FldOk g) (h : FldsApart f g) (hold : FldHolds g ds.2) :
    FldHolds g (clampSetupFld ctx idx ds f).2 := by
  obtain ⟨hword, hbits, -⟩ := hf
  unfold clampSetupFld
  dsimp only
  split
  · exact hold
  · unfold FldHolds at *
    rw [setupWord_set hword _ _ _ hg.1]
    by_cases hw : g.word = f.word
    · rw [if_pos hw, bitsOf_setBits_disjoint _ _ hbits (h.resolve_left fun hne => hne hw.symm), ← hw]
      exact hold
    · rw [if_neg hw]
      exact hold

theorem foldl_clampSetupFld_keeps (fs : List SetupFld) : Keeps (fun a => a = 0x80008) Device.plant ds.1 (fs.foldl (clampSetupFld ctx idx) ds).1 := by
  induction fs generalizing ds with
  | nil => exact .refl ..
  | cons f fs ih => exact (clampSetupFld_keeps ctx idx ds f).trans (ih _)

theorem foldl_clampSetupFld_other {g : SetupFld} (hg : FldOk g) {fs : List SetupFld} (hfs : ∀ f ∈ fs, FldOk f ∧ FldsApart f g) (hold : FldHolds g ds.2) :
    FldHolds g (fs.foldl (clampSetupFld ctx idx) ds).2 := by
  induction fs generalizing ds with
  | nil => exact hold
  | cons f fs ih =>
    obtain ⟨hf, hap⟩ := hfs f List.mem_cons_self
    exact ih _ (fun x hx => hfs x (List.mem_cons_of_mem f hx)) (clampSetupFld_other ctx idx ds hf hg hap hold)

/-- Each of a list of fields that share no bit is in its range at the end. -/
theorem foldl_clampSetupFld_holds {fs : List SetupFld} (hok : ∀ f ∈ fs, FldOk f) (hap : fs.Pairwise fun f g => FldsApart g f) :
    ∀ f ∈ fs, FldHolds f (fs.foldl (clampSetupFld ctx idx) ds).2 := by
  induction fs generalizing ds with
  | nil => nofun
  | cons f fs ih =>
    obtain ⟨hhead, htail⟩ := List.pairwise_cons.mp hap
    intro g hg
    rcases List.mem_cons.mp hg with rfl | hg
    · exact foldl_clampSetupFld_other ctx idx (clampSetupFld ctx idx ds g) (hok g List.mem_cons_self) (fun x (hx : x ∈ fs) => ⟨hok x (List.mem_cons_of_mem g hx), hhead x hx⟩)
        (clampSetupFld_holds ctx idx ds (hok g List.mem_cons_self))
    · exact ih _ (fun x hx => hok x (List.mem_cons_of_mem f hx)) htail g hg

end

theorem setupFlds_ok : ∀ f ∈ setupFlds, FldOk f := by
  unfold setupFlds FldOk
  decide

theorem setupFlds_apart : setupFlds.Pairwise fun f g => FldsApart g f := by
  unfold FldsApart
  decide

/-! The fetch (R189). -/

/-- A fetched record: the ranges of R188. -/
def InRanges (k : Setup) : Prop :=
  bitsOf k.w1 0 3 ≤ 6 ∧ bitsOf k.w1 5 2 ≤ 2 ∧ bitsOf k.w1 8 3 ≤ 4 ∧ -125000 ≤ toSigned 18 (bitsOf k.w2 0 18) ∧ toSigned 18 (bitsOf k.w2 0 18) ≤ 125000 ∧
    500 ≤ bitsOf k.w3 0 16 ∧ bitsOf k.w3 0 16 ≤ 50000 ∧ 500 ≤ bitsOf k.w3 16 16 ∧ bitsOf k.w3 16 16 ≤ 50000

theorem inRanges_of_holds {k : Setup} (h : ∀ f ∈ setupFlds, FldHolds f k) : InRanges k := by
  have hmode : 0 ≤ bitsOf k.w1 0 3 ∧ bitsOf k.w1 0 3 ≤ 6 := h ⟨1, 0, 3, .rng 0 6⟩ (List.mem_of_getElem? (i := 1) rfl)
  have hrange : 0 ≤ bitsOf k.w1 5 2 ∧ bitsOf k.w1 5 2 ≤ 2 := h ⟨1, 5, 2, .rng 0 2⟩ (List.mem_of_getElem? (i := 2) rfl)
  have hclamp : 0 ≤ bitsOf k.w1 8 3 ∧ bitsOf k.w1 8 3 ≤ 4 := h ⟨1, 8, 3, .rng 0 4⟩ (List.mem_of_getElem? (i := 3) rfl)
  have hcode : -125000 ≤ toSigned 18 (bitsOf k.w2 0 18) ∧ toSigned 18 (bitsOf k.w2 0 18) ≤ 125000 := h ⟨2, 0, 18, .srng (-125000) 125000⟩ (List.mem_of_getElem? (i := 4) rfl)
  have hlow : 500 ≤ bitsOf k.w3 0 16 ∧ bitsOf k.w3 0 16 ≤ 50000 := h ⟨3, 0, 16, .rng 500 50000⟩ (List.mem_of_getElem? (i := 5) rfl)
  have hhigh : 500 ≤ bitsOf k.w3 16 16 ∧ bitsOf k.w3 16 16 ≤ 50000 := h ⟨3, 16, 16, .rng 500 50000⟩ (List.mem_of_getElem? (i := 6) rfl)
  exact ⟨hmode.2, hrange.2, hclamp.2, hcode.1, hcode.2, hlow.1, hlow.2, hhigh.1, hhigh.2⟩

theorem fetchSetups_spec (m : Mem) (ctx n idx : Nat) (d : Device) : Keeps (fun a => a = 0x80008) Device.plant d (fetchSetups m ctx n idx d).1 ∧
    (fetchSetups m ctx n idx d).2.length = n ∧ ∀ k ∈ (fetchSetups m ctx n idx d).2, InRanges k := by
  induction n generalizing idx d with
  | zero => exact ⟨.refl .., rfl, nofun⟩
  | succ n ih =>
    have hkeep := foldl_clampSetupFld_keeps ctx idx (d, readSetup m ((d.rd 0x80030).toNat * 16 + 16 * idx)) setupFlds
    have hfit := foldl_clampSetupFld_holds ctx idx (d, readSetup m ((d.rd 0x80030).toNat * 16 + 16 * idx)) setupFlds_ok setupFlds_apart
    obtain ⟨hrest, hlen, hall⟩ := ih (idx + 1) (setupFlds.foldl (clampSetupFld ctx idx) (d, readSetup m ((d.rd 0x80030).toNat * 16 + 16 * idx))).1
    refine ⟨hkeep.trans hrest, congrArg (· + 1) hlen, fun k hk => ?_⟩
    rcases List.mem_cons.mp hk with rfl | hk
    · exact inRanges_of_holds hfit
    · exact hall k hk

section
variable {d : Device} (m : Mem) {l : Nat} {p : Pend} (hp : (d.lst l).pend = some p) (hf : p.fetched = false)
include hp hf

theorem fetchDone_none : d.fetchDone m l none = (let r := fetchSetups m p.ctx (ctxF (d.ctxWords p.ctx) 6 0 11) (ctxF (d.ctxWords p.ctx) 5 0 20) d
    r.1.setLst l { r.1.lst l with pend := some { p with fetched := true, setups := r.2 } }) := by
  unfold fetchDone
  rw [hp]
  exact if_neg (by rw [hf]; decide)

theorem fetchDone_context : d.fetchDone m l (some .context) = d.eccStop l p.ctx 0 := by
  unfold fetchDone
  rw [hp]
  exact if_neg (by rw [hf]; decide)

/-- An uncorrectable error at a record, counted (R457). -/
def recordLost (d : Device) (addr : Nat) : Device := ((d.bump 0xC000C 0 32).wr 0xC0010 (BitVec.ofNat 32 addr)).event 0xC0004 1

theorem fetchDone_setup (i : Nat) : ∃ addr, d.fetchDone m l (some (.setup i)) = (d.recordLost addr).eccStop l p.ctx 1 := by
  refine ⟨(d.rd 0x80030).toNat + ctxF (d.ctxWords p.ctx) 5 0 20 + i, ?_⟩
  unfold fetchDone
  rw [hp]
  exact if_neg (by rw [hf]; decide)

end

/-! An uncorrectable error stops the list (R187). -/

/-- The report of a context that cannot be read. -/
def eccSeen (d : Device) (ctx idx : Nat) : Device := (d.report { entry .t 0x0B idx 0x12 0 with ctx := ctx } true).event 0x80008 4

theorem eccStop_eq (d : Device) (l ctx idx : Nat) : d.eccStop l ctx idx = (d.eccSeen ctx idx).stopList l := rfl

theorem eccSeen_keeps (d : Device) (ctx idx : Nat) : Keeps (fun a => a = 0x80008) Device.plant d (d.eccSeen ctx idx) :=
  (Keeps.report plant_plant _ true d).trans (.event (own := fun a => a = 0x80008) plant_plant (by rfl) ..)

theorem eccStop_spec (d : Device) {l : Nat} (hl : l < 256) (ctx idx : Nat) : (let t := d.eccStop l ctx idx
    t.lstState l = 3 ∧ (t.lst l).pend = none ∧ t.flag 0x80008 4 = true ∧ (∀ m, m ≠ l → t.lst m = d.lst m) ∧
    Keeps (fun a => a = 0x80008 ∨ a = aLIST l 8) (besideList l) d t) := by
  have hseen := d.eccSeen_keeps ctx idx
  obtain ⟨hstate, hlst⟩ := (d.eccSeen ctx idx).stopList_spec l
  have hrd {a : Nat} (ha : a ≠ aLIST l 8) : (d.eccStop l ctx idx).rd a = (d.eccSeen ctx idx).rd a := stopList_rd _ _ ha
  have hbeside : besideList l (d.eccStop l ctx idx) = besideList l d :=
    (ListOnly.stopList (d.eccSeen ctx idx)).part.trans (eq_of_plant (besideList l) hseen.part)
  refine ⟨hstate, by rw [eccStop_eq, hlst], ?_, fun m hm => congrFun (Prod.mk.inj hbeside).1 ⟨m, hm⟩, fun a ha hr => ?_, hbeside⟩
  · rw [flag_eq_of_rd_eq (hrd (by unfold aLIST; omega))]
    exact event_flag _ _ _ (by decide) (by decide)
  · rw [hrd fun h => ha (.inr h)]
    exact hseen.regs a (fun h => ha (.inl h)) hr

theorem recordLost_keeps (d : Device) (addr : Nat) : Keeps (fun a => a = 0xC0004 ∨ a = 0xC000C ∨ a = 0xC0010) Device.plant d (d.recordLost addr) :=
  (Keeps.bump plant_plant (.inr (.inl rfl)) 0 32 d).trans <| (Keeps.wr plant_plant (.inr (.inr rfl)) ..).trans (.event plant_plant (.inl rfl) ..)

theorem recordLost_count (d : Device) (addr : Nat) : (d.recordLost addr).fget 0xC000C 0 32 = (d.fget 0xC000C 0 32 + 1) % 2 ^ 32 := by
  have h : (d.recordLost addr).rd 0xC000C = (d.bump 0xC000C 0 32).rd 0xC000C := by
    rw [recordLost, event_rd _ _ _ _ (by decide) (by decide), rd_wr_other _ _ (by decide)]
  rw [fget_of_rd h]
  exact fget_fset_same _ _ _ (by decide)

end Device

open Device in
/-- Settles O33: each field of a record is clamped on its own, by induction on the fields and on the records; an error stops the list before any record. -/
theorem setupRecordsFetched : Obligations.SetupRecordsFetched := by
  unfold Obligations.SetupRecordsFetched
  intro l p s hp hf
  refine ⟨givesDev_onDev_as rfl ?_, fun i => givesDev_onDev_as rfl ?_, givesDev_onDev_as rfl ?_⟩ <;> rintro _ rfl
  · dsimp only
    obtain ⟨hkeep, hlen, hall⟩ := fetchSetups_spec s.mem p.ctx (ctxF (s.dev.ctxWords p.ctx) 6 0 11) (ctxF (s.dev.ctxWords p.ctx) 5 0 20) s.dev
    rw [fetchDone_none _ hp hf]
    refine ⟨_, congrArg ListSt.pend (setLst_same ..), rfl, rfl, hlen, hall, fun m hm => ?_, fun a ha hr => ?_⟩
    · rw [setLst_other _ _ _ _ hm]
      exact eq_of_plant (fun x => x.lst m) hkeep.part
    · rw [setLst_rd]
      exact hkeep.regs a ha hr
  · dsimp only
    obtain ⟨addr, heq⟩ := fetchDone_setup s.mem hp hf i
    have hlost := s.dev.recordLost_keeps addr
    obtain ⟨hstate, hpend, hflag, hother, hkeep⟩ := (s.dev.recordLost addr).eccStop_spec l.isLt p.ctx 1
    rw [heq]
    refine ⟨hstate, hpend, hflag, ?_, fun m hm => (hother m hm).trans (eq_of_plant (fun x => x.lst m) hlost.part), fun a ha hr => ?_⟩
    · rw [fget_of_rd (hkeep.regs 0xC000C (by unfold aLIST; omega) (by decide)), recordLost_count]
    · rw [hkeep.regs a (fun h => ha (h.imp_right .inl)) hr]
      exact hlost.regs a (fun h => ha (.inr (.inr h))) hr
  · dsimp only
    obtain ⟨hstate, hpend, hflag, hother, hkeep⟩ := s.dev.eccStop_spec l.isLt p.ctx 0
    rw [fetchDone_context _ hp hf]
    exact ⟨hstate, hpend, hflag, hother, hkeep.regs⟩

end Sys2Proof.Machine
end

section
/-!
PROOF. O31: STEP_CTL and STEP_START arm lists.
-/

namespace Sys2Proof.Machine

-- One proof after another: the stacks of the threads that elaborate many at once exceed the memory of a check.
set_option Elab.async false

namespace Device

/-! A list becomes ARMED (R191, R194). -/

section
variable (d : Device) {l : Nat} (hl : l < 256)

/-- The list as its arming finds it. -/
def armBase (l : Nat) (fresh : Bool) : Device :=
  (d.setLst l { d.lst l with runs := if fresh then 0 else (d.lst l).runs, ending := 0 }).setLstState l 1

/-- FIRST becomes pending. -/
def firstNamed (l : Nat) : Device := d.namePend l (d.fget (aLIST l 0) 0 14) true none false

theorem armList_eq (fresh : Bool) : d.armList l fresh =
    if ((d.armBase l fresh).firstNamed l).lstTrig l = 1 then ((d.armBase l fresh).firstNamed l).trigger l else (d.armBase l fresh).firstNamed l := rfl

/-- A list with its pending context named, before the due test. -/
def shown (l c : Nat) : Device := if (d.activeOf l).isNone then d.fset (aLIST l 0xC) 0 14 c else d

theorem namePend_eq (c : Nat) (first : Bool) (el : Option Nat) (vw : Bool) : d.namePend l c first el vw =
    ((d.setLst l { d.lst l with pend := some ⟨c, first, d.edge, el, none, false, [], 0, vw, false⟩ }).shown l c).dueList l := rfl

theorem shown_only (c : Nat) : ListOnly l d (d.shown l c) := .ite (Keeps.fset (besideList_plant l) (.inr (.inl rfl)) ..) (.refl ..)

theorem shown_lst (c m : Nat) : (d.shown l c).lst m = d.lst m := by
  unfold shown
  split
  · rw [← plant_lst, fset_plant, plant_lst]
  · rfl

theorem shown_lstState (c : Nat) : (d.shown l c).lstState l = d.lstState l := by
  unfold shown
  split
  · exact fget_fset_other _ _ _ _ _ _ (by unfold aLIST; omega)
  · rfl

theorem namePend_only (c : Nat) (first : Bool) (el : Option Nat) (vw : Bool) : ListOnly l d (d.namePend l c first el vw) :=
  (ListOnly.setLst _ d).trans <| (shown_only ..).trans (ListOnly.dueList _)

theorem namePend_spec (c : Nat) (first : Bool) (el : Option Nat) (vw : Bool) : (d.namePend l c first el vw).lstState l = d.lstState l ∧
    ∃ p, ((d.namePend l c first el vw).lst l).pend = some p ∧ p.ctx = c ∧ p.first = first := by
  rw [namePend_eq]
  refine ⟨(fget_of_rd (dueList_rd ..) 0 2).trans (shown_lstState ..), (dueList_named _ l).2 ⟨c, first, d.edge, el, none, false, [], 0, vw, false⟩ ?_⟩
  rw [shown_lst, setLst_same]

theorem armBase_only (fresh : Bool) : ListOnly l d (d.armBase l fresh) := (ListOnly.setLst _ d).trans (ListOnly.setLstState ..)

theorem armBase_lstState (fresh : Bool) : (d.armBase l fresh).lstState l = 1 := (lstState_setLstState _ l l 1 (by decide)).trans (if_pos rfl)

theorem armList_only (fresh : Bool) : ListOnly l d (d.armList l fresh) := by
  have h : ListOnly l d ((d.armBase l fresh).firstNamed l) := (d.armBase_only fresh).trans (namePend_only ..)
  exact .ite (Keeps.trans h (ListOnly.trigger _)) h

/-- What arming makes of a list: ARMED with FIRST pending, or RUNNING where its trigger is ARM. -/
def ArmedFrom (d t : Device) (l : Nat) : Prop :=
  t.lstState l = (if d.lstTrig l = 1 then 2 else 1) ∧ ∃ p, (t.lst l).pend = some p ∧ p.ctx = d.fget (aLIST l 0) 0 14 ∧ p.first = true

include hl

theorem ListOnly.ldesc {d e : Device} {m : Nat} (h : ListOnly m d e) : e.rd (aLIST l 0) = d.rd (aLIST l 0) :=
  h.rd (by unfold aLIST; omega) (by unfold aLIST; omega) (by unfold aLIST; omega) (lstat_ordinary hl)

theorem armList_arms (fresh : Bool) : ArmedFrom d (d.armList l fresh) l := by
  have hbase := d.armBase_only (l := l) fresh
  have hnamed : ListOnly l d ((d.armBase l fresh).firstNamed l) := hbase.trans (namePend_only ..)
  obtain ⟨hstate, p, hp, hctx, hfirst⟩ := (d.armBase l fresh).namePend_spec (l := l) ((d.armBase l fresh).fget (aLIST l 0) 0 14) true none false
  rw [armBase_lstState] at hstate
  rw [fget_of_rd (ListOnly.ldesc hl hbase)] at hctx
  have htrig : ((d.armBase l fresh).firstNamed l).lstTrig l = d.lstTrig l := fget_of_rd (ListOnly.ldesc hl hnamed) 16 3
  unfold ArmedFrom
  rw [armList_eq, htrig]
  by_cases h1 : d.lstTrig l = 1
  · obtain ⟨hrun, -, hpend⟩ := ((d.armBase l fresh).firstNamed l).trigger_runs l hl hstate
    obtain ⟨q, hq, hqctx, hqfirst⟩ := hpend p hp
    rw [if_pos h1, if_pos h1]
    exact ⟨hrun, q, hq, hqctx.trans hctx, hqfirst.trans hfirst⟩
  · rw [if_neg h1, if_neg h1]
    exact ⟨hstate, p, hp, hctx, hfirst⟩

end

/-! STEP_CTL (R194, R209). -/

theorem armIfAtRest_only (d : Device) (l : Nat) : ListOnly l d (d.armIfAtRest l) := .ite (armList_only ..) (.refl ..)

theorem armIfAtRest_of_rest {d : Device} {l : Nat} (h : d.AtRest l) : d.armIfAtRest l = d.armList l true := if_pos h

/-- What the engine's arming leaves of each list: it arms those of `ls` that are at rest. -/
structure EachArmed (d t : Device) (ls : List Nat) : Prop where
  armed : ∀ l < 256, l ∈ ls → d.AtRest l → ArmedFrom d t l
  stays : ∀ l < 256, l ∉ ls ∨ ¬ d.AtRest l → t.lstState l = d.lstState l ∧ t.lst l = d.lst l
  rest : t.execs = d.execs ∧ t.chan = d.chan ∧ t.armed = d.armed

theorem foldl_armIfAtRest (ls : List Nat) (hlt : ∀ l ∈ ls, l < 256) (hnd : ls.Nodup) (d : Device) : EachArmed d (ls.foldl armIfAtRest d) ls := by
  induction ls generalizing d with
  | nil => exact ⟨fun _ _ h => (nomatch h), fun _ _ _ => ⟨rfl, rfl⟩, rfl, rfl, rfl⟩
  | cons k ls ih =>
    obtain ⟨hk, hnd⟩ := List.nodup_cons.mp hnd
    have hk256 := hlt k List.mem_cons_self
    have hone := d.armIfAtRest_only k
    obtain ⟨harmed, hstays, hexecs, hchan, harm⟩ := ih (fun l h => hlt l (List.mem_cons_of_mem k h)) hnd (d.armIfAtRest k)
    have hstate {l : Nat} (hl : l < 256) (hne : l ≠ k) : (d.armIfAtRest k).lstState l = d.lstState l :=
      fget_of_rd (hone.rd (by unfold aLIST; omega) (by unfold aLIST; omega) (by unfold aLIST; omega) (lstat_ordinary hl)) 0 2
    refine ⟨fun l hl hmem hrest => ?_, fun l hl h => ?_, hexecs.trans (hone.rest Device.execs), hchan.trans (hone.rest Device.chan),
      harm.trans (flag_eq_of_rd_eq (hone.rd (by unfold aLIST; omega) (by unfold aLIST; omega) (by decide) (by decide)) 16)⟩
    · by_cases hne : l = k
      · subst hne
        obtain ⟨hs, hlst⟩ := hstays l hl (.inl hk)
        have h := d.armList_arms hl true
        unfold ArmedFrom at h ⊢
        rw [List.foldl_cons, hs, hlst, armIfAtRest_of_rest hrest]
        exact h
      · have hnow := harmed l hl ((List.mem_cons.mp hmem).resolve_left hne) (by unfold AtRest; rw [hstate hl hne]; exact hrest)
        unfold ArmedFrom at hnow ⊢
        rwa [lstTrig, fget_of_rd (ListOnly.ldesc hl hone), fget_of_rd (ListOnly.ldesc hl hone)] at hnow
    · by_cases hne : l = k
      · subst hne
        obtain ⟨hs, hlst⟩ := hstays l hl (.inl hk)
        have hnot : d.armIfAtRest l = d := if_neg (h.resolve_left fun hn => hn List.mem_cons_self)
        rw [List.foldl_cons, hs, hlst, hnot]
        exact ⟨rfl, rfl⟩
      · obtain ⟨hs, hlst⟩ := hstays l hl (h.imp (fun hn hm => hn (List.mem_cons_of_mem k hm)) fun hn hr => hn (by unfold AtRest at hr ⊢; rwa [← hstate hl hne]))
        rw [List.foldl_cons, hs, hlst, hstate hl hne, hone.lst hne]
        exact ⟨rfl, rfl⟩

/-! The engines of a list (R228, R244). -/

theorem ctxsFrom_congr {d e : Device} (h : ∀ a, 0x100000 ≤ a → e.rd a = d.rd a) (n : Nat) (todo seen : List Nat) : e.ctxsFrom n todo seen = d.ctxsFrom n todo seen := by
  have hws (c : Nat) : e.ctxWords c = d.ctxWords c := List.map_congr_left fun w _ => h _ (by unfold aCTX; omega)
  induction n generalizing todo seen with
  | zero => rfl
  | succ n ih =>
    cases todo with
    | nil => rfl
    | cons c todo =>
      unfold ctxsFrom
      simp only [ih, hws]

theorem tplSlots_congr {d e : Device} (h : ∀ a, 0x100000 ≤ a → e.rd a = d.rd a) (t : Nat) : e.tplSlots t = d.tplSlots t := by
  have hentry (x : Nat) : e.rd (aTE x 0) = d.rd (aTE x 0) := h _ (by unfold aTE; omega)
  unfold tplSlots
  simp only [fget, h (aTD t) (by unfold aTD; omega), hentry]

theorem listEngines_congr {d e : Device} {l : Nat} (h : ∀ a, 0x100000 ≤ a → e.rd a = d.rd a) (h0 : e.rd (aLIST l 0) = d.rd (aLIST l 0)) :
    e.listEngines l = d.listEngines l := by
  have hws (c : Nat) : e.ctxWords c = d.ctxWords c := List.map_congr_left fun w _ => h _ (by unfold aCTX; omega)
  unfold listEngines
  simp only [ctxsFrom_congr h, tplSlots_congr h, hws, fget_of_rd h0]

/-- All of a device but its engines. -/
def offEngines (x : Device) : Device := { x with engines := [] }

/-- Engines that leave HALTED: those of `es`. -/
structure Unhalted (d t : Device) (es : List Nat) : Prop where
  rest : t.offEngines = d.offEngines
  out : ∀ e ∈ es, (t.eng e).halted = false
  same : ∀ e, e ∉ es → t.eng e = d.eng e
  stay : ∀ e, (d.eng e).halted = false → (t.eng e).halted = false

theorem foldl_unhaltEng (es : List Nat) (d : Device) : Unhalted d (es.foldl unhaltEng d) es := by
  induction es generalizing d with
  | nil => exact ⟨rfl, nofun, fun _ _ => rfl, fun _ h => h⟩
  | cons k es ih =>
    obtain ⟨hrest, hout, hsame, hstay⟩ := ih (d.unhaltEng k)
    have hk : ((d.unhaltEng k).eng k).halted = false := by rw [unhaltEng, setEng_same]
    have hother {e : Nat} (hne : e ≠ k) : (d.unhaltEng k).eng e = d.eng e := setEng_other _ _ _ _ hne
    refine ⟨hrest.trans rfl, fun e he => ?_, fun e he => ?_, fun e he => hstay e ?_⟩
    · rcases List.mem_cons.mp he with rfl | he
      · exact hstay e hk
      · exact hout e he
    · exact (hsame e fun h => he (List.mem_cons_of_mem k h)).trans (hother fun h => he (h ▸ List.mem_cons_self))
    · by_cases hne : e = k
      · rw [hne, hk]
      · rw [hother hne, he]

theorem unhaltLists_out (d : Device) (ls : List Nat) : Unhalted d (d.unhaltLists ls) (ls.flatMap d.listEngines) := by
  have hkey {e : Nat} (h : (d.eng e).halted = true) : e ∈ tabKeys d.engines := by
    by_contra hno
    rw [eng, tabGet_of_not_mem _ hno] at h
    exact absurd h (by decide)
  unfold unhaltLists
  dsimp only
  split
  next hnone =>
    have hall (e : Nat) : (d.eng e).halted = false := by
      refine Bool.eq_false_iff.mpr fun h => ?_
      have hmem : e ∈ (tabKeys d.engines).filter fun e => (d.eng e).halted := List.mem_filter.mpr ⟨hkey h, h⟩
      rw [List.isEmpty_iff.mp hnone] at hmem
      exact nomatch hmem
    exact ⟨rfl, fun e _ => hall e, fun _ _ => rfl, fun _ h => h⟩
  next =>
    obtain ⟨hrest, hout, hsame, hstay⟩ := foldl_unhaltEng (((tabKeys d.engines).filter fun e => (d.eng e).halted).filter (ls.flatMap d.listEngines).contains) d
    refine ⟨hrest, fun e he => ?_, fun e he => hsame e fun h => he (List.contains_iff_mem.mp (List.mem_filter.mp h).2), hstay⟩
    cases hh : (d.eng e).halted
    · exact hstay e hh
    · exact hout e (List.mem_filter.mpr ⟨List.mem_filter.mpr ⟨hkey hh, hh⟩, List.contains_iff_mem.mpr he⟩)

/-! STEP_START with ARM (R194, R244). -/

/-- A list at rest that a write arms, with the engines of its contexts. -/
structure StartArmed (d t : Device) (l : Nat) : Prop where
  armed : ArmedFrom d t l
  out : ∀ e ∈ d.listEngines l, (t.eng e).halted = false
  same : ∀ e, e ∉ d.listEngines l → t.eng e = d.eng e
  other : ∀ m, m ≠ l → t.lst m = d.lst m
  execs : t.execs = d.execs

theorem startArmed_arms (d : Device) {l : Nat} (hl : l < 256) (hrest : d.AtRest l) : StartArmed d (d.startArmed l) l := by
  have honly := d.armIfAtRest_only l
  obtain ⟨hbeside, hout, hsame, -⟩ := (d.armIfAtRest l).unhaltLists_out [l]
  have hlists : (d.armIfAtRest l).listEngines l = d.listEngines l := listEngines_congr
    (fun a ha => honly.regs a (by unfold listRegs aLIST aFRET; omega) (reportReg_of_ge ha)) (ListOnly.ldesc hl honly)
  rw [List.flatMap_singleton, hlists] at hout hsame
  have hoff {α : Type} (g : Device → α) (hg : ∀ x : Device, g x.offEngines = g x) : g (d.startArmed l) = g (d.armIfAtRest l) := by
    rw [← hg (d.startArmed l), ← hg (d.armIfAtRest l), startArmed, hbeside]
  have hrd (a : Nat) : (d.startArmed l).rd a = (d.armIfAtRest l).rd a := hoff (fun x => x.rd a) fun _ => rfl
  have hlst (m : Nat) : (d.startArmed l).lst m = (d.armIfAtRest l).lst m := hoff (fun x => x.lst m) fun _ => rfl
  have harm : ArmedFrom d (d.armIfAtRest l) l := by
    rw [armIfAtRest_of_rest hrest]
    exact d.armList_arms hl true
  refine ⟨?_, hout, fun e he => (hsame e he).trans (honly.rest fun x => x.eng e), fun m hm => (hlst m).trans (honly.lst hm),
    (hoff Device.execs fun _ => rfl).trans (honly.rest Device.execs)⟩
  unfold ArmedFrom at harm ⊢
  rwa [lstState, fget_of_rd (hrd _), hlst]

/-- The list of a write of STEP_START with ARM and without GO. -/
theorem startWrite_arm (d : Device) {v : Word} (h31 : bitOf v 31 = false) (ecc : Bool) : (let l := bitsOf v 0 8
    (d.AtRest l → d.startWrite (setBits v 30 1 1) ecc = (d.startArmed l).unreadable l ecc) ∧
    (¬ d.AtRest l → d.startWrite (setBits v 30 1 1) ecc = d)) := by
  have hl : bitsOf (setBits v 30 1 1) 0 8 = bitsOf v 0 8 := bitsOf_setBits_disjoint _ _ (by decide) (by decide)
  have hgo : bitOf (setBits v 30 1 1) 31 = false := by rw [bitOf_setBits _ _ (by decide), if_neg (by decide), if_neg (by decide), h31]
  have harm : bitOf (setBits v 30 1 1) 30 = true := by
    rw [bitOf_setBits_same _ (by decide)]
    decide
  rw [startWrite_eq, startArms, harm, hl, hgo, if_neg Bool.false_ne_true, Bool.true_and]
  constructor
  · intro hrest
    rw [decide_eq_true (p := d.lstState _ = 0 ∨ d.lstState _ = 3) hrest, if_pos rfl, Bool.and_true]
  · intro hrest
    rw [decide_eq_false (p := d.lstState _ = 0 ∨ d.lstState _ = 3) hrest, if_neg Bool.false_ne_true, Bool.and_false, unreadable_false]

theorem execs_of_besideList {d e : Device} {l : Nat} (h : besideList l e = besideList l d) : e.execs = d.execs := congrArg (fun x => x.2.execs) h

theorem unreadable_true {d : Device} {l : Nat} {p : Pend} (h : (d.lst l).pend = some p) : d.unreadable l true = d.eccStop l p.ctx 0 := by
  unfold unreadable
  rw [h]

/-- The two registers that say whether the engine is armed. -/
def armedBits (d : Device) (b : Bool) : Device := (d.fsetB 0x80000 0 b).fsetB 0x80004 16 b

/-- The lists that ARMED finds enabled. -/
def enabledLists (d : Device) : List Nat := (List.range 256).filter fun l => d.flag (aLIST l 0) 31

theorem armEngine_eq (d : Device) : d.armEngine = (d.armedBits true).enabledLists.foldl armIfAtRest (d.armedBits true) := rfl

theorem stepCtl_arms {d : Device} {raw : Word} (h : bitOf raw 0 = true) (ha : d.armed = false) : d.stepCtl raw = d.armEngine := by
  unfold stepCtl
  rw [if_pos h, ha, if_neg Bool.false_ne_true]

theorem stepCtl_disarms {d : Device} {raw : Word} (h : bitOf raw 0 = false) : d.stepCtl raw = d.armedBits false :=
  if_neg (by rw [h]; decide)

theorem armedBits_spec (d : Device) (b : Bool) : (d.armedBits b).armed = b ∧ (d.armedBits b).plant = d.plant ∧
    ∀ a, a ≠ 0x80000 → a ≠ 0x80004 → (d.armedBits b).rd a = d.rd a := by
  refine ⟨flag_fsetB_same _ b (by decide), by rw [armedBits, fsetB_plant, fsetB_plant], fun a h0 h4 => ?_⟩
  rw [armedBits, rd_fsetB_other _ _ _ h4, rd_fsetB_other _ _ _ h0]

end Device

open Device in
/-- Settles O31: an arming is an operation of its own list; over the lists of the engine, by induction on them; the engines that leave HALTED are those
of the contexts, which an arming does not change. -/
theorem listsArm : Obligations.ListsArm := by
  unfold Obligations.ListsArm
  refine ⟨fun w s hadm => ⟨fun hbit harm => givesDev_write_as rfl hadm ?_, fun hbit => givesDev_write_as rfl hadm ?_⟩, fun w s hadm h31 => ⟨fun hrest => ⟨?_, ?_⟩,
    fun h0 h3 ecc => ?_⟩⟩
  · rintro _ rfl
    obtain ⟨hset, hplant, hrd⟩ := s.dev.armedBits_spec true
    have hlreg (l o : Nat) : (s.dev.armedBits true).rd (aLIST l o) = s.dev.rd (aLIST l o) := hrd _ (by unfold aLIST; omega) (by unfold aLIST; omega)
    obtain ⟨harmed, hstays, hexecs, hchan, hon⟩ := foldl_armIfAtRest (s.dev.armedBits true).enabledLists
      (fun l h => List.mem_range.mp (List.mem_filter.mp h).1) (List.nodup_range.filter _) (s.dev.armedBits true)
    have hmem {l : Nat} (hl : l < 256) : l ∈ (s.dev.armedBits true).enabledLists ↔ s.dev.flag (aLIST l 0) 31 = true := by
      rw [enabledLists, List.mem_filter, flag_eq_of_rd_eq (hlreg l 0), List.mem_range]
      exact and_iff_right hl
    have hstate (l : Nat) : (s.dev.armedBits true).lstState l = s.dev.lstState l := fget_of_rd (hlreg l 8) 0 2
    have hlst (l : Nat) : (s.dev.armedBits true).lst l = s.dev.lst l := eq_of_plant (fun x => x.lst l) hplant
    rw [stepCtl_arms hbit harm, armEngine_eq]
    refine ⟨hon.trans hset, fun l hl hen hst => ?_, fun l hl hst => ?_, hexecs.trans (eq_of_plant Device.execs hplant), hchan.trans (eq_of_plant Device.chan hplant)⟩
    · have h := harmed l hl ((hmem hl).mpr hen) (by unfold AtRest; rwa [hstate])
      unfold ArmedFrom at h
      rwa [lstTrig, fget_of_rd (hlreg l 0), fget_of_rd (hlreg l 0)] at h
    · rw [← hstate, ← hlst]
      refine hstays l hl (hst.imp (fun hen hm => ?_) fun hno hr => ?_)
      · rw [(hmem hl).mp hm] at hen
        exact absurd hen (by decide)
      · unfold AtRest at hr
        rw [hstate] at hr
        exact hr.elim hno.1 hno.2
  · rintro _ rfl
    rw [stepCtl_disarms hbit]
    exact s.dev.armedBits_spec false
  · refine givesDev_write_as rfl hadm ?_
    rintro _ rfl
    obtain ⟨⟨hstate, hpend⟩, hout, hsame, hother, hexecs⟩ := s.dev.startArmed_arms (bitsOf_lt w.data 0 8) hrest
    rw [(s.dev.startWrite_arm h31 _).1 hrest, unreadable_false]
    exact ⟨hstate, hpend, hout, hsame, hother, hexecs⟩
  · refine givesDev_write_as rfl hadm ?_
    rintro _ rfl
    obtain ⟨⟨-, p, hp, -⟩, -, -, hother, hexecs⟩ := s.dev.startArmed_arms (bitsOf_lt w.data 0 8) hrest
    obtain ⟨hstate, hpend, hflag, hothers, hkeep⟩ := (s.dev.startArmed (bitsOf w.data 0 8)).eccStop_spec (bitsOf_lt w.data 0 8) p.ctx 0
    rw [(s.dev.startWrite_arm h31 _).1 hrest, unreadable_true hp]
    exact ⟨hstate, hpend, hflag, fun m hm => (hothers m hm).trans (hother m hm), (execs_of_besideList hkeep.part).trans hexecs⟩
  · refine ⟨s.onDev fun d => d.write w 0x80020 fun d => d.startWrite (setBits w.data 30 1 1) ecc, rfl, rfl, rfl, ?_⟩
    rw [State.onDev_dev, write_of_admits hadm]
    rw [(s.dev.startWrite_arm h31 ecc).2 (not_or.mpr ⟨h0, h3⟩)]

end Sys2Proof.Machine
end

section
/-!
PROOF. O35: contexts close, slots get records and are retried.
-/

namespace Sys2Proof.Machine

-- One proof after another: the stacks of the threads that elaborate many at once exceed the memory of a check.
set_option Elab.async false

namespace Device

/-! The table of executions under the list's and the queue's operations. -/

section
variable (d : Device)

theorem execs_of_plant {d e : Device} (h : e.plant = d.plant) : e.execs = d.execs := eq_of_plant Device.execs h

theorem armList_execs (l : Nat) (fresh : Bool) : (d.armList l fresh).execs = d.execs := (d.armList_only fresh).rest Device.execs

theorem makeEligible_execs (l : Nat) : (d.makeEligible l).execs = d.execs := by
  unfold makeEligible
  split
  · exact (ListOnly.dueList (l := l) _).rest Device.execs
  · rfl

theorem setLstState_execs (l s : Nat) : (d.setLstState l s).execs = d.execs := execs_of_plant (fset_plant ..)

/-- An operation that leaves the executions. -/
abbrev ExecsKept (d e : Device) : Prop := Keeps (fun _ => True) Device.execs d e

theorem ExecsKept.of_list {d e : Device} {l : Nat} (h : ListOnly l d e) : ExecsKept d e := ⟨fun _ h => absurd trivial h, h.rest Device.execs⟩

theorem listEnds_kept (l : Nat) : ExecsKept d (d.listEnds l) := by
  have hcounted (x : ListSt) (n : Nat) : ExecsKept d (((d.setLst l x).bump (aLIST l 8) 16 16).fretEvents 4 n false l) :=
    (ExecsKept.of_list (ListOnly.setLst x d)).trans <| (Keeps.bump (fun _ => rfl) trivial ..).trans (ExecsKept.of_list (ListOnly.fretEvents (l := l) ..))
  unfold listEnds
  dsimp only
  refine Keeps.trans ?_ (.foldl (fun e m _ => ExecsKept.of_list (ListOnly.trigger (l := m) e)) _)
  exact .ite (hcounted _ _) (.ite (Keeps.trans (hcounted _ _) (ExecsKept.of_list (armList_only _ false))) (Keeps.trans (hcounted _ _) (ExecsKept.of_list (ListOnly.setLstState (l := l) 0 _))))

theorem listEnds_execs (l : Nat) : (d.listEnds l).execs = d.execs := (d.listEnds_kept l).part

theorem verdictOn_execs (x : Exec) (pass ended : Bool) : (d.verdictOn x pass ended).execs = d.execs := by
  unfold verdictOn
  have hnext (e : Device) : (match ctxNext x.words with | some _ => e.makeEligible x.list | none => e.listEnds x.list).execs = e.execs := by
    split
    · exact makeEligible_execs ..
    · exact listEnds_execs ..
  split
  · split
    · rfl
    · exact setLstState_execs ..
  · split
    · rfl
    · split
      · rfl
      · split
        · split
          · exact hnext d
          · exact (namePend_only ..).rest Device.execs
        · split
          · exact hnext d
          · exact setLstState_execs ..
        · split
          · rfl
          · exact listEnds_execs ..

theorem afterVerdict_execs (x : Exec) (pass ended : Bool) : (d.afterVerdict x pass ended).execs = d.execs := by
  rw [afterVerdict_eq, verdictOn_execs]
  split <;> rfl

theorem signal_execs (v : Nat) : (d.signal v).execs = d.execs := execs_of_plant (signal_plant ..)

theorem commitRec_execs (q : Nat) (r : ResRec) (b : Bool) : (d.commitRec q r b).execs = d.execs := by
  have hirq (e : Device) : (e.queIrq q).execs = e.execs := by
    unfold queIrq
    split
    · exact signal_execs ..
    · rfl
  exact hirq _

theorem foldl_commitRec_execs (q : Nat) (rs : List (ResRec × Bool)) : (rs.foldl (fun d r => d.commitRec q r.1 r.2) d).execs = d.execs := by
  induction rs generalizing d with
  | nil => rfl
  | cons r rs ih => exact (ih _).trans (commitRec_execs ..)

end

/-! What holds of every execution of one number. -/

/-- Whether executions numbered `i` run, and their slots, are as `P` says. -/
def EachOf (i : Nat) (P : Bool → List Slot → Prop) (xs : List Exec) : Prop := ∀ y ∈ xs, y.id = i → P y.active y.slots

section
variable {i : Nat} {P : Bool → List Slot → Prop} {d : Device}

theorem setExec_execs (d : Device) (x : Exec) : (d.setExec x).execs = d.execs.map fun y => if y.id == x.id then x else y := rfl

theorem length_setExec (d : Device) (x : Exec) : (d.setExec x).execs.length = d.execs.length := by rw [setExec_execs, List.length_map]

theorem EachOf.setExec {x : Exec} (hd : EachOf i P d.execs) (hx : x.id = i → P x.active x.slots) : EachOf i P (d.setExec x).execs := by
  intro y hy hid
  obtain ⟨z, hz, hzy⟩ := List.mem_map.mp hy
  split at hzy
  · subst hzy
    exact hx hid
  · subst hzy
    exact hd z hz hid

/-- Replacing an execution replaces all of its number. -/
theorem EachOf.setExec_own {x : Exec} (hx : P x.active x.slots) : EachOf x.id P (d.setExec x).execs := by
  intro y hy hid
  obtain ⟨z, -, hzy⟩ := List.mem_map.mp hy
  split at hzy
  · subst hzy
    exact hx
  next hne =>
    subst hzy
    exact absurd (beq_iff_eq.mpr hid) hne

/-- The records of one execution committed. -/
def committedExec (d : Device) (q : Nat) (x : Exec) : Device :=
  (readyRecs ((execRecs x).drop x.committed)).foldl (fun d r => d.commitRec q r.1 r.2)
    (d.setExec { x with committed := x.committed + (readyRecs ((execRecs x).drop x.committed)).length })

theorem commitExecs_cons (d : Device) (q : Nat) (x : Exec) (xs : List Exec) : d.commitExecs q (x :: xs) =
    if ctxQueue x.words ≠ q then d.commitExecs q xs
    else if allCommitted { x with committed := x.committed + (readyRecs ((execRecs x).drop x.committed)).length } then (d.committedExec q x).commitExecs q xs
    else d.committedExec q x := rfl

theorem committedExec_execs (q : Nat) (x : Exec) : ∃ n, (d.committedExec q x).execs = (d.setExec { x with committed := n }).execs :=
  ⟨x.committed + (readyRecs ((execRecs x).drop x.committed)).length, by
    rw [committedExec, foldl_commitRec_execs]⟩

theorem committedExec_each (q : Nat) (x : Exec) (hd : EachOf i P d.execs) (hx : x.id = i → P x.active x.slots) :
    EachOf i P (d.committedExec q x).execs ∧ (d.committedExec q x).execs.length = d.execs.length := by
  obtain ⟨n, h⟩ := d.committedExec_execs q x
  rw [h]
  exact ⟨hd.setExec hx, length_setExec ..⟩

theorem commitExecs_each (q : Nat) (xs : List Exec) (hxs : EachOf i P xs) (hd : EachOf i P d.execs) :
    EachOf i P (d.commitExecs q xs).execs ∧ (d.commitExecs q xs).execs.length = d.execs.length := by
  induction xs generalizing d with
  | nil => exact ⟨hd, rfl⟩
  | cons x xs ih =>
    have hrest : EachOf i P xs := fun y hy => hxs y (List.mem_cons_of_mem x hy)
    rw [commitExecs_cons]
    split
    · exact ih hrest hd
    · split
      · obtain ⟨hall, hlen⟩ := ih (d := d.committedExec q x) hrest (committedExec_each q x hd (hxs x List.mem_cons_self)).1
        exact ⟨hall, hlen.trans (committedExec_each q x hd (hxs x List.mem_cons_self)).2⟩
      · exact committedExec_each q x hd (hxs x List.mem_cons_self)

theorem finish_each (j : Nat) (ended : Bool) (hd : EachOf i P d.execs) :
    EachOf i P (d.finish j ended).execs ∧ (d.finish j ended).execs.length = d.execs.length := by
  unfold finish
  split
  · exact ⟨hd, rfl⟩
  next x hx =>
    dsimp only
    split
    · exact commitExecs_each _ _ hd hd
    · obtain ⟨v, r, h⟩ : ∃ v r, ((d.setExec { x with verdict := some (decide (failing x = 0)), summary := some (x.summary.getD (summaryRec x (decide (failing x = 0)))) }).afterVerdict
          { x with verdict := some (decide (failing x = 0)), summary := some (x.summary.getD (summaryRec x (decide (failing x = 0)))) }
          (decide (failing x = 0)) ended).execs = (d.setExec { x with verdict := v, summary := r }).execs := ⟨_, _, afterVerdict_execs ..⟩
      have hset : EachOf i P (d.setExec { x with verdict := v, summary := r }).execs := hd.setExec (hd x (List.mem_of_find?_eq_some hx))
      rw [← h] at hset
      obtain ⟨hall, hlen⟩ := commitExecs_each (ctxQueue x.words) _ hset hset
      exact ⟨hall, hlen.trans ((congrArg List.length h).trans (length_setExec ..))⟩

end

/-! The close of a context (R196). -/

section
variable (d : Device) (x : Exec)

theorem freeEntry_plant : (d.freeEntry x).plant = d.plant := by rw [freeEntry, fset_plant, wr_plant]

theorem showNext_plant (l : Nat) : (d.showNext l).plant = d.plant := by
  unfold showNext
  split
  · exact fset_plant ..
  · rfl

/-- The parts that a context's end leaves. -/
def endKept (x : Device) : List Exec × Tab Axis × Tab Chan := (x.execs, x.axes, x.chan)

theorem endKept_plant (x : Device) : endKept x.plant = endKept x := rfl

theorem flushWord_kept (r : CapRun) : (d.flushWord r).1.endKept = d.endKept := by
  unfold flushWord
  split <;> rfl

theorem countRuns_kept (b : Nat) : (d.countRuns b).endKept = d.endKept := eq_of_plant endKept (by rw [countRuns, fset_plant, fset_plant])

theorem endRun_kept (r : CapRun) (cause : Nat) : (d.endRun r cause).endKept = d.endKept := by
  have hruns (e : Device) (rs : List CapRun) : endKept { e with capRuns := rs } = e.endKept := rfl
  have hindex (e : Device) (r : CapRun) (n : Nat) : (e.putIndex r n cause).endKept = e.endKept := rfl
  unfold endRun
  dsimp only
  rw [countRuns_kept, hruns, hindex, flushWord_kept]

theorem endRuns_kept (p : CapRun → Bool) (cause : Nat) : Keeps (fun _ => True) endKept d (d.endRuns p cause) :=
  .foldl (fun e r _ => ⟨fun _ h => absurd trivial h, endRun_kept e r cause⟩) _

theorem closeMatrix_kept : (d.closeMatrix x).endKept = d.endKept := rfl

theorem endActive_kept (cause : Nat) : (d.endActive x cause).endKept = (d.setExec (d.closed x)).endKept := by
  have hshown (e : Device) (l : Nat) : (e.showNext l).endKept = e.endKept := eq_of_plant endKept (showNext_plant e l)
  have hfreed (e : Device) : (e.freeEntry (d.closed x)).endKept = e.endKept := eq_of_plant endKept (freeEntry_plant e _)
  rw [endActive_eq]
  dsimp only
  split
  · rw [hshown, (endRuns_kept _ _ cause).part, hfreed]
  · rw [closeMatrix_kept, hshown, (endRuns_kept _ _ cause).part, hfreed]

/-- The next context of a list whose context closes, where it does not wait for the verdict (R198). -/
def nextFollows (d : Device) (l : Nat) (x : Exec) : Device :=
  if decide (d.lstState l = 2) && decide (ctxOnfail x.words = 0 ∨ ctxOnfail x.words = 3) && (ctxNext x.words).isSome then d.makeEligible l else d

theorem nextFollows_only (l : Nat) : StepOnly d (d.nextFollows l x) := .ite (StepOnly.makeEligible ..) (.refl ..)

theorem nextFollows_execs (l : Nat) : (d.nextFollows l x).execs = d.execs := by
  unfold nextFollows
  split
  · exact makeEligible_execs ..
  · rfl

theorem closeCtx_of_past {d : Device} {l : Nat} {x : Exec} (hx : d.activeOf l = some x)
    (hend : reachedPos (d.ax (ctxAxis x.words)).c ((x.start + ctxLen x.words) % posMod) = true) (hslots : x.slots.all (d.slotPast x) = true) :
    d.closeCtx l = ((d.endActive x 1).nextFollows l x).finish x.id false := by
  unfold closeCtx
  rw [hx]
  exact if_pos (by rw [hend, hslots]; rfl)

end

/-- A context closed: it is active no longer, and neither axes nor channels follow. -/
theorem closed_spec (d : Device) (x : Exec) (l : Nat) : (let t := ((d.endActive x 1).nextFollows l x).finish x.id false
    (∀ y ∈ t.execs, y.id = x.id → y.active = false) ∧ t.execs.length = d.execs.length ∧ t.axes = d.axes ∧ t.chan = d.chan) := by
  have hended := d.endActive_kept x 1
  obtain ⟨hexecs, hparts⟩ := Prod.mk.inj hended
  obtain ⟨haxes, hchan⟩ := Prod.mk.inj hparts
  have hstep : StepOnly (d.endActive x 1) (((d.endActive x 1).nextFollows l x).finish x.id false) := (nextFollows_only _ x l).trans (StepOnly.finish ..)
  have hclosed : EachOf x.id (fun a _ => a = false) (d.setExec (d.closed x)).execs := EachOf.setExec_own (x := d.closed x) rfl
  rw [← hexecs, ← nextFollows_execs _ x l] at hclosed
  obtain ⟨hall, hlen⟩ := finish_each x.id false hclosed
  refine ⟨hall, hlen.trans ?_, (eq_of_core Device.axes hstep.core).trans haxes, (eq_of_core Device.chan hstep.core).trans hchan⟩
  rw [nextFollows_execs, hexecs, length_setExec]

/-! Slots (R196, R199). -/

section
variable (d : Device) (x : Exec) (s : Slot)

theorem slotRecord_some (v : Int) (pos kind flags aux : Nat) : (slotRecord x s v pos kind flags aux).rec_.isSome = true := rfl
theorem emptyRecord_some (flags : Nat) : (d.emptyRecord x s flags).rec_.isSome = true := rfl
theorem fillSlot_some (flags : Nat) : (d.fillSlot x s flags).rec_.isSome = true := rfl

theorem chanRecord_some (n : Nat) : (d.chanRecord x s n).rec_.isSome = true := by
  unfold chanRecord
  dsimp only
  split
  · rfl
  · split
    · split <;> rfl
    · split
      · rfl
      · split
        · rfl
        · split <;> rfl

theorem rmuRecord_some (r : Nat) : (d.rmuRecord x s r).rec_.isSome = true := by
  unfold rmuRecord
  dsimp only
  split
  · rfl
  · split
    · rfl
    · split <;> rfl

/-- The slot with its record. -/
def recorded : Slot :=
  match s.kind with
  | .chan n => d.chanRecord x s n
  | .rmu r => d.rmuRecord x s r
  | .bus _ _ => s

theorem recorded_some (h : d.slotReady s = true) : (d.recorded x s).rec_.isSome = true := by
  unfold recorded
  split
  · exact chanRecord_some ..
  · exact rmuRecord_some ..
  next hk =>
    unfold slotReady at h
    rw [hk, Bool.and_false] at h
    exact absurd h Bool.false_ne_true

theorem completeSlot_of_ready {d : Device} {l i : Nat} {x : Exec} {s : Slot} (hc : d.capo ≠ 1)
    (hx : (d.execs.find? fun y => y.list == l && ((y.slots[i]?.map d.slotReady).getD false)) = some x) (hs : x.slots[i]? = some s) :
    d.completeSlot l i = (d.setSlot x i (d.recorded x s)).finish x.id false := by
  unfold completeSlot
  rw [if_neg hc, hx]
  dsimp only
  rw [hs]
  rfl

/-- The slot that a search by a test of slots finds. -/
theorem slot_of_find {d : Device} {l i : Nat} {x : Exec} {p : Slot → Bool} (hx : (d.execs.find? fun y => y.list == l && ((y.slots[i]?.map p).getD false)) = some x) :
    ∃ s, x.slots[i]? = some s ∧ p s = true := by
  have h := List.find?_some hx
  cases hs : x.slots[i]? with
  | none =>
    rw [hs, Option.map_none, Option.getD_none, Bool.and_false] at h
    exact absurd h Bool.false_ne_true
  | some s =>
    rw [hs, Option.map_some, Option.getD_some] at h
    exact ⟨s, rfl, (Bool.and_eq_true_iff.mp h).2⟩

theorem setSlot_slot {xs : List Slot} {i : Nat} {s : Slot} (h : xs[i]? = some s) (k : Slot) : (xs.set i k)[i]? = some k :=
  List.getElem?_set_self (List.getElem?_eq_some_iff.mp h).1

end

/-! The retry of a slot (R199). -/

section
variable (d : Device)

/-- What a retry leaves beside its resource. -/
def retryKept (x : Device) : List Exec × Tab Axis × Tab Chan × Matrix := (x.execs, x.axes, x.chan, x.mx)

theorem retryKept_plant (x : Device) : retryKept x.plant = retryKept x := rfl

/-- An operation after which an event bit that was set is set still. -/
structure RetryOnly (d e : Device) : Prop where
  kept : e.retryKept = d.retryKept
  event : d.flag 0x80008 3 = true → e.flag 0x80008 3 = true

namespace RetryOnly
variable {d e f : Device}

theorem refl (d : Device) : RetryOnly d d := ⟨rfl, id⟩
theorem trans (h : RetryOnly d e) (h' : RetryOnly e f) : RetryOnly d f := ⟨h'.kept.trans h.kept, fun hf => h'.event (h.event hf)⟩

theorem of_rd (hk : e.retryKept = d.retryKept) (h : e.rd 0x80008 = d.rd 0x80008) : RetryOnly d e := ⟨hk, fun hf => (flag_eq_of_rd_eq h 3).trans hf⟩

theorem fset {a : Nat} (h : a ≠ 0x80008) (lo n x : Nat) (d : Device) : RetryOnly d (d.fset a lo n x) :=
  of_rd (eq_of_plant retryKept (fset_plant ..)) (rd_fset_other _ _ _ _ h.symm)

/-- Setting a bit clears none. -/
theorem setBit (a : Nat) {i : Nat} (hi : i < 32) (d : Device) : RetryOnly d (d.fsetB a i true) := by
  refine ⟨eq_of_plant retryKept (fsetB_plant ..), fun h => ?_⟩
  by_cases ha : a = 0x80008
  · subst ha
    by_cases h3 : i = 3
    · subst h3
      exact flag_fsetB_same _ true hi
    · exact (flag_fsetB_other _ true h3 hi).trans h
  · exact (flag_eq_of_rd_eq (rd_fsetB_other _ _ _ fun h => ha h.symm) 3).trans h

theorem setChain (n : Nat) (c : Chain) (d : Device) : RetryOnly d (d.setChain n c) := of_rd rfl rfl
theorem setThr (n : Nat) (c : Thr) (d : Device) : RetryOnly d (d.setThr n c) := of_rd rfl rfl
theorem setMeter (n : Nat) (c : Rmu) (d : Device) : RetryOnly d (d.setMeter n c) := of_rd rfl rfl
theorem setEng (n : Nat) (c : Engine) (d : Device) : RetryOnly d (d.setEng n c) := of_rd rfl rfl

theorem aFILT_ne (n o : Nat) : aFILT n o ≠ 0x80008 := by unfold aFILT; omega

theorem startChain (n k : Nat) (d : Device) : RetryOnly d (d.startChain n k) := by
  have hthr (e : Device) : RetryOnly e (e.loadThr n k) :=
    (fset (aFILT_ne n 0x30) 4 3 _ e).trans <| (fset (aFILT_ne n 0x30) ..).trans <| (fset (aFILT_ne n 0x30) ..).trans (setThr ..)
  have hloaded : RetryOnly d (d.chainLoaded n k) :=
    (fset (aFILT_ne n 0) 31 1 1 d).trans <| (hthr _).trans <| (fset (aFILT_ne n 0xC) ..).trans <| (fset (aFILT_ne n 4) ..).trans (fset (aFILT_ne n 0x1C) ..)
  rw [startChain_eq]
  split
  · exact hloaded
  · exact hloaded.trans <| (setChain ..).trans <| (setBit _ (by decide) _).trans (setBit _ (by decide) _)

theorem startRmuChain (r k : Nat) (d : Device) : RetryOnly d (d.startRmuChain r k) :=
  (fset (by unfold aRMUF; omega) 31 1 1 d).trans <| (setChain ..).trans <| (fset (by unfold aRMUF; omega) ..).trans <|
    (setBit _ (by decide) _).trans (setBit _ (by decide) _)

theorem startConv (r : Nat) (byHost : Bool) (axis : Nat) (d : Device) : RetryOnly d (d.startConv r byHost axis) :=
  (setMeter ..).trans <| (setBit _ (by decide) _).trans (fset (by unfold aRMU; omega) ..)

theorem queueTx (x i entry engine : Nat) (d : Device) : RetryOnly d (d.queueTx x i entry engine) := setEng ..

end RetryOnly

/-- The slot as its retry begins. -/
def retried (d : Device) (x : Exec) (s : Slot) : Slot :=
  { s with waits := false, start := (d.ax (ctxAxis x.words)).c, outs := [], thr := [], endEdge := none }

/-- What measures the slot starts anew. -/
def resend (d : Device) (x : Exec) (i : Nat) (s : Slot) : Device :=
  match s.kind with
  | .chan n => d.startChain n d.edge
  | .rmu r => (d.startRmuChain r d.edge).startConv r false (ctxAxis x.words)
  | .bus e g => d.queueTx x.id i e g

theorem beginRetry_eq (x : Exec) (i : Nat) (s : Slot) : d.beginRetry x i s = ((d.setSlot x i (d.retried x s)).event 0x80008 3).resend x i s := rfl

theorem resend_only (x : Exec) (i : Nat) (s : Slot) : RetryOnly d (d.resend x i s) := by
  unfold resend
  split
  · exact .startChain ..
  · exact (RetryOnly.startRmuChain ..).trans (.startConv ..)
  · exact .queueTx ..

theorem retrySlot_of_due {d : Device} {l i : Nat} {x : Exec} {s : Slot}
    (hx : (d.execs.find? fun y => y.list == l && ((y.slots[i]?.map fun k => k.waits && !k.remeasure && decide (k.lastFault + 64 ≤ d.edge)).getD false)) = some x)
    (hs : x.slots[i]? = some s) (hin : d.edge ≤ s.firstFault.getD d.edge + 40960) : d.retrySlot l i = d.beginRetry x i s := by
  unfold retrySlot
  dsimp only
  rw [hx]
  dsimp only
  rw [hs]
  exact if_neg (by omega)

theorem beginRetry_spec {x : Exec} {i : Nat} {s : Slot} (hs : x.slots[i]? = some s) : (let t := d.beginRetry x i s
    t.flag 0x80008 3 = true ∧ (∀ y ∈ t.execs, y.id = x.id → y.slots[i]? = some (d.retried x s)) ∧ t.axes = d.axes ∧ t.chan = d.chan ∧ t.mx = d.mx) := by
  have hsent := ((d.setSlot x i (d.retried x s)).event 0x80008 3).resend_only x i s
  have hkept : (d.beginRetry x i s).retryKept = (d.setSlot x i (d.retried x s)).retryKept := hsent.kept.trans (eq_of_plant retryKept (event_plant ..))
  obtain ⟨hexecs, hparts⟩ := Prod.mk.inj hkept
  obtain ⟨haxes, hchan, hmx⟩ := Prod.mk.inj hparts |>.imp_right Prod.mk.inj
  have hslot : EachOf x.id (fun _ ss => ss[i]? = some (d.retried x s)) (d.setSlot x i (d.retried x s)).execs :=
    EachOf.setExec_own (x := { x with slots := x.slots.set i (d.retried x s) }) (setSlot_slot hs _)
  rw [← hexecs] at hslot
  exact ⟨hsent.event (event_flag _ _ _ (by decide) (by decide)), hslot, haxes, hchan, hmx⟩

end

end Device

open Device in
/-- Settles O35: the executions of one number are replaced together, and neither a verdict nor a commit brings back what a close or a record changed. -/
theorem contextsCloseAndSlotsFill : Obligations.ContextsCloseAndSlotsFill := by
  unfold Obligations.ContextsCloseAndSlotsFill
  refine ⟨fun l x s hx hend hslots => ?_, fun l i x s hc hx => ?_, fun l i x k s hx hs hin => ?_⟩
  · refine givesDdr_onDdr_as rfl ?_
    rintro _ rfl
    rw [closeCtx_of_past hx hend hslots]
    exact s.dev.closed_spec x l
  · obtain ⟨k, hk, hready⟩ := slot_of_find hx
    refine givesDev_onDev_as rfl ?_
    rintro _ rfl
    rw [completeSlot_of_ready hc hx hk]
    have hstep := StepOnly.finish x.id false (s.dev.setSlot x i (s.dev.recorded x k))
    have hslot : EachOf x.id (fun _ ss => ∃ k, ss[i]? = some k ∧ k.rec_.isSome = true) (s.dev.setSlot x i (s.dev.recorded x k)).execs :=
      EachOf.setExec_own (x := { x with slots := x.slots.set i (s.dev.recorded x k) }) ⟨_, setSlot_slot hk _, recorded_some _ _ _ hready⟩
    obtain ⟨hall, hlen⟩ := finish_each x.id false hslot
    exact ⟨hall, hlen.trans (length_setExec ..), eq_of_core Device.chan hstep.core, eq_of_core Device.axes hstep.core, eq_of_core Device.mx hstep.core⟩
  · refine givesDdr_onDdr_as rfl ?_
    rintro _ rfl
    rw [retrySlot_of_due hx hs hin]
    exact s.dev.beginRetry_spec hs

end Sys2Proof.Machine
end

section
/-!
PROOF. O58: flash operations and capture buffers.
-/

namespace Sys2Proof.Machine

-- One proof after another: the stacks of the threads that elaborate many at once exceed the memory of a check.
set_option Elab.async false

/-! Bytes of the memories, read together. -/

theorem readCells_eq_map (dflt : Nat → Byte) (m : List Host.Cell) (a n : Nat) : readCells dflt m a n = (List.range n).map fun i => tabGet dflt m (a + i) := by
  induction n generalizing a with
  | zero => rfl
  | succ n ih =>
    rw [readCells, ih, List.range_succ_eq_map, List.map_cons, List.map_map, Nat.add_zero]
    refine congrArg _ (List.map_congr_left fun i _ => ?_)
    rw [Function.comp_apply, Nat.add_right_comm, Nat.add_assoc a i 1]

theorem tabGet_of_replicate {dflt : Nat → Byte} {m : List Host.Cell} {a n : Nat} {b : Byte} (h : readCells dflt m a n = List.replicate n b) {i : Nat} (hi : i < n) :
    tabGet dflt m (a + i) = b := by
  rw [readCells_eq_map] at h
  have hget := congrArg (fun l => l[i]?) h
  simpa [hi] using hget

theorem tabGet_filter {α : Type} (dflt : Nat → α) (p : Nat → Bool) (t : Tab α) (k : Nat) :
    tabGet dflt (t.filter fun x => p x.1) k = if p k then tabGet dflt t k else dflt k := by
  induction t with
  | nil => split <;> rfl
  | cons x t ih =>
    rw [List.filter_cons]
    by_cases hx : x.1 = k
    · subst hx
      cases hp : p x.1
      · rw [if_neg Bool.false_ne_true, ih, hp, if_neg Bool.false_ne_true, if_neg Bool.false_ne_true]
      · rw [if_pos rfl, if_pos rfl, tabGet, tabGet, if_pos rfl, if_pos rfl]
    · have hskip : tabGet dflt (x :: t) k = tabGet dflt t k := if_neg hx
      cases hp : p x.1
      · rw [if_neg Bool.false_ne_true, ih, hskip]
      · rw [if_pos rfl, hskip, ← ih]
        exact if_neg hx

namespace Device

/-! Operations begin (R476). -/

/-- The clamps of a write of HOSTIF_FLOP reported. -/
def flopReported (d : Device) (p : Party) (raw : Word) : Device := d.reportHits (srcOf p) 0xD0040 0xD0040 0 0xFFFF (d.cook 0xD0040 raw).2

/-- The operation that a word asks for. -/
def flopJob (d : Device) (v : Word) : FlashJob := ⟨bitsOf v 0 2, d.fget 0xD0044 0 28, d.fget 0xD0048 0 25, (d.rd 0xD004C).toNat * 16⟩

/-- An operation that may be asked for, begun or refused. -/
def flopTaken (d : Device) (j : FlashJob) : Device :=
  if d.sys.flOp.isSome then d.refuse 0xD0040
  else if flashOk j then (d.wr 0xD0050 1).setSys { d.sys with flOp := some j }
  else ((d.wr 0xD0050 2).refuse 0xD0040).signal 40

theorem flashGo_eq (d : Device) (p : Party) (raw : Word) : d.flashGo p raw =
    if !bitOf raw 31 then d.flopReported p raw else (d.flopReported p raw).flopTaken ((d.flopReported p raw).flopJob (d.cook 0xD0040 raw).1) := rfl

theorem eventReg_flop (b : Nat) : EventReg 0xD0040 b ↔ b = 0xD0004 := by
  constructor
  · rintro (⟨c, r, h⟩ | ⟨-, h, -⟩)
    · exact (Prod.mk.inj (Option.some.inj (show some (0xD0004, 6, 5) = some (b, c, r) from h))).1.symm
    · exact absurd h (by decide)
  · rintro rfl
    exact .inl ⟨6, 5, rfl⟩

section
variable (d : Device) (p : Party) (raw : Word)

theorem flopReported_plant : (d.flopReported p raw).plant = d.plant := reportHits_plant ..

theorem flopReported_keeps : Keeps (fun a => a = 0xD0004) Device.plant d (d.flopReported p raw) :=
  ⟨fun a ha hr => reportHits_rd _ _ _ _ _ _ _ _ (fun h => ha ((eventReg_flop a).mp h)) hr, flopReported_plant ..⟩

theorem flopReported_job (v : Word) : (d.flopReported p raw).flopJob v = d.flopJob v := by
  have hrd {a : Nat} (ha : a ≠ 0xD0004) (hr : reportReg a = false) : (d.flopReported p raw).rd a = d.rd a := (flopReported_keeps d p raw).regs a ha hr
  rw [flopJob, flopJob, fget_of_rd (hrd (by decide) (by decide)), fget_of_rd (hrd (by decide) (by decide)), hrd (by decide) (by decide)]

theorem flopReported_sys : (d.flopReported p raw).sys = d.sys := eq_of_plant Device.sys (flopReported_plant ..)

theorem flashGo_takes (h : bitOf raw 31 = true) : d.flashGo p raw = (d.flopReported p raw).flopTaken (d.flopJob (d.cook 0xD0040 raw).1) := by
  rw [flashGo_eq, flopReported_job, if_neg (by rw [h]; decide)]

end

/-- A refusal of a flash operation. -/
theorem refuse_flop (d : Device) : (d.refuse 0xD0040).plant = d.plant ∧ (d.refuse 0xD0040).flag 0xD0004 5 = true ∧
    keepsRegs (fun a => a = 0xD0004) d (d.refuse 0xD0040) := d.refuse_reports (a := 0xD0040) (e := 0xD0004) (c := 6) (r := 5) rfl (by decide) (by decide) (by decide)

theorem signal_keepsRegs (d : Device) (own : Nat → Prop) : keepsRegs own d (d.signal 40) := fun a _ hr =>
  signal_rd _ _ _ (by rintro rfl; exact absurd hr (by decide))

theorem flopTaken_starts {d : Device} {j : FlashJob} (hn : d.sys.flOp = none) (hok : flashOk j = true) :
    d.flopTaken j = (d.wr 0xD0050 1).setSys { d.sys with flOp := some j } := by
  rw [flopTaken, if_neg (by rw [hn]; decide), if_pos hok]

theorem flopTaken_refuses {d : Device} {j : FlashJob} (hn : d.sys.flOp = none) (hok : flashOk j = false) :
    d.flopTaken j = ((d.wr 0xD0050 2).refuse 0xD0040).signal 40 := by
  rw [flopTaken, if_neg (by rw [hn]; decide), hok, if_neg Bool.false_ne_true]

theorem flopTaken_busy {d : Device} (j : FlashJob) (hs : d.sys.flOp.isSome = true) : d.flopTaken j = d.refuse 0xD0040 := by rw [flopTaken, if_pos hs]

/-- An operation begun. -/
theorem flopStarted_spec (d : Device) (j : FlashJob) : (let t := (d.wr 0xD0050 1).setSys { d.sys with flOp := some j }
    t.sys = { d.sys with flOp := some j } ∧ t.rd 0xD0050 = 1 ∧ keepsRegs (fun a => a = 0xD0050) d t) :=
  ⟨rfl, rd_wr_same d 0xD0050 1, fun _ ha _ => rd_wr_other d 1 ha⟩

/-- An operation refused for its offset or length. -/
theorem flopRefused_spec (d : Device) : (let t := ((d.wr 0xD0050 2).refuse 0xD0040).signal 40
    t.plant = d.plant ∧ t.rd 0xD0050 = 2 ∧ t.flag 0xD0004 5 = true ∧ keepsRegs (fun a => a = 0xD0050 ∨ a = 0xD0004) d t) := by
  obtain ⟨hplant, hflag, hregs⟩ := (d.wr 0xD0050 2).refuse_flop
  have hsig := signal_keepsRegs ((d.wr 0xD0050 2).refuse 0xD0040) fun _ => False
  refine ⟨by rw [signal_plant, hplant, wr_plant], ?_, ?_, fun a ha hr => ?_⟩
  · rw [hsig _ id (by decide), hregs _ (by decide) (by decide), rd_wr_same]
  · exact (flag_eq_of_rd_eq (hsig _ id (by decide)) 5).trans hflag
  · rw [hsig _ id hr, hregs _ (fun h => ha (.inr h)) hr, rd_wr_other _ _ fun h => ha (.inl h)]

/-- A write of HOSTIF_FLOP with GO. -/
theorem flashGo_spec (d : Device) (p : Party) (raw : Word) (h31 : bitOf raw 31 = true) : (let j := d.flopJob (d.cook 0xD0040 raw).1
    let t := d.flashGo p raw
    (d.sys.flOp = none → flashOk j = true → t.sys = { d.sys with flOp := some j } ∧ t.rd 0xD0050 = 1 ∧ keepsRegs (fun a => a = 0xD0050 ∨ a = 0xD0004) d t) ∧
    (d.sys.flOp = none → flashOk j = false → t.plant = d.plant ∧ t.rd 0xD0050 = 2 ∧ t.flag 0xD0004 5 = true ∧ keepsRegs (fun a => a = 0xD0050 ∨ a = 0xD0004) d t) ∧
    (d.sys.flOp.isSome = true → t.plant = d.plant ∧ t.flag 0xD0004 5 = true ∧ keepsRegs (fun a => a = 0xD0004) d t)) := by
  have hk := d.flopReported_keeps p raw
  have hsys := d.flopReported_sys p raw
  dsimp only
  rw [d.flashGo_takes p raw h31]
  generalize d.flopReported p raw = e at *
  refine ⟨fun hn hok => ?_, fun hn hok => ?_, fun hs => ?_⟩
  · rw [flopTaken_starts (hsys.symm ▸ hn) hok]
    obtain ⟨hjob, hst, hregs⟩ := e.flopStarted_spec (d.flopJob (d.cook 0xD0040 raw).1)
    exact ⟨hjob.trans (by rw [hsys]), hst, fun a ha hr => (hregs a (fun h => ha (.inl h)) hr).trans (hk.regs a (fun h => ha (.inr h)) hr)⟩
  · obtain ⟨hplant, hst, hflag, hregs⟩ := e.flopRefused_spec
    rw [flopTaken_refuses (hsys.symm ▸ hn) hok]
    exact ⟨hplant.trans hk.part, hst, hflag, fun a ha hr => (hregs a ha hr).trans (hk.regs a (fun h => ha (.inr h)) hr)⟩
  · obtain ⟨hplant, hflag, hregs⟩ := e.refuse_flop
    rw [flopTaken_busy _ (hsys.symm ▸ hs)]
    exact ⟨hplant.trans hk.part, hflag, fun a ha hr => (hregs a ha hr).trans (hk.regs a ha hr)⟩

/-! Operations end (R476). -/

section
variable {d : Device} {m : Mem} {a n : Nat}

theorem ddrAt_of_near (h : d.ddrMissing a n = false) {i : Nat} (hi : i < n) : d.ddrAt (a + i) = true := by
  unfold ddrMissing at h
  rw [decide_eq_true (by omega), Bool.true_and, Bool.or_eq_false_iff] at h
  obtain ⟨hopen, hlen⟩ := h
  have hin : a + i < d.ddrBytes := by have := of_decide_eq_false hlen; omega
  rw [ddrAt, decide_eq_true hin, Bool.and_true]
  rwa [Bool.not_eq_false'] at hopen

theorem inCache_of_clear (h : d.hitsCache a n = false) {i : Nat} (hi : i < n) : d.inCache (a + i) = false := by
  unfold hitsCache at h
  refine decide_eq_false fun hc => ?_
  rw [decide_eq_true (by omega), decide_eq_true (by omega), decide_eq_true (by omega), decide_eq_true (by omega)] at h
  exact absurd h (by decide)

/-- A load of bytes that can all be reached. -/
theorem ddrLoad_of_near (h : d.ddrMissing a n = false) : d.ddrLoad m a n = (m.ddrRead a n, d) := by
  unfold ddrLoad
  rw [h, if_neg Bool.false_ne_true, Mem.ddrRead, readCells_eq_map]
  refine congrArg (·, d) (List.map_congr_left fun i hi => ?_)
  rw [if_pos (ddrAt_of_near h (List.mem_range.mp hi))]

/-- A store of bytes that can all be written. -/
theorem storeSome_all (bs : List Byte) (m : Mem) (a : Nat) (h : ∀ i < bs.length, d.ddrAt (a + i) = true ∧ d.inCache (a + i) = false) :
    d.storeSome m a (bs.map some) = m.ddrWrite a bs := by
  induction bs generalizing m a with
  | nil => rfl
  | cons b bs ih =>
    obtain ⟨hat, hcache⟩ := h 0 (Nat.zero_lt_succ _)
    rw [Nat.add_zero] at hat hcache
    rw [List.map_cons, storeSome, hat, hcache, if_pos (by decide), ih _ _ fun i hi => ?_]
    · rfl
    · rw [Nat.add_assoc, Nat.add_comm 1 i]
      exact h (i + 1) (Nat.succ_lt_succ hi)

/-- A store reports in HOSTIF_EVENT. -/
theorem ddrStore_keeps (bs : List (Option Byte)) : Keeps (fun b => b = 0xD0004) Device.plant d (d.ddrStore m a bs).2 := by
  have hmiss : Keeps (fun b => b = 0xD0004) Device.plant d (if d.ddrMissing a bs.length then d.event 0xD0004 1 else d) :=
    .ite (Keeps.event plant_plant (by rfl) ..) (.refl ..)
  exact .ite (Keeps.trans hmiss (.event (own := fun b => b = 0xD0004) plant_plant (by rfl) ..)) hmiss

theorem ddrLoad_keeps : Keeps (fun b => b = 0xD0004) Device.plant d (d.ddrLoad m a n).2 := .ite (Keeps.event plant_plant (by rfl) ..) (.refl ..)

/-- Programming erased bytes leaves the bytes given. -/
theorem programBytes_erased (d : Device) {bs : List Byte} (h : m.flashRead a bs.length = List.replicate bs.length 0xFF) :
    d.programBytes m a bs = m.flashWrite a bs := by
  refine congrArg (m.flashWrite a) (List.ext_getElem? fun i => ?_)
  rw [List.getElem?_mapIdx]
  cases hi : bs[i]? with
  | none => rfl
  | some b =>
    rw [Option.map_some, tabGet_of_replicate h (List.getElem?_eq_some_iff.mp hi).1, if_pos rfl]

end

/-- FLOPSTAT as an operation ends. -/
def flopEnded (d : Device) (st : Word) : Device := ((d.wr 0xD0050 st).setSys { d.sys with flOp := none }).signal 40

/-- What a flash operation does to the memories as it ends. -/
def flopDone (d : Device) (m : Mem) (j : FlashJob) (good : Bool) : Mem × Device :=
  if !good then
    (if j.op = 0 then d.ddrStore m j.ddr ((d.freeRun j.len).1.map some) else (m.flashWrite j.ofs (d.freeRun j.len).1, d))
  else if j.op = 0 then d.ddrStore m j.ddr ((m.flashRead j.ofs j.len).map some)
  else if j.op = 1 then ((d.ddrLoad m j.ddr j.len).2.programBytes m j.ofs (d.ddrLoad m j.ddr j.len).1, (d.ddrLoad m j.ddr j.len).2)
  else ({ m with flash := m.flash.filter fun p => decide (p.1 < j.ofs) || decide (j.ofs + j.len ≤ p.1) }, d)

/-- The operation is completed: its result, its status, free bytes drawn. -/
structure FlopEnds (d : Device) (j : FlashJob) (good : Bool) (m : Mem) (r : Mem × Device) : Prop where
  mem : r.1 = ((d.flopEnded (if good then 0 else 4)).flopDone m j good).1
  idle : r.2.sys.flOp = none
  status : r.2.rd 0xD0050 = if good then 0 else 4

theorem freeRun_snd (d : Device) (n : Nat) : (d.freeRun n).2.sys = d.sys ∧ ∀ a, (d.freeRun n).2.rd a = d.rd a := ⟨rfl, fun _ => rfl⟩

theorem flopEnded_spec (d : Device) (st : Word) : (d.flopEnded st).sys = { d.sys with flOp := none } ∧ (d.flopEnded st).rd 0xD0050 = st ∧
    keepsRegs (fun a => a = 0xD0050) d (d.flopEnded st) := by
  have hsig := signal_keepsRegs ((d.wr 0xD0050 st).setSys { d.sys with flOp := none }) fun _ => False
  have hset (a : Nat) : ((d.wr 0xD0050 st).setSys { d.sys with flOp := none }).rd a = (d.wr 0xD0050 st).rd a := rfl
  refine ⟨(eq_of_plant Device.sys (signal_plant ..)).trans rfl, ?_, fun a ha hr => ?_⟩
  · rw [flopEnded, hsig _ id (by decide), hset, rd_wr_same]
  · rw [flopEnded, hsig _ id hr, hset, rd_wr_other _ _ ha]

theorem flopDone_keeps (d : Device) (m : Mem) (j : FlashJob) (good : Bool) : Keeps (fun b => b = 0xD0004) Device.plant d (d.flopDone m j good).2 := by
  unfold flopDone
  split
  · split
    · exact ddrStore_keeps _
    · exact .refl ..
  · split
    · exact ddrStore_keeps _
    · split
      · exact ddrLoad_keeps (m := m)
      · exact .refl ..

/-- The end of an operation that runs. -/
theorem flashEnd_eq (m : Mem) {d : Device} {j : FlashJob} (hj : d.sys.flOp = some j) (ok : Bool) : flashEnd m d ok =
    (let good := ok && (decide (j.op = 2) || d.ddrOpen)
     let r := (d.flopEnded (if good then 0 else 4)).flopDone m j good
     (r.1, (r.2.freeRun j.len).2)) := by
  unfold flashEnd
  rw [hj]
  rfl

theorem flashEnd_ends (m : Mem) {d : Device} {j : FlashJob} (hj : d.sys.flOp = some j) {ok good : Bool}
    (hg : (ok && (decide (j.op = 2) || d.ddrOpen)) = good) : FlopEnds d j good m (flashEnd m d ok) := by
  rw [flashEnd_eq m hj, hg]
  dsimp only
  obtain ⟨hsys, hst, -⟩ := d.flopEnded_spec (if good then 0 else 4)
  have hk := (d.flopEnded (if good then 0 else 4)).flopDone_keeps m j good
  obtain ⟨hfree, hrd⟩ := ((d.flopEnded (if good then 0 else 4)).flopDone m j good).2.freeRun_snd j.len
  have hkept := eq_of_plant Device.sys hk.part
  exact ⟨rfl, congrArg Sys.flOp (hfree.trans (hkept.trans hsys)), (hrd _).trans ((hk.regs _ (by decide) (by decide)).trans hst)⟩

/-- What reaches DDR5 is decided by registers that the end of an operation does not write. -/
theorem flopEnded_near (d : Device) (st : Word) (a n : Nat) : (d.flopEnded st).ddrMissing a n = d.ddrMissing a n ∧ (d.flopEnded st).hitsCache a n = d.hitsCache a n := by
  obtain ⟨-, -, hregs⟩ := d.flopEnded_spec st
  have hrd {b : Nat} (hb : b ≠ 0xD0050) (hr : reportReg b = false) : (d.flopEnded st).rd b = d.rd b := hregs b hb hr
  constructor
  · rw [ddrMissing, ddrMissing, ddrOpen, ddrOpen, quiet, quiet, failedState, failedState, ddrBytes, ddrBytes, fget_of_rd (hrd (by decide) (by decide)),
      fget_of_rd (hrd (by decide) (by decide)), flag_eq_of_rd_eq (hrd (by decide) (by decide)), flag_eq_of_rd_eq (hrd (by decide) (by decide))]
  · have hbase : (d.flopEnded st).regBase 0 = d.regBase 0 := congrArg (fun v : Word => v.toNat * 16) (hrd (by decide) (by decide))
    have hval : (d.flopEnded st).regVal 0 = d.regVal 0 := fget_of_rd (hrd (by decide) (by decide)) ..
    rw [hitsCache, hitsCache, regEnd, regEnd, hbase, hval]

/-- ERASE leaves ones. -/
theorem flopDone_erases (d : Device) (m : Mem) {j : FlashJob} (hj : j.op = 2) : (d.flopDone m j true).1 =
    { m with flash := m.flash.filter fun p => decide (p.1 < j.ofs) || decide (j.ofs + j.len ≤ p.1) } := by
  rw [flopDone, if_neg (by decide), if_neg (by rw [hj]; decide), if_neg (by rw [hj]; decide)]

theorem flashRead_erased (m : Mem) (ofs len a : Nat) :
    Mem.flashRead { m with flash := m.flash.filter fun p => decide (p.1 < ofs) || decide (ofs + len ≤ p.1) } a 1 =
      if ofs ≤ a ∧ a < ofs + len then [0xFF] else m.flashRead a 1 := by
  have hget := tabGet_filter blankFlash (fun k => decide (k < ofs) || decide (ofs + len ≤ k)) m.flash a
  refine (congrArg (fun b => [b]) hget).trans ?_
  by_cases h : ofs ≤ a ∧ a < ofs + len
  · rw [if_pos h, if_neg]
    · rfl
    · rw [decide_eq_false (by omega), decide_eq_false (by omega)]
      decide
  · rw [if_neg h, if_pos]
    · rfl
    · rw [Bool.or_eq_true, decide_eq_true_iff, decide_eq_true_iff]
      omega

/-- PROGRAM leaves the bytes of DDR5 where flash was erased. -/
theorem flopDone_programs {d : Device} {m : Mem} {j : FlashJob} (hj : j.op = 1) (hnear : d.ddrMissing j.ddr j.len = false)
    (her : m.flashRead j.ofs j.len = List.replicate j.len 0xFF) : (d.flopDone m j true).1 = m.flashWrite j.ofs (m.ddrRead j.ddr j.len) := by
  have hlen : (m.ddrRead j.ddr j.len).length = j.len := readCells_length ..
  rw [flopDone, if_neg (by decide), if_neg (by rw [hj]; decide), if_pos hj, ddrLoad_of_near hnear]
  exact programBytes_erased d (hlen.symm ▸ her)

/-- READ brings flash to DDR5. -/
theorem flopDone_reads {d : Device} {m : Mem} {j : FlashJob} (hj : j.op = 0) (hnear : d.ddrMissing j.ddr j.len = false)
    (hclear : d.hitsCache j.ddr j.len = false) : (d.flopDone m j true).1 = m.ddrWrite j.ddr (m.flashRead j.ofs j.len) := by
  have hlen : (m.flashRead j.ofs j.len).length = j.len := readCells_length ..
  rw [flopDone, if_neg (by decide), if_pos hj]
  exact storeSome_all _ _ _ fun i hi => ⟨ddrAt_of_near hnear (hlen ▸ hi), inCache_of_clear hclear (hlen ▸ hi)⟩

/-- Bytes written to one place of a memory: what lies there, and what stays beside. -/
theorem readCells_written (dflt : Nat → Byte) (m : List Host.Cell) (a n : Nat) {bs : List Byte} (hbs : bs.length = n) :
    readCells dflt (writeCells dflt m a bs) a n = bs ∧ ∀ b, b < a ∨ a + n ≤ b → readCells dflt (writeCells dflt m a bs) b 1 = readCells dflt m b 1 := by
  subst hbs
  exact ⟨readCells_writeCells_same .., fun b hb => (readCells_writeCells ..).trans (if_neg (by omega))⟩

/-! Capture buffers (R466, R477). -/

theorem capReset_of_empty {d : Device} {b : Nat} (h : d.openRuns b = []) :
    d.capReset b = ((d.setCapBuf b CapBuf.init).fsetB (aCB b 0x14) 0 false).wr (aCB b 0x18) 0 := if_pos (by rw [h]; rfl)

theorem capReset_of_open {d : Device} {b : Nat} (h : d.openRuns b ≠ []) : d.capReset b = d.refuse (aCB b 0x1C) :=
  if_neg (by rwa [List.isEmpty_iff])

/-- A buffer emptied. -/
theorem capEmptied_spec (d : Device) (b : Nat) : (let t := ((d.setCapBuf b CapBuf.init).fsetB (aCB b 0x14) 0 false).wr (aCB b 0x18) 0
    tabGet (fun _ => CapBuf.init) t.capBufs b = CapBuf.init ∧ t.flag (aCB b 0x14) 0 = false ∧ t.rd (aCB b 0x18) = 0 ∧
    (∀ c, c ≠ b → tabGet (fun _ => CapBuf.init) t.capBufs c = tabGet (fun _ => CapBuf.init) d.capBufs c) ∧
    keepsRegs (fun a => a = aCB b 0x14 ∨ a = aCB b 0x18) d t) := by
  have hbufs : (((d.setCapBuf b CapBuf.init).fsetB (aCB b 0x14) 0 false).wr (aCB b 0x18) 0).capBufs = tabSet (fun _ => CapBuf.init) b CapBuf.init d.capBufs := rfl
  have hne : aCB b 0x14 ≠ aCB b 0x18 := by unfold aCB; omega
  dsimp only
  rw [hbufs]
  refine ⟨tabGet_tabSet_same .., ?_, rd_wr_same .., fun c hc => tabGet_tabSet_other _ _ _ hc, fun a ha _ => ?_⟩
  · rw [flag_eq_of_rd_eq (rd_wr_other _ _ hne)]
    exact flag_fsetB_same _ false (by decide)
  · rw [rd_wr_other _ _ fun h => ha (.inr h), rd_fsetB_other _ _ _ fun h => ha (.inl h)]
    rfl

/-- The device with DDR_CBWR and DDR_CBWRHI shown. -/
def cbwrShown (d : Device) (b n : Nat) : Device := (d.wr (aCB b 0xC) (BitVec.ofNat 32 n)).fset (aCB b 0x10) 0 16 (n / 2 ^ 32)

theorem readCbwr_eq (d : Device) (b : Nat) : d.readCbwr b = { d.cbwrShown b (d.cbCount b) with answer := leBytes 4 (d.cbCount b) } := rfl

theorem cbwrShown_plant (d : Device) (b n : Nat) : (d.cbwrShown b n).plant = d.plant := by rw [cbwrShown, fset_plant, wr_plant]

theorem answer_plant {d e : Device} (h : e.plant = d.plant) (x : List Byte) : { Device.plant { e with answer := x } with answer := d.answer } = d.plant := by
  have hx : { Device.plant { e with answer := x } with answer := d.answer } = { e.plant with answer := d.answer } := rfl
  rw [hx, h]
  rfl

end Device

open Device in
/-- Settles O58: an operation completes with what its kind does to the memories, which is stated once per kind; a buffer is emptied or refused by its
open runs. -/
theorem flashAndBuffersFollow : Obligations.FlashAndBuffersFollow := by
  unfold Obligations.FlashAndBuffersFollow
  refine fun s => ⟨fun w raw c hc hadm h31 => ?_, fun j hj => ⟨fun h2 => ?_, fun h1 hnear hopen her => ?_, fun h0 hnear hopen hclear => ?_, ?_⟩,
    fun b w hadm => ⟨fun h => givesDev_write_as rfl hadm ?_, fun h => givesDev_write_as rfl hadm ?_⟩, fun b h5 hlive => givesDev_onDev_as rfl ?_⟩
  · have hraw : bitOf raw 31 = true ∧ exec c s = .next (s.onDev fun d => d.write w 0xD0040 fun d => d.flashGo w.by_ raw) := by
      simp only [List.mem_cons, Prod.mk.injEq, List.not_mem_nil, or_false] at hc
      rcases hc with ⟨rfl, rfl⟩ | ⟨rfl, rfl⟩ | ⟨rfl, rfl⟩ <;>
        exact ⟨by rw [bitOf_setBits _ _ (by decide), if_neg (by decide), if_neg (by decide), h31], rfl⟩
    obtain ⟨hstart, hrefuse, hbusy⟩ := s.dev.flashGo_spec w.by_ raw hraw.1
    refine ⟨fun hn hok => givesDev_write_as hraw.2 hadm ?_, fun hn hok => givesDev_write_as hraw.2 hadm ?_, fun hs => givesDev_write_as hraw.2 hadm ?_⟩ <;>
      rintro _ rfl
    · exact hstart hn hok
    · exact hrefuse hn hok
    · exact hbusy hs
  · obtain ⟨hmem, hidle, hst⟩ := flashEnd_ends s.mem hj (ok := true) (good := true) (by rw [h2]; rfl)
    refine givesMem_onMem rfl ?_
    rw [hmem, flopDone_erases _ _ h2]
    exact ⟨flashRead_erased s.mem j.ofs j.len, rfl, rfl, hidle, hst⟩
  · obtain ⟨hmem, hidle, hst⟩ := flashEnd_ends s.mem hj (ok := true) (good := true) (by rw [hopen, Bool.or_true]; rfl)
    refine givesMem_onMem rfl ?_
    rw [hmem, flopDone_programs h1 ((flopEnded_near ..).1.trans hnear) her]
    obtain ⟨hin, hout⟩ := readCells_written blankFlash s.mem.flash j.ofs j.len (bs := s.mem.ddrRead j.ddr j.len) (readCells_length ..)
    exact ⟨hin, hout, rfl, rfl, hidle, hst⟩
  · obtain ⟨hmem, hidle, hst⟩ := flashEnd_ends s.mem hj (ok := true) (good := true) (by rw [hopen, Bool.or_true]; rfl)
    refine givesMem_onMem rfl ?_
    rw [hmem, flopDone_reads h0 ((flopEnded_near ..).1.trans hnear) ((flopEnded_near ..).2.trans hclear)]
    obtain ⟨hin, hout⟩ := readCells_written blankRam s.mem.ddr j.ddr j.len (bs := s.mem.flashRead j.ofs j.len) (readCells_length ..)
    exact ⟨hin, hout, rfl, rfl, hidle, hst⟩
  · obtain ⟨-, hidle, hst⟩ := flashEnd_ends s.mem hj (ok := false) (good := false) (Bool.false_and _)
    exact givesMem_onMem rfl ⟨hidle, hst⟩
  · rintro _ rfl
    rw [capReset_of_empty h]
    exact s.dev.capEmptied_spec b
  · rintro _ rfl
    have hblock : blockEvents (aCB b 0x1C) = some (0xC0004, 3, 4) := by
      have hb : aCB b 0x1C / 0x10000 = 0xC := by unfold aCB; omega
      unfold blockEvents
      dsimp only
      rw [hb]
      rfl
    rw [capReset_of_open h]
    exact s.dev.refuse_reports hblock (by unfold aCB; omega) (by decide) (by decide)
  · rintro _ rfl
    rw [readAt_of_answers _ _ h5 hlive, readCbwr_eq]
    refine ⟨rfl, ?_, answer_plant (cbwrShown_plant ..) _, fun a hC h10 => ?_⟩
    · exact fget_fset_same (s.dev.wr (aCB b 0xC) _) _ _ (by decide)
    · refine (rd_fset_other (s.dev.wr (aCB b 0xC) _) _ _ _ h10).trans (rd_wr_other _ _ hC)

end Sys2Proof.Machine
end

section
/-!
PROOF. O59 fails: nothing bounds the entry of the active table that an execution holds, and SAFE, which a port that goes DOWN can bring, clears that entry.
-/

namespace Sys2Proof.Machine

-- One proof after another: the stacks of the threads that elaborate many at once exceed the memory of a check.
set_option Elab.async false

open Device

/-- Port 1 is not DOWN, an origin stands, the CHORD cause is not shown yet; an active execution holds entry 47,105, whose register would be CHORD_EVENT. -/
def strayEntry : State :=
  let d := (((State.reset.dev.fset 0x40000 0 2 0).fset (aPORT 1 0) 0 2 1).fset 0x4000C 3 1 1).fset 0x20000 12 1 1
  { State.reset with dev := { d.setLink { d.link with origins := [(5, 1)] } with
      execs := [⟨0, 0, 0, [], 0, 0, false, false, [], [], true, 0, 0, 47105, none, none, [], 0⟩] } }

theorem strayEntry_up : strayEntry.dev.fget (aPORT 1 0) 0 2 ≠ 0 := by decide

set_option maxRecDepth 100000 in
/-- SAFE ends the execution, and CHORD_EVENT reads zero. -/
theorem strayEntry_down : (strayEntry.dev.portDown 1).flag 0xB0004 2 = false := by decide

/-- Refutes O59: the event of a port that goes DOWN is lost where the SAFE that follows clears an entry of the active table that does not exist. -/
theorem not_treeAndCapoFollowLink : ¬ Obligations.TreeAndCapoFollowLink := by
  unfold Obligations.TreeAndCapoFollowLink
  intro h
  obtain ⟨hports, -⟩ := h.1 strayEntry
  obtain ⟨t, hexec, -, -, -, -, -, hevent, -⟩ := hports 1 strayEntry_up
  have ht : t = strayEntry.onDdr fun d => d.portDown 1 := (Host.Outcome.next.inj hexec).symm
  rw [ht, onDdr_flag, strayEntry_down] at hevent
  exact absurd hevent (by decide)

end Sys2Proof.Machine
end

section
/-!
PROOF. O60 fails: a device that leaves ALIGNED ends the contexts on its CHORD axes, and nothing bounds the entry of the active table that one of them holds.
-/

namespace Sys2Proof.Machine

-- One proof after another: the stacks of the threads that elaborate many at once exceed the memory of a check.
set_option Elab.async false

open Device

/-- An ALIGNED device on REFB with three messages beyond the limits behind it; axis 0 is a LOCKED CHORD axis, and the active execution on it holds entry
47,105, whose register would be CHORD_EVENT. -/
def straySeek : State :=
  let d := ((((State.reset.dev.fset (aPORT 0 0) 0 2 2).fset 0x10000 14 1 0).fset 0x10000 12 1 1).fset 0xB0000 0 3 4).fset (aPOS 0 0) 0 3 5
  { State.reset with dev := { (d.fset (aPOS 0 0x2C) 0 2 2).setLink { d.link with outRow := 3 } with
      execs := [⟨0, 0, 0, [], 0, 0, false, false, [], [], true, 0, 0, 47105, none, none, [], 0⟩] } }

/-- A POS message with a phase error of 1.01 ns. -/
def lateMsg : PosMsg := ⟨0, [], 101, 0, 0⟩

theorem straySeek_hears : straySeek.dev.portUp 0 = true ∧ straySeek.dev.quiet = false ∧ straySeek.dev.flag 0x10000 14 = false ∧
    straySeek.dev.flag 0x10000 12 = true ∧ straySeek.dev.chordState = 4 ∧ straySeek.dev.horizon ≤ 1024 ∧ 3 ≤ straySeek.dev.link.outRow ∧
    100 < lateMsg.phaseErr.natAbs := by decide

set_option maxRecDepth 100000 in
/-- The execution ends, and CHORD_EVENT reads zero. -/
theorem straySeek_leaves : (straySeek.dev.posMsg lateMsg).flag 0xB0004 1 = false := by decide

/-- Refutes O60: the event of a device that leaves ALIGNED is lost where the end of a context on a CHORD axis clears an entry of the active table that
does not exist. -/
theorem not_linkCarriesTriggersAndTime : ¬ Obligations.LinkCarriesTriggersAndTime := by
  unfold Obligations.LinkCarriesTriggersAndTime
  intro h
  obtain ⟨-, htime, -⟩ := h
  obtain ⟨hpos, -⟩ := htime straySeek
  obtain ⟨hup, hquiet, hruns, href, hstate, hnear, hrow, herr⟩ := straySeek_hears
  obtain ⟨-, hleaves, -⟩ := hpos lateMsg hup hquiet hruns href
  obtain ⟨t, hexec, -, -, -, -, hevent, -⟩ := hleaves hstate hnear hrow herr
  have ht : t = straySeek.onDdr fun d => d.posMsg lateMsg := (Host.Outcome.next.inj hexec).symm
  rw [ht, onDdr_flag, straySeek_leaves] at hevent
  exact absurd hevent (by decide)

end Sys2Proof.Machine
end

section
/-!
PROOF. O47: detected faults and retests (R335 to R337), a meter that goes out of service (R110, R341), the copying of the event log (R354).
-/

namespace Sys2Proof.Machine

-- One proof after another: the stacks of the threads that elaborate many at once exceed the memory of a check.
set_option Elab.async false

namespace Device

/-! Slots that a fault reaches (R205, R345). -/

namespace StepOnly
variable {d e : Device}

theorem retireRec (x : Exec) (n flag fseq : Nat) (d : Device) : StepOnly d (d.retireRec x n flag fseq) := by
  unfold Device.retireRec
  dsimp only
  have hcounted (q : Nat) : StepOnly d ((d.bump (aRESQ q 0x28) 0 32).event (aRESQ q 0x20) 8) :=
    (bump (stepRegs_aRESQ q (by decide)) ..).trans (event (stepRegs_aRESQ q (by decide)) ..)
  have hwritten (q : Nat) (y : Queue) (z : Exec) : StepOnly d ((((d.reserve q 1).setQue q y).setExec z).fsetB (aRESQ q 0x20) 1 true) :=
    (fset (stepRegs_aRESQ q (by decide)) ..).trans <| (setQue ..).trans <| (setExec ..).trans (fsetB (stepRegs_aRESQ q (by decide)) ..)
  exact .ite (hcounted _) (hwritten _ _ _)

theorem affect (p : Exec → Slot → Bool) (rflag : Option Nat) (fseq : Nat) (f : Device → Exec → Slot → Slot) (d : Device) :
    StepOnly d (d.affect p rflag fseq f) := by
  refine .foldl (fun e i _ => ?_) d
  dsimp only
  split
  · exact .refl ..
  · have hslots (y : Exec) (n : Nat) : StepOnly e (match (rflag : Option Nat) with
        | some fl => (e.setExec y).retireRec y n fl fseq
        | none => e.setExec y) := by
      split
      · exact (setExec y e).trans (retireRec ..)
      · exact setExec y e
    exact .ite (.refl ..) (Keeps.trans (hslots _ _) (finish ..))

end StepOnly

/-! Reports and their counters (R352, R356). -/

section
variable (d : Device)

/-- Registers that count events by class. -/
def classCount (a : Nat) : Prop := a = 0x50040 ∨ a = 0x50044

theorem fqPush_count (e : FqEntry) {a : Nat} (ha : classCount a) : (d.fqPush e).rd a = d.rd a := by
  unfold classCount at ha
  have hirq (x : Device) : x.fqIrq.rd a = x.rd a := by
    unfold fqIrq
    split
    · exact signal_rd _ _ _ (by omega)
    · rfl
  have hover (x : Device) : x.fqOverrun.rd a = x.rd a := by
    unfold fqOverrun
    split
    · rw [event_rd _ _ _ _ (by omega) (by omega)]
      exact rd_fset_other _ _ _ _ (by omega)
    · rfl
  unfold fqPush
  dsimp only
  rw [hirq, hover, rd_wr_other _ _ (by omega)]
  rfl

theorem fqPush_flag (e : FqEntry) {j : Nat} (hj : j ≠ 3) : (d.fqPush e).flag 0x50004 j = d.flag 0x50004 j := by
  have hirq (x : Device) : x.fqIrq.flag 0x50004 j = x.flag 0x50004 j := by
    unfold fqIrq
    split
    · exact flag_eq_of_rd_eq (signal_rd _ _ _ (by omega)) j
    · rfl
  have hover (x : Device) : x.fqOverrun.flag 0x50004 j = x.flag 0x50004 j := by
    unfold fqOverrun
    split
    · rw [event_flag_other _ (by decide) (Ne.symm hj) (by decide)]
      exact flag_eq_of_rd_eq (rd_fset_other _ _ _ _ (by decide)) j
    · rfl
  unfold fqPush
  dsimp only
  rw [hirq, hover]
  exact flag_eq_of_rd_eq (rd_wr_other _ _ (by decide)) j

/-- A count of 32 bits goes up by one. -/
theorem bump_word (a : Nat) : (d.bump a 0 32).rd a = d.rd a + 1 := by
  have h := fget_fset_same (d := d) a (lo := 0) (n := 32) (d.fget a 0 32 + 1) (by decide)
  unfold bump
  generalize d.fset a 0 32 (d.fget a 0 32 + 1) = e at h ⊢
  refine BitVec.eq_of_toNat_eq ?_
  have hword (x : Device) : x.fget a 0 32 = (x.rd a).toNat := by
    unfold fget bitsOf
    rw [Nat.shiftRight_zero]
    exact Nat.mod_eq_of_lt (x.rd a).isLt
  rw [hword, hword] at h
  rw [h, BitVec.toNat_add]
  rfl

/-- An entry of class T is counted and shown. -/
theorem faultEntry_t (kind idx code action detail : Nat) (who : Option Exec) :
    (d.faultEntry .t kind idx code action detail who).1.rd 0x50040 = d.rd 0x50040 + 1 ∧
    (d.faultEntry .t kind idx code action detail who).1.flag 0x50004 0 = true := by
  have hreport (e : FqEntry) (he : e.cls = .t) : (d.report e true).rd 0x50040 = d.rd 0x50040 + 1 ∧ (d.report e true).flag 0x50004 0 = true := by
    unfold report
    rw [he]
    dsimp only
    rw [if_neg (by simp), fqPush_count _ _ (.inl rfl), fqPush_flag _ _ (by decide)]
    exact ⟨(event_rd _ _ _ _ (by decide) (by decide)).trans (d.bump_word _), event_flag (d.bump 0x50040 0 32) _ _ (by decide) (by decide)⟩
  unfold faultEntry
  cases who <;> exact hreport _ rfl

/-- An entry of class P is counted. -/
theorem faultEntry_p (kind idx code action detail : Nat) (who : Option Exec) :
    (d.faultEntry .p kind idx code action detail who).1.rd 0x50044 = d.rd 0x50044 + 1 := by
  have hreport (e : FqEntry) (he : e.cls = .p) : (d.report e true).rd 0x50044 = d.rd 0x50044 + 1 := by
    unfold report
    rw [he]
    dsimp only
    rw [if_neg (by simp), fqPush_count _ _ (.inr rfl)]
    exact (event_rd _ _ _ _ (by decide) (by decide)).trans (d.bump_word _)
  unfold faultEntry
  cases who <;> exact hreport _ rfl

theorem faultEntry_plant (c : Cls) (kind idx code action detail : Nat) (who : Option Exec) :
    (d.faultEntry c kind idx code action detail who).1.plant = d.plant := by
  unfold faultEntry
  cases who <;> exact report_plant ..

/-! A meter goes out of service (R110, R341). -/

/-- The port switches of meter `r` open. -/
def portsOpen (r : Nat) : Device :=
  let port (s : Switch) : Bool := decide (1024 + 4 * r ≤ s.node ∧ s.node < 1028 + 4 * r)
  d.setMx { d.mx with closed := d.mx.closed.filter (fun s => !port s), moves := d.mx.moves.filter fun m => !port m.sw }

/-- Meter `r` at rest, without a conversion. -/
def meterAtRest (r : Nat) : Device := { d with rmu := tabSet (fun _ => Rmu.init) r Rmu.init d.rmu }.fsetB (aRMU r 0x14) 0 false

/-- Meter `r` marked, its port switches open, without owner and at rest. -/
def meterDown (r : Nat) : Device :=
  ((((((d.fsetB (aRMU r 0x14) 3 true).fsetB 0x50300 r true).portsOpen r).setOwner (resRmu r) .free).fsetB 0xA0028 r false).stopRmuChain r).meterAtRest r

/-- The entry of a class P decision on meter `r`, and the device after it. -/
def meterEntry (r code detail : Nat) : Device × Nat := d.faultEntry .p 0x05 r code 4 detail (d.firstHit fun _ s => s.kind == .rmu r)

theorem rmuClassP_eq {r : Nat} (h : d.flag (aRMU r 0x14) 3 = false) (code detail : Nat) : d.rmuClassP r code detail =
    ((d.meterEntry r code detail).1.meterDown r).affect (fun _ s => s.kind == .rmu r) (some 0x10) (d.meterEntry r code detail).2
      (retireSlot (d.meterEntry r code detail).2) := by
  unfold rmuClassP
  rw [if_neg (by rw [h]; decide)]
  rfl

theorem stopRmuChain_rd (r : Nat) {a : Nat} (h0 : a ≠ aRMUF r 0) (h8 : a ≠ aRMUF r 8) : (d.stopRmuChain r).rd a = d.rd a := by
  unfold stopRmuChain
  rw [fsetB, rd_fset_other _ _ _ _ h8, fsetB, rd_fset_other _ _ _ _ h8, rd_fset_other _ _ _ _ h0]

variable {r : Nat}

theorem portsOpen_rd (a : Nat) : (d.portsOpen r).rd a = d.rd a := rfl

theorem meterAtRest_rd {a : Nat} (h : a ≠ aRMU r 0x14) : (d.meterAtRest r).rd a = d.rd a := rd_fset_other _ _ _ _ h

theorem meterDown_rd {a : Nat} (h1 : a ≠ aRMU r 0x14) (h2 : a ≠ 0x50300) (h3 : a ≠ 0xA0028) (h4 : a ≠ aRMUF r 0) (h5 : a ≠ aRMUF r 8) :
    (d.meterDown r).rd a = d.rd a := by
  rw [meterDown, meterAtRest_rd _ h1, stopRmuChain_rd _ r h4 h5, fsetB, rd_fset_other _ _ _ _ h3, setOwner_rd, portsOpen_rd, fsetB, rd_fset_other _ _ _ _ h2,
    fsetB, rd_fset_other _ _ _ _ h1]

theorem meterDown_status : (d.meterDown r).flag (aRMU r 0x14) 3 = true := by
  have h1 : aRMU r 0x14 ≠ aRMUF r 0 := by unfold aRMU aRMUF; omega
  have h2 : aRMU r 0x14 ≠ aRMUF r 8 := by unfold aRMU aRMUF; omega
  have hrest (e : Device) : (e.meterAtRest r).flag (aRMU r 0x14) 3 = e.flag (aRMU r 0x14) 3 := flag_fsetB_other (d := { e with rmu := _ }) _ (by decide) (by decide)
  rw [meterDown, hrest, flag_eq_of_rd_eq (stopRmuChain_rd _ r h1 h2), fsetB, flag_eq_of_rd_eq (rd_fset_other _ _ _ _ (by unfold aRMU; omega)),
    flag_eq_of_rd_eq (setOwner_rd ..), flag_eq_of_rd_eq (portsOpen_rd ..), fsetB, flag_eq_of_rd_eq (rd_fset_other _ _ _ _ (by unfold aRMU; omega)),
    flag_fsetB_same _ _ (by decide)]

theorem meterDown_retired (hr : r < 4) : (d.meterDown r).flag 0x50300 r = true := by
  have h1 : 0x50300 ≠ aRMUF r 0 := by unfold aRMUF; omega
  have h2 : 0x50300 ≠ aRMUF r 8 := by unfold aRMUF; omega
  rw [meterDown, flag_eq_of_rd_eq (meterAtRest_rd _ (by unfold aRMU; omega)), flag_eq_of_rd_eq (stopRmuChain_rd _ r h1 h2), fsetB,
    flag_eq_of_rd_eq (rd_fset_other _ _ _ _ (by decide)), flag_eq_of_rd_eq (setOwner_rd ..), flag_eq_of_rd_eq (portsOpen_rd ..), flag_fsetB_same _ _ (by omega)]

theorem meterAtRest_mx : (d.meterAtRest r).mx = d.mx := rfl
theorem stopRmuChain_mx : (d.stopRmuChain r).mx = d.mx := (stopRmuChain_analogue d r).mx

theorem meterDown_owner : (d.meterDown r).owner (resRmu r) = .free := by
  rw [meterDown, owner, meterAtRest_mx, stopRmuChain_mx]
  exact (setOwner_owner ..).trans (if_pos rfl)

/-- The parts that no decision on a meter changes. -/
def besideMeter (d : Device) : Tab Chan × Tab Axis × Recovery := (d.chan, d.axes, d.rec_)

theorem portsOpen_beside : (d.portsOpen r).besideMeter = d.besideMeter := rfl
theorem setOwner_beside (o : Owner) : (d.setOwner r o).besideMeter = d.besideMeter := rfl
theorem meterAtRest_beside : (d.meterAtRest r).besideMeter = d.besideMeter := rfl
theorem beside_of_plant {e : Device} (h : e.plant = d.plant) : e.besideMeter = d.besideMeter := eq_of_plant besideMeter h (fun _ => rfl)
theorem stopRmuChain_plant : (d.stopRmuChain r).plant = d.plant := (fsetB_plant ..).trans ((fsetB_plant ..).trans (fset_plant ..))

theorem meterDown_beside : (d.meterDown r).besideMeter = d.besideMeter := by
  rw [meterDown, meterAtRest_beside, beside_of_plant _ (stopRmuChain_plant ..), beside_of_plant _ (fsetB_plant ..), setOwner_beside, portsOpen_beside,
    beside_of_plant _ (fsetB_plant ..), beside_of_plant _ (fsetB_plant ..)]

end

/-- Meter `r` is out of service, and one event of class P more is counted. -/
structure MeterOut (d t : Device) (r : Nat) : Prop where
  status : t.flag (aRMU r 0x14) 3 = true
  retired : t.flag 0x50300 r = true
  owner : t.owner (resRmu r) = .free
  chan : t.chan = d.chan
  axes : t.axes = d.axes
  retests : t.rec_.retests = d.rec_.retests
  count : t.rd 0x50044 = d.rd 0x50044 + 1

theorem rmuClassP_out {r : Nat} (d : Device) (hr : r < 4) (h : d.flag (aRMU r 0x14) 3 = false) (code detail : Nat) : MeterOut d (d.rmuClassP r code detail) r := by
  rw [rmuClassP_eq _ h]
  generalize hm : (d.meterEntry r code detail).1 = e
  have hplant : e.plant = d.plant := hm ▸ faultEntry_plant ..
  have hcount : e.rd 0x50044 = d.rd 0x50044 + 1 := hm ▸ faultEntry_p ..
  generalize (d.meterEntry r code detail).2 = f
  have hslots := StepOnly.affect (fun _ s => s.kind == .rmu r) (some 0x10) f (retireSlot f) (e.meterDown r)
  generalize (e.meterDown r).affect (fun _ s => s.kind == .rmu r) (some 0x10) f (retireSlot f) = t at hslots ⊢
  have hbeside : t.besideMeter = d.besideMeter := (eq_of_core besideMeter hslots.core).trans <| (meterDown_beside e).trans (beside_of_plant d hplant)
  obtain ⟨hchan, hrest⟩ := Prod.mk.inj hbeside
  obtain ⟨haxes, hrec⟩ := Prod.mk.inj hrest
  refine ⟨?_, ?_, ?_, hchan, haxes, congrArg Recovery.retests hrec, ?_⟩
  · refine (flag_eq_of_rd_eq (hslots.regs _ ?_ ?_) 3).trans (meterDown_status e)
    · unfold stepRegs aRMU
      omega
    · refine Bool.eq_false_iff.mpr fun h => ?_
      simp only [reportReg, List.contains_eq_mem, List.mem_cons, List.not_mem_nil, or_false, decide_eq_true_eq] at h
      unfold aRMU at h
      omega
  · exact (flag_eq_of_rd_eq (hslots.rd (by decide) (by decide)) r).trans (meterDown_retired e hr)
  · exact (eq_of_core (fun x => x.owner (resRmu r)) hslots.core).trans (meterDown_owner e)
  · refine hslots.classP.trans ((meterDown_rd e ?_ (by decide) (by decide) ?_ ?_).trans hcount)
    · unfold aRMU; omega
    · unfold aRMUF; omega
    · unfold aRMUF; omega

/-! Detectors (R335 to R337). -/

/-- A retest begins at the present edge. -/
def withRetest (d : Device) (x : Detect) : Device :=
  { d with rec_ := { d.rec_ with retests := ⟨x.res, x.code.toNat, d.edge, x.detail.toNat, 0⟩ :: d.rec_.retests } }

section
variable (d : Device) (x : Detect)

theorem detected_ignored (h : d.outOfService x.res = true ∨ d.excluded x.res x.code.toNat = true) : d.detected x = d :=
  if_pos (by rwa [Bool.or_eq_true])

/-- An event that counts and is not of class P at once. -/
theorem detected_t (hout : d.outOfService x.res = false) (hex : d.excluded x.res x.code.toNat = false) (hp : atOnceP x.code.toNat = false)
    (heng : ∀ e, x.res = .engine e → d.txSlot e = none)
    (hidle : (∀ e, x.res ≠ .engine e) → (d.firstHit fun e k => d.servesSlot x.res e.words k) = none)
    (hnew : (d.rec_.retests.any fun t => t.res == x.res) = false) : d.detected x = d.withRetest x := by
  unfold detected withRetest
  dsimp only
  rw [hout, hex, hp, Bool.false_or, if_neg Bool.false_ne_true, if_neg Bool.false_ne_true, hnew, if_neg Bool.false_ne_true]
  have hslots (h : ∀ e, x.res ≠ .engine e) : ¬ (d.firstHit fun e k => d.servesSlot x.res e.words k).isSome = true := by rw [hidle h]; exact Bool.false_ne_true
  split
  next e he => rw [heng e he, Option.isSome_none, if_neg Bool.false_ne_true]
  next h => rw [if_neg (hslots h)]

theorem detected_rmu {r : Fin 4} (hr : x.res = .rmu r) (hp : atOnceP x.code.toNat = true) (hin : d.flag (aRMU r 0x14) 3 = false) :
    d.detected x = d.rmuClassP r x.code.toNat x.detail.toNat := by
  have hout : d.outOfService x.res = false := by rw [hr]; exact hin
  have hex : d.excluded x.res x.code.toNat = false := by rw [hr]; rfl
  unfold detected
  dsimp only
  rw [hout, hex, hp, Bool.false_or, if_neg Bool.false_ne_true, if_pos rfl, hr]
  rfl

/-! Retests (R335, R336). -/

/-- The retests of a resource are over. -/
def endRetests (r : Resource) : Device := { d with rec_ := { d.rec_ with retests := d.rec_.retests.filter fun y => y.res != r } }

theorem endRetests_rd (r : Resource) (a : Nat) : (d.endRetests r).rd a = d.rd a := rfl

/-- A test passed: the event is of class T. -/
def retestPassed (r : Resource) (k : Retest) : Device :=
  (((d.endRetests r).faultEntry .t (resSrc r).1 (resSrc r).2 k.code 2 k.detail).1).noteT r

theorem endRetests_parts (r : Resource) : (d.endRetests r).rec_.retests = d.rec_.retests.filter (fun y => y.res != r) ∧ (d.endRetests r).execs = d.execs ∧
    (d.endRetests r).chan = d.chan := ⟨rfl, rfl, rfl⟩

theorem noteT_parts (r : Resource) : (d.noteT r).rec_.retests = d.rec_.retests ∧ (d.noteT r).execs = d.execs ∧ (d.noteT r).chan = d.chan := ⟨rfl, rfl, rfl⟩

theorem retestPassed_parts (r : Resource) (k : Retest) : (d.retestPassed r k).rec_.retests = d.rec_.retests.filter (fun y => y.res != r) ∧
    (d.retestPassed r k).execs = d.execs ∧ (d.retestPassed r k).chan = d.chan := by
  have hplant := faultEntry_plant (d.endRetests r) .t (resSrc r).1 (resSrc r).2 k.code 2 k.detail none
  obtain ⟨h1, h2, h3⟩ := endRetests_parts d r
  unfold retestPassed
  generalize d.endRetests r = f at *
  generalize (f.faultEntry .t (resSrc r).1 (resSrc r).2 k.code 2 k.detail none).1 = e at *
  obtain ⟨n1, n2, n3⟩ := noteT_parts e r
  exact ⟨n1.trans ((eq_of_plant (fun y => y.rec_.retests) hplant).trans h1), n2.trans ((eq_of_plant Device.execs hplant).trans h2),
    n3.trans ((eq_of_plant Device.chan hplant).trans h3)⟩

theorem retestPassed_counted (r : Resource) (k : Retest) : (d.retestPassed r k).rd 0x50040 = d.rd 0x50040 + 1 ∧ (d.retestPassed r k).flag 0x50004 0 = true := by
  obtain ⟨hcount, hflag⟩ := faultEntry_t (d.endRetests r) (resSrc r).1 (resSrc r).2 k.code 2 k.detail none
  unfold retestPassed
  generalize ((d.endRetests r).faultEntry .t (resSrc r).1 (resSrc r).2 k.code 2 k.detail none).1 = e at hcount hflag ⊢
  exact ⟨((noteT_rd e r _).trans hcount).trans (congrArg (· + 1) (endRetests_rd d r _)), (flag_eq_of_rd_eq (noteT_rd e r _) 0).trans hflag⟩

/-- A failed test counts against the budget of a slot that has started on the resource since. -/
def failedSlot (r : Resource) (k : Retest) (x : Exec) (c : Slot) : Slot :=
  if c.rec_.isNone && decide (k.edge ≤ x.startEdge) && d.servesSlot r x.words c then
    { c with retries := c.retries + 1, firstFault := some (c.firstFault.getD k.edge) }
  else c

/-- A failed test is counted. -/
def countFail (r : Resource) (k : Retest) : Device :=
  { d with execs := d.execs.map fun x => { x with slots := x.slots.map (d.failedSlot r k x) },
           rec_ := { d.rec_ with retests := d.rec_.retests.map fun y => if y.res = r then { y with fails := y.fails + 1 } else y } }

/-- What the end of a self-test makes of the retest that it belongs to. -/
def retestedOn (r : Resource) (pass : Bool) (k : Retest) : Device :=
  if d.edge < k.edge + 64 then d
  else if k.edge + 40960 < d.edge then (d.endRetests r).classP r k.code k.detail
  else if pass then
    if d.tooMany r then (d.endRetests r).classP r k.code k.detail
    else d.retestPassed r k
  else if 2 ≤ k.fails ∨ k.edge + 40960 ≤ d.edge then (d.endRetests r).classP r k.code k.detail
  else d.countFail r k

variable {d} {r : Resource} {k : Retest} (hk : (d.rec_.retests.find? fun y => y.res == r) = some k)
include hk

theorem retested_eq (pass : Bool) : d.retested r pass = d.retestedOn r pass k := by
  unfold retested
  rw [hk]
  rfl

theorem retested_passed (h64 : k.edge + 64 ≤ d.edge) (hin : d.edge ≤ k.edge + 40960) (hmany : d.tooMany r = false) : d.retested r true =
    d.retestPassed r k := by
  rw [retested_eq hk, retestedOn, if_neg (by omega), if_neg (by omega), if_pos rfl, hmany, if_neg Bool.false_ne_true]

theorem retested_failed (h64 : k.edge + 64 ≤ d.edge) (hin : d.edge < k.edge + 40960) (hfew : k.fails < 2) : d.retested r false = d.countFail r k := by
  rw [retested_eq hk, retestedOn, if_neg (by omega), if_neg (by omega), if_neg Bool.false_ne_true, if_neg (by omega)]

/-- A third failure, or an outcome that comes too late. -/
theorem retested_p {pass : Bool} (h : k.edge + 40960 < d.edge ∨ (pass = false ∧ k.edge + 64 ≤ d.edge ∧ (2 ≤ k.fails ∨ k.edge + 40960 ≤ d.edge))) :
    d.retested r pass = (d.endRetests r).classP r k.code k.detail := by
  rw [retested_eq hk, retestedOn, if_neg (by omega)]
  split
  · rfl
  · obtain ⟨hpass, h64, hlast⟩ := h.resolve_left ‹_›
    rw [hpass, if_neg Bool.false_ne_true, if_pos hlast]

end

theorem countFail_eq (d : Device) (r : Resource) (k : Retest) : d.countFail r k =
    { d with rec_ := { d.rec_ with retests := d.rec_.retests.map fun y => if y.res = r then { y with fails := y.fails + 1 } else y },
             execs := d.execs.map fun e => { e with slots := e.slots.map fun c =>
               if c.rec_.isNone = true ∧ k.edge ≤ e.startEdge ∧ d.servesSlot r e.words c = true then
                 { c with retries := c.retries + 1, firstFault := some (c.firstFault.getD k.edge) } else c } } := by
  unfold countFail failedSlot
  simp only [Bool.and_eq_true, decide_eq_true_eq, and_assoc]

/-! The event log (R354). -/

/-- The sector and the index of the next log entry, and FSEQ of the last one copied. -/
def logMoved (d : Device) (x : LogItem) : Device :=
  let d := { d with logSeq := match x with
    | .fault e => some e.fseq
    | .clamp _ => d.logSeq }
  if d.logIdx + 1 < 128 then { d with logIdx := d.logIdx + 1 }
  else { d with logIdx := 0 }.fset 0x50030 0 11 (if d.fget 0x50030 0 11 + 1 < 1280 then d.fget 0x50030 0 11 + 1 else 0)

/-- Where the next log entry stands in flash. -/
def logPlace (d : Device) : Nat := 0x0FB00000 + 4096 * d.fget 0x50030 0 11 + 32 * d.logIdx

/-- An address outside the log's sector. -/
def offSector (d : Device) (a : Nat) : Bool :=
  decide (a < 0x0FB00000 + 4096 * d.fget 0x50030 0 11) || decide (0x0FB00000 + 4096 * d.fget 0x50030 0 11 + 4096 ≤ a)

/-- The log's sector, erased before its first entry. -/
def logErased (d : Device) (m : Mem) : Mem := if d.logIdx = 0 then { m with flash := m.flash.filter fun p => d.offSector p.1 } else m

theorem logItems_one (x : LogItem) (m : Mem) (d : Device) : logItems [x] m d = ((d.logErased m).flashWrite d.logPlace x.bytes, d.logMoved x) := by
  cases x <;> rfl

theorem logErased_ddr (d : Device) (m : Mem) : (d.logErased m).ddr = m.ddr ∧ (d.logErased m).host = m.host := by
  unfold logErased
  split
  · exact ⟨rfl, rfl⟩
  · exact ⟨rfl, rfl⟩

theorem logMoved_kept (d : Device) (x : LogItem) : (d.logMoved x).logQ = d.logQ ∧ (d.logMoved x).logAt = d.logAt ∧
    ∀ a, a ≠ 0x50030 → (d.logMoved x).rd a = d.rd a := by
  unfold logMoved
  dsimp only
  split
  · exact ⟨rfl, rfl, fun _ _ => rfl⟩
  · exact ⟨rfl, rfl, fun a ha => rd_fset_other _ _ _ _ ha⟩

theorem leBytes_length (n x : Nat) : (leBytes n x).length = n := by
  induction n generalizing x with
  | zero => rfl
  | succ n ih => rw [leBytes, List.length_cons, ih]

theorem logItem_length (x : LogItem) : x.bytes.length = 32 := by
  cases x with
  | fault e => simp only [LogItem.bytes, FqEntry.bytes, FqEntry.body, List.length_append, leBytes_length]
  | clamp e => simp only [LogItem.bytes, ClampEntry.bytes, ClampEntry.body, List.length_append, leBytes_length]

/-- Every item that waits is copied at the present edge. -/
def logTaken (d : Device) : Device := { d with logAt := some d.edge, logQ := [] }

/-- An only item that waits goes to its place in flash. -/
theorem logCopy_one {d : Device} {x : LogItem} (hq : d.logQ = [x]) (hat : ∀ e, d.logAt = some e → e + 20480000 ≤ d.edge) (m : Mem) :
    d.logCopy m = ((d.logErased m).flashWrite d.logPlace x.bytes, d.logTaken.logMoved x) := by
  unfold logCopy
  rw [hq]
  dsimp only
  rw [if_neg]
  · rw [List.length_singleton, if_pos (by decide), List.take_of_length_le (by simp), logItems_one]
    rfl
  · rw [List.isEmpty_cons, Bool.or_false]
    split
    next e he => rw [decide_eq_true_eq]; exact Nat.not_lt.mpr (hat e he)
    next => exact Bool.false_ne_true

end Device

/-- Settles O47: detectors begin retests, meters go out of service, and the log takes what waits. -/
theorem faultsAreRetested : Obligations.FaultsAreRetested := by
  unfold Obligations.FaultsAreRetested
  refine fun x s => ⟨fun hign => ?_, fun hout hex hp heng hidle hnew => ?_, fun r hr hp hin => ?_, fun r k pass hk => ⟨fun hearly => ?_, fun hpass h64 hlate hmany => ?_,
    fun hpass h64 hlate hfew => ?_, fun m hm hin hdue => ?_⟩, fun i hq hat => ?_⟩
  · refine givesDdr_of_exec_onDdr (f := fun d => d.detected x) rfl ?_
    rw [Device.detected_ignored _ _ hign]
  · refine givesDdr_of_exec_onDdr (f := fun d => d.detected x) rfl ?_
    rw [Device.detected_t _ _ hout hex hp heng hidle hnew]
    rfl
  · refine givesDdr_onDdr_as rfl ?_
    rintro _ rfl
    rw [Device.detected_rmu _ _ hr hp hin]
    have hmeter := Device.rmuClassP_out s.dev r.isLt hin x.code.toNat x.detail.toNat
    exact ⟨hmeter.status, hmeter.retired, hmeter.owner, hmeter.chan, hmeter.axes⟩
  · refine givesDdr_of_exec_onDdr (f := fun d => d.retested r pass) rfl ?_
    rw [Device.retested_eq hk, Device.retestedOn, if_pos hearly]
  · subst hpass
    refine givesDdr_onDdr_as rfl ?_
    rintro _ rfl
    rw [Device.retested_passed hk h64 hlate hmany]
    obtain ⟨hretests, hexecs, hchan⟩ := s.dev.retestPassed_parts r k
    obtain ⟨hcount, hflag⟩ := s.dev.retestPassed_counted r k
    exact ⟨hretests, hcount, hflag, hexecs, hchan⟩
  · subst hpass
    refine givesDdr_of_exec_onDdr (f := fun d => d.retested r false) rfl ?_
    rw [Device.retested_failed hk h64 hlate hfew, Device.countFail_eq]
  · refine givesDdr_onDdr_as rfl ?_
    rintro _ rfl
    rw [Device.retested_p hk hdue, hm]
    have hmeter := Device.rmuClassP_out (s.dev.endRetests (.rmu m)) m.isLt hin k.code k.detail
    exact ⟨hmeter.status, hmeter.retests, hmeter.count⟩
  · refine givesMem_onMem rfl ?_
    rw [Device.logCopy_one hq hat]
    obtain ⟨hlog, hlogAt, hrd⟩ := Device.logMoved_kept s.dev.logTaken i
    obtain ⟨hddr, hhost⟩ := Device.logErased_ddr s.dev s.mem
    refine ⟨hlog, hlogAt, ?_, hddr, hhost, hrd⟩
    have hread := readCells_writeCells_same blankFlash (s.dev.logErased s.mem).flash s.dev.logPlace i.bytes
    rwa [Device.logItem_length] at hread

end Sys2Proof.Machine
end

section
/-!
PROOF. O45: requests of CAL_CMD, due ranges, the start of a run and its early end (R305, R313, R315, R318, R319, R331).
-/

namespace Sys2Proof.Machine

-- One proof after another: the stacks of the threads that elaborate many at once exceed the memory of a check.
set_option Elab.async false

namespace Device

/-! What the engine's hand leaves alone: slices, claims and counters (R78, R100, R115, R325). -/

/-- Registers of the matrix, the chains and the counters of calibrations. -/
def handRegs (a : Nat) : Prop := 0xA0000 ≤ a ∨ (0x64000 ≤ a ∧ (a % 0x20 = 0x10 ∨ a % 0x20 = 0x14))

/-- The Tuning engine's own part, the channels and the executions. -/
def tunePart (d : Device) : (Cal × Nat) × Tab Chan × List Exec := ((d.cal, d.calP), d.chan, d.execs)

/-- An operation on slices, claims and counters: nothing of the Tuning engine's own part, of channels or executions. -/
abbrev HandOnly (d e : Device) : Prop := Keeps handRegs tunePart d e

theorem tunePart_plant (x : Device) : tunePart x.plant = tunePart x := rfl

namespace HandOnly

theorem fset {a : Nat} (ha : handRegs a) (lo n x : Nat) (d : Device) : HandOnly d (d.fset a lo n x) := Keeps.fset tunePart_plant ha ..
theorem fsetB {a : Nat} (ha : handRegs a) (i : Nat) (x : Bool) (d : Device) : HandOnly d (d.fsetB a i x) := fset ha ..
theorem wr {a : Nat} (ha : handRegs a) (v : Word) (d : Device) : HandOnly d (d.wr a v) := Keeps.wr tunePart_plant ha ..
theorem setMx (m : Matrix) (d : Device) : HandOnly d (d.setMx m) := .of_rd (fun _ => rfl) rfl
theorem setCrs (c : Nat) (x : Course) (d : Device) : HandOnly d (d.setCrs c x) := .of_rd (fun _ => rfl) rfl
theorem setOwner (r : Nat) (o : Owner) (d : Device) : HandOnly d (d.setOwner r o) := setMx ..
theorem setChain (n : Nat) (c : Chain) (d : Device) : HandOnly d (d.setChain n c) := .of_rd (fun _ => rfl) rfl
theorem setThr (n : Nat) (c : Thr) (d : Device) : HandOnly d (d.setThr n c) := .of_rd (fun _ => rfl) rfl

theorem handRegs_aFILT (n o : Nat) : handRegs (aFILT n o) := by unfold handRegs aFILT; omega

theorem holdOpen (b : Nat) (w : OpenWhy) (d : Device) : HandOnly d (d.holdOpen b w) :=
  (setMx _ d).trans (fsetB (by unfold handRegs aMX; omega) ..)

theorem freeTuning (d : Device) : HandOnly d d.freeTuning :=
  Keeps.trans (.foldl (fun e b _ => .ite (holdOpen b _ e) (.refl ..)) d) (setMx ..)

theorem startChain (n k : Nat) (d : Device) : HandOnly d (d.startChain n k) := by
  have hthr (e : Device) : HandOnly e (e.loadThr n k) :=
    (fset (handRegs_aFILT n 0x30) 4 3 _ e).trans <| (fset (handRegs_aFILT ..) ..).trans <| (fset (handRegs_aFILT ..) ..).trans (setThr ..)
  have hloaded : HandOnly d (d.chainLoaded n k) :=
    (fset (handRegs_aFILT ..) ..).trans <| (hthr _).trans <| (fset (handRegs_aFILT ..) ..).trans <| (fsetB (handRegs_aFILT ..) ..).trans (fset (handRegs_aFILT ..) ..)
  rw [startChain_eq]
  exact .ite hloaded (hloaded.trans <| (setChain ..).trans <| (fsetB (handRegs_aFILT ..) ..).trans (fsetB (handRegs_aFILT ..) ..))

theorem reconnect (n : Nat) (d : Device) : HandOnly d (d.reconnect n) := .ite (startChain ..) (.refl ..)

theorem countCal (s : Nat) (n : Option Nat) (d : Device) : HandOnly d (d.countCal s n) := by
  have hreg (n o : Nat) (ho : o = 0x10 ∨ o = 0x14) : handRegs (aCALCH n o) := by unfold handRegs aCALCH; omega
  have hspare (o : Nat) (ho : o = 0x10 ∨ o = 0x14) : handRegs (aCAL s o) := by unfold handRegs aCAL aCALCH aCALSP; split <;> omega
  have hch (n : Nat) (e : Device) : HandOnly e ((e.bump (aCALCH n 0x10) 0 32).wr (aCALCH n 0x14) (e.rd 0x60018)) :=
    (fset (hreg n _ (.inl rfl)) 0 32 _ e).trans (wr (hreg n _ (.inr rfl)) ..)
  have hsp (e : Device) : HandOnly e ((e.bump (aCAL s 0x10) 0 32).wr (aCAL s 0x14) (e.rd 0x60018)) :=
    (fset (hspare _ (.inl rfl)) 0 32 _ e).trans (wr (hspare _ (.inr rfl)) ..)
  cases n with
  | none => exact .ite (hsp _) (.refl ..)
  | some n => exact .ite (Keeps.trans (hch n d) (hsp _)) (hch n d)

theorem beginHand (c : Nat) (h : Handover) (d : Device) : HandOnly d (d.beginHand c h) := beginHand_keeps (fun _ _ _ => rfl) c h d

theorem nextHand (c : Nat) (d : Device) : HandOnly d (d.nextHand c) := nextHand_keeps (fun _ _ _ => rfl) c d

theorem handBack (r : CalRun) (d : Device) : HandOnly d (d.handBack r) := by
  unfold Device.handBack
  dsimp only
  split
  · split
    · exact .ite ((setCrs ..).trans (nextHand ..)) (.refl ..)
    · exact beginHand ..
  · exact .ite (Keeps.trans (.ite (countCal ..) (.refl ..)) (reconnect ..)) (beginHand ..)
  · exact .ite (countCal ..) (.refl ..)
  · exact .refl ..

end HandOnly

/-! A run that ends (R319). -/

/-- The Tuning engine without a run. -/
def idleTune (d : Device) : Device := { d with cal := { d.cal with run := none }, calP := 0 }

theorem idleTune_rd (d : Device) (a : Nat) : d.idleTune.rd a = d.rd a := rfl
theorem idleTune_part (d : Device) : d.idleTune.tunePart = (({ d.cal with run := none }, 0), d.chan, d.execs) := rfl

/-- Registers that show a run, and those of the hand. -/
def tuneRegs (a : Nat) : Prop := a = 0x60004 ∨ a = 0x60020 ∨ handRegs a

/-- Registers that the end of a run writes. -/
def endRegs (a : Nat) : Prop := a = 0x60008 ∨ tuneRegs a

theorem clearRun_spec (d : Device) : d.clearRun.tunePart = (({ d.cal with run := none }, 0), d.chan, d.execs) ∧ d.clearRun.flag 0x60004 4 = false ∧
    keepsRegs tuneRegs d d.clearRun := by
  have hfree := HandOnly.freeTuning d.idleTune
  have hclear : d.clearRun = (d.idleTune.freeTuning.fsetB 0x60004 4 false).wr 0x60020 0 := rfl
  rw [hclear]
  generalize d.idleTune.freeTuning = e at hfree ⊢
  refine ⟨hfree.part.trans (idleTune_part d), (flag_eq_of_rd_eq (rd_wr_other _ _ (by decide)) 4).trans (flag_fsetB_same _ _ (by decide)), fun a ha hr => ?_⟩
  unfold tuneRegs at ha
  rw [rd_wr_other _ _ (by omega), fsetB, rd_fset_other _ _ _ _ (by omega), hfree.regs a (fun h => ha (.inr (.inr h))) hr, idleTune_rd]

/-- What is left of a run is scheduled again. -/
def againWith (d : Device) (qs : List CalReq) : Device := d.setCal { d.cal with again := qs ++ d.cal.again }

/-- What the end of a run leaves: no run, nothing of its dissipation, what is left of it as `again`. -/
structure RunEnded (d t : Device) (again : List CalReq) : Prop where
  cal : t.cal = { d.cal with run := none, again := again }
  calP : t.calP = 0
  chan : t.chan = d.chan
  execs : t.execs = d.execs
  busy : t.flag 0x60004 4 = false
  ended : t.flag 0x60008 5 = true
  regs : keepsRegs endRegs d t

theorem endCal_spec {d : Device} {r : CalRun} (hr : d.cal.run = some r) (drop : Bool) :
    RunEnded d (d.endCal drop) ((if drop then [] else restOf r) ++ d.cal.again) := by
  obtain ⟨hpart, hbusy, hregs⟩ := d.clearRun_spec
  have hend : d.endCal drop = (if drop then d.clearRun.event 0x60008 5 else (d.clearRun.event 0x60008 5).againWith (restOf r)).handBack r := by
    unfold endCal
    rw [hr]
    rfl
  rw [hend]
  generalize hf : (if drop then d.clearRun.event 0x60008 5 else (d.clearRun.event 0x60008 5).againWith (restOf r)) = f
  have hback := HandOnly.handBack r f
  have hevent : (d.clearRun.event 0x60008 5).tunePart = (({ d.cal with run := none }, 0), d.chan, d.execs) := (eq_of_plant tunePart (event_plant ..)).trans hpart
  have hfpart : f.tunePart = (({ d.cal with run := none, again := (if drop then [] else restOf r) ++ d.cal.again }, 0), d.chan, d.execs) := by
    rw [← hf]
    cases drop with
    | true => exact hevent
    | false =>
      have hcal : (d.clearRun.event 0x60008 5).cal = { d.cal with run := none } := congrArg (fun y => y.1.1) hevent
      have hrest : ((d.clearRun.event 0x60008 5).calP, (d.clearRun.event 0x60008 5).chan, (d.clearRun.event 0x60008 5).execs) = (0, d.chan, d.execs) :=
        congrArg (fun y => (y.1.2, y.2)) hevent
      generalize d.clearRun.event 0x60008 5 = g at hcal hrest ⊢
      have hagain : (g.againWith (restOf r)).tunePart = (({ g.cal with again := restOf r ++ g.cal.again }, g.calP), g.chan, g.execs) := rfl
      refine hagain.trans ?_
      rw [hcal]
      exact congrArg (fun y : Nat × Tab Chan × List Exec => (({ d.cal with run := none, again := restOf r ++ d.cal.again }, y.1), y.2)) hrest
  have hfrd (a : Nat) : f.rd a = (d.clearRun.event 0x60008 5).rd a := by
    rw [← hf]
    cases drop <;> rfl
  have htpart := hback.part.trans hfpart
  have hflag {a : Nat} (ha : ¬ handRegs a) (hr : reportReg a = false) (i : Nat) : (f.handBack r).flag a i = (d.clearRun.event 0x60008 5).flag a i :=
    flag_eq_of_rd_eq ((hback.regs a ha hr).trans (hfrd a)) i
  generalize f.handBack r = t at htpart hflag hback ⊢
  obtain ⟨hcal, hrest⟩ := Prod.mk.inj htpart
  obtain ⟨hcal, hcalP⟩ := Prod.mk.inj hcal
  obtain ⟨hchan, hexecs⟩ := Prod.mk.inj hrest
  refine ⟨hcal, hcalP, hchan, hexecs, ?_, ?_, fun a ha hr => ?_⟩
  · rw [hflag (by unfold handRegs; decide) (by decide), flag_eq_of_rd_eq (event_rd _ _ _ _ (by decide) (by decide))]
    exact hbusy
  · rw [hflag (by unfold handRegs; decide) (by decide)]
    exact event_flag _ _ _ (by decide) (by decide)
  · rw [hback.regs a (fun h => ha (.inr (.inr (.inr h)))) hr, hfrd, event_keepsRegs _ _ _ a (fun h => ha (.inl h)) hr, hregs a (fun h => ha (.inr h)) hr]

/-! A run that begins (R305, R315 to R317, R321, R322). -/

/-- The Tuning engine's work beside its run, and the executions. -/
def restPart (d : Device) : Cal × Tab Chan × List Exec := ({ d.cal with run := none }, d.chan, d.execs)

/-- Registers that a step writes as it begins. -/
def stepNoted (a : Nat) : Prop := a = 0x60020 ∨ handRegs a

/-- A step that begins: nothing of the Tuning engine but its run, of channels or executions. -/
abbrev BeginOnly (d e : Device) : Prop := Keeps stepNoted restPart d e

theorem restPart_of_tune {d e : Device} (h : e.tunePart = d.tunePart) : e.restPart = d.restPart := by
  obtain ⟨hcal, hrest⟩ := Prod.mk.inj h
  obtain ⟨hcal, -⟩ := Prod.mk.inj hcal
  exact Prod.ext (congrArg (fun c : Cal => ({ c with run := none } : Cal)) hcal) hrest

theorem BeginOnly.ofHand {d e : Device} (h : HandOnly d e) : BeginOnly d e := ⟨h.regs.mono fun _ => .inr, restPart_of_tune h.part⟩

theorem HandOnly.cal {d e : Device} (h : HandOnly d e) : e.cal = d.cal := congrArg (fun y => y.1.1) h.part

theorem noteCur_keeps (d : Device) (r : CalRun) : Keeps (· = 0x60020) tunePart d (d.noteCur r) :=
  .ite (.wr (own := (· = 0x60020)) tunePart_plant rfl ..) (.wr (own := (· = 0x60020)) tunePart_plant rfl ..)

/-- The tap of pin and bus claimed and closed (R100). -/
def tapTaken (d : Device) (r : CalRun) (p : Nat) : Device :=
  let d := (d.setOwner (resTaps r.req.target) .tuning).setCal { d.cal with run := some r }
  let d := d.setMx { d.mx with closed := closeIn d.mx.closed ⟨r.req.target, p, false⟩ }
  match d.logicalOf p with
  | some b => d.setOwner (resBus b) .tuning
  | none => d

/-- The next step of run `r` begins when it can. -/
def begun (d : Device) (r : CalRun) : Device :=
  let i := r.left.headD 0
  if r.req.op ≤ 2 then
    if d.calFits i then
      let r := { r with start := some d.edge }
      ({ d with calP := calPred i }.setCal { d.cal with run := some r }).noteCur r
    else { d with calP := 0 }
  else if r.req.op = 3 then
    match r.left.find? fun p => d.tapFree r.req.target p with
    | none => d
    | some p =>
      let r := { r with left := p :: r.left.erase p, start := some d.edge }
      (d.tapTaken r p).noteCur r
  else
    let r := { r with start := some d.edge }
    ((d.setOwner (resRmu r.req.target) .tuning).setCal { d.cal with run := some r }).noteCur r

theorem beginStep_eq {d : Device} {r : CalRun} (hr : d.cal.run = some r) (refOk : Bool) :
    d.beginStep refOk = if refOk then (d.fsetB 0x60004 5 false).begun r else d.noRef := by
  unfold beginStep
  rw [hr]
  dsimp only
  cases refOk with
  | false => rw [if_pos (by decide), if_neg (by decide)]
  | true =>
    rw [if_neg (by decide), if_pos rfl]
    generalize d.fsetB 0x60004 5 false = e
    unfold begun
    rfl

/-- A run of the same request on the same slice. -/
def SameRun (r : CalRun) (x : Option CalRun) : Prop := ∃ y, x = some y ∧ y.req = r.req ∧ y.via = r.via

theorem setRun_rest (d : Device) (c : Cal) (x : Option CalRun) (h : d.cal = c) : BeginOnly d (d.setCal { c with run := x }) := by
  subst h
  exact .of_rd (fun _ => rfl) rfl

theorem tapTaken_spec (d : Device) (r : CalRun) (p : Nat) : (d.tapTaken r p).cal.run = some r ∧ BeginOnly d (d.tapTaken r p) := by
  unfold tapTaken
  dsimp only
  have hset : BeginOnly d ((d.setOwner (resTaps r.req.target) .tuning).setCal { d.cal with run := some r }) :=
    (BeginOnly.ofHand (.setOwner ..)).trans (setRun_rest _ _ _ rfl)
  have hrun : ((d.setOwner (resTaps r.req.target) .tuning).setCal { d.cal with run := some r }).cal.run = some r := rfl
  generalize (d.setOwner (resTaps r.req.target) .tuning).setCal { d.cal with run := some r } = e at hset hrun ⊢
  have hhand (f : Device) (hf : HandOnly e f) : f.cal.run = some r ∧ BeginOnly d f := ⟨hf.cal ▸ hrun, hset.trans (BeginOnly.ofHand hf)⟩
  have hclosed (m : Matrix) : HandOnly e (e.setMx m) := .setMx ..
  split
  · exact hhand _ ((hclosed _).trans (HandOnly.setOwner ..))
  · exact hhand _ (hclosed _)

theorem begun_spec {d : Device} {r : CalRun} (hr : d.cal.run = some r) : SameRun r (d.begun r).cal.run ∧ BeginOnly d (d.begun r) := by
  have hnote {e : Device} {y : CalRun} (hreq : y.req = r.req) (hvia : y.via = r.via) (hrun : e.cal.run = some y) (h : BeginOnly d e) :
      SameRun r (e.noteCur y).cal.run ∧ BeginOnly d (e.noteCur y) := by
    have hk := noteCur_keeps e y
    have hcal : (e.noteCur y).cal = e.cal := congrArg (fun z => z.1.1) hk.part
    exact ⟨⟨y, hcal ▸ hrun, hreq, hvia⟩, h.trans ⟨hk.regs.mono fun _ => .inl, restPart_of_tune hk.part⟩⟩
  unfold begun
  dsimp only
  split
  · split
    · exact hnote rfl rfl rfl (.of_rd (fun _ => rfl) rfl)
    · exact ⟨⟨r, hr, rfl, rfl⟩, .of_rd (fun _ => rfl) rfl⟩
  · split
    · split
      · exact ⟨⟨r, hr, rfl, rfl⟩, .refl ..⟩
      · obtain ⟨hrun, htap⟩ := tapTaken_spec d _ _
        exact hnote rfl rfl hrun htap
    · exact hnote rfl rfl rfl ((BeginOnly.ofHand (.setOwner ..)).trans (setRun_rest _ _ _ rfl))

/-- Request `q` off its list, and a run of it in progress. -/
def runTaken (d : Device) (q : CalReq) (v : CalVia) : Device :=
  ((d.dropReq q).setCal { (d.dropReq q).cal with run := some ⟨q, rangesOf q, v, none, false⟩ }).fsetB 0x60004 4 true

/-- The predicted dissipation of the range in progress (R317). -/
def withPred (d : Device) (mw : Nat) : Device := { d with calP := mw }

theorem takeReq_eq (d : Device) (q : CalReq) (v : CalVia) : d.takeReq q v =
    if v = .spare then
      ((((d.runTaken q v).withPred (calPred ((rangesOf q).headD 0))).setCrs (q.target / 33)
        { d.runTaken q v |>.crs (q.target / 33) with spareFor := some (32 * (q.target / 33) + q.target % 33) }).beginHand (q.target / 33)
        ⟨32 * (q.target / 33) + q.target % 33, 32, .cal, 0, none, false, false⟩).noteCur ⟨q, rangesOf q, v, none, false⟩
    else (d.runTaken q v).beginStep true := by
  unfold takeReq runTaken withPred
  cases v with
  | spare => rw [if_pos rfl]
  | spareFree => rw [if_neg (by decide)]
  | gap _ => rw [if_neg (by simp)]
  | none => rw [if_neg (by decide)]

/-- Channels and executions. -/
def analogPart (d : Device) : Tab Chan × List Exec := (d.chan, d.execs)

theorem analog_of_rest {d e : Device} (h : e.restPart = d.restPart) : e.analogPart = d.analogPart := (Prod.mk.inj h).2

theorem dropReq_analog (d : Device) (q : CalReq) : (d.dropReq q).analogPart = d.analogPart := by
  unfold dropReq
  dsimp only
  split
  · rfl
  · split
    · have hset (c : Cal) (lo n x : Nat) : ((d.setCal c).fset 0x60004 lo n x).analogPart = (d.setCal c).analogPart := eq_of_plant analogPart (fset_plant ..)
      exact hset ..
    · split
      · rfl
      · rfl

theorem runTaken_spec (d : Device) (q : CalReq) (v : CalVia) : (d.runTaken q v).cal.run = some ⟨q, rangesOf q, v, none, false⟩ ∧
    (d.runTaken q v).flag 0x60004 4 = true ∧ (d.runTaken q v).analogPart = d.analogPart := by
  have hdrop := dropReq_analog d q
  unfold runTaken
  generalize d.dropReq q = e at hdrop ⊢
  refine ⟨?_, flag_fsetB_same _ _ (by decide), (eq_of_plant analogPart (fsetB_plant ..)).trans hdrop⟩
  exact eq_of_plant (fun x => x.cal.run) (fsetB_plant ..)

/-- A run of request `q` is in progress; no channel and no execution changed. -/
structure RunBegins (d t : Device) (q : CalReq) (v : CalVia) : Prop where
  run : ∃ r, t.cal.run = some r ∧ r.req = q ∧ r.via = v
  busy : t.flag 0x60004 4 = true
  chan : t.chan = d.chan
  execs : t.execs = d.execs

theorem runBegins_of_keeps {d e t : Device} {q : CalReq} {v : CalVia} (hrun : ∃ r, t.cal.run = some r ∧ r.req = q ∧ r.via = v)
    (hbusy : e.flag 0x60004 4 = true) (hanalog : e.analogPart = d.analogPart) (hk : keepsRegs stepNoted e t) (hpart : t.analogPart = e.analogPart) :
    RunBegins d t q v := by
  obtain ⟨hchan, hexecs⟩ := Prod.mk.inj (hpart.trans hanalog)
  exact ⟨hrun, (flag_eq_of_rd_eq (hk _ (by unfold stepNoted handRegs; decide) (by decide)) 4).trans hbusy, hchan, hexecs⟩

theorem takeReq_begins (d : Device) (q : CalReq) (v : CalVia) : RunBegins d (d.takeReq q v) q v := by
  obtain ⟨hrun, hbusy, hanalog⟩ := runTaken_spec d q v
  rw [takeReq_eq]
  generalize d.runTaken q v = e at hrun hbusy hanalog ⊢
  split
  · have hset (p c : Nat) (x : Course) (h : Handover) (y : CalRun) : BeginOnly e ((((e.withPred p).setCrs c x).beginHand c h).noteCur y) := by
      have hcrs : BeginOnly e ((e.withPred p).setCrs c x) := .of_rd (fun _ => rfl) rfl
      have hcur := noteCur_keeps (((e.withPred p).setCrs c x).beginHand c h) y
      exact hcrs.trans ((BeginOnly.ofHand (.beginHand ..)).trans ⟨hcur.regs.mono fun _ => .inl, restPart_of_tune hcur.part⟩)
    have hcal (p c : Nat) (x : Course) (h : Handover) (y : CalRun) : ((((e.withPred p).setCrs c x).beginHand c h).noteCur y).cal = e.cal := by
      have hcur := noteCur_keeps (((e.withPred p).setCrs c x).beginHand c h) y
      exact (congrArg (fun z => z.1.1) hcur.part).trans (HandOnly.beginHand c h ((e.withPred p).setCrs c x)).cal
    refine runBegins_of_keeps ⟨_, (congrArg Cal.run (hcal ..)).trans hrun, rfl, rfl⟩ hbusy hanalog (hset ..).regs (analog_of_rest (hset ..).part)
  · rw [beginStep_eq hrun, if_pos rfl]
    have hrun' : (e.fsetB 0x60004 5 false).cal.run = some ⟨q, rangesOf q, v, none, false⟩ := (eq_of_plant (fun x => x.cal.run) (fsetB_plant ..)).trans hrun
    have hbusy' : (e.fsetB 0x60004 5 false).flag 0x60004 4 = true := (flag_fsetB_other _ _ (by decide) (by decide)).trans hbusy
    have hanalog' : (e.fsetB 0x60004 5 false).analogPart = d.analogPart := (eq_of_plant analogPart (fsetB_plant ..)).trans hanalog
    obtain ⟨hsame, hbegun⟩ := begun_spec hrun'
    exact runBegins_of_keeps hsame hbusy' hanalog' hbegun.regs (analog_of_rest hbegun.part)

theorem noRef_spec (d : Device) : d.noRef.plant = d.plant ∧ d.noRef.flag 0x60004 5 = true ∧ d.noRef.flag 0x60008 8 = true ∧
    keepsRegs (fun a => a = 0x60004 ∨ a = 0x60008) d d.noRef := by
  have hrd {a : Nat} (hr : reportReg a = false) : d.noRef.rd a = ((d.fsetB 0x60004 5 true).event 0x60008 8).rd a := notice_rd _ _ _ _ _ _ hr
  refine ⟨?_, ?_, ?_, fun a ha hr => ?_⟩
  · unfold noRef
    rw [notice_plant, event_plant, fsetB_plant]
  · rw [flag_eq_of_rd_eq (hrd (by decide)), flag_eq_of_rd_eq (event_rd _ _ _ _ (by decide) (by decide))]
    exact flag_fsetB_same _ _ (by decide)
  · rw [flag_eq_of_rd_eq (hrd (by decide))]
    exact event_flag _ _ _ (by decide) (by decide)
  · rw [hrd hr, event_keepsRegs _ _ _ a (fun h => ha (.inr h)) hr, fsetB_keepsRegs _ _ _ _ a (fun h => ha (.inl h)) hr]

/-- The requests that the Tuning engine may take, in the order of R318. -/
def calQueue (d : Device) : List CalReq := d.cal.boot ++ d.cal.reqs ++ (if d.flag 0x60000 1 then d.cal.auto else []) ++ d.cal.again

theorem calStart_picks {d : Device} {q : CalReq} {v : CalVia} (hen : d.flag 0x60000 0 = true) (hcapo : d.capo = 0) (hrun : d.cal.run = none)
    (hpick : d.pickCal d.calQueue = some (q, v)) (refOk : Bool) :
    d.calStart refOk = if refOk then (d.fsetB 0x60004 5 false).takeReq q v else d.noRef := by
  unfold calStart
  rw [if_neg (by rw [hen, hcapo]; decide), hrun]
  dsimp only
  rw [show d.cal.boot ++ d.cal.reqs ++ (if d.flag 0x60000 1 then d.cal.auto else []) ++ d.cal.again = d.calQueue from rfl, hpick]

/-! Requests (R318, R331). -/

/-- The clamps of a write of CAL_CMD reported. -/
def calReported (d : Device) (p : Party) (raw : Word) : Device := d.reportHits (srcOf p) 0x60014 0x60014 0 0xFFFF (d.cook 0x60014 raw).2

/-- The request of operation `op` that the fields of CAL_CMD name. -/
def calAsked (d : Device) (v : Word) (op : Nat) : CalReq :=
  let n := bitsOf v 0 10
  let k := if bitOf v 10 ∨ d.flag (aCH n 0x38) 14 then 32 else n % 32
  ⟨op, if op ≤ 2 then 33 * (n / 32) + k else if op = 3 then n else n % 4, if op = 1 ∨ op = 2 then bitsOf v 12 3 else 0⟩

/-- Request `q` behind those that wait. -/
def calQueued (d : Device) (q : CalReq) : Device := (d.setCal { d.cal with reqs := d.cal.reqs ++ [q] }).fset 0x60004 8 7 (d.cal.reqs.length + 1)

theorem calCmd_eq (d : Device) (p : Party) (raw : Word) : d.calCmd p raw =
    if !bitOf raw 31 then d.calReported p raw
    else if 64 ≤ (d.calReported p raw).cal.reqs.length then (d.calReported p raw).refuse 0x60014
    else (d.calReported p raw).calQueued ((d.calReported p raw).calAsked (d.cook 0x60014 raw).1 (bitsOf (d.cook 0x60014 raw).1 16 3)) := rfl

theorem eventReg_calCmd (b : Nat) : EventReg 0x60014 b ↔ b = 0x60008 := eventReg_of_blockEvents (c := 0) (r := 1) (by rfl) (by decide)
theorem eventReg_calCtl (b : Nat) : EventReg 0x60000 b ↔ b = 0x60008 := eventReg_of_blockEvents (c := 0) (r := 1) (by rfl) (by decide)

section
variable (d : Device) (p : Party) (raw : Word)

theorem calReported_plant : (d.calReported p raw).plant = d.plant := reportHits_plant ..

theorem calReported_keepsRegs : keepsRegs (fun a => a = 0x60008) d (d.calReported p raw) :=
  fun a ha hr => reportHits_rd _ _ _ _ _ _ _ _ (fun h => ha ((eventReg_calCmd a).mp h)) hr

theorem calReported_cal : (d.calReported p raw).cal = d.cal := eq_of_plant Device.cal (calReported_plant ..)

theorem calReported_asked (v : Word) (op : Nat) : (d.calReported p raw).calAsked v op = d.calAsked v op := by
  have hflag (n i : Nat) : (d.calReported p raw).flag (aCH n 0x38) i = d.flag (aCH n 0x38) i :=
    flag_eq_of_rd_eq (calReported_keepsRegs d p raw _ (by unfold aCH; omega) (reportReg_of_ge (by unfold aCH; omega))) i
  unfold calAsked
  simp only [hflag]

end

/-- OP as written, where it names a request. -/
theorem cook_calOp (d : Device) (raw : Word) (h : bitsOf raw 16 3 ≤ 6) : bitsOf (d.cook 0x60014 raw).1 16 3 = bitsOf raw 16 3 := by
  have hop := bitsOf_cook (d := d) (a := 0x60014) raw (f := ⟨"OP", 16, 3, .wo, some 0, .rng 0 6⟩) (by decide) (by decide) (.inr (.inr rfl)) (fun _ => rfl) (fun _ => rfl)
  refine hop.trans ?_
  rw [show (Lim.rng 0 6).clamp 3 (bitsOf raw 16 3) = clampNat 0 6 (bitsOf raw 16 3) from rfl]
  rw [clampNat, if_neg (by omega), if_neg (by omega), Nat.mod_eq_of_lt (bitsOf_lt ..)]

/-! The queue as it fills (R318). -/

/-- With the requests `qs` waiting. -/
def withReqs (d : Device) (qs : List CalReq) : Device := d.setCal { d.cal with reqs := qs }

theorem calQueued_eq (d : Device) (q : CalReq) : d.calQueued q = (d.withReqs (d.cal.reqs ++ [q])).fset 0x60004 8 7 (d.cal.reqs.length + 1) := rfl

theorem withCal_plant {d e : Device} {c : Cal} (h : e.plant = (d.setCal c).plant) : { e.plant with cal := d.cal } = d.plant := by
  rw [h, setCal_plant]
  rfl

theorem calQueued_spec {d e : Device} (hplant : e.plant = d.plant) (q : CalReq) (hroom : d.cal.reqs.length < 64) :
    (e.calQueued q).cal = { d.cal with reqs := d.cal.reqs ++ [q] } ∧ (e.calQueued q).fget 0x60004 8 7 = d.cal.reqs.length + 1 ∧
    { (e.calQueued q).plant with cal := d.cal } = d.plant ∧ keepsRegs (fun a => a = 0x60004) e (e.calQueued q) := by
  have hcal : e.cal = d.cal := eq_of_plant Device.cal hplant
  have hqueued : (e.calQueued q).plant = (d.withReqs (d.cal.reqs ++ [q])).plant := by
    rw [calQueued_eq, fset_plant, withReqs, withReqs, setCal_plant, setCal_plant, hplant, hcal]
  refine ⟨eq_of_plant Device.cal hqueued, ?_, withCal_plant hqueued, fset_keepsRegs _ _ _ _ _⟩
  rw [calQueued_eq, fget_fset_same _ _ _ (by decide), hcal, Nat.mod_eq_of_lt (by omega)]

theorem refuse_calCmd (d : Device) : (d.refuse 0x60014).flag 0x60008 1 = true ∧ keepsRegs (fun a => a = 0x60008) d (d.refuse 0x60014) :=
  ⟨(flag_eq_of_rd_eq (noticeRefused_rd _ _ _ (by decide)) 1).trans (event_flag _ _ _ (by decide) (by decide)),
    fun a ha hr => refuse_rd _ _ _ (fun h => ha ((eventReg_calCmd a).mp h)) hr⟩

theorem mem_insertDue (key : CalReq → Nat × Nat) (q x : CalReq) (l : List CalReq) : x ∈ insertDue key q l ↔ x = q ∨ x ∈ l := by
  induction l with
  | nil => simp [insertDue]
  | cons y r ih =>
    unfold insertDue
    dsimp only
    split
    · exact List.mem_cons
    · rw [List.mem_cons, ih, List.mem_cons]
      exact or_left_comm

theorem autoDue_of_due {d : Device} {s r : Nat} (hauto : d.flag 0x60000 1 = true) (hdue : d.calDue s r = true) (hnew : d.cal.auto.contains ⟨1, s, r⟩ = false)
    (hrun : d.cal.run = none) :
    d.autoDue s r = d.setCal { d.cal with auto := insertDue (fun x => (d.lastCommit x.target x.range, x.target * 8 + x.range)) ⟨1, s, r⟩ d.cal.auto } := by
  refine if_neg ?_
  rw [hauto, hdue, hnew, hrun]
  rintro (h | h | h | ⟨-, h⟩)
  · exact absurd h (by decide)
  · exact absurd h (by decide)
  · exact absurd h (by decide)
  · exact absurd h (by simp)

theorem disturbedAgain_of_find {d : Device} {s r : Nat} {p : CalReq × Nat}
    (h : (d.cal.dist.find? fun p => p.1.target == s && p.1.range == r && decide (p.1.op ≤ 2) && decide (p.2 ≤ d.edge)) = some p) :
    d.disturbedAgain s r = d.setCal { d.cal with dist := d.cal.dist.erase p, again := d.cal.again ++ [p.1] } := by
  unfold disturbedAgain
  rw [h]

/-! CAL_CMD with ABORT, and CAL_CTL (R319). -/

theorem calAbort_eq (d : Device) (p : Party) (raw : Word) : d.calAbort p raw =
    if bitOf raw 31 then (d.calReported p raw).endCal true else d.calReported p raw := rfl

theorem putCooked_calCtl (d : Device) (p : Party) (raw : Word) : (d.putCooked p 0x60000 raw).flag 0x60000 0 = bitOf raw 0 ∧
    (d.putCooked p 0x60000 raw).plant = d.plant ∧ keepsRegs (fun a => a = 0x60000 ∨ a = 0x60008) d (d.putCooked p 0x60000 raw) := by
  refine ⟨?_, putCooked_plant .., (putCooked_keepsRegs _ _ _ _).mono fun b hb => hb.imp_right (eventReg_calCtl b).mp⟩
  have hen := bitsOf_cook (d := d) (a := 0x60000) raw (f := ⟨"EN", 0, 1, .rw, none, .any⟩) (by decide) (by decide) (.inl rfl) (fun _ => rfl) (fun _ => rfl)
  rw [flag, fget, putCooked_rd_same _ _ _ _ (fun h => absurd ((eventReg_calCtl _).mp h) (by decide)) (by decide),
    storeWord_of_readable _ (by decide) (by decide)]
  exact congrArg (fun x => decide (x = 1)) (hen.trans (Nat.mod_eq_of_lt (bitsOf_lt ..)))

end Device

/-- The commands that write CAL_CMD with OP as given, for a request. -/
theorem calCommand {w : Wr} {op : Nat} {c : Instr}
    (h : (op, c) ∈ [(0, Instr.calCmdFull w), (1, .calCmdRange w), (2, .calCmdQuick w), (3, .calCmdTaps w), (4, .calCmdRmu w)]) (s : State) :
    op ≤ 4 ∧ exec c s = .next (s.onDev fun d => d.write w 0x60014 fun d => d.calCmd w.by_ (setBits w.data 16 3 op)) := by
  simp only [List.mem_cons, Prod.mk.injEq, List.not_mem_nil, or_false] at h
  rcases h with ⟨rfl, rfl⟩ | ⟨rfl, rfl⟩ | ⟨rfl, rfl⟩ | ⟨rfl, rfl⟩ | ⟨rfl, rfl⟩
  · exact ⟨by decide, rfl⟩
  · exact ⟨by decide, rfl⟩
  · exact ⟨by decide, rfl⟩
  · exact ⟨by decide, rfl⟩
  · exact ⟨by decide, rfl⟩

/-- Settles O45: requests queue, a due range joins them, and runs begin and end. -/
theorem calibrationRuns : Obligations.CalibrationRuns := by
  unfold Obligations.CalibrationRuns
  refine ⟨fun w s op c hmem hadm hgo => ?_, fun i r s hauto hdue hnew hrun => ?_, fun q v s hen hcapo hrun hpick vref => ⟨fun hgood => ?_, fun hbad => ?_⟩,
    fun w r s hrun => ⟨fun hadm hgo => ?_, fun hadm hen => ?_, fun hadm hen => ?_⟩, fun i r p s hfind => ?_⟩
  · obtain ⟨hop, he⟩ := calCommand hmem s
    have h31 : bitOf (setBits w.data 16 3 op) 31 = true := (congrArg (· == 1) (bitsOf_setBits_disjoint w.data op (by decide) (by decide))).trans hgo
    have hcode : bitsOf (s.dev.cook 0x60014 (setBits w.data 16 3 op)).1 16 3 = op := by
      have hraw : bitsOf (setBits w.data 16 3 op) 16 3 = op := (bitsOf_setBits_same _ _ (by decide)).trans (Nat.mod_eq_of_lt (by omega))
      rw [Device.cook_calOp _ _ (by omega), hraw]
    have hplant := s.dev.calReported_plant w.by_ (setBits w.data 16 3 op)
    have hregs := s.dev.calReported_keepsRegs w.by_ (setBits w.data 16 3 op)
    have hcal := s.dev.calReported_cal w.by_ (setBits w.data 16 3 op)
    refine ⟨fun hroom => ?_, fun hfull => ?_⟩
    · refine givesDev_write_as he hadm ?_
      rintro _ rfl
      rw [Device.calCmd_eq, Device.calReported_asked, hcode, h31, if_neg (by decide), hcal, if_neg (by omega)]
      obtain ⟨hreqs, hcount, hrest, hq⟩ := Device.calQueued_spec hplant (s.dev.calAsked (s.dev.cook 0x60014 (setBits w.data 16 3 op)).1 op) hroom
      exact ⟨hreqs, hcount, hrest, (hregs.mono fun _ => .inr).trans (hq.mono fun _ => .inl)⟩
    · refine givesDev_write_as he hadm ?_
      rintro _ rfl
      rw [Device.calCmd_eq, h31, if_neg (by decide), hcal, if_pos hfull]
      obtain ⟨hrefused, hq⟩ := Device.refuse_calCmd (s.dev.calReported w.by_ (setBits w.data 16 3 op))
      exact ⟨(Device.refuse_plant ..).trans hplant, hrefused, hregs.trans hq⟩
  · refine ⟨s.onDev fun d => d.autoDue i r, rfl, rfl, rfl, ?_⟩
    rw [State.onDev_dev, Device.autoDue_of_due hauto hdue hnew hrun]
    exact ⟨fun q => Device.mem_insertDue .., rfl⟩
  · refine givesDev_onDev_as rfl ?_
    rintro _ rfl
    rw [Device.calStart_picks (d := s.dev.ripenRmu) hen hcapo hrun hpick, hgood, if_pos rfl]
    have hbegins := Device.takeReq_begins (s.dev.ripenRmu.fsetB 0x60004 5 false) q v
    exact ⟨hbegins.run, hbegins.busy, hbegins.chan, hbegins.execs⟩
  · refine givesDev_onDev_as rfl ?_
    rintro _ rfl
    rw [Device.calStart_picks (d := s.dev.ripenRmu) hen hcapo hrun hpick, hbad, if_neg (by decide)]
    obtain ⟨hplant, hstatus, hevent, hregs⟩ := s.dev.ripenRmu.noRef_spec
    exact ⟨hplant, hstatus, hevent, hregs⟩
  · refine givesDev_write_as rfl hadm ?_
    rintro _ rfl
    have h31 : bitOf (setBits w.data 17 2 3) 31 = true := (congrArg (· == 1) (bitsOf_setBits_disjoint w.data 3 (by decide) (by decide))).trans hgo
    have hplant := s.dev.calReported_plant w.by_ (setBits w.data 17 2 3)
    rw [Device.calAbort_eq, if_pos h31]
    have hend := Device.endCal_spec (d := s.dev.calReported w.by_ (setBits w.data 17 2 3)) (r := r) ((congrArg Cal.run (Device.calReported_cal ..)).trans hrun) true
    have hcal : (s.dev.calReported w.by_ (setBits w.data 17 2 3)).cal = s.dev.cal := Device.calReported_cal ..
    have hexecs : (s.dev.calReported w.by_ (setBits w.data 17 2 3)).execs = s.dev.execs := Device.eq_of_plant Device.execs hplant
    generalize s.dev.calReported w.by_ (setBits w.data 17 2 3) = e at hend hcal hexecs ⊢
    refine ⟨hend.cal.trans ?_, hend.calP, hend.busy, hend.ended, hend.execs.trans hexecs⟩
    rw [hcal]
    rfl
  · refine givesDev_write_as rfl hadm ?_
    rintro _ rfl
    obtain ⟨hflag, hplant, -⟩ := s.dev.putCooked_calCtl w.by_ w.data
    rw [Device.calControl, if_neg (by rw [hflag, hen]; decide)]
    generalize s.dev.putCooked w.by_ 0x60000 w.data = e at hflag hplant ⊢
    have hcal : e.cal = s.dev.cal := Device.eq_of_plant Device.cal hplant
    have hend := Device.endCal_spec (d := e) (r := r) ((congrArg Cal.run hcal).trans hrun) false
    refine ⟨?_, hend.cal.trans ?_, hend.busy, hend.execs.trans (Device.eq_of_plant Device.execs hplant)⟩
    · exact (Device.flag_eq_of_rd_eq (hend.regs _ (by unfold Device.endRegs Device.tuneRegs Device.handRegs; decide) (by decide)) 0).trans (hflag.trans hen)
    · rw [hcal]
      rfl
  · refine givesDev_write_as rfl hadm ?_
    rintro _ rfl
    obtain ⟨hflag, hplant, hregs⟩ := s.dev.putCooked_calCtl w.by_ w.data
    rw [Device.calControl, if_pos (hflag.trans hen)]
    exact ⟨hflag.trans hen, hplant, hregs⟩
  · refine ⟨s.onDev fun d => d.disturbedAgain i r, rfl, rfl, rfl, ?_⟩
    rw [State.onDev_dev, Device.disturbedAgain_of_find hfind]
    rfl

end Sys2Proof.Machine
end

section
/-!
PROOF. O46, first part: ranges, taps and meter ranges end, and the next step of the run begins or the run ends (R309 to R316, R319 to R322).
-/

namespace Sys2Proof.Machine

-- One proof after another: the stacks of the threads that elaborate many at once exceed the memory of a check.
set_option Elab.async false

namespace Device

/-! The next step (R309, R315). -/

/-- The values of the Tuning engine: those of ranges, taps and meters, and what waits after a disturbance. -/
def valuesOf (c : Cal) : (Tab Int × Tab (Option Int) × Tab (List CalMark)) × Tab Nat × (Tab Nat × Tab (Int × Int) × List Nat) × List (CalReq × Nat) :=
  ((c.user, c.tcal, c.marks), c.taps, (c.rmuQ, c.rmuVals, c.rmuUncal), c.dist)

/-- Values and executions. -/
def valPart (d : Device) := (valuesOf d.cal, d.execs)

/-- An operation that leaves values and executions alone. -/
abbrev ValOnly (own : Nat → Prop) (d e : Device) : Prop := Keeps own valPart d e

theorem valPart_plant (x : Device) : valPart x.plant = valPart x := rfl

theorem val_of_rest {d e : Device} (h : e.restPart = d.restPart) : e.valPart = d.valPart := by
  have hpair := congrArg (fun x : Cal × Tab Chan × List Exec => (valuesOf x.1, x.2.2)) h
  exact hpair

theorem ValOnly.ofRest {own : Nat → Prop} {d e : Device} (h : Keeps own restPart d e) : ValOnly own d e := ⟨h.regs, val_of_rest h.part⟩

/-- Values, executions and every event but NOREF are as before. -/
structure NextOnly (d e : Device) : Prop where
  keeps : ValOnly endRegs d e
  events : ∀ j, j ≠ 8 → e.flag 0x60008 j = d.flag 0x60008 j

theorem NextOnly.trans {d e f : Device} (h : NextOnly d e) (h' : NextOnly e f) : NextOnly d f :=
  ⟨h.keeps.trans h'.keeps, fun j hj => (h'.events j hj).trans (h.events j hj)⟩

theorem NextOnly.ofTune {d e : Device} (h : ValOnly tuneRegs d e) : NextOnly d e :=
  ⟨h.mono fun _ => .inr, fun j _ => flag_eq_of_rd_eq (h.regs _ (by unfold tuneRegs handRegs; decide) (by decide)) j⟩

theorem NextOnly.ofHand {d e : Device} (h : HandOnly d e) : NextOnly d e :=
  .ofTune (.ofRest ⟨h.regs.mono fun _ ha => .inr (.inr ha), restPart_of_tune h.part⟩)

theorem NextOnly.noRef (d : Device) : NextOnly d d.noRef := by
  obtain ⟨hplant, -, -, hregs⟩ := d.noRef_spec
  refine ⟨⟨hregs.mono fun a ha => ?_, eq_of_plant valPart hplant valPart_plant⟩, fun j hj => ?_⟩
  · unfold endRegs tuneRegs
    omega
  · unfold Device.noRef
    rw [flag_eq_of_rd_eq (notice_rd _ _ _ _ _ _ (by decide)), event_flag_other _ (by decide) (Ne.symm hj) (by decide)]
    exact flag_eq_of_rd_eq (rd_fset_other _ _ _ _ (by decide)) j

theorem NextOnly.beginStep (refOk : Bool) (d : Device) : NextOnly d (d.beginStep refOk) := by
  cases hr : d.cal.run with
  | none =>
    have hnone : d.beginStep refOk = d := by
      unfold Device.beginStep
      rw [hr]
    rw [hnone]
    exact ⟨.refl .., fun _ _ => rfl⟩
  | some r =>
    rw [beginStep_eq hr]
    cases refOk with
    | false => rw [if_neg (by decide)]; exact NextOnly.noRef d
    | true =>
      rw [if_pos rfl]
      have hrun : (d.fsetB 0x60004 5 false).cal.run = some r := (eq_of_plant (fun x => x.cal.run) (fsetB_plant ..)).trans hr
      have hbegun := (begun_spec hrun).2
      have hshown : ValOnly tuneRegs d (d.fsetB 0x60004 5 false) := Keeps.fsetB valPart_plant (.inl rfl) ..
      exact .ofTune (hshown.trans (ValOnly.ofRest (hbegun.mono fun _ ha => .inr ha)))

theorem NextOnly.clearRun (d : Device) : NextOnly d d.clearRun := by
  obtain ⟨hpart, -, hregs⟩ := d.clearRun_spec
  refine .ofTune ⟨hregs, ?_⟩
  have h : d.clearRun.valPart = (valuesOf { d.cal with run := none }, d.execs) := congrArg (fun y => (valuesOf y.1.1, y.2.2)) hpart
  exact h

/-- The claims of the step that is over given up. -/
def stepOver (d : Device) : Device := { d with calP := 0 }.freeTuning

theorem NextOnly.stepOver (d : Device) : NextOnly d d.stepOver := by
  have hpred : ValOnly tuneRegs d (d.withPred 0) := .of_rd (fun _ => rfl) rfl
  exact (NextOnly.ofTune hpred).trans (.ofHand (.freeTuning (d.withPred 0)))

theorem nextStep_eq {d : Device} {r : CalRun} (hr : d.cal.run = some r) (refOk : Bool) : d.nextStep refOk =
    (if r.left.tail = [] then d.stepOver.clearRun.handBack r
    else (d.stepOver.setCal { d.stepOver.cal with run := some { r with left := r.left.tail, start := none } }).beginStep refOk) := by
  unfold nextStep
  rw [hr]
  dsimp only
  unfold Device.stepOver
  cases r.left.tail with
  | nil => rw [if_pos rfl]
  | cons x l => rw [if_neg (List.cons_ne_nil x l)]

theorem NextOnly.nextStep (refOk : Bool) (d : Device) : NextOnly d (d.nextStep refOk) := by
  cases hr : d.cal.run with
  | none =>
    have hnone : d.nextStep refOk = d := by
      unfold Device.nextStep
      rw [hr]
    rw [hnone]
    exact ⟨.refl .., fun _ _ => rfl⟩
  | some r =>
    rw [nextStep_eq hr]
    have hover := NextOnly.stepOver d
    generalize d.stepOver = e at hover ⊢
    split
    · exact hover.trans ((NextOnly.clearRun e).trans (.ofHand (.handBack ..)))
    · have hset (x : Option CalRun) : ValOnly tuneRegs e (e.setCal { e.cal with run := x }) := .of_rd (fun _ => rfl) rfl
      exact hover.trans ((NextOnly.ofTune (hset _)).trans (.beginStep ..))

/-- What values and executions show. -/
theorem val_fields {d e : Device} (h : e.valPart = d.valPart) : e.cal.user = d.cal.user ∧ e.cal.tcal = d.cal.tcal ∧ e.cal.marks = d.cal.marks ∧
    e.cal.taps = d.cal.taps ∧ e.cal.rmuQ = d.cal.rmuQ ∧ e.cal.rmuVals = d.cal.rmuVals ∧ e.cal.rmuUncal = d.cal.rmuUncal ∧ e.cal.dist = d.cal.dist ∧
    e.execs = d.execs := by
  obtain ⟨hval, hexecs⟩ := Prod.mk.inj h
  obtain ⟨hrange, hval⟩ := Prod.mk.inj hval
  obtain ⟨huser, hrange⟩ := Prod.mk.inj hrange
  obtain ⟨htcal, hmarks⟩ := Prod.mk.inj hrange
  obtain ⟨htaps, hval⟩ := Prod.mk.inj hval
  obtain ⟨hrmu, hdist⟩ := Prod.mk.inj hval
  obtain ⟨hq, hrmu⟩ := Prod.mk.inj hrmu
  obtain ⟨hvals, huncal⟩ := Prod.mk.inj hrmu
  exact ⟨huser, htcal, hmarks, htaps, hq, hvals, huncal, hdist, hexecs⟩

/-! A range ends (R309 to R314, R320). -/

/-- The register of the marks of slice `s`. -/
theorem aCAL_marks {s : Nat} (hs : s < 1056) : 0x64000 ≤ aCAL s 0x18 ∧ aCAL s 0x18 < 0xA0000 ∧ aCAL s 0x18 % 0x20 = 0x18 := by
  unfold aCAL aCALCH aCALSP
  split <;> omega

theorem reportReg_cal {a : Nat} (h : 0x60000 ≤ a) (h' : a < 0xA0000) : reportReg a = false := by
  refine Bool.eq_false_iff.mpr fun hr => ?_
  simp only [reportReg, List.contains_eq_mem, List.mem_cons, List.not_mem_nil, or_false, decide_eq_true_eq] at hr
  omega

/-- A request waits behind those that were disturbed. -/
def withDist (d : Device) (x : CalReq × Nat) : Device := d.setCal { d.cal with dist := d.cal.dist ++ [x] }

theorem withDist_spec (d : Device) (x : CalReq × Nat) : (d.withDist x).cal.user = d.cal.user ∧ (d.withDist x).cal.dist = d.cal.dist ++ [x] ∧
    (d.withDist x).execs = d.execs ∧ ∀ a, (d.withDist x).rd a = d.rd a := ⟨rfl, rfl, rfl, fun _ => rfl⟩

section
variable (d : Device)

theorem dirty_val : ValOnly (· = 0x60004) d d.dirty := by
  unfold dirty
  split
  · exact .refl ..
  · have hset (e : Device) (x : Option Nat) : ValOnly (· = 0x60004) e (e.setCal { e.cal with dirtySince := x }) := .of_rd (fun _ => rfl) rfl
    have hflag : ValOnly (· = 0x60004) d (d.fsetB 0x60004 3 true) := Keeps.fsetB (own := (· = 0x60004)) valPart_plant rfl 3 true d
    exact hflag.trans (hset ..)

/-- The parts that the limit of class T events reads. -/
def limitPart (d : Device) : Recovery × Nat := (d.rec_, d.edge)

theorem tooMany_congr {d e : Device} (hp : e.limitPart = d.limitPart) (hr : e.rd 0x50000 = d.rd 0x50000) (r : Resource) : e.tooMany r = d.tooMany r := by
  obtain ⟨hrec, hedge⟩ := Prod.mk.inj hp
  unfold tooMany
  rw [hrec, hedge, fget_of_rd hr]

theorem dirty_limit : d.dirty.limitPart = d.limitPart := by
  unfold dirty
  split
  · rfl
  · have hset (e : Device) (c : Cal) : (e.setCal c).limitPart = e.limitPart := rfl
    exact (hset ..).trans (eq_of_plant limitPart (fsetB_plant ..))

variable (s i : Nat) (hs : s < 1056) (hi : i < 8)
include hs

theorem markRegs_kept {e : Device} (hk : ValOnly (fun a => a = 0x60004 ∨ a = 0x60008) d e) (j : Nat) : e.flag (aCAL s 0x18) j = d.flag (aCAL s 0x18) j := by
  obtain ⟨hlow, hhigh, -⟩ := aCAL_marks hs
  exact flag_eq_of_rd_eq (hk.regs _ (by omega) (reportReg_cal (by omega) hhigh)) j

/-- Marks and events stand when the next step begins. -/
theorem nextStep_shows (refOk : Bool) : (d.nextStep refOk).valPart = d.valPart ∧ (∀ j, (d.nextStep refOk).flag (aCAL s 0x18) j = d.flag (aCAL s 0x18) j) ∧
    ∀ j, j ≠ 8 → (d.nextStep refOk).flag 0x60008 j = d.flag 0x60008 j := by
  have hnext := NextOnly.nextStep refOk d
  obtain ⟨hlow, hhigh, hoff⟩ := aCAL_marks hs
  refine ⟨hnext.keeps.part, fun j => flag_eq_of_rd_eq (hnext.keeps.regs _ ?_ (reportReg_cal (by omega) hhigh)) j, hnext.events⟩
  unfold endRegs tuneRegs handRegs
  omega

omit hs
/-- The run has committed a range (R325). -/
def runCommitted : Device := d.setCal { d.cal with run := d.cal.run.map fun x => { x with committed := true } }

theorem runCommitted_val : ValOnly (fun _ => False) d d.runCommitted := .of_rd (fun _ => rfl) rfl

theorem committedRange_eq : d.committedRange s i = ((((d.fsetB (aCAL s 0x18) i false).fsetB (aCAL s 0x18) (8 + i) false).dirty).event 0x60008 2).runCommitted := rfl
include hs hi

theorem committedRange_spec : (d.committedRange s i).valPart = d.valPart ∧ (d.committedRange s i).flag (aCAL s 0x18) i = false ∧
    (d.committedRange s i).flag 0x60008 2 = true := by
  have hmarks : ((d.fsetB (aCAL s 0x18) i false).fsetB (aCAL s 0x18) (8 + i) false).valPart = d.valPart := eq_of_plant valPart ((fsetB_plant ..).trans (fsetB_plant ..)) valPart_plant
  have hflag : ((d.fsetB (aCAL s 0x18) i false).fsetB (aCAL s 0x18) (8 + i) false).flag (aCAL s 0x18) i = false :=
    (flag_fsetB_other _ _ (by omega) (by omega)).trans (flag_fsetB_same _ _ (by omega))
  rw [committedRange_eq]
  generalize (d.fsetB (aCAL s 0x18) i false).fsetB (aCAL s 0x18) (8 + i) false = e at hmarks hflag ⊢
  have hk : ValOnly (fun a => a = 0x60004 ∨ a = 0x60008) e (e.dirty.event 0x60008 2) :=
    ((dirty_val e).mono fun _ => .inl).trans (Keeps.event (own := fun a => a = 0x60004 ∨ a = 0x60008) valPart_plant (.inr rfl) 2 e.dirty)
  have hrun := runCommitted_val (e.dirty.event 0x60008 2)
  refine ⟨(hrun.part.trans hk.part).trans hmarks, ?_, ?_⟩
  · exact (markRegs_kept e s hs (hk.trans (hrun.mono fun _ h => h.elim)) i).trans hflag
  · exact event_flag e.dirty _ _ (by decide) (by decide)

omit hs hi in
theorem noteT_val (r : Resource) : (d.noteT r).valPart = d.valPart := rfl

/-- A failed range within 50 ppm (R312). -/
theorem failedRange_spec {res : Nat} (hres : res ≤ 50) (hfew : d.tooMany (.slice (Fin.ofNat 1056 s)) = false) :
    (d.failedRange s i res).valPart = d.valPart ∧ (d.failedRange s i res).flag (aCAL s 0x18) i = true ∧ (d.failedRange s i res).flag 0x60008 3 = true := by
  obtain ⟨hlow, hhigh, -⟩ := aCAL_marks hs
  have hset : ((d.fsetB (aCAL s 0x18) i true).event 0x60008 3).flag (aCAL s 0x18) i = true :=
    (flag_eq_of_rd_eq (event_rd _ _ _ _ (by omega) (by omega)) i).trans (flag_fsetB_same _ _ (by omega))
  have hevent : ((d.fsetB (aCAL s 0x18) i true).event 0x60008 3).flag 0x60008 3 = true := event_flag _ _ _ (by decide) (by decide)
  have hmarks : (((d.fsetB (aCAL s 0x18) i true).event 0x60008 3).fsetB (aCAL s 0x18) (8 + i) false).flag (aCAL s 0x18) i = true :=
    (flag_fsetB_other _ _ (by omega) (by omega)).trans hset
  have hshown : (((d.fsetB (aCAL s 0x18) i true).event 0x60008 3).fsetB (aCAL s 0x18) (8 + i) false).flag 0x60008 3 = true :=
    (flag_eq_of_rd_eq (rd_fset_other _ _ _ _ (by omega)) 3).trans hevent
  have hplant : (((d.fsetB (aCAL s 0x18) i true).event 0x60008 3).fsetB (aCAL s 0x18) (8 + i) false).plant = d.plant := by
    rw [fsetB_plant, event_plant, fsetB_plant]
  have hcfg : (((d.fsetB (aCAL s 0x18) i true).event 0x60008 3).fsetB (aCAL s 0x18) (8 + i) false).rd 0x50000 = d.rd 0x50000 :=
    (rd_fset_other _ _ _ _ (by omega)).trans ((event_rd _ _ _ _ (by decide) (by decide)).trans (rd_fset_other _ _ _ _ (by omega)))
  unfold failedRange
  dsimp only
  generalize ((d.fsetB (aCAL s 0x18) i true).event 0x60008 3).fsetB (aCAL s 0x18) (8 + i) false = e at hmarks hshown hplant hcfg ⊢
  have hk := dirty_val e
  have hlimit : e.dirty.tooMany (.slice (Fin.ofNat 1056 s)) = d.tooMany (.slice (Fin.ofNat 1056 s)) :=
    tooMany_congr ((dirty_limit e).trans (eq_of_plant limitPart hplant)) ((hk.regs _ (by decide) (by decide)).trans hcfg) _
  rw [if_neg (by rw [hlimit, hfew]; simp [hres])]
  have hfault := faultEntry_plant e.dirty .t 0x01 s 4 0 res none
  have hfaultRd {a : Nat} (hr : reportReg a = false) : (e.dirty.faultEntry .t 0x01 s 4 0 res none).1.rd a = e.dirty.rd a := report_rd _ _ _ _ hr
  generalize (e.dirty.faultEntry .t 0x01 s 4 0 res none).1 = f at hfault hfaultRd ⊢
  have hnoted := noteT_val f (.slice (Fin.ofNat 1056 s))
  refine ⟨?_, ?_, ?_⟩
  · exact hnoted.trans ((eq_of_plant valPart hfault valPart_plant).trans (hk.part.trans (eq_of_plant valPart hplant valPart_plant)))
  · rw [flag_eq_of_rd_eq (noteT_rd f _ _), flag_eq_of_rd_eq (hfaultRd (reportReg_cal (by omega) hhigh)), markRegs_kept e s hs (hk.mono fun _ => .inl) i, hmarks]
  · rw [flag_eq_of_rd_eq (noteT_rd f _ _), flag_eq_of_rd_eq (hfaultRd (by decide)), flag_eq_of_rd_eq (hk.regs _ (by decide) (by decide)), hshown]

omit hs hi in
theorem disturbedRange_eq (q : CalReq) : d.disturbedRange q i =
    (((d.fsetB (aCAL q.target 0x18) (8 + i) true).event 0x60008 4).notice 0x01 q.target 0x34 0).withDist
      (⟨if q.op = 0 then 1 else q.op, q.target, i⟩, (((d.fsetB (aCAL q.target 0x18) (8 + i) true).event 0x60008 4).notice 0x01 q.target 0x34 0).edge + secTs) := rfl

/-- A disturbed range is marked and waits (R313). -/
theorem disturbedRange_spec (q : CalReq) (hq : q.target = s) : (d.disturbedRange q i).cal.user = d.cal.user ∧
    (d.disturbedRange q i).cal.dist = d.cal.dist ++ [(⟨if q.op = 0 then 1 else q.op, q.target, i⟩, d.edge + secTs)] ∧
    (d.disturbedRange q i).execs = d.execs ∧ (d.disturbedRange q i).flag (aCAL s 0x18) (8 + i) = true ∧ (d.disturbedRange q i).flag 0x60008 4 = true := by
  obtain ⟨hlow, hhigh, -⟩ := aCAL_marks hs
  rw [disturbedRange_eq, hq]
  have hset : ((d.fsetB (aCAL s 0x18) (8 + i) true).event 0x60008 4).flag (aCAL s 0x18) (8 + i) = true :=
    (flag_eq_of_rd_eq (event_rd _ _ _ _ (by omega) (by omega)) _).trans (flag_fsetB_same _ _ (by omega))
  have hevent : ((d.fsetB (aCAL s 0x18) (8 + i) true).event 0x60008 4).flag 0x60008 4 = true := event_flag _ _ _ (by decide) (by decide)
  have hplant : ((d.fsetB (aCAL s 0x18) (8 + i) true).event 0x60008 4).plant = d.plant := by rw [event_plant, fsetB_plant]
  generalize (d.fsetB (aCAL s 0x18) (8 + i) true).event 0x60008 4 = e at hset hevent hplant ⊢
  have hnoted : (e.notice 0x01 s 0x34 0).plant = d.plant := (notice_plant ..).trans hplant
  have hrd {a : Nat} (hr : reportReg a = false) : (e.notice 0x01 s 0x34 0).rd a = e.rd a := notice_rd _ _ _ _ _ _ hr
  generalize e.notice 0x01 s 0x34 0 = f at hnoted hrd ⊢
  have hedge : f.edge = d.edge := eq_of_plant Device.edge hnoted
  have hval : f.valPart = d.valPart := eq_of_plant valPart hnoted valPart_plant
  obtain ⟨huser, -, -, -, -, -, -, hdist, hexecs⟩ := val_fields hval
  obtain ⟨hwuser, hwdist, hwexecs, hwrd⟩ := withDist_spec f (⟨if q.op = 0 then 1 else q.op, s, i⟩, f.edge + secTs)
  refine ⟨hwuser.trans huser, ?_, hwexecs.trans hexecs, ?_, ?_⟩
  · rw [hwdist, hdist, hedge]
  · rw [flag_eq_of_rd_eq (hwrd _), flag_eq_of_rd_eq (hrd (reportReg_cal (by omega) hhigh)), hset]
  · rw [flag_eq_of_rd_eq (hwrd _), flag_eq_of_rd_eq (hrd (by decide)), hevent]

end

/-! A commit changes no execution (R311, R314, R320). -/

section
variable (d : Device) (s r : Nat)

theorem setUser_execs (k : Nat) (v : Int) : (d.setUser k v).execs = d.execs := rfl

theorem foldl_execs {α : Type} {g : Device → α → Device} (h : ∀ e x, (g e x).execs = e.execs) (l : List α) : (l.foldl g d).execs = d.execs := by
  induction l generalizing d with
  | nil => rfl
  | cons x l ih => exact (ih (g d x)).trans (h d x)

theorem putFit_execs (path : Nat) (f : Fit) : (d.putFit s r path f).execs = d.execs :=
  (foldl_execs _ (fun e _ => setUser_execs e _ _) _).trans ((setUser_execs ..).trans (setUser_execs ..))

theorem quickCommit_execs {sense force : Fit} {u : Device} (h : d.quickCommit s r sense force = some u) : u.execs = d.execs := by
  unfold quickCommit at h
  split at h
  · exact absurd h (by simp)
  · dsimp only at h
    rw [← Option.some.inj h]
    split
    · rfl
    · rfl

theorem setQual_execs (q : Nat) : (d.setQual s r q).execs = d.execs := eq_of_plant Device.execs (fset_plant ..)

theorem fullCommit_execs {sense force : Fit} {q : Nat} {u : Device} (h : d.fullCommit s r sense force q = some u) : u.execs = d.execs := by
  unfold fullCommit at h
  simp only [Option.ite_none_left_eq_some, Option.some.injEq] at h
  obtain ⟨-, -, rfl⟩ := h
  rw [setQual_execs, setCal_execs, foldl_execs _ (fun _ _ => setCal_execs ..), foldl_execs _ (fun f x => ?_)]
  · split
    · exact (putFit_execs ..).trans (putFit_execs ..)
    · exact putFit_execs ..
  · split
    · rfl
    · rfl

end

/-! Ranges (R309, R316, R319). -/

/-- What a fit becomes, full or quick. -/
def commitOf (d : Device) (op s i : Nat) (sense force : Fit) (q : Nat) : Option Device :=
  if op = 2 then d.quickCommit s i sense force else d.fullCommit s i sense force q

theorem commitOf_execs {d u : Device} {op s i q : Nat} {sense force : Fit} (h : d.commitOf op s i sense force q = some u) : u.execs = d.execs := by
  unfold commitOf at h
  split at h
  · exact quickCommit_execs d s i h
  · exact fullCommit_execs d s i h

theorem rangeEnd_eq {d : Device} {r : CalRun} {b i : Nat} {rest : List Nat} (hr : d.cal.run = some r) (hb : r.start = some b) (hl : r.left = i :: rest)
    (hop : r.req.op ≤ 2) (m : CalMeas) (vref : Int) : d.rangeEnd m vref =
      (if d.gapShort r (b + rangeTicks r.req.op (d.fget 0x6000C 0 7) i m) then d.endCal false
      else if d.edge < b + rangeTicks r.req.op (d.fget 0x6000C 0 7) i m then d
      else d.endRange r.req i (d.judge r.req.op r.req.target i m) (refGood vref)) := by
  unfold rangeEnd
  rw [hr]
  dsimp only
  rw [hb, hl]
  exact if_neg (by omega)

section
variable {d : Device} {q : CalReq} {i : Nat} (hs : q.target < 1056) (hi : i < 8) (refOk : Bool)
include hs hi

/-- A fit that commits takes effect. -/
theorem endRange_commits {u : Device} {sense force : Fit} {quality res : Nat} (hu : d.commitOf q.op q.target i sense force quality = some u) :
    (d.endRange q i (.fitted sense force quality res) refOk).valPart = u.valPart ∧
    (d.endRange q i (.fitted sense force quality res) refOk).flag (aCAL q.target 0x18) i = false ∧
    (d.endRange q i (.fitted sense force quality res) refOk).flag 0x60008 2 = true := by
  have heq : d.endRange q i (.fitted sense force quality res) refOk = (u.committedRange q.target i).nextStep refOk := by
    unfold endRange
    dsimp only
    rw [show (if q.op = 2 then d.quickCommit q.target i sense force else d.fullCommit q.target i sense force quality) = some u from hu]
  obtain ⟨hval, huncal, hevent⟩ := committedRange_spec u q.target i hs hi
  obtain ⟨hnval, hnmark, hnevent⟩ := nextStep_shows (u.committedRange q.target i) q.target hs refOk
  rw [heq]
  exact ⟨hnval.trans hval, (hnmark i).trans huncal, (hnevent 2 (by decide)).trans hevent⟩

/-- A range that fails within 50 ppm, by its points or by values beyond their ranges. -/
theorem endRange_fails {x : CalEnd} {res : Nat} (hres : res ≤ 50) (hfew : d.tooMany (.slice (Fin.ofNat 1056 q.target)) = false)
    (hx : x = .disagreed res ∨ ∃ sense force quality, x = .fitted sense force quality res ∧ d.commitOf q.op q.target i sense force quality = none) :
    (d.endRange q i x refOk).valPart = d.valPart ∧ (d.endRange q i x refOk).flag (aCAL q.target 0x18) i = true ∧
    (d.endRange q i x refOk).flag 0x60008 3 = true := by
  have heq : d.endRange q i x refOk = (d.failedRange q.target i res).nextStep refOk := by
    rcases hx with rfl | ⟨sense, force, quality, rfl, hnone⟩
    · rfl
    · unfold endRange
      dsimp only
      rw [show (if q.op = 2 then d.quickCommit q.target i sense force else d.fullCommit q.target i sense force quality) = none from hnone]
  obtain ⟨hval, huncal, hevent⟩ := failedRange_spec d q.target i hs hi hres hfew
  obtain ⟨hnval, hnmark, hnevent⟩ := nextStep_shows (d.failedRange q.target i res) q.target hs refOk
  rw [heq]
  exact ⟨hnval.trans hval, (hnmark i).trans huncal, (hnevent 3 (by decide)).trans hevent⟩

theorem endRange_disturbed : (d.endRange q i .disturbed refOk).cal.user = d.cal.user ∧
    (d.endRange q i .disturbed refOk).flag (aCAL q.target 0x18) (8 + i) = true ∧ (d.endRange q i .disturbed refOk).flag 0x60008 4 = true ∧
    (d.endRange q i .disturbed refOk).execs = d.execs ∧
    (d.endRange q i .disturbed refOk).cal.dist = d.cal.dist ++ [(⟨if q.op = 0 then 1 else q.op, q.target, i⟩, d.edge + secTs)] := by
  have heq : d.endRange q i .disturbed refOk = (d.disturbedRange q i).nextStep refOk := rfl
  obtain ⟨huser, hdist, hexecs, hmark, hevent⟩ := disturbedRange_spec d q.target i hs hi q rfl
  obtain ⟨hnval, hnmark, hnevent⟩ := nextStep_shows (d.disturbedRange q i) q.target hs refOk
  obtain ⟨hnuser, -, -, -, -, -, -, hndist, hnexecs⟩ := val_fields hnval
  rw [heq]
  exact ⟨hnuser.trans huser, (hnmark _).trans hmark, (hnevent 4 (by decide)).trans hevent, hnexecs.trans hexecs, hndist.trans hdist⟩

end

/-! Taps (R321). -/

/-- The tap table with an entry of its own. -/
def withTap (d : Device) (k v : Nat) : Device := d.setCal { d.cal with taps := tabSet (fun _ => 0xFFFF) k v d.cal.taps }

theorem withTap_spec (d : Device) (k v : Nat) : (d.withTap k v).cal.taps = tabSet (fun _ => 0xFFFF) k v d.cal.taps ∧ (d.withTap k v).cal.user = d.cal.user ∧
    (d.withTap k v).execs = d.execs := ⟨rfl, rfl, rfl⟩

section
variable {d : Device} {r : CalRun} {b p : Nat} {rest : List Nat} (hr : d.cal.run = some r) (hb : r.start = some b) (hl : r.left = p :: rest) (hop : r.req.op = 3)
  (pairs : List (Nat × Nat)) (vref : Int)

/-- The pairs of a tap that count. -/
def tapPairs (pairs : List (Nat × Nat)) : List (Int × Int) := triedBy 100 3 (pairs.map fun x => ((x.1 : Int), (x.2 : Int)))

/-- A tap that has been measured for as long as its pairs take. -/
def tapDone (d : Device) (r : CalRun) (p : Nat) (z : Int × Int) (refOk : Bool) : Device :=
  let milliohm := (roundDiv (pairSum z) 2).toNat
  let d := ((d.withTap (34 * r.req.target + p) (min milliohm 0xFFFE)).dirty).nextStep refOk
  if 36000 < milliohm then (d.event 0x60008 9).busClassP p 0x0A milliohm else d

include hr hb hl hop in
theorem tapEnd_eq {z : Int × Int} (hz : (tapPairs pairs).getLast? = some z) : d.tapEnd p pairs vref =
    if d.edge < b + 256 * (tapPairs pairs).length then d
    else if agrees 100 z = false then d.nextStep (refGood vref)
    else d.tapDone r p z (refGood vref) := by
  have hne : tapPairs pairs ≠ [] := by
    intro h
    rw [h] at hz
    exact absurd hz (by simp)
  have hlast : (tapPairs pairs).getLastD (0, 0) = z := by rw [List.getLastD_eq_getLast?, hz]; rfl
  unfold tapEnd
  rw [hr]
  dsimp only
  rw [hb]
  dsimp only
  rw [show triedBy 100 3 (pairs.map fun x => ((x.1 : Int), (x.2 : Int))) = tapPairs pairs from rfl, hlast, hl]
  by_cases hearly : d.edge < b + 256 * (tapPairs pairs).length
  · rw [if_pos (.inr (.inr hearly)), if_pos hearly]
  · rw [if_neg (by simp only [List.headD_cons]; omega), if_neg hearly]
    simp only [hne, false_or]
    rfl

theorem tapDone_spec {z : Int × Int} (refOk : Bool) (hz : (roundDiv (pairSum z) 2).toNat ≤ 36000) :
    (d.tapDone r p z refOk).cal.taps = tabSet (fun _ => 0xFFFF) (34 * r.req.target + p) (roundDiv (pairSum z) 2).toNat d.cal.taps ∧
    (d.tapDone r p z refOk).cal.user = d.cal.user ∧ (d.tapDone r p z refOk).execs = d.execs := by
  unfold tapDone
  dsimp only
  rw [if_neg (by omega), Nat.min_eq_left (by omega)]
  have hstep := (NextOnly.nextStep refOk (d.withTap (34 * r.req.target + p) (roundDiv (pairSum z) 2).toNat).dirty).keeps.part
  obtain ⟨huser, -, -, htaps, -, -, -, -, hexecs⟩ := val_fields (hstep.trans (dirty_val _).part)
  obtain ⟨hwtaps, hwuser, hwexecs⟩ := withTap_spec d (34 * r.req.target + p) (roundDiv (pairSum z) 2).toNat
  exact ⟨htaps.trans hwtaps, huser.trans hwuser, hexecs.trans hwexecs⟩

end

end Device
end Sys2Proof.Machine
end

section
/-!
PROOF. O46, second part: meter ranges (R322), the store (R326, R327), user values, the clock and the sensors (R307, R325, R332).
-/

namespace Sys2Proof.Machine

-- One proof after another: the stacks of the threads that elaborate many at once exceed the memory of a check.
set_option Elab.async false

namespace Device

/-! Meter ranges (R322). -/

/-- Key of range `i` of meter `m`. -/
def meterKey (m i : Nat) : Nat := 32 * m + i

/-- A meter range with its values and quality figure. -/
def withMeterFit (d : Device) (key : Nat) (x : RmuCal) : Device :=
  d.setCal { d.cal with rmuQ := tabSet (fun _ => 0xFFFF) key (min x.quality 0xFFFE) d.cal.rmuQ,
                        rmuVals := tabSet (fun _ => (0, 0)) key (x.gain, x.offset) d.cal.rmuVals,
                        rmuUncal := d.cal.rmuUncal.filter (· != key) }

/-- A meter range that is UNCAL. -/
def withMeterUncal (d : Device) (key : Nat) : Device := d.setCal { d.cal with rmuUncal := key :: d.cal.rmuUncal.filter (· != key) }

theorem withMeterFit_spec (d : Device) (key : Nat) (x : RmuCal) :
    (d.withMeterFit key x).cal.rmuQ = tabSet (fun _ => 0xFFFF) key (min x.quality 0xFFFE) d.cal.rmuQ ∧
    (d.withMeterFit key x).cal.rmuVals = tabSet (fun _ => (0, 0)) key (x.gain, x.offset) d.cal.rmuVals ∧
    (d.withMeterFit key x).cal.rmuUncal = d.cal.rmuUncal.filter (· != key) ∧ (d.withMeterFit key x).execs = d.execs := ⟨rfl, rfl, rfl, rfl⟩

theorem withMeterUncal_spec (d : Device) (key : Nat) : (d.withMeterUncal key).cal.rmuQ = d.cal.rmuQ ∧
    (d.withMeterUncal key).cal.rmuUncal = key :: d.cal.rmuUncal.filter (· != key) ∧ (d.withMeterUncal key).execs = d.execs ∧
    (d.withMeterUncal key).limitPart = d.limitPart ∧ ∀ a, (d.withMeterUncal key).rd a = d.rd a := ⟨rfl, rfl, rfl, rfl, fun _ => rfl⟩

/-- A disturbed meter range, reported and waiting. -/
def meterDisturbed (d : Device) (q : CalReq) : Device := ((d.event 0x60008 4).notice 0x05 q.target 0x34 0).withDist (q, ((d.event 0x60008 4).notice 0x05 q.target 0x34 0).edge + secTs)

/-- A meter range that commits. -/
def meterCommitted (d : Device) (m i : Nat) (x : RmuCal) : Device := (((d.withMeterFit (meterKey m i) x).noteRmuQ m).dirty).event 0x60008 2

/-- A meter range that failed. -/
def meterFailed (d : Device) (m i : Nat) : Device := (((d.withMeterUncal (meterKey m i)).noteRmuQ m).event 0x60008 3).dirty

/-- What a failed meter range comes to. -/
def meterFails (d : Device) (m i : Nat) (x : RmuCal) (refOk : Bool) : Device :=
  let who : Resource := .rmu (Fin.ofNat 4 m)
  if 50 < x.residual ∨ (d.meterFailed m i).tooMany who then (((d.meterFailed m i).event 0x60008 9).clearRun).rmuClassP m 0x0D x.residual
  else ((((d.meterFailed m i).faultEntry .t 0x05 m 0x0D 0 x.residual).1.noteT who)).nextStep refOk

/-- Pairs of a meter point that count, and whether the last one agrees. -/
def meterGood (tol : Nat) (zs fs : List (Int × Int)) : Bool := zs.getLast?.any (agrees tol) && fs.getLast?.any (agrees tol)

theorem meterGood_eq (tol : Nat) (zs fs : List (Int × Int)) : meterGood tol zs fs =
    (decide (zs ≠ []) && decide (fs ≠ []) && agrees tol (zs.getLastD (0, 0)) && agrees tol (fs.getLastD (0, 0))) := by
  have hlast (l : List (Int × Int)) : l.getLast?.any (agrees tol) = (decide (l ≠ []) && agrees tol (l.getLastD (0, 0))) := by
    cases l using List.reverseRecOn with
    | nil => rfl
    | append_singleton l x => simp
  unfold meterGood
  rw [hlast, hlast]
  cases decide (zs ≠ []) <;> cases decide (fs ≠ []) <;> simp

section
variable {d : Device} {r : CalRun} {b i : Nat} {rest : List Nat} (hr : d.cal.run = some r) (hb : r.start = some b) (hl : r.left = i :: rest) (hop : r.req.op = 4)
  (x : RmuCal) (vref : Int)
include hr hb hl hop

theorem rmuEnd_eq : d.rmuEnd x vref =
    (if x.disturbed = false ∧ d.edge < b + 81920 * ((triedBy (10 * d.fget 0x6000C 0 7) 3 x.zeros).length + (triedBy (10 * d.fget 0x6000C 0 7) 3 x.fulls).length) then d
    else if x.disturbed then (d.meterDisturbed r.req).nextStep (refGood vref)
    else if meterGood (10 * d.fget 0x6000C 0 7) (triedBy (10 * d.fget 0x6000C 0 7) 3 x.zeros) (triedBy (10 * d.fget 0x6000C 0 7) 3 x.fulls) then
      (d.meterCommitted r.req.target i x).nextStep (refGood vref)
    else d.meterFails r.req.target i x (refGood vref)) := by
  have hstart : d.cal.run.bind CalRun.start = some b := by rw [hr]; exact hb
  unfold rmuEnd
  rw [hstart, hr]
  dsimp only
  rw [hl, ← meterGood_eq, hop]
  simp only [List.headD_cons, ne_eq, not_true_eq_false, false_or, Bool.not_eq_eq_eq_not, Bool.not_true]
  rfl

end

section
variable (d : Device) (refOk : Bool)

theorem noteRmuQ_plant (m : Nat) : (d.noteRmuQ m).plant = d.plant := by
  unfold noteRmuQ
  dsimp only
  rw [fsetB_plant, fset_plant]

theorem noteRmuQ_rd (m : Nat) {a : Nat} (ha : a ≠ 0x60040 + 4 * m) : (d.noteRmuQ m).rd a = d.rd a := by
  unfold noteRmuQ
  dsimp only
  rw [fsetB, rd_fset_other _ _ _ _ ha, rd_fset_other _ _ _ _ ha]

theorem withDist_meters (x : CalReq × Nat) : (d.withDist x).cal.rmuQ = d.cal.rmuQ ∧ (d.withDist x).cal.rmuVals = d.cal.rmuVals := ⟨rfl, rfl⟩

/-- A disturbed meter range before the next step. -/
theorem meterDisturbed_kept (q : CalReq) : (d.meterDisturbed q).cal.rmuQ = d.cal.rmuQ ∧ (d.meterDisturbed q).cal.rmuVals = d.cal.rmuVals ∧
    (d.meterDisturbed q).flag 0x60008 4 = true ∧ (d.meterDisturbed q).cal.dist = d.cal.dist ++ [(q, d.edge + secTs)] ∧ (d.meterDisturbed q).execs = d.execs := by
  have hplant : ((d.event 0x60008 4).notice 0x05 q.target 0x34 0).plant = d.plant := by rw [notice_plant, event_plant]
  have hflag : ((d.event 0x60008 4).notice 0x05 q.target 0x34 0).flag 0x60008 4 = true :=
    (flag_eq_of_rd_eq (notice_rd _ _ _ _ _ _ (by decide)) 4).trans (event_flag _ _ _ (by decide) (by decide))
  unfold meterDisturbed
  generalize (d.event 0x60008 4).notice 0x05 q.target 0x34 0 = e at hplant hflag ⊢
  have hedge : e.edge = d.edge := eq_of_plant Device.edge hplant
  obtain ⟨-, -, -, -, hq, hvals, -, hdist, hexecs⟩ := val_fields (eq_of_plant valPart hplant valPart_plant)
  obtain ⟨-, hwdist, hwexecs, hwrd⟩ := withDist_spec e (q, e.edge + secTs)
  obtain ⟨hwq, hwvals⟩ := withDist_meters e (q, e.edge + secTs)
  refine ⟨hwq.trans hq, hwvals.trans hvals, (flag_eq_of_rd_eq (hwrd _) 4).trans hflag, ?_, hwexecs.trans hexecs⟩
  rw [hwdist, hdist, hedge]

theorem meterDisturbed_spec (q : CalReq) : ((d.meterDisturbed q).nextStep refOk).cal.rmuQ = d.cal.rmuQ ∧
    ((d.meterDisturbed q).nextStep refOk).cal.rmuVals = d.cal.rmuVals ∧ ((d.meterDisturbed q).nextStep refOk).flag 0x60008 4 = true ∧
    ((d.meterDisturbed q).nextStep refOk).cal.dist = d.cal.dist ++ [(q, d.edge + secTs)] ∧ ((d.meterDisturbed q).nextStep refOk).execs = d.execs := by
  obtain ⟨hkq, hkvals, hkevent, hkdist, hkexecs⟩ := d.meterDisturbed_kept q
  have hnext := NextOnly.nextStep refOk (d.meterDisturbed q)
  obtain ⟨-, -, -, -, hq, hvals, -, hdist, hexecs⟩ := val_fields hnext.keeps.part
  exact ⟨hq.trans hkq, hvals.trans hkvals, (hnext.events 4 (by decide)).trans hkevent, hdist.trans hkdist, hexecs.trans hkexecs⟩

variable (m i : Nat)

theorem meterCommitted_spec (x : RmuCal) : ((d.meterCommitted m i x).nextStep refOk).valPart = (d.withMeterFit (meterKey m i) x).valPart ∧
    ((d.meterCommitted m i x).nextStep refOk).flag 0x60008 2 = true := by
  have hnext := NextOnly.nextStep refOk (d.meterCommitted m i x)
  refine ⟨hnext.keeps.part.trans ?_, (hnext.events 2 (by decide)).trans (event_flag _ _ _ (by decide) (by decide))⟩
  unfold meterCommitted
  generalize d.withMeterFit (meterKey m i) x = e
  exact (eq_of_plant valPart (event_plant ..) valPart_plant).trans ((dirty_val _).part.trans (eq_of_plant valPart (noteRmuQ_plant ..) valPart_plant))

theorem meterFails_spec {x : RmuCal} (hm : m < 4) (hres : x.residual ≤ 50) (hfew : d.tooMany (.rmu (Fin.ofNat 4 m)) = false) :
    (d.meterFails m i x refOk).valPart = (d.withMeterUncal (meterKey m i)).valPart ∧ (d.meterFails m i x refOk).flag 0x60008 3 = true := by
  obtain ⟨-, -, -, hlimit, hrd⟩ := withMeterUncal_spec d (meterKey m i)
  have hk := dirty_val (((d.withMeterUncal (meterKey m i)).noteRmuQ m).event 0x60008 3)
  have hl := dirty_limit (((d.withMeterUncal (meterKey m i)).noteRmuQ m).event 0x60008 3)
  have hplant : (((d.withMeterUncal (meterKey m i)).noteRmuQ m).event 0x60008 3).plant = (d.withMeterUncal (meterKey m i)).plant := by
    rw [event_plant, noteRmuQ_plant]
  have hevent : (((d.withMeterUncal (meterKey m i)).noteRmuQ m).event 0x60008 3).flag 0x60008 3 = true := event_flag _ _ _ (by decide) (by decide)
  have hcfg : (((d.withMeterUncal (meterKey m i)).noteRmuQ m).event 0x60008 3).rd 0x50000 = d.rd 0x50000 :=
    (event_rd _ _ _ _ (by decide) (by decide)).trans ((noteRmuQ_rd _ _ (by omega)).trans (hrd _))
  unfold meterFails meterFailed
  dsimp only
  generalize d.withMeterUncal (meterKey m i) = u at *
  generalize (u.noteRmuQ m).event 0x60008 3 = e at *
  have hmany : e.dirty.tooMany (.rmu (Fin.ofNat 4 m)) = d.tooMany (.rmu (Fin.ofNat 4 m)) :=
    tooMany_congr (hl.trans ((eq_of_plant limitPart hplant).trans hlimit)) ((hk.regs _ (by decide) (by decide)).trans hcfg) _
  rw [if_neg (by rw [hmany, hfew]; simp [hres])]
  have hfault := faultEntry_plant e.dirty .t 0x05 m 0x0D 0 x.residual none
  have hfaultRd {a : Nat} (hr : reportReg a = false) : (e.dirty.faultEntry .t 0x05 m 0x0D 0 x.residual none).1.rd a = e.dirty.rd a := report_rd _ _ _ _ hr
  generalize (e.dirty.faultEntry .t 0x05 m 0x0D 0 x.residual none).1 = f at hfault hfaultRd ⊢
  have hnext := NextOnly.nextStep refOk (f.noteT (.rmu (Fin.ofNat 4 m)))
  refine ⟨?_, ?_⟩
  · exact hnext.keeps.part.trans <| (noteT_val ..).trans <| (eq_of_plant valPart hfault valPart_plant).trans <|
      hk.part.trans (eq_of_plant valPart hplant valPart_plant)
  · rw [hnext.events 3 (by decide), flag_eq_of_rd_eq (noteT_rd f _ _), flag_eq_of_rd_eq (hfaultRd (by decide)),
      flag_eq_of_rd_eq (hk.regs _ (by decide) (by decide)), hevent]

end

/-! The bytes of a copy (R326). -/

/-- The values that a copy holds, beside the registers. -/
def storeVals (d : Device) : (Tab Int × Tab Int × Tab (Option Int) × Tab (List CalMark)) × Tab Nat × Tab (Int × Int) × Tab Nat × List Nat :=
  ((d.cal.user, d.cal.factory, d.cal.tcal, d.cal.marks), d.cal.taps, d.cal.rmuVals, d.cal.rmuQ, d.cal.rmuUncal)

section
variable {d e : Device} (hv : e.storeVals = d.storeVals) (hrd : ∀ a, 0x64000 ≤ a → e.rd a = d.rd a)
include hv

theorem rmuRecords_congr : e.rmuRecords = d.rmuRecords := by
  obtain ⟨-, hrest⟩ := Prod.mk.inj hv
  obtain ⟨-, hrest⟩ := Prod.mk.inj hrest
  obtain ⟨hvals, hrest⟩ := Prod.mk.inj hrest
  obtain ⟨hq, huncal⟩ := Prod.mk.inj hrest
  unfold rmuRecords
  rw [hvals, hq, huncal]

theorem tapTable_congr : e.tapTable = d.tapTable := by
  have htaps : e.cal.taps = d.cal.taps := congrArg (fun y => y.2.1) hv
  unfold tapTable
  rw [htaps]

include hrd

theorem sliceRecord_congr (s : Nat) : e.sliceRecord s = d.sliceRecord s := by
  obtain ⟨hrange, -⟩ := Prod.mk.inj hv
  obtain ⟨huser, hrange⟩ := Prod.mk.inj hrange
  obtain ⟨hfactory, hrange⟩ := Prod.mk.inj hrange
  obtain ⟨htcal, hmarks⟩ := Prod.mk.inj hrange
  have hcal (o : Nat) : e.rd (aCAL s o) = d.rd (aCAL s o) := hrd _ (by unfold aCAL aCALCH aCALSP; split <;> omega)
  have ht (r p : Nat) : e.tcalOf s r p = d.tcalOf s r p := by unfold tcalOf factVal; rw [htcal, hfactory]
  have hu (k : Nat) : e.userVal k = d.userVal k := by unfold userVal; rw [huser]
  have hl (r : Nat) : e.lastCommit s r = d.lastCommit s r := by unfold lastCommit marksOf; rw [hmarks]
  have hq (o lo n : Nat) : e.fget (aCAL s o) lo n = d.fget (aCAL s o) lo n := fget_of_rd (hcal o) lo n
  have hf (r : Nat) : e.flag (aCAL s 0x18) r = d.flag (aCAL s 0x18) r := flag_eq_of_rd_eq (hcal 0x18) r
  unfold sliceRecord
  simp only [ht, hu, hl, hq, hf]

theorem storeBody_congr : e.storeBody = d.storeBody := by
  unfold storeBody
  rw [rmuRecords_congr hv, tapTable_congr hv, show e.sliceRecord = d.sliceRecord from funext (sliceRecord_congr hv hrd)]

end

theorem length_flatMap_const {α β : Type} (l : List α) (f : α → List β) {n : Nat} (h : ∀ x, (f x).length = n) : (l.flatMap f).length = l.length * n := by
  induction l with
  | nil => rw [List.flatMap_nil, List.length_nil, List.length_nil, Nat.zero_mul]
  | cons x l ih => rw [List.flatMap_cons, List.length_append, ih, h, List.length_cons, Nat.succ_mul, Nat.add_comm]

theorem storeBody_length (d : Device) : d.storeBody.length = 611328 := by
  have hslices := length_flatMap_const (List.range 1056) d.sliceRecord (n := 512) fun s => by unfold sliceRecord; rw [List.length_map, List.length_range]
  have htaps : d.tapTable.length = 34816 * 2 := by
    have h := length_flatMap_const (List.range 34816) (fun k => leBytes 2 (tabGet (fun _ => 0xFFFF) d.cal.taps k)) fun k => leBytes_length 2 _
    rwa [List.length_range] at h
  have hmeters : d.rmuRecords.length = 1024 := by unfold rmuRecords; rw [List.length_map, List.length_range]
  rw [List.length_range] at hslices
  unfold storeBody
  rw [List.length_append, List.length_append, hslices, htaps, hmeters]

theorem storeHead_length (seq : Word) (body : List Byte) : (storeHead seq body).length = 64 := by
  unfold storeHead
  simp only [List.length_append, leBytes_length, List.length_replicate]

theorem markerBytes_length (seq : Word) : (markerBytes seq).length = 16 := by
  unfold markerBytes
  simp only [List.length_append, leBytes_length]

end Device

/-! Reads of flash after writes. -/

/-- A read apart from the bytes written. -/
theorem Mem.flashRead_flashWrite_apart (m : Mem) {a b n : Nat} (bs : List Byte) (h : b + n ≤ a ∨ a + bs.length ≤ b) :
    (m.flashWrite a bs).flashRead b n = m.flashRead b n := by
  refine readCells_congr fun c hc hc' => ?_
  exact (tabGet_writeCells ..).trans (if_neg (by omega))

theorem Mem.flashRead_flashWrite_same (m : Mem) (a : Nat) {n : Nat} {bs : List Byte} (h : bs.length = n) : (m.flashWrite a bs).flashRead a n = bs := by
  subst h
  exact readCells_writeCells_same ..

namespace Device

theorem eraseCopy_beside (m : Mem) (b : Bool) : (eraseCopy m b).ddr = m.ddr ∧ (eraseCopy m b).host = m.host := ⟨rfl, rfl⟩

/-- An address outside a copy keeps its byte when the copy is erased. -/
theorem flashRead_eraseCopy (m : Mem) (b : Bool) {a : Nat} (h : a < copyBase b ∨ copyBase b + 0x400000 ≤ a) : (eraseCopy m b).flashRead a 1 = m.flashRead a 1 := by
  refine readCells_congr fun c hc hc' => ?_
  have hca : c = a := by omega
  subst hca
  refine (tabGet_filter blankFlash (fun k => decide (k < copyBase b) || decide (copyBase b + 0x400000 ≤ k)) m.flash c).trans (if_pos ?_)
  rw [Bool.or_eq_true, decide_eq_true_eq, decide_eq_true_eq]
  exact h

/-- Body, header and marker of a copy, written in this order. -/
def copyWritten (m : Mem) (b : Bool) (seq : Word) (body : List Byte) : Mem :=
  (((eraseCopy m b).flashWrite (copyBase b + 0x40) body).flashWrite (copyBase b) (storeHead seq body)).flashWrite (copyBase b + 0x3FF000) (markerBytes seq)

theorem copyWritten_spec (m : Mem) (b : Bool) (seq : Word) {body : List Byte} (hlen : body.length = 611328) :
    (copyWritten m b seq body).flashRead (copyBase b) 64 = storeHead seq body ∧
    (copyWritten m b seq body).flashRead (copyBase b + 0x40) body.length = body ∧
    (copyWritten m b seq body).flashRead (copyBase b + 0x3FF000) 16 = markerBytes seq ∧
    (∀ a, a < copyBase b ∨ copyBase b + 0x400000 ≤ a → (copyWritten m b seq body).flashRead a 1 = m.flashRead a 1) ∧
    (copyWritten m b seq body).ddr = m.ddr ∧ (copyWritten m b seq body).host = m.host := by
  have hhead := storeHead_length seq body
  have hmark := markerBytes_length seq
  unfold copyWritten
  refine ⟨?_, ?_, Mem.flashRead_flashWrite_same _ _ hmark, fun a ha => ?_, ?_, ?_⟩
  · rw [Mem.flashRead_flashWrite_apart _ _ (by omega), Mem.flashRead_flashWrite_same _ _ hhead]
  · rw [Mem.flashRead_flashWrite_apart _ _ (by omega), Mem.flashRead_flashWrite_apart _ _ (by omega), Mem.flashRead_flashWrite_same _ _ rfl]
  · rw [Mem.flashRead_flashWrite_apart _ _ (by omega), Mem.flashRead_flashWrite_apart _ _ (by omega), Mem.flashRead_flashWrite_apart _ _ (by omega),
      flashRead_eraseCopy _ _ ha]
  · rw [Mem.flashWrite_ddr, Mem.flashWrite_ddr, Mem.flashWrite_ddr, (eraseCopy_beside m b).1]
  · rw [Mem.flashWrite_host, Mem.flashWrite_host, Mem.flashWrite_host, (eraseCopy_beside m b).2]

/-! A save (R327). -/

/-- The values in use as copy `b`, which becomes the active one. -/
def copySaved (d : Device) (b : Bool) (seq : Word) : Device := ((d.setCopy b (d.snapshot seq)).wr 0x6001C seq).fsetB 0x60004 2 b

/-- Nothing is left to save. -/
def saveDone (d : Device) : Device := ((d.fsetB 0x60004 3 false).setCal { d.cal with dirtySince := none }).event 0x60008 6

theorem saveCal_true (d : Device) (m : Mem) : d.saveCal m true =
    (copyWritten m (!d.flag 0x60004 2) (d.rd 0x6001C + 1) (d.copySaved (!d.flag 0x60004 2) (d.rd 0x6001C + 1)).storeBody,
     (d.copySaved (!d.flag 0x60004 2) (d.rd 0x6001C + 1)).saveDone) := rfl

theorem saveCal_false (d : Device) (m : Mem) : d.saveCal m false =
    (eraseCopy m (!d.flag 0x60004 2), ((d.setCopy (!d.flag 0x60004 2) .bad).event 0x60008 7).notice 0x0A 0 0x3A 0) := rfl

section
variable (d : Device) (b : Bool) (seq : Word)

theorem setCopy_kept (x : CalCopy) : (d.setCopy b x).storeVals = d.storeVals ∧ ∀ a, (d.setCopy b x).rd a = d.rd a := by
  unfold setCopy
  cases b with
  | true => exact ⟨rfl, fun _ => rfl⟩
  | false => exact ⟨rfl, fun _ => rfl⟩

theorem copySaved_vals : (d.copySaved b seq).storeVals = d.storeVals :=
  (eq_of_plant storeVals ((fsetB_plant ..).trans (wr_plant ..))).trans (setCopy_kept d b _).1

theorem copySaved_rd {a : Nat} (h4 : a ≠ 0x60004) (h1 : a ≠ 0x6001C) : (d.copySaved b seq).rd a = d.rd a := by
  rw [copySaved, fsetB, rd_fset_other _ _ _ _ h4, rd_wr_other _ _ h1, (setCopy_kept d b _).2]

theorem copySaved_body : (d.copySaved b seq).storeBody = d.storeBody :=
  storeBody_congr (copySaved_vals d b seq) fun _ ha => copySaved_rd d b seq (by omega) (by omega)

theorem copySaved_shows : (d.copySaved b seq).flag 0x60004 2 = b ∧ (d.copySaved b seq).rd 0x6001C = seq :=
  ⟨flag_fsetB_same _ _ (by decide), (rd_fset_other _ _ _ _ (by decide)).trans (rd_wr_same ..)⟩

/-- The active copy with its sequence number, nothing DIRTY, and what stays. -/
structure Saved (d t : Device) (b : Bool) (seq : Word) : Prop where
  active : t.flag 0x60004 2 = b
  seq : t.rd 0x6001C = seq
  dirty : t.flag 0x60004 3 = false
  saved : t.flag 0x60008 6 = true
  since : t.cal.dirtySince = none
  user : t.cal.user = d.cal.user
  regs : ∀ a, a ≠ 0x60004 → a ≠ 0x6001C → a ≠ 0x60008 → a ≠ 0xD9000 → t.rd a = d.rd a

theorem saveDone_spec {e : Device} (hb : e.flag 0x60004 2 = b) (hseq : e.rd 0x6001C = seq) (huser : e.cal.user = d.cal.user)
    (hrd : ∀ a, a ≠ 0x60004 → a ≠ 0x6001C → e.rd a = d.rd a) : Saved d e.saveDone b seq := by
  have hset : ((e.fsetB 0x60004 3 false).setCal { e.cal with dirtySince := none }).cal.dirtySince = none ∧
      ((e.fsetB 0x60004 3 false).setCal { e.cal with dirtySince := none }).cal.user = e.cal.user ∧
      ∀ a, ((e.fsetB 0x60004 3 false).setCal { e.cal with dirtySince := none }).rd a = (e.fsetB 0x60004 3 false).rd a := ⟨rfl, rfl, fun _ => rfl⟩
  unfold saveDone
  generalize (e.fsetB 0x60004 3 false).setCal { e.cal with dirtySince := none } = f at hset ⊢
  obtain ⟨hsince, hfuser, hfrd⟩ := hset
  have hplant : (f.event 0x60008 6).plant = f.plant := event_plant ..
  refine ⟨?_, ?_, ?_, event_flag _ _ _ (by decide) (by decide), ?_, ?_, fun a h4 h1 h8 hd => ?_⟩
  · rw [flag_eq_of_rd_eq (event_rd _ _ _ _ (by decide) (by decide)), flag_eq_of_rd_eq (hfrd _), flag_fsetB_other _ _ (by decide) (by decide), hb]
  · rw [event_rd _ _ _ _ (by decide) (by decide), hfrd, fsetB, rd_fset_other _ _ _ _ (by decide), hseq]
  · rw [flag_eq_of_rd_eq (event_rd _ _ _ _ (by decide) (by decide)), flag_eq_of_rd_eq (hfrd _), flag_fsetB_same _ _ (by decide)]
  · exact (eq_of_plant (fun x => x.cal.dirtySince) hplant).trans hsince
  · exact (eq_of_plant (fun x => x.cal.user) hplant).trans (hfuser.trans huser)
  · rw [event_rd _ _ _ _ h8 hd, hfrd, fsetB, rd_fset_other _ _ _ _ h4, hrd a h4 h1]

theorem saveCal_saved : Saved d (d.copySaved b seq).saveDone b seq := by
  obtain ⟨hb, hseq⟩ := copySaved_shows d b seq
  exact saveDone_spec d b seq hb hseq (congrArg (fun y => y.1.1) (copySaved_vals d b seq)) fun a h4 h1 => copySaved_rd d b seq h4 h1

/-- A save whose readback does not match. -/
theorem saveFails_spec : (((d.setCopy b .bad).event 0x60008 7).notice 0x0A 0 0x3A 0).flag 0x60008 7 = true ∧
    (((d.setCopy b .bad).event 0x60008 7).notice 0x0A 0 0x3A 0).cal.user = d.cal.user ∧
    ∀ a, a ≠ 0x60008 → reportReg a = false → (((d.setCopy b .bad).event 0x60008 7).notice 0x0A 0 0x3A 0).rd a = d.rd a := by
  obtain ⟨hvals, hrd⟩ := setCopy_kept d b .bad
  have huser : (d.setCopy b .bad).cal.user = d.cal.user := congrArg (fun y => y.1.1) hvals
  generalize d.setCopy b .bad = e at hrd huser ⊢
  refine ⟨(flag_eq_of_rd_eq (notice_rd _ _ _ _ _ _ (by decide)) 7).trans (event_flag _ _ _ (by decide) (by decide)),
    (eq_of_plant (fun x => x.cal.user) ((notice_plant ..).trans (event_plant ..))).trans huser, fun a ha hr => ?_⟩
  rw [notice_rd _ _ _ _ _ _ hr, event_keepsRegs _ _ _ a ha hr, hrd]

end

end Device
end Sys2Proof.Machine
end

section
/-!
PROOF. O46: results of the Tuning engine commit and are saved, and its values are written and read (R307 to R316, R320 to R327, R332).
-/

namespace Sys2Proof.Machine

-- One proof after another: the stacks of the threads that elaborate many at once exceed the memory of a check.
set_option Elab.async false

namespace Device

/-! User values (R332). -/

section
variable (d : Device)

/-- Channels, user values and executions. -/
def vuPart : Tab Chan × Tab Int × List Exec := (d.chan, d.cal.user, d.execs)

theorem vuPart_plant (x : Device) : vuPart x.plant = vuPart x := rfl

/-- The clamp of a user value reported. -/
def vuReported (p : Party) (x y : Int) : Device := if x = y then d else (d.reportClamp (srcOf p) (some 0x6002C) 0 0xFFFF 32 0x6002C 0 x y).eventClamped 0x6002C

theorem vuReported_plant (p : Party) (x y : Int) : (d.vuReported p x y).plant = d.plant := by
  unfold vuReported
  split
  · rfl
  · rw [eventClamped_plant, reportClamp_plant]

/-- A user value that takes effect at the next edge. -/
def vuStored (k : Nat) (v : Int) : Device := (d.setCal { d.cal with old := some (d.cal.old.getD d.cal.user) }).setUser k v

theorem vuStored_spec (k : Nat) (v : Int) : (d.vuStored k v).cal.user = tabSet (fun _ => 0) k v d.cal.user ∧ (d.vuStored k v).chan = d.chan ∧
    (d.vuStored k v).execs = d.execs := ⟨rfl, rfl, rfl⟩

/-- The channel that slice `s` serves. -/
def servedBy (s : Nat) : Option Nat :=
  let c := s / 33
  let n := if s % 33 = 32 then (d.crs c).spareFor.getD 0 else 32 * c + s % 33
  let serves := decide (d.sliceOf n = s) && (decide (s % 33 ≠ 32) || (d.crs c).spareFor.isSome)
  if serves then some n else none

/-- A range whose value was written is neither UNCAL nor judged. -/
def vuMarked (s r : Nat) : Device := ((d.fsetB (aCAL s 0x18) r false).setQual s r 0xFFFF).dirty

theorem dirty_vu : d.dirty.vuPart = d.vuPart := by
  unfold dirty
  split
  · rfl
  · have hset (e : Device) (x : Option Nat) : (e.setCal { e.cal with dirtySince := x }).vuPart = e.vuPart := rfl
    exact (hset ..).trans (eq_of_plant vuPart (fsetB_plant ..) vuPart_plant)

theorem vuMarked_vu (s r : Nat) : (d.vuMarked s r).vuPart = d.vuPart := by
  unfold vuMarked
  refine (dirty_vu _).trans (eq_of_plant vuPart ?_ vuPart_plant)
  rw [setQual, fset_plant, fsetB_plant]

theorem countCal_vu (s : Nat) (n : Option Nat) : (d.countCal s n).vuPart = d.vuPart := by
  have hpart := (HandOnly.countCal s n d).part
  exact congrArg (fun y : (Cal × Nat) × Tab Chan × List Exec => (y.2.1, y.1.1.user, y.2.2)) hpart

/-- The user value that CAL_VSEL selects. -/
def vuDone (p : Party) (raw : Word) : Device :=
  let v := d.rd 0x60024
  let s := bitsOf v 0 11
  let r := bitsOf v 12 3
  let path := bitsOf v 15 1
  let item := bitsOf v 16 4
  let x := toSigned 32 raw.toNat
  let y := clampInt (itemLim path item).1 (itemLim path item).2 x
  let d := (((d.vuReported p x y).vuStored (calKey s r path item) y).vuMarked s r)
  d.countCal s (d.servedBy s)

theorem vuWrite_eq (p : Party) (raw : Word) : d.vuWrite p raw =
    if d.calibrates (bitsOf (d.rd 0x60024) 0 11) ∨ (bitsOf (d.rd 0x60024) 15 1 = 1 ∧ 2 < bitsOf (d.rd 0x60024) 12 3) ∨ bitsOf (d.rd 0x60024) 16 4 = 12 then d.refuse 0x6002C
    else d.vuDone p raw := rfl

theorem vuDone_spec (p : Party) (raw : Word) :
    (let v := d.rd 0x60024
     let y := clampInt (itemLim (bitsOf v 15 1) (bitsOf v 16 4)).1 (itemLim (bitsOf v 15 1) (bitsOf v 16 4)).2 (toSigned 32 raw.toNat)
     (d.vuDone p raw).cal.user = tabSet (fun _ => 0) (calKey (bitsOf v 0 11) (bitsOf v 12 3) (bitsOf v 15 1) (bitsOf v 16 4)) y d.cal.user ∧
     (d.vuDone p raw).chan = d.chan ∧ (d.vuDone p raw).execs = d.execs) := by
  unfold vuDone
  dsimp only
  generalize clampInt (itemLim (bitsOf (d.rd 0x60024) 15 1) (bitsOf (d.rd 0x60024) 16 4)).1 (itemLim (bitsOf (d.rd 0x60024) 15 1) (bitsOf (d.rd 0x60024) 16 4)).2
    (toSigned 32 raw.toNat) = y
  generalize calKey (bitsOf (d.rd 0x60024) 0 11) (bitsOf (d.rd 0x60024) 12 3) (bitsOf (d.rd 0x60024) 15 1) (bitsOf (d.rd 0x60024) 16 4) = k
  generalize bitsOf (d.rd 0x60024) 0 11 = s
  generalize bitsOf (d.rd 0x60024) 12 3 = r
  have hreported := d.vuReported_plant p (toSigned 32 raw.toNat) y
  generalize d.vuReported p (toSigned 32 raw.toNat) y = e at hreported ⊢
  obtain ⟨huser, hchan, hexecs⟩ := e.vuStored_spec k y
  have hpart := ((e.vuStored k y).vuMarked s r).countCal_vu s (((e.vuStored k y).vuMarked s r).servedBy s)
  obtain ⟨htchan, hrest⟩ := Prod.mk.inj (hpart.trans (vuMarked_vu ..))
  obtain ⟨htuser, htexecs⟩ := Prod.mk.inj hrest
  refine ⟨(htuser.trans huser).trans ?_, (htchan.trans hchan).trans (eq_of_plant Device.chan hreported), (htexecs.trans hexecs).trans (eq_of_plant Device.execs hreported)⟩
  rw [show e.cal = d.cal from eq_of_plant Device.cal hreported]

/-! The clock (R325). -/

theorem epochWrite_spec (v : Word) : (d.epochWrite v).rd 0x60018 = v ∧ (d.epochWrite v).cal = { d.cal with epochSet := true } ∧
    { (d.epochWrite v).plant with cal := d.cal } = d.plant ∧ ∀ a, a ≠ 0x60018 → (d.epochWrite v).rd a = d.rd a := by
  have hrd (e : Device) (c : Cal) (a : Nat) : ({ e with cal := c } : Device).rd a = e.rd a := rfl
  refine ⟨(hrd ..).trans (rd_wr_same ..), rfl, rfl, fun a ha => (hrd ..).trans (rd_wr_other _ _ ha)⟩

/-- One second more since the start of the Tuning engine. -/
def secondPassed : Device := { d with cal := { d.cal with seconds := d.cal.seconds + 1, tickAt := d.cal.tickAt + secTs } }

theorem second_eq : d.second = if d.edge < d.cal.tickAt + secTs then d
    else if d.secondPassed.cal.epochSet then d.secondPassed.bump 0x60018 0 32 else d.secondPassed := rfl

theorem second_early (h : d.edge < d.cal.tickAt + secTs) : d.second = d := by
  unfold second
  exact if_pos h

theorem secondPassed_spec : d.secondPassed.cal = { d.cal with seconds := d.cal.seconds + 1, tickAt := d.cal.tickAt + secTs } ∧
    { d.secondPassed.plant with cal := d.cal } = d.plant ∧ ∀ a, d.secondPassed.rd a = d.rd a := ⟨rfl, rfl, fun _ => rfl⟩

theorem second_spec (h : d.cal.tickAt + secTs ≤ d.edge) : d.second.rd 0x60018 = (if d.cal.epochSet then d.rd 0x60018 + 1 else d.rd 0x60018) ∧
    d.second.cal = { d.cal with seconds := d.cal.seconds + 1, tickAt := d.cal.tickAt + secTs } ∧
    { d.second.plant with cal := d.cal } = d.plant ∧ ∀ a, a ≠ 0x60018 → d.second.rd a = d.rd a := by
  obtain ⟨hcal, hplant, hrd⟩ := d.secondPassed_spec
  have hset : d.secondPassed.cal.epochSet = d.cal.epochSet := rfl
  rw [second_eq, if_neg (by omega), hset]
  generalize d.secondPassed = e at hcal hplant hrd ⊢
  cases d.cal.epochSet with
  | true =>
    rw [if_pos rfl, if_pos rfl, bump_plant]
    exact ⟨(e.bump_word _).trans (congrArg (· + 1) (hrd _)), (eq_of_plant Device.cal (bump_plant ..)).trans hcal, hplant,
      fun a ha => (rd_fset_other _ _ _ _ ha).trans (hrd a)⟩
  | false =>
    rw [if_neg (by decide), if_neg (by decide)]
    exact ⟨hrd _, hcal, hplant, fun a _ => hrd a⟩

/-! The sensors (R307). -/

/-- The reading of sensor `i`, where there is one. -/
def sensorShown (ts : List Int) (i : Nat) : Device :=
  match ts[i]? with
  | some t => d.fset (0x60080 + 4 * i) 0 16 (ofSigned 16 t)
  | none => d

theorem sensorShown_rd (ts : List Int) (i : Nat) {a : Nat} (ha : a ≠ 0x60080 + 4 * i) : (d.sensorShown ts i).rd a = d.rd a := by
  unfold sensorShown
  split
  · exact rd_fset_other _ _ _ _ ha
  · rfl

theorem sensorShown_plant (ts : List Int) (i : Nat) : (d.sensorShown ts i).plant = d.plant := by
  unfold sensorShown
  split
  · exact fset_plant ..
  · rfl

/-- The readings of the first `n` sensors. -/
def sensorsShown (ts : List Int) (n : Nat) : Device := (List.range n).foldl (fun d i => d.sensorShown ts i) d

theorem sensorsShown_succ (ts : List Int) (n : Nat) : d.sensorsShown ts (n + 1) = (d.sensorsShown ts n).sensorShown ts n := by
  rw [sensorsShown, List.range_succ, List.foldl_append]
  rfl

theorem sensorsShown_spec (ts : List Int) (n : Nat) : (∀ i x, i < n → ts[i]? = some x → (d.sensorsShown ts n).fget (0x60080 + 4 * i) 0 16 = ofSigned 16 x) ∧
    (d.sensorsShown ts n).plant = d.plant ∧ ∀ a, (∀ i, i < n → a ≠ 0x60080 + 4 * i) → (d.sensorsShown ts n).rd a = d.rd a := by
  induction n with
  | zero => exact ⟨fun i x hi _ => absurd hi (Nat.not_lt_zero i), rfl, fun _ _ => rfl⟩
  | succ n ih =>
    obtain ⟨hshown, hplant, hrd⟩ := ih
    rw [sensorsShown_succ]
    refine ⟨fun i x hi hx => ?_, (sensorShown_plant ..).trans hplant, fun a ha => (sensorShown_rd _ _ _ (ha n (by omega))).trans (hrd a fun i hi => ha i (by omega))⟩
    by_cases hin : i = n
    · subst hin
      have heq : (d.sensorsShown ts i).sensorShown ts i = (d.sensorsShown ts i).fset (0x60080 + 4 * i) 0 16 (ofSigned 16 x) := by
        unfold sensorShown
        rw [hx]
      rw [heq, fget_fset_same _ _ _ (by decide)]
      exact Nat.mod_eq_of_lt (ofSigned_lt ..)
    · rw [fget_of_rd (sensorShown_rd _ _ _ (by omega))]
      exact hshown i x (by omega) hx

/-- The present edge is that of a reading. -/
def sensedNow : Device := d.setCal { d.cal with sensedAt := d.edge }

theorem readSensors_eq (ts : List Int) : d.readSensors ts = if d.edge < d.cal.sensedAt + 20480 then d else d.sensedNow.sensorsShown ts 16 := rfl

theorem sensedNow_spec : d.sensedNow.plant = { d.plant with cal := { d.cal with sensedAt := d.edge } } ∧ ∀ a, d.sensedNow.rd a = d.rd a := ⟨rfl, fun _ => rfl⟩

end

/-! Saves (R327). -/

theorem saveTimer_due {d : Device} {e : Nat} (he : d.cal.dirtySince = some e) (hdue : e + secTs * d.fget 0x6000C 16 12 ≤ d.edge) (m : Mem) (ok : Bool) :
    d.saveTimer m ok = d.saveCal m ok := by
  unfold saveTimer
  rw [he]
  exact if_pos hdue

theorem calSave_go (d : Device) (m : Mem) {raw : Word} (h : bitOf raw 31 = true) (ok : Bool) : d.calSave m raw ok = d.saveCal m ok := if_pos h

end Device

/-- A command that changes nothing of the device completes. -/
theorem givesDev_onDev_same {c : Instr} {s : State} {f : Device → Device} (he : exec c s = .next (s.onDev f)) (h : f s.dev = s.dev) :
    GivesDev c s fun t => t = s.dev := by
  refine ⟨s.onDev f, he, rfl, rfl, ?_⟩
  rw [State.onDev_dev, h]

/-- A command that saves completes with the copy written. -/
theorem save_gives {c : Instr} {s : State} {f : Mem → Device → Mem × Device} (he : exec c s = .next (s.onMem f)) (hf : f s.mem s.dev = s.dev.saveCal s.mem true) :
    GivesMem c s fun m t =>
      (let b := !s.dev.flag 0x60004 2
       t.flag 0x60004 2 = b ∧ t.rd 0x6001C = s.dev.rd 0x6001C + 1 ∧ t.flag 0x60004 3 = false ∧ t.flag 0x60008 6 = true ∧ t.cal.dirtySince = none ∧
       t.cal.user = s.dev.cal.user ∧
       m.flashRead (Device.copyBase b) 64 = Device.storeHead (s.dev.rd 0x6001C + 1) s.dev.storeBody ∧
       m.flashRead (Device.copyBase b + 0x40) s.dev.storeBody.length = s.dev.storeBody ∧
       m.flashRead (Device.copyBase b + 0x3FF000) 16 = Device.markerBytes (s.dev.rd 0x6001C + 1) ∧
       (∀ a, a < Device.copyBase b ∨ Device.copyBase b + 0x400000 ≤ a → m.flashRead a 1 = s.mem.flashRead a 1) ∧ m.ddr = s.mem.ddr ∧ m.host = s.mem.host ∧
       ∀ a, a ≠ 0x60004 → a ≠ 0x6001C → a ≠ 0x60008 → a ≠ 0xD9000 → t.rd a = s.dev.rd a) := by
  refine givesMem_onMem he ?_
  rw [hf, Device.saveCal_true, Device.copySaved_body]
  have hsaved := s.dev.saveCal_saved (!s.dev.flag 0x60004 2) (s.dev.rd 0x6001C + 1)
  obtain ⟨hhead, hbody, hmarker, hkept, hddr, hhost⟩ := Device.copyWritten_spec s.mem (!s.dev.flag 0x60004 2) (s.dev.rd 0x6001C + 1) s.dev.storeBody_length
  exact ⟨hsaved.active, hsaved.seq, hsaved.dirty, hsaved.saved, hsaved.since, hsaved.user, hhead, hbody, hmarker, hkept, hddr, hhost, hsaved.regs⟩

/-- Settles O46: ranges, taps and meter ranges end, the store is saved, and the values of the Tuning engine are written and read. -/
theorem calibrationCommitsAndStores : Obligations.CalibrationCommitsAndStores := by
  unfold Obligations.CalibrationCommitsAndStores
  refine ⟨fun r b s vref hrun hstart => ⟨fun i rest m hleft hi hop hs => ⟨fun hgap => ?_, fun hgap hearly => ?_, fun hgap hdone => ⟨fun sense force q res u hx hu => ?_,
      fun hx => ?_, fun res hres hfew hx => ?_⟩⟩,
    fun p rest pairs z hleft hop hz => ⟨fun hearly => ?_, fun hdone hagree hohm => ?_, fun hdone hagree => ?_⟩,
    fun i rest x hleft hop hm => ⟨fun hx => ?_, fun hx hearly => ?_, fun hx hdone hgood => ?_, fun hx hdone hgood hres hfew => ?_⟩⟩,
    fun s => ⟨fun c w e hc => ?_, fun w hadm hgo => ?_, fun w hadm hcal hpath hitem => ?_, fun w hadm => ?_, fun hearly => ?_, fun hdue => ?_, fun ts => ⟨fun hearly => ?_, fun hdue => ?_⟩⟩⟩
  · refine givesDev_onDev_as rfl ?_
    rintro _ rfl
    rw [Device.rangeEnd_eq hrun hstart hleft hop, if_pos hgap]
    have hend := Device.endCal_spec hrun false
    exact ⟨hend.cal, hend.calP, hend.ended, hend.execs⟩
  · refine givesDev_onDev_same rfl ?_
    rw [Device.rangeEnd_eq hrun hstart hleft hop, hgap, if_neg Bool.false_ne_true, if_pos hearly]
  · refine givesDev_onDev_as rfl ?_
    rintro _ rfl
    rw [Device.rangeEnd_eq hrun hstart hleft hop, hgap, if_neg Bool.false_ne_true, if_neg (by omega), hx]
    obtain ⟨hval, hmark, hevent⟩ := Device.endRange_commits (res := res) hs hi (Device.refGood vref) hu
    obtain ⟨huser, htcal, hmarks, -, -, -, -, -, hexecs⟩ := Device.val_fields hval
    exact ⟨huser, htcal, hmarks, hmark, hevent, hexecs.trans (Device.commitOf_execs hu)⟩
  · refine givesDev_onDev_as rfl ?_
    rintro _ rfl
    rw [Device.rangeEnd_eq hrun hstart hleft hop, hgap, if_neg Bool.false_ne_true, if_neg (by omega), hx]
    exact Device.endRange_disturbed hs hi (Device.refGood vref)
  · refine givesDev_onDev_as rfl ?_
    rintro _ rfl
    rw [Device.rangeEnd_eq hrun hstart hleft hop, hgap, if_neg Bool.false_ne_true, if_neg (by omega)]
    obtain ⟨hval, hmark, hevent⟩ := Device.endRange_fails hs hi (Device.refGood vref) hres hfew hx
    obtain ⟨huser, -, -, -, -, -, -, -, hexecs⟩ := Device.val_fields hval
    exact ⟨huser, hmark, hevent, hexecs⟩
  · refine givesDev_onDev_same rfl ?_
    rw [Device.tapEnd_eq hrun hstart hleft hop pairs vref hz, if_pos (show s.dev.edge < b + 256 * (Device.tapPairs pairs).length from hearly)]
  · refine givesDev_onDev_as rfl ?_
    rintro _ rfl
    rw [Device.tapEnd_eq hrun hstart hleft hop pairs vref hz,
      if_neg (show ¬ s.dev.edge < b + 256 * (Device.tapPairs pairs).length from Nat.not_lt.mpr hdone), if_neg (by rw [hagree]; decide)]
    obtain ⟨htaps, huser, hexecs⟩ := Device.tapDone_spec (d := s.dev) (r := r) (p := p) (Device.refGood vref) hohm
    rw [htaps]
    exact ⟨tabGet_tabSet_same .., fun j hj => tabGet_tabSet_other _ _ _ hj, huser, hexecs⟩
  · refine givesDev_onDev_as rfl ?_
    rintro _ rfl
    rw [Device.tapEnd_eq hrun hstart hleft hop pairs vref hz,
      if_neg (show ¬ s.dev.edge < b + 256 * (Device.tapPairs pairs).length from Nat.not_lt.mpr hdone), if_pos hagree]
    obtain ⟨huser, -, -, htaps, -, -, -, -, hexecs⟩ := Device.val_fields (Device.NextOnly.nextStep (Device.refGood vref) s.dev).keeps.part
    exact ⟨htaps, huser, hexecs⟩
  · refine givesDev_onDev_as rfl ?_
    rintro _ rfl
    rw [Device.rmuEnd_eq hrun hstart hleft hop, if_neg (by rw [hx]; simp), if_pos hx]
    obtain ⟨hq, hvals, hevent, hdist, hexecs⟩ := s.dev.meterDisturbed_spec (Device.refGood vref) r.req
    exact ⟨hq, hvals, hevent, hdist, hexecs⟩
  · refine givesDev_onDev_same rfl ?_
    rw [Device.rmuEnd_eq hrun hstart hleft hop, if_pos ⟨hx, hearly⟩]
  · refine givesDev_onDev_as rfl ?_
    rintro _ rfl
    rw [Device.rmuEnd_eq hrun hstart hleft hop, if_neg (fun h => absurd h.2 (Nat.not_lt.mpr hdone)), if_neg (by rw [hx]; decide),
      if_pos (show Device.meterGood (10 * s.dev.fget 0x6000C 0 7) (Device.triedBy (10 * s.dev.fget 0x6000C 0 7) 3 x.zeros)
        (Device.triedBy (10 * s.dev.fget 0x6000C 0 7) 3 x.fulls) = true from hgood)]
    obtain ⟨hval, hevent⟩ := s.dev.meterCommitted_spec (Device.refGood vref) r.req.target i x
    obtain ⟨-, -, -, -, hq, hvals, huncal, -, hexecs⟩ := Device.val_fields hval
    obtain ⟨hfq, hfvals, hfuncal, hfexecs⟩ := s.dev.withMeterFit_spec (Device.meterKey r.req.target i) x
    rw [hq, hfq, hvals, hfvals, huncal, hfuncal]
    refine ⟨tabGet_tabSet_same .., tabGet_tabSet_same .., fun hmem => ?_, hevent, hexecs.trans hfexecs⟩
    have hne := (List.mem_filter.mp hmem).2
    exact absurd hne (by simp [Device.meterKey])
  · refine givesDev_onDev_as rfl ?_
    rintro _ rfl
    have hbad : ¬ Device.meterGood (10 * s.dev.fget 0x6000C 0 7) (Device.triedBy (10 * s.dev.fget 0x6000C 0 7) 3 x.zeros)
        (Device.triedBy (10 * s.dev.fget 0x6000C 0 7) 3 x.fulls) = true := Bool.eq_false_iff.mp hgood
    rw [Device.rmuEnd_eq hrun hstart hleft hop, if_neg (fun h => absurd h.2 (Nat.not_lt.mpr hdone)), if_neg (by rw [hx]; decide), if_neg hbad]
    obtain ⟨hval, hevent⟩ := s.dev.meterFails_spec (Device.refGood vref) r.req.target i hm hres hfew
    obtain ⟨-, -, -, -, hq, -, huncal, -, hexecs⟩ := Device.val_fields hval
    obtain ⟨huq, huuncal, huexecs, -, -⟩ := s.dev.withMeterUncal_spec (Device.meterKey r.req.target i)
    refine ⟨hq.trans huq, ?_, hevent, hexecs.trans huexecs⟩
    rw [huncal, huuncal]
    exact List.mem_cons_self
  · rcases hc with ⟨rfl, hadm, hgo⟩ | ⟨rfl, he, hdue⟩
    · refine save_gives (f := fun m d => if d.admits w 0x60014 then d.calSave m w.data true else (m, d.turnAway w 0x60014)) rfl ?_
      rw [if_pos hadm, Device.calSave_go _ _ hgo]
    · exact save_gives (f := fun m d => d.saveTimer m true) rfl (Device.saveTimer_due he hdue _ _)
  · refine givesMem_onMem (f := fun m d => if d.admits w 0x60014 then d.calSave m w.data false else (m, d.turnAway w 0x60014)) rfl ?_
    rw [if_pos hadm, Device.calSave_go _ _ hgo, Device.saveCal_false]
    obtain ⟨hevent, huser, hrd⟩ := s.dev.saveFails_spec (!s.dev.flag 0x60004 2)
    obtain ⟨hddr, hhost⟩ := Device.eraseCopy_beside s.mem (!s.dev.flag 0x60004 2)
    exact ⟨hevent, Device.flag_eq_of_rd_eq (hrd _ (by decide) (by decide)) 2, Device.flag_eq_of_rd_eq (hrd _ (by decide) (by decide)) 3, hrd _ (by decide) (by decide),
      huser, hddr, hhost, fun a ha => Device.flashRead_eraseCopy _ _ ha⟩
  · refine givesDev_write_as rfl hadm ?_
    rintro _ rfl
    rw [Device.vuWrite_eq, if_neg]
    · obtain ⟨huser, hchan, hexecs⟩ := s.dev.vuDone_spec w.by_ w.data
      unfold Device.userVal
      rw [huser]
      exact ⟨tabGet_tabSet_same .., fun j hj => tabGet_tabSet_other _ _ _ hj, hchan, hexecs⟩
    · rintro (h | h | h)
      · exact absurd (hcal.symm.trans h) (by decide)
      · exact hpath h
      · exact hitem h
  · refine givesDev_write_as rfl hadm ?_
    rintro _ rfl
    exact s.dev.epochWrite_spec w.data
  · refine givesDev_onDev_same rfl ?_
    rw [s.dev.second_early hearly]
  · refine givesDev_onDev_as rfl ?_
    rintro _ rfl
    exact s.dev.second_spec hdue
  · refine givesDev_onDev_same rfl ?_
    rw [Device.readSensors_eq, if_pos hearly]
  · refine givesDev_onDev_as rfl ?_
    rintro _ rfl
    rw [Device.readSensors_eq, if_neg (Nat.not_lt.mpr hdue)]
    obtain ⟨hshown, hplant, hrd⟩ := s.dev.sensedNow.sensorsShown_spec ts 16
    obtain ⟨hnplant, hnrd⟩ := s.dev.sensedNow_spec
    exact ⟨hshown, hplant.trans hnplant, fun a ha => (hrd a ha).trans (hnrd a)⟩

end Sys2Proof.Machine
end

section
/-!
SUPPORT. Engines at work (R212 to R247): what a command of one engine leaves alone, and what the steps of its transaction make of the engine.
-/

namespace Sys2Proof.Machine

-- One proof after another: the stacks of the threads that elaborate many at once exceed the memory of a check.
set_option Elab.async false

namespace Device

/-- Registers of the capture buffers, which take the marks (R245). -/
def lineRegs (a : Nat) : Prop := 0xC0000 ≤ a ∧ a < 0x100000

/-- Those and the registers that engine `e` shows what it meets in: BUS_EVENT, its event register, its counters and what it measured (R248). -/
def busRegs (e a : Nat) : Prop := lineRegs a ∨ a = aBUS 0 ∨ (aENG e 0x24 ≤ a ∧ a < aENG e 0x34)

/-- What a command of engine `e` leaves alone beside the registers. -/
def aside (e : Nat) (d : Device) : Nat × Tab Chan × List Exec × Tab Axis × Matrix × (Nat → Engine) :=
  (d.edge, d.chan, d.execs, d.axes, d.mx, fun g => if g = e then Engine.init else d.eng g)

theorem aside_plant {e : Nat} (x : Device) : aside e x.plant = aside e x := rfl

/-- Marks, reports and the engine itself. -/
abbrev LineOnly (e : Nat) (d u : Device) : Prop := Keeps lineRegs (aside e) d u

/-- Marks, reports, the engine itself and the registers in which it shows what it meets. -/
abbrev EngineOnly (e : Nat) (d u : Device) : Prop := Keeps (busRegs e) (aside e) d u

section
variable {e : Nat} {d u : Device}

theorem LineOnly.engine (h : LineOnly e d u) : EngineOnly e d u := h.mono fun _ => .inl

/-- Marks and reports reach no register from the channels' on. -/
theorem LineOnly.rd (h : LineOnly e d u) {a : Nat} (ha : 0x100000 ≤ a) : u.rd a = d.rd a :=
  h.regs a (fun hm => absurd hm.2 (by omega)) (reportReg_of_ge ha)

theorem aside_parts (h : aside e u = aside e d) : u.edge = d.edge ∧ u.chan = d.chan ∧ u.execs = d.execs ∧ u.axes = d.axes ∧ u.mx = d.mx ∧
    ∀ g, g ≠ e → u.eng g = d.eng g := by
  unfold aside at h
  obtain ⟨hedge, hchan, hexecs, haxes, hmx, heng⟩ := by simpa only [Prod.mk.injEq] using h
  refine ⟨hedge, hchan, hexecs, haxes, hmx, fun g hg => ?_⟩
  have hg' := congrFun heng g
  rwa [if_neg hg, if_neg hg] at hg'

namespace EngineOnly

theorem edge (h : EngineOnly e d u) : u.edge = d.edge := (aside_parts h.part).1

theorem nowU (h : EngineOnly e d u) : u.nowU = d.nowU := by rw [Device.nowU, Device.nowU, h.edge]

theorem only (h : EngineOnly e d u) : d.onlyEngine e u := by
  obtain ⟨-, hchan, hexecs, haxes, hmx, heng⟩ := aside_parts h.part
  exact ⟨heng, hchan, hexecs, haxes, hmx⟩

/-- The engine's settings stay. -/
theorem setting (h : EngineOnly e d u) {o : Nat} (ho : o < 0x24) : u.rd (aENG e o) = d.rd (aENG e o) := by
  refine h.regs _ ?_ (reportReg_of_ge (by unfold aENG; omega))
  unfold busRegs lineRegs aENG aBUS
  omega

theorem engRole (h : EngineOnly e d u) : u.engRole e = d.engRole e := fget_of_rd (h.setting (by decide)) ..

theorem engOn (h : EngineOnly e d u) : u.engOn e = d.engOn e := flag_eq_of_rd_eq (h.setting (by decide)) ..

theorem canTiming (h : EngineOnly e d u) : u.canTiming e = d.canTiming e := by
  unfold Device.canTiming
  rw [fget_of_rd (h.setting (o := 8) (by decide)), fget_of_rd (h.setting (o := 0xC) (by decide)), fget_of_rd (h.setting (o := 0xC) (by decide)),
    fget_of_rd (h.setting (o := 0x10) (by decide)), fget_of_rd (h.setting (o := 0x14) (by decide)), fget_of_rd (h.setting (o := 0x14) (by decide))]

variable (he : e < 120)
include he

/-- The entries of transactions stay (R230). -/
theorem entryWord (h : EngineOnly e d u) (x w : Nat) : u.rd (aTE x w) = d.rd (aTE x w) := by
  refine h.regs _ ?_ (reportReg_of_ge (by unfold aTE; omega))
  unfold busRegs lineRegs aTE aENG aBUS
  omega

theorem te (h : EngineOnly e d u) (x w lo n : Nat) : u.te x w lo n = d.te x w lo n := fget_of_rd (h.entryWord he x w) ..

theorem teOp (h : EngineOnly e d u) (x : Nat) : u.teOp x = d.teOp x := h.te he ..

end EngineOnly

theorem LineOnly.andThen {f : Device} (h : LineOnly e d f) (h' : LineOnly e f u) : LineOnly e d u := h.trans h'

theorem LineOnly.only (h : LineOnly e d u) : d.onlyEngine e u := h.engine.only

theorem EngineOnly.andThen {f : Device} (h : EngineOnly e d f) (h' : EngineOnly e f u) : EngineOnly e d u := h.trans h'

theorem EngineOnly.line {f : Device} (h : EngineOnly e d f) (h' : LineOnly e f u) : EngineOnly e d u := h.andThen h'.engine

/-! What changes the engine, and nothing else. -/

namespace LineOnly

theorem setEng (e : Nat) (g : Engine) (d : Device) : LineOnly e d (d.setEng e g) := by
  refine .of_rd (fun _ => rfl) ?_
  unfold aside
  rw [setEng_edge, setEng_chan, setEng_execs, setEng_axes, setEng_mx]
  refine congrArg _ (congrArg _ (congrArg _ (congrArg _ (congrArg _ (funext fun k => ?_)))))
  by_cases hk : k = e
  · rw [if_pos hk, if_pos hk]
  · rw [if_neg hk, if_neg hk, setEng_other _ _ _ _ hk]

theorem setHead (e : Nat) (t : Tx) (d : Device) : LineOnly e d (d.setHead e t) := setEng ..

theorem freeSkip (n : Nat) (d : Device) : LineOnly e d (d.freeSkip n) := .of_rd (fun _ => rfl) rfl

theorem capEntry {b : Nat} (hb : b < 64) (bs : List Byte) (d : Device) : LineOnly e d (d.capEntry b bs) := by
  have hreg {o : Nat} (ho : o < 0x20) : lineRegs (aCB b o) := by
    unfold lineRegs aCB
    omega
  have hfull (f : Device) : LineOnly e f (f.fsetB (aCB b 0x14) 0 true) := .fsetB aside_plant (hreg (by decide)) ..
  unfold Device.capEntry
  dsimp only
  refine .ite ((hfull d).trans (.bump aside_plant (hreg (by decide)) ..)) ?_
  have hput (x : CapBuf) (a : Nat) : LineOnly e d ((d.setCapBuf b x).toDdr a bs) := .of_rd (fun _ => rfl) rfl
  exact .ite (Keeps.trans (hput _ _) (hfull _)) (hput _ _)

theorem putMark {b : Nat} (hb : b < 64) (g frame : Nat) (m : Mark) (d : Device) : LineOnly e d (d.putMark b g frame m) :=
  .ite (.refl ..) (.ite (.event aside_plant (by unfold lineRegs; decide) ..) (capEntry hb ..))

theorem markAll (g : Nat) (t : Tx) (ms : List Mark) (d : Device) : LineOnly e d (d.markAll g t ms) :=
  .ite (.refl ..) (.foldl (fun f m _ => putMark (bitsOf_lt (f.rd _) 26 6) g t.frameNo m f) _)

theorem wireEvent (g detail : Nat) (d : Device) : LineOnly e d (d.wireEvent g detail) := .report aside_plant ..

theorem decide_ (e : Nat) (t : Tx) (o : Nat) (d : Device) : LineOnly e d (d.decide_ e t o) :=
  .ite ((setHead ..).trans (wireEvent ..)) (setHead ..)

theorem cutWave (e : Nat) (d : Device) : LineOnly e d (d.cutWave e) := by
  obtain h | ⟨c, h, rfl | ⟨t, ms, rfl⟩⟩ := cutWave_cases d e
  · rw [h]
    exact .refl ..
  · rw [h]
    exact setEng ..
  · rw [h]
    exact (markAll ..).trans (setEng ..)

end LineOnly

/-! The registers in which an engine shows what it meets. -/

namespace EngineOnly
variable {o : Nat}

theorem ownReg (h : 0x24 ≤ o ∧ o < 0x34) : busRegs e (aENG e o) := .inr (.inr (by unfold aENG; omega))

theorem event (ho : 0x24 ≤ o ∧ o < 0x34) (i : Nat) (d : Device) : EngineOnly e d (d.event (aENG e o) i) := Keeps.event aside_plant (ownReg ho) i d
theorem wr (ho : 0x24 ≤ o ∧ o < 0x34) (v : Word) (d : Device) : EngineOnly e d (d.wr (aENG e o) v) := Keeps.wr aside_plant (ownReg ho) v d
theorem bump (ho : 0x24 ≤ o ∧ o < 0x34) (lo n : Nat) (d : Device) : EngineOnly e d (d.bump (aENG e o) lo n) := Keeps.bump aside_plant (ownReg ho) lo n d

end EngineOnly

/-! What the steps make of the engine. -/

theorem headTx_of_eng (h : u.eng e = d.eng e) : u.headTx e = d.headTx e := congrArg (fun g : Engine => g.txs.head?) h

theorem eng_of_plant (h : u.plant = d.plant) (g : Nat) : u.eng g = d.eng g := eq_of_plant (fun x => x.eng g) h

@[simp] theorem setHead_eng (e : Nat) (t : Tx) (d : Device) : (d.setHead e t).eng e = { d.eng e with txs := t :: (d.eng e).txs.tail } := setEng_same ..

@[simp] theorem setHead_headTx (e : Nat) (t : Tx) (d : Device) : (d.setHead e t).headTx e = some t := by
  rw [headTx, setHead_eng]
  rfl

@[simp] theorem event_eng (a i g : Nat) (d : Device) : (d.event a i).eng g = d.eng g := eng_of_plant (event_plant ..) g

@[simp] theorem wr_eng (a : Nat) (v : Word) (g : Nat) (d : Device) : (d.wr a v).eng g = d.eng g := rfl

@[simp] theorem bump_eng (a lo n g : Nat) (d : Device) : (d.bump a lo n).eng g = d.eng g := eng_of_plant (fset_plant ..) g

@[simp] theorem wireEvent_eng (e x g : Nat) (d : Device) : (d.wireEvent e x).eng g = d.eng g := eng_of_plant (report_plant ..) g

@[simp] theorem markAll_eng (e : Nat) (t : Tx) (ms : List Mark) (g : Nat) (d : Device) : (d.markAll e t ms).eng g = d.eng g := by
  obtain ⟨-, -, heng, -⟩ := (body_eq_iff _).1 (markAll_body d e t ms)
  exact eng_eq_of_engines_eq heng g

@[simp] theorem decide_eng (e : Nat) (t : Tx) (o : Nat) (d : Device) : (d.decide_ e t o).eng e =
    { d.eng e with txs := { t with phase := .decided, outcome := o, decidedAt := d.edge } :: (d.eng e).txs.tail } := by
  unfold Device.decide_
  dsimp only
  split
  · rw [wireEvent_eng, setHead_eng]
  · exact setHead_eng ..

@[simp] theorem decide_headTx (e : Nat) (t : Tx) (o : Nat) (d : Device) :
    (d.decide_ e t o).headTx e = some { t with phase := .decided, outcome := o, decidedAt := d.edge } := by
  rw [headTx, decide_eng]
  rfl

theorem cutWave_of_none (h : (d.eng e).wave = none) : d.cutWave e = d := by
  unfold cutWave
  simp only [h]

/-- An engine without anything on its wire is as after a cut. -/
theorem eng_eq_cut (h : (d.eng e).wave = none) : d.eng e = { d.eng e with wave := none } := by
  generalize d.eng e = g at h ⊢
  cases g
  exact congrArg (fun w => Engine.mk _ _ _ _ _ _ _ w _ _ _ _ _ _ _) h

@[simp] theorem cutWave_eng (e : Nat) (d : Device) : (d.cutWave e).eng e = { d.eng e with wave := none } := by
  cases hw : (d.eng e).wave with
  | none => rw [cutWave_of_none hw, ← eng_eq_cut hw]
  | some w =>
    unfold cutWave
    simp only [hw]
    rw [setEng_same]
    split
    · split
      · rw [markAll_eng]
      · rfl
    · rfl

/-- A command of an engine that is awake runs. -/
theorem awake_of_clock (k : Device → Device) (h : d.flag 0x10000 14 = false) : d.awake k = k d := if_neg (by rw [h]; decide)

end

end Device

end Sys2Proof.Machine
end

section
/-!
PROOF. O38: LIN frames of a commander and of a responder (R222, R223, R231).
-/

namespace Sys2Proof.Machine

-- One proof after another: the stacks of the threads that elaborate many at once exceed the memory of a check.
set_option Elab.async false

namespace Device

section
variable {e : Nat} {d u : Device}

/-! What a frame is made of stays (R222, R229, R230). -/

namespace EngineOnly

theorem linHead (h : EngineOnly e d u) (ident : Nat) : u.linHead e ident = d.linHead e ident := by
  unfold Device.linHead
  rw [fget_of_rd (h.setting (o := 8) (by decide)), fget_of_rd (h.setting (o := 0x18) (by decide)), fget_of_rd (h.setting (o := 0x18) (by decide))]

theorem linHeadBits (h : EngineOnly e d u) : u.linHeadBits e = d.linHeadBits e := by
  unfold Device.linHeadBits
  rw [fget_of_rd (h.setting (o := 0x18) (by decide)), fget_of_rd (h.setting (o := 0x18) (by decide))]

theorem rate (h : EngineOnly e d u) : u.fget (aENG e 8) 0 24 = d.fget (aENG e 8) 0 24 := fget_of_rd (h.setting (by decide)) ..

theorem linLimit (h : EngineOnly e d u) (n : Nat) : u.linLimit e n = d.linLimit e n := by
  unfold Device.linLimit
  rw [h.rate]

variable (he : e < 120)
include he

theorem linBytes (h : EngineOnly e d u) (x : Nat) : u.linBytes x = d.linBytes x := by
  unfold Device.linBytes
  rw [h.te he, h.te he]

theorem linWith (h : EngineOnly e d u) (x ident : Nat) (bs : List Byte) : u.linWith x ident bs = d.linWith x ident bs := by
  unfold Device.linWith linSumPid
  rw [flag_eq_of_rd_eq (h.entryWord he x 0) 22]

theorem reqBytes (h : EngineOnly e d u) (m : Mem) (x : Nat) : u.reqBytes m x = d.reqBytes m x := by
  have hbase : u.rd (aBUS 0x10) = d.rd (aBUS 0x10) :=
    h.regs _ (by unfold busRegs lineRegs aENG aBUS; omega) (reportReg_of_ge (by decide))
  unfold Device.reqBytes areaAt
  rw [hbase, h.te he, h.te he, h.entryWord he]

end EngineOnly

/-! A transaction begins (R233, R247). -/

theorem beginTx_spec (d : Device) (e : Nat) (t : Tx) : EngineOnly e d (d.beginTx e t).1 ∧ (d.beginTx e t).1.headTx e = some (d.beginTx e t).2 ∧
    ∃ b, (d.beginTx e t).2 = { t with begun := some d.edge, bitMarks := b } := by
  have hevent : EngineOnly e d (d.event (aBUS 0) 2) := Keeps.event aside_plant (.inr (.inl rfl)) ..
  unfold beginTx
  dsimp only
  exact ⟨(Keeps.ite hevent (.refl ..)).trans (LineOnly.setHead ..).engine, setHead_headTx .., _, rfl⟩

/-- An operation that is due on an engine that is able runs. -/
theorem startOp_eq {op : Nat} {t : Tx} (hdue : d.txDue e op t) (hable : d.txAble e op) (k : Device → Tx → Device) :
    d.startOp e op k = k (d.beginTx e t).1 (d.beginTx e t).2 := by
  obtain ⟨hhead, hphase, hop, hready, hcapo, hclock⟩ := hdue
  obtain ⟨hfits, hoff, hlive, hhalted, hrole⟩ := hable
  have hsends : (opSends op && decide (d.engRole e ≠ 0)) = false := by
    cases hs : opSends op with
    | false => rfl
    | true => rw [hrole hs]; rfl
  unfold startOp
  rw [hhead]
  dsimp only
  rw [if_neg, if_neg (by rw [hfits]; decide), if_neg (by rw [hoff]; decide), if_neg (by rw [hlive, hhalted, hsends]; decide)]
  rintro (h | h | h | h | h)
  · exact h hphase
  · exact h hop
  · omega
  · exact hcapo h
  · rw [hclock] at h
    exact Bool.false_ne_true h

/-! A frame begins (R222, R223). -/

/-- What the start of a LIN frame makes of its transaction. -/
def LinBegun (d : Device) (e : Nat) (t : Tx) (next : Then) (w : Wave) (u : Device) : Prop :=
  (∃ due bad first, u.headTx e = some { t with phase := .sending, next := next, due := due, bad := bad, first := first }) ∧
  (u.eng e).wave = some w ∧ LineOnly e d u

theorem startLin_begun (d : Device) (e : Nat) (t : Tx) (next : Then) (u : Nat) (segs : List Seg) (lo own : Nat) (whole : Bool) :
    LinBegun d e t next ⟨u, segs⟩ (d.startLin e t next u segs lo own whole) := by
  unfold startLin
  dsimp only
  refine ⟨⟨_, _, _, setHead_headTx ..⟩, ?_, (LineOnly.setEng ..).trans (LineOnly.setHead ..)⟩
  rw [setHead_eng, setEng_same]

/-- A commander's frame: its header, and the bytes behind it where it publishes. -/
theorem linCommand_spec (d : Device) (e : Nat) (t : Tx) :
    (∃ v, (d.linCommand e t).headTx e = some v ∧ v.phase = .sending ∧ v.next = .lin ∧ v.lin = t.lin ∧ v.timer = t.timer ∧ v.limit = t.limit) ∧
    (∃ r, ((d.linCommand e t).eng e).wave = some ⟨d.nowU, d.linHead e (d.te t.entry 1 0 6) ++ r⟩ ∧
      (d.te t.entry 5 0 16 ≠ 0 →
        r = linBytesSegs (bitU (d.fget (aENG e 8) 0 24)) 0 (d.linHeadBits e) (d.linWith t.entry (d.te t.entry 1 0 6) (t.req.take 8)))) ∧
    LineOnly e d (d.linCommand e t) := by
  unfold linCommand
  dsimp only
  split
  · obtain ⟨⟨_, _, _, hhead⟩, hwave, honly⟩ := startLin_begun d e _ .lin _ _ _ _ _
    exact ⟨⟨_, hhead, rfl, rfl, rfl, rfl, rfl⟩, ⟨_, hwave, fun _ => rfl⟩, honly⟩
  next hpub =>
    obtain ⟨⟨_, _, _, hhead⟩, hwave, honly⟩ := startLin_begun d e _ .lin _ _ _ _ _
    exact ⟨⟨_, hhead, rfl, rfl, rfl, rfl, rfl⟩, ⟨_, hwave, fun h => absurd h hpub⟩, honly⟩

/-- A responder answers from its request, or takes what follows the header. -/
theorem linAnswer_spec (d : Device) (e : Nat) (t : Tx) (h : LinHeader) :
    (∃ v, (d.linAnswer e t h).headTx e = some v ∧ v.phase = .sending ∧ v.next = .lin ∧ v.lin = h.data ∧ v.reqEnd = d.edge ∧
      v.got = (if d.te t.entry 5 0 16 ≠ 0 then t.req.take 8
        else ((linUsed (d.linBytes t.entry) h.data.bytes).take (d.linBytes t.entry)).map LinByte.value)) ∧
    ((d.linAnswer e t h).eng e).wave.isSome = true ∧ LineOnly e d (d.linAnswer e t h) := by
  unfold linAnswer
  dsimp only
  split
  · obtain ⟨⟨_, _, _, hhead⟩, hwave, honly⟩ := startLin_begun d e _ .lin _ _ _ _ _
    exact ⟨⟨_, hhead, rfl, rfl, rfl, rfl, rfl⟩, by rw [hwave]; rfl, honly⟩
  · obtain ⟨⟨_, _, _, hhead⟩, hwave, honly⟩ := startLin_begun d e _ .lin _ _ _ _ _
    exact ⟨⟨_, hhead, rfl, rfl, rfl, rfl, rfl⟩, by rw [hwave]; rfl, honly⟩

/-! LINFRAME (R223, R231). -/

/-- The transaction of a commander as its frame begins. -/
def commandTx (d : Device) (m : Mem) (e : Nat) (x : LinData) (t : Tx) : Tx :=
  { t with req := d.reqBytes m t.entry, lin := x, timer := d.edge, limit := d.linLimit e (d.linBytes t.entry) }

theorem linStart_commander {m : Mem} {t : Tx} (x : LinData) (hdue : d.txDue e 4 t) (hable : d.txAble e 4) (hrole : d.engRole e = 0) :
    d.linStart m e x = (d.beginTx e t).1.linCommand e ((d.beginTx e t).1.commandTx m e x (d.beginTx e t).2) := by
  obtain ⟨honly, -⟩ := d.beginTx_spec e t
  rw [linStart, startOp_eq hdue hable]
  exact if_pos (honly.engRole.trans hrole)

theorem linStart_responder {m : Mem} {t : Tx} (x : LinData) (hdue : d.txDue e 4 t) (hable : d.txAble e 4) (hrole : d.engRole e ≠ 0) :
    d.linStart m e x = (d.beginTx e t).1.setHead e
      ((d.beginTx e t).1.awaitRsp { (d.beginTx e t).2 with req := (d.beginTx e t).1.reqBytes m (d.beginTx e t).2.entry }) := by
  obtain ⟨honly, -⟩ := d.beginTx_spec e t
  rw [linStart, startOp_eq hdue hable]
  exact if_neg (by rwa [honly.engRole])

/-! A header reaches a responder (R222, R223). -/

/-- What a responder does with a header, once the bit time is shown. -/
theorem linHeader_eq {t : Tx} {h : LinHeader} (hhears : d.linHears e = true) (hrole : d.engRole e ≠ 0) (hok : d.headerOk e h = true)
    (hhead : d.headTx e = some t) (hbegun : t.begun.isSome = true) (hphase : t.phase = .listening) (he : e < 120) (hop : d.teOp t.entry = 4) :
    d.linHeader e h =
      (let f := d.wr (aENG e 0x2C) (BitVec.ofNat 32 h.pulse.meas.toNat)
       if h.pid.toNat ≠ linPid (h.pid.toNat % 64) then
         ((f.markAll e t (f.headMarks h)).countRx e).decide_ e { t with first := some ((f.nowU - fineU h.pulse.back) / tsU) } 3
       else if h.pid.toNat % 64 ≠ f.te t.entry 1 0 29 then f.countRx e
       else f.linAnswer e t h) := by
  have honly : EngineOnly e d (d.wr (aENG e 0x2C) (BitVec.ofNat 32 h.pulse.meas.toNat)) := .wr (by decide) ..
  have hhead' : (d.wr (aENG e 0x2C) (BitVec.ofNat 32 h.pulse.meas.toNat)).headTx e = some t := (headTx_of_eng (wr_eng ..)).trans hhead
  unfold linHeader
  rw [if_neg (by simp [hhears, hrole, hok])]
  dsimp only
  rw [hhead']
  exact if_neg (by rw [hbegun, hphase, honly.teOp he, hop]; decide)

theorem countRx_rd (d : Device) {a : Nat} (h : a ≠ aENG e 0x28) : (d.countRx e).rd a = d.rd a := rd_fset_other _ _ _ _ h

theorem countRx_only (d : Device) (e : Nat) : EngineOnly e d (d.countRx e) := .bump (by decide) ..

@[simp] theorem countRx_eng (d : Device) (e g : Nat) : (d.countRx e).eng g = d.eng g := bump_eng ..

/-! The limits of frames (R223). -/

theorem linLate_frame {t : Tx} (hhead : d.headTx e = some t) (hphase : t.phase = .sending) (hnext : t.next = .lin) (hrole : d.engRole e = 0)
    (hdue : t.timer + t.limit ≤ d.edge) : d.linLate e = (d.cutWave e).decide_ e t 1 := by
  unfold linLate
  rw [hhead]
  dsimp only
  rw [if_neg (fun h => h hphase), if_pos ⟨hnext, hrole, hdue⟩]

theorem linLate_poll {t : Tx} (hhead : d.headTx e = some t) (hphase : t.phase = .sending) (hnext : t.next = .poll)
    (hdue : t.timer + d.linLimit e 8 ≤ d.edge) : d.linLate e = (d.cutWave e).pollWait e { t with frameNo := t.frameNo + 1 } := by
  unfold linLate
  rw [hhead]
  dsimp only
  rw [if_neg (fun h => h hphase), if_neg (fun h => by rw [hnext] at h; exact Then.noConfusion h.1), if_pos ⟨hnext, hdue⟩]

end

end Device

/-- Settles O38: a commander's frame and its limit, a responder's header. -/
theorem linFramesRun : Obligations.LinFramesRun := by
  unfold Obligations.LinFramesRun
  intro e t s
  refine ⟨fun x => ⟨fun hrole hdue hable => ?_, fun hrole hdue hable => ?_⟩, fun hclock hhead hphase => ⟨fun hnext hrole hlate => ?_, fun hnext hlate => ?_⟩,
    fun h hclock hhears hrole hok hhead hbegun hphase hop => ?_⟩
  · refine givesDev_onDev_as (f := fun d => d.linStart s.mem e x) rfl ?_
    rintro _ rfl
    obtain ⟨honly, -, b, hbegun⟩ := s.dev.beginTx_spec e t
    rw [Device.linStart_commander x hdue hable hrole]
    generalize (s.dev.beginTx e t).1 = f at honly ⊢
    rw [hbegun]
    obtain ⟨⟨v, hhead, hphase, hnext, hlin, htimer, hlimit⟩, ⟨r, hwave, hpub⟩, hline⟩ := f.linCommand_spec e (f.commandTx s.mem e x { t with begun := some s.dev.edge, bitMarks := b })
    refine ⟨⟨v, hhead, hphase, hnext, hlin, htimer.trans honly.edge, hlimit.trans ?_⟩, ⟨r, hwave.trans ?_, fun hne => (hpub ?_).trans ?_⟩, (honly.line hline).only⟩
    · exact (honly.linLimit _).trans (congrArg _ (honly.linBytes e.isLt _))
    · rw [honly.nowU, honly.linHead, show f.te (f.commandTx s.mem e x { t with begun := some s.dev.edge, bitMarks := b }).entry 1 0 6 = s.dev.te t.entry 1 0 6
        from honly.te e.isLt ..]
    · rwa [← honly.te e.isLt] at hne
    · rw [honly.rate, honly.linHeadBits, honly.linWith e.isLt, honly.te e.isLt]
      exact congrArg (fun l : List Byte => linBytesSegs _ _ _ (s.dev.linWith t.entry _ (l.take 8))) (honly.reqBytes e.isLt ..)
  · refine givesDev_onDev_as (f := fun d => d.linStart s.mem e x) rfl ?_
    rintro _ rfl
    obtain ⟨honly, -, b, hbegun⟩ := s.dev.beginTx_spec e t
    rw [Device.linStart_responder x hdue hable hrole, hbegun]
    exact ⟨⟨_, Device.setHead_headTx .., rfl, rfl⟩, (honly.line (.setHead ..)).only⟩
  · refine givesDdr_onDdr_as rfl ?_
    rintro _ rfl
    rw [Device.awake_of_clock _ hclock, Device.linLate_frame hhead hphase hnext hrole hlate]
    refine ⟨⟨_, Device.decide_headTx .., rfl, rfl⟩, ?_, ((Device.LineOnly.cutWave ..).andThen (.decide_ ..)).only⟩
    rw [Device.decide_eng, Device.cutWave_eng]
  · refine givesDdr_onDdr_as rfl ?_
    rintro _ rfl
    rw [Device.awake_of_clock _ hclock, Device.linLate_poll hhead hphase hnext hlate]
    refine ⟨⟨_, Device.setHead_headTx .., rfl⟩, ?_, ((Device.LineOnly.cutWave ..).andThen (.setHead ..)).only⟩
    rw [Device.pollWait, Device.setHead_eng, Device.cutWave_eng]
  · refine givesDdr_onDdr_as rfl ?_
    rintro _ rfl
    rw [Device.awake_of_clock _ hclock, Device.linHeader_eq hhears hrole hok hhead hbegun hphase e.isLt hop]
    have honly : Device.EngineOnly e s.dev (s.dev.wr (aENG e 0x2C) (BitVec.ofNat 32 h.pulse.meas.toNat)) := .wr (by decide) ..
    have hmeas : (s.dev.wr (aENG e 0x2C) (BitVec.ofNat 32 h.pulse.meas.toNat)).rd (aENG e 0x2C) = BitVec.ofNat 32 h.pulse.meas.toNat := Device.rd_wr_same ..
    have heng : (s.dev.wr (aENG e 0x2C) (BitVec.ofNat 32 h.pulse.meas.toNat)).eng e = s.dev.eng e := Device.wr_eng ..
    generalize s.dev.wr (aENG e 0x2C) (BitVec.ofNat 32 h.pulse.meas.toNat) = f at honly hmeas heng ⊢
    dsimp only
    have hcount : (f.countRx e).rd (aENG e 0x2C) = f.rd (aENG e 0x2C) := f.countRx_rd (by unfold aENG; omega)
    by_cases hpid : h.pid.toNat = linPid (h.pid.toNat % 64)
    · rw [if_neg (fun hne => hne hpid)]
      by_cases hid : h.pid.toNat % 64 = s.dev.te t.entry 1 0 29
      · rw [if_neg (fun hne => hne (hid.trans (honly.te e.isLt ..).symm))]
        obtain ⟨⟨v, hv, hvphase, hnext, hlin, hreq, hgot⟩, hwave, hline⟩ := f.linAnswer_spec e t h
        refine ⟨⟨fun hne => absurd hpid hne, fun _ hne => absurd hid hne, fun _ _ => ⟨⟨v, hv, hvphase, hnext, hlin, hreq.trans honly.edge, ?_⟩, hwave⟩⟩,
          (hline.rd (by unfold aENG; omega)).trans hmeas, (honly.line hline).only⟩
        rw [hgot, honly.te e.isLt, honly.linBytes e.isLt]
      · rw [if_pos (fun heq => hid (heq.trans (honly.te e.isLt ..)))]
        exact ⟨⟨fun hne => absurd hpid hne, fun _ _ => congrArg Engine.txs ((Device.countRx_eng ..).trans heng), fun _ heq => absurd heq hid⟩,
          hcount.trans hmeas, (honly.andThen (f.countRx_only e)).only⟩
    · rw [if_pos hpid]
      have hmark : Device.LineOnly e f (f.markAll e t (f.headMarks h)) := .markAll ..
      generalize f.markAll e t (f.headMarks h) = g at hmark ⊢
      have hdec : Device.LineOnly e (g.countRx e) ((g.countRx e).decide_ e { t with first := some ((f.nowU - fineU h.pulse.back) / tsU) } 3) := .decide_ ..
      refine ⟨⟨fun _ => ⟨_, Device.decide_headTx .., rfl, rfl⟩, fun heq => absurd heq hpid, fun heq => absurd heq hpid⟩, ?_,
        (((honly.line hmark).andThen (g.countRx_only e)).line hdec).only⟩
      exact (hdec.rd (by unfold aENG; omega)).trans ((g.countRx_rd (by unfold aENG; omega)).trans ((hmark.rd (by unfold aENG; omega)).trans hmeas))

end Sys2Proof.Machine
end

section
/-!
SUPPORT. CAN frames that an engine receives (R217, R219 to R221, R231).
-/

namespace Sys2Proof.Machine

-- One proof after another: the stacks of the threads that elaborate many at once exceed the memory of a check.
set_option Elab.async false

namespace Device

section
variable {e : Nat} {d u : Device}

/-! What a received frame is held against stays (R219, R220). -/

namespace EngineOnly
variable (he : e < 120)
include he

theorem isoAddr (h : EngineOnly e d u) (x : Nat) : u.isoAddr x = d.isoAddr x := by
  unfold Device.isoAddr
  rw [h.te he, h.te he]

theorem isoSize (h : EngineOnly e d u) (x : Nat) : u.isoSize x = d.isoSize x := by
  unfold Device.isoSize
  rw [h.te he, h.te he]

theorem isoBody (h : EngineOnly e d u) (x : Nat) (f : CanFrame) : u.isoBody x f = d.isoBody x f := by
  unfold Device.isoBody
  rw [h.isoAddr he]

theorem isoCfs (h : EngineOnly e d u) (x : Nat) (req : List Byte) (n sent sn : Nat) : u.isoCfs x req n sent sn = d.isoCfs x req n sent sn := by
  induction n generalizing sent sn with
  | zero => rfl
  | succ n ih =>
    unfold Device.isoCfs
    dsimp only
    rw [h.isoAddr he, h.isoSize he, ih]

theorem expects (h : EngineOnly e d u) (t : Tx) (f : CanFrame) : u.expects t f = d.expects t f := by
  unfold Device.expects
  dsimp only
  rw [h.teOp he, h.te he, h.te he, h.te he, h.te he]

end EngineOnly

theorem expects_parts {t : Tx} {f : CanFrame} (h : d.expects t f = true) : t.begun.isSome = true ∧
    (t.phase = .listening ∨ t.phase = .flow ∨ t.phase = .taking) ∧ (d.teOp t.entry = 1 ∨ d.teOp t.entry = 2 ∨ d.teOp t.entry = 3) := by
  unfold expects at h
  simp only [Bool.and_eq_true, decide_eq_true_eq] at h
  obtain ⟨⟨⟨⟨⟨hbegun, hphase⟩, hop⟩, -⟩, -⟩, -⟩ := h
  exact ⟨hbegun, hphase, hop⟩

theorem expects_of_pausing {t : Tx} (f : CanFrame) (h : t.phase = .pausing) : d.expects t f = false := by
  refine Bool.eq_false_iff.mpr fun hx => ?_
  obtain ⟨-, hphase, -⟩ := expects_parts hx
  rw [h] at hphase
  simp at hphase

/-! A frame is received whole (R217, R219). -/

theorem setEng_headTx (g : Engine) (h : g.txs = (d.eng e).txs) : (d.setEng e g).headTx e = d.headTx e := by
  rw [headTx, setEng_same, h, headTx]

theorem canOk_only (d : Device) (e : Nat) (sent : Bool) : LineOnly e d (d.canOk e sent) ∧ ((d.canOk e sent).eng e).txs = (d.eng e).txs := by
  cases sent with
  | true => exact ⟨.setEng .., by rw [canOk, if_pos rfl, setEng_same]⟩
  | false => exact ⟨.setEng .., by rw [canOk, if_neg Bool.false_ne_true, setEng_same]⟩

/-- The engine once a frame is counted, before a transaction that lost arbitration goes on. -/
def canGot (d : Device) (e : Nat) : Device :=
  let d := (d.countRx e).canOk e false
  d.setEng e { d.eng e with idleAt := d.nowU + 3 * (d.canTiming e).nom }

theorem canHeard_eq (d : Device) (e : Nat) : d.canHeard e = (d.canGot e).resume e := rfl

/-- A frame received is counted in BUS_ECNT (R249). -/
def Counted (e : Nat) (d u : Device) : Prop := u.fget (aENG e 0x28) 16 16 = (d.fget (aENG e 0x28) 16 16 + 1) % 2 ^ 16

theorem countRx_counted (d : Device) (e : Nat) : Counted e d (d.countRx e) := fget_fset_same _ _ _ (by decide)

theorem Counted.line {f : Device} (h : Counted e d f) (h' : LineOnly e f u) : Counted e d u :=
  (fget_of_rd (h'.rd (by unfold aENG; omega)) 16 16).trans h

theorem canGot_spec (d : Device) (e : Nat) : EngineOnly e d (d.canGot e) ∧ Counted e d (d.canGot e) ∧ ((d.canGot e).eng e).txs = (d.eng e).txs := by
  obtain ⟨hok, htxs⟩ := (d.countRx e).canOk_only e false
  have hcount := (d.countRx_counted e).line hok
  have honly := (d.countRx_only e).line hok
  unfold canGot
  dsimp only
  generalize (d.countRx e).canOk e false = f at honly hcount htxs ⊢
  refine ⟨honly.line (.setEng ..), hcount.line (.setEng ..), ?_⟩
  rw [setEng_same]
  exact htxs.trans (congrArg Engine.txs (countRx_eng ..))

theorem resume_of_settled (h : ∀ t, d.headTx e = some t → t.phase ≠ .pausing ∨ t.due.isSome = true) : d.resume e = d := by
  unfold resume
  split
  next t ht =>
    refine if_neg fun hw => ?_
    obtain hp | hd := h t ht
    · exact hp hw.1
    · rw [hw.2] at hd
      exact Bool.false_ne_true hd
  · rfl

theorem resume_pausing {t : Tx} (hhead : d.headTx e = some t) (hphase : t.phase = .pausing) (hdue : t.due = none) :
    d.resume e = d.setHead e { t with due := some (d.eng e).idleAt } := by
  unfold resume
  rw [hhead]
  exact if_pos ⟨hphase, hdue⟩

/-- The engine after a frame that leaves its transaction alone. -/
theorem canHeard_settled {t : Tx} (hhead : d.headTx e = some t) (h : t.phase ≠ .pausing ∨ t.due.isSome = true) :
    EngineOnly e d (d.canHeard e) ∧ Counted e d (d.canHeard e) ∧ ((d.canHeard e).eng e).txs = (d.eng e).txs := by
  obtain ⟨honly, hcount, htxs⟩ := d.canGot_spec e
  have hhead' : (d.canGot e).headTx e = some t := (congrArg List.head? htxs).trans hhead
  have hsame := resume_of_settled (d := d.canGot e) (e := e) fun v hv => by
    obtain rfl := Option.some.inj (hhead'.symm.trans hv)
    exact h
  rw [canHeard_eq, hsame]
  exact ⟨honly, hcount, htxs⟩

/-- A transaction that waits for the bus goes on waiting. -/
theorem canHeard_pausing {t : Tx} (hhead : d.headTx e = some t) (hphase : t.phase = .pausing) (hdue : t.due = none) :
    EngineOnly e d (d.canHeard e) ∧ Counted e d (d.canHeard e) ∧ ∃ v, (d.canHeard e).headTx e = some v ∧ v.phase = .pausing := by
  obtain ⟨honly, hcount, htxs⟩ := d.canGot_spec e
  have hhead' : (d.canGot e).headTx e = some t := (congrArg List.head? htxs).trans hhead
  rw [canHeard_eq, resume_pausing hhead' hphase hdue]
  exact ⟨honly.line (.setHead ..), hcount.line (.setHead ..), _, setHead_headTx .., hphase⟩

/-- A frame that the transaction under way does not expect is counted only. -/
theorem canReceive_unexpected {t : Tx} {f : CanRx} (he : e < 120) (hhears : d.canHears e = true) (hhead : d.headTx e = some t) (hx : d.expects t f.frame = false) :
    d.canReceive e f = d.canHeard e ∧ EngineOnly e d (d.canHeard e) ∧ Counted e d (d.canHeard e) ∧
    (t.phase ≠ .pausing ∨ t.due.isSome = true → ((d.canHeard e).eng e).txs = (d.eng e).txs) := by
  unfold canReceive
  rw [if_neg (by rw [hhears]; decide)]
  dsimp only
  by_cases hset : t.phase ≠ .pausing ∨ t.due.isSome = true
  · obtain ⟨honly, hcount, htxs⟩ := canHeard_settled hhead hset
    have hhead' : (d.canHeard e).headTx e = some t := (congrArg List.head? htxs).trans hhead
    rw [hhead']
    dsimp only
    rw [honly.expects he, hx]
    exact ⟨rfl, honly, hcount, fun _ => htxs⟩
  · have hphase : t.phase = .pausing := by
      by_contra hne
      exact hset (.inl hne)
    have hdue : t.due = none := by
      cases hd : t.due with
      | none => rfl
      | some u => exact absurd (.inr (by rw [hd]; rfl)) hset
    obtain ⟨honly, hcount, v, hv, hvp⟩ := canHeard_pausing hhead hphase hdue
    rw [hv]
    dsimp only
    rw [expects_of_pausing _ hvp]
    exact ⟨rfl, honly, hcount, fun h => absurd h hset⟩

/-- The transaction under way takes a frame that it expects. -/
theorem canReceive_expected {t : Tx} {f : CanRx} (he : e < 120) (hhears : d.canHears e = true) (hhead : d.headTx e = some t) (hx : d.expects t f.frame = true) :
    d.canReceive e f = (d.canHeard e).takeFrame e t f ∧ EngineOnly e d (d.canHeard e) ∧ Counted e d (d.canHeard e) := by
  obtain ⟨-, hphase, -⟩ := expects_parts hx
  obtain ⟨honly, hcount, htxs⟩ := canHeard_settled hhead (.inl (by rcases hphase with h | h | h <;> (rw [h]; decide)))
  have hhead' : (d.canHeard e).headTx e = some t := (congrArg List.head? htxs).trans hhead
  unfold canReceive
  rw [if_neg (by rw [hhears]; decide)]
  dsimp only
  rw [hhead']
  dsimp only
  rw [honly.expects he, hx]
  exact ⟨rfl, honly, hcount⟩

/-! What a transaction does with a frame that it takes (R231). -/

theorem takeFrame_canrx {t : Tx} {f : CanRx} (he : e < 120) (hop : d.teOp t.entry = 1) :
    (∃ v, (d.takeFrame e t f).headTx e = some v ∧ v.got = f.frame.bytes ∧ v.frames = t.frames + 1 ∧
      (d.te t.entry 12 0 16 ≤ t.frames + 1 → v.phase = .decided ∧ v.outcome = if d.te t.entry 8 0 16 < f.frame.bytes.length then 9 else 0)) ∧
    LineOnly e d (d.takeFrame e t f) := by
  have hmark : LineOnly e d (d.markAll e t (d.canRxMarks e f)) := .markAll ..
  have hop' := (hmark.engine.teOp he t.entry).trans hop
  unfold takeFrame
  dsimp only
  rw [hop']
  simp only [hmark.engine.te he]
  by_cases hlast : d.te t.entry 12 0 16 ≤ t.frames + 1
  · rw [if_pos hlast]
    exact ⟨⟨_, decide_headTx .., rfl, rfl, fun _ => ⟨rfl, rfl⟩⟩, hmark.andThen (.decide_ ..)⟩
  · rw [if_neg hlast]
    exact ⟨⟨_, setHead_headTx .., rfl, rfl, fun h => absurd h hlast⟩, hmark.andThen (.setHead ..)⟩

theorem takeFrame_canreq {t : Tx} {f : CanRx} (he : e < 120) (hop : d.teOp t.entry = 2) :
    (∃ v, (d.takeFrame e t f).headTx e = some v ∧ v.got = f.frame.bytes ∧ v.frames = 1 ∧ v.phase = .decided ∧
      v.outcome = if d.te t.entry 8 0 16 < f.frame.bytes.length then 9 else 0) ∧ LineOnly e d (d.takeFrame e t f) := by
  have hmark : LineOnly e d (d.markAll e t (d.canRxMarks e f)) := .markAll ..
  have hop' := (hmark.engine.teOp he t.entry).trans hop
  unfold takeFrame
  dsimp only
  rw [hop']
  simp only [hmark.engine.te he]
  exact ⟨⟨_, decide_headTx .., rfl, rfl, rfl, rfl⟩, hmark.andThen (.decide_ ..)⟩

/-! The transport of ISO 15765-2 (R220, R221). -/

theorem startCan_spec (d : Device) (e : Nat) (t : Tx) (u : Nat) :
    (∃ due first, (d.startCan e t u).headTx e = some { t with phase := .sending, due := due, first := first }) ∧ LineOnly e d (d.startCan e t u) := by
  unfold startCan
  dsimp only
  exact ⟨⟨_, _, setHead_headTx ..⟩, (LineOnly.setEng ..).andThen (.setHead ..)⟩

/-- A transaction whose frame is on the wire, or waits for its instant. -/
theorem sendCan_spec (d : Device) (e : Nat) (t : Tx) (f : CanFrame) (next : Then) (u : Nat) :
    (∃ v, (d.sendCan e t f next u).headTx e = some v ∧ (v.phase = .pausing ∨ v.phase = .sending) ∧ v.frame = f ∧ v.sn = t.sn ∧ v.waits = t.waits ∧
      v.stmin = t.stmin) ∧ LineOnly e d (d.sendCan e t f next u) := by
  unfold sendCan
  dsimp only
  split
  · obtain ⟨⟨_, _, hhead⟩, honly⟩ := startCan_spec (d.freeSkip 64) e { t with frame := f, next := next, fails := 0 } (max u (d.eng e).idleAt)
    exact ⟨⟨_, hhead, .inr rfl, rfl, rfl, rfl, rfl⟩, (LineOnly.freeSkip ..).andThen honly⟩
  · exact ⟨⟨_, setHead_headTx .., .inl rfl, rfl, rfl, rfl, rfl⟩, (LineOnly.freeSkip ..).andThen (.setHead ..)⟩

/-- The next consecutive frame of a request. -/
theorem nextCf_spec {t : Tx} {u : Nat} {p : List Byte} (hp : (d.isoCfs t.entry t.req 1 t.sent t.sn).head? = some p) :
    (∃ v, (d.nextCf e t u).headTx e = some v ∧ (v.phase = .pausing ∨ v.phase = .sending) ∧ v.frame = d.canFrame e t.entry p true ∧ v.sn = t.sn + 1 ∧
      v.waits = t.waits ∧ v.stmin = t.stmin) ∧ LineOnly e d (d.nextCf e t u) := by
  unfold nextCf
  dsimp only
  rw [hp]
  exact sendCan_spec ..

theorem canFrame_bytes (d : Device) (e x : Nat) (bs : List Byte) (full : Bool) : (d.canFrame e x bs full).bytes.take bs.length = bs := List.take_left

/-! Flow control reaches a sender that waits for it: CTS, WAIT and OVFLW. -/

/-- A sender that may go on: its block and its separation time. -/
def clearTx (t : Tx) (size st : Nat) : Tx :=
  { t with frames := t.frames + 1, block := if size = 0 then t.req.length else size, stmin := stTs st, waits := 0 }

section
variable {t : Tx} {b : Byte} {r : List Byte} (hb : b.toNat / 16 = 3)
include hb

theorem isoFlow_clear (h : b.toNat % 16 = 0) :
    d.isoFlow e t (b :: r) = d.nextCf e (clearTx t ((((b :: r)[1]?).getD 0).toNat) ((((b :: r)[2]?).getD 0).toNat)) d.nowU := by
  unfold isoFlow clearTx
  simp only [List.getElem?_cons_zero, Option.getD_some, hb, h, ne_eq, not_true_eq_false, if_false]

theorem isoFlow_wait (h : b.toNat % 16 = 1) (hw : t.waits < d.te t.entry 9 24 8) :
    d.isoFlow e t (b :: r) = d.setHead e { t with frames := t.frames + 1, waits := t.waits + 1, timer := d.edge } := by
  unfold isoFlow
  simp only [List.getElem?_cons_zero, Option.getD_some, hb, h, ne_eq, not_true_eq_false, if_false, hw, if_true]

theorem isoFlow_over (h : b.toNat % 16 = 2) : d.isoFlow e t (b :: r) = d.decide_ e { t with frames := t.frames + 1 } 8 := by
  unfold isoFlow
  simp only [List.getElem?_cons_zero, Option.getD_some, hb, h, ne_eq, not_true_eq_false, if_false]

end

theorem nextCf_only (d : Device) (e : Nat) (t : Tx) (u : Nat) : LineOnly e d (d.nextCf e t u) := by
  unfold nextCf
  dsimp only
  split
  · exact .setHead ..
  · exact (sendCan_spec ..).2

theorem isoFlow_only (d : Device) (e : Nat) (t : Tx) (body : List Byte) : LineOnly e d (d.isoFlow e t body) := by
  unfold isoFlow
  dsimp only
  refine .ite (LineOnly.decide_ ..) ?_
  split
  · exact nextCf_only ..
  · exact .ite (LineOnly.setHead ..) (LineOnly.decide_ ..)
  · exact LineOnly.decide_ ..

/-- What an ISOTP transaction takes: the frame without its address byte. -/
theorem takeFrame_isotp {t : Tx} {f : CanRx} (he : e < 120) (hop : d.teOp t.entry = 3) :
    ∃ g b, LineOnly e d g ∧ d.takeFrame e t f = g.isoTake e { t with frameNo := t.frameNo + 1 } (d.isoBody t.entry f.frame) b := by
  have hmark : LineOnly e d (d.markAll e t (d.canRxMarks e f)) := .markAll ..
  have hop' := (hmark.engine.teOp he t.entry).trans hop
  refine ⟨_, (d.markAll e t (d.canRxMarks e f)).canBegan e f, hmark, ?_⟩
  unfold takeFrame
  simp only [hop', hmark.engine.isoBody he]

theorem isoTake_flow {t : Tx} (hphase : t.phase = .flow) (body : List Byte) (b : Nat) : d.isoTake e t body b = d.isoFlow e t body := by
  unfold isoTake
  simp only [hphase]

/-- A complete response that only says that another is pending is discarded (R221). -/
theorem rspDone_pending {t : Tx} {b : Byte} (hgot : t.got = [0x7F, b, 0x78]) (hmo : d.te t.entry 10 16 16 ≠ 0) :
    d.rspDone e t (some b) = d.setHead e { t with got := [], phase := .listening, rxLen := 0, deadline := d.edge + msTs * d.te t.entry 10 16 16 } := by
  unfold rspDone
  dsimp only
  rw [hgot]
  exact if_pos (by simp [hmo])

/-- A transaction with a response of three bytes in a single frame that began at edge `began`. -/
def singleTx (t : Tx) (bs : List Byte) (began : Nat) : Tx := { t with frames := t.frames + 1, rspStart := began, got := bs }

theorem isoTake_single {t : Tx} (hphase : t.phase = .listening) (x y z : Byte) (r : List Byte) (began : Nat) :
    d.isoTake e t (0x03 :: x :: y :: z :: r) began = d.rspDone e (singleTx t [x, y, z] began) t.req.head? := by
  have hthree : BitVec.toNat (3 : Byte) = 3 := rfl
  have hlong : ¬ (r.length + 1 + 1 + 1 < 3) := by omega
  unfold isoTake singleTx
  simp only [hphase, List.getElem?_cons_zero, Option.getD_some, hthree, Nat.reduceDiv, Nat.reduceMod, OfNat.ofNat_ne_zero, if_false, false_or,
    List.drop_succ_cons, List.drop_zero, List.length_cons, hlong, List.take_succ_cons, List.take_zero]

/-- A transaction that waits TMOX longer for its response, after a frame that began at edge `began`. -/
def pendingTx (d : Device) (t : Tx) (began : Nat) : Tx :=
  { t with frames := t.frames + 1, rspStart := began, got := [], phase := .listening, rxLen := 0, deadline := d.edge + msTs * d.te t.entry 10 16 16 }

/-- A single frame that only says that the response is pending is waited out for TMOX. -/
theorem isoTake_pending {t : Tx} (hphase : t.phase = .listening) (hmo : d.te t.entry 10 16 16 ≠ 0) {b : Byte} (hreq : t.req.head? = some b) (r : List Byte)
    (began : Nat) : d.isoTake e t (0x03 :: 0x7F :: b :: 0x78 :: r) began = d.setHead e (d.pendingTx t began) := by
  rw [isoTake_single hphase, hreq]
  exact rspDone_pending rfl hmo

/-- The sender that waits for flow control takes it. -/
theorem flowReceive_spec {t : Tx} {f : CanRx} (he : e < 120) (hhears : d.canHears e = true) (hhead : d.headTx e = some t) (hx : d.expects t f.frame = true)
    (hphase : t.phase = .flow) (hop : d.teOp t.entry = 3) :
    ∃ g, EngineOnly e d g ∧ d.flowReceive e f = g.isoFlow e { t with frameNo := t.frameNo + 1 } (d.isoBody t.entry f.frame) := by
  obtain ⟨-, honly, -⟩ := canReceive_expected he hhears hhead hx
  obtain ⟨g, b, hline, htake⟩ := takeFrame_isotp (f := f) he ((honly.teOp he _).trans hop)
  refine ⟨g, honly.line hline, ?_⟩
  unfold flowReceive
  rw [hhead]
  dsimp only
  rw [hhears, hx, hphase, honly.isoBody he] at *
  exact (if_pos (by decide)).trans (htake.trans (isoTake_flow hphase ..))

theorem eq_cons_of_take_two {l : List Byte} {x y z : Byte} (h : l.take 2 = [x, y]) (hz : l[3]? = some z) : ∃ b r, l = x :: y :: b :: z :: r := by
  match l with
  | [] => exact absurd hz (by simp)
  | [_] => exact absurd hz (by simp)
  | [_, _] => exact absurd hz (by simp)
  | [_, _, _] => exact absurd hz (by simp)
  | p :: q :: b :: w :: r =>
    obtain ⟨rfl, rfl⟩ : p = x ∧ q = y := by simpa using h
    obtain rfl : w = z := by simpa using hz
    exact ⟨b, r, rfl⟩

/-- The transaction with TMOX waits it out. -/
theorem pendingReceive_spec {t : Tx} {f : CanRx} (he : e < 120) (hhears : d.canHears e = true) (hhead : d.headTx e = some t) (hx : d.expects t f.frame = true)
    (hop : d.teOp t.entry = 3) (hphase : t.phase = .listening) (hmo : d.te t.entry 10 16 16 ≠ 0) (hbody : (d.isoBody t.entry f.frame).take 2 = [0x03, 0x7F])
    (hreq : (d.isoBody t.entry f.frame)[2]? = t.req.head?) (hcode : (d.isoBody t.entry f.frame)[3]? = some 0x78) :
    ∃ g v, EngineOnly e d g ∧ d.pendingReceive e f = g.setHead e v ∧ v.phase = .listening ∧ v.got = [] ∧
      v.deadline = d.edge + msTs * d.te t.entry 10 16 16 := by
  obtain ⟨-, honly, -⟩ := canReceive_expected he hhears hhead hx
  obtain ⟨g, b, hline, htake⟩ := takeFrame_isotp (f := f) he ((honly.teOp he _).trans hop)
  have hg := honly.line hline
  refine ⟨g, g.pendingTx { t with frameNo := t.frameNo + 1 } b, hg, ?_, rfl, rfl, ?_⟩
  · have hif : d.pendingReceive e f = (d.canHeard e).takeFrame e t f := by
      unfold pendingReceive
      rw [hhead]
      dsimp only
      rw [hhears, hx, hop, hphase, hbody, hreq, hcode]
      exact if_pos (by simp [hmo])
    obtain ⟨x, r, hlist⟩ := eq_cons_of_take_two hbody hcode
    rw [hlist] at hreq
    have hfirst : t.req.head? = some x := hreq.symm
    have hmo' : g.te t.entry 10 16 16 ≠ 0 := by rwa [hg.te he]
    rw [hif, htake, honly.isoBody he, hlist]
    have hpend := isoTake_pending (d := g) (e := e) (t := { t with frameNo := t.frameNo + 1 }) hphase hmo' hfirst r b
    rw [hpend]
  · rw [pendingTx, hg.edge, hg.te he]

end

end Device

end Sys2Proof.Machine
end

section
/-!
SUPPORT. The headers of a LINDIAG commander, and SENT engines (R224 to R227).
-/

namespace Sys2Proof.Machine

-- One proof after another: the stacks of the threads that elaborate many at once exceed the memory of a check.
set_option Elab.async false

namespace Device

section
variable {e : Nat} {d u : Device}

/-- A header 61 goes out when NBS has passed (R224). -/
theorem linPoll_spec {t : Tx} (x : LinData) (hhead : d.headTx e = some t) (hbegun : t.begun.isSome = true) (hop : d.teOp t.entry = 5)
    (hphase : t.phase = .listening ∨ t.phase = .taking) (hdue : t.timer + t.limit ≤ d.edge) (hcapo : d.capo ≠ 1) :
    (∃ v, (d.linPoll e x).headTx e = some v ∧ v.phase = .sending ∧ v.next = .poll ∧ v.timer = d.edge ∧ v.lin = x) ∧
    (∃ r, ((d.linPoll e x).eng e).wave = some ⟨d.nowU, d.linHead e 61 ++ r⟩) ∧ LineOnly e d (d.linPoll e x) := by
  unfold linPoll
  rw [hhead]
  dsimp only
  rw [if_neg]
  · obtain ⟨⟨_, _, _, hv⟩, hwave, honly⟩ := startLin_begun d e { t with timer := d.edge, lin := x } .poll d.nowU _ _ _ _
    exact ⟨⟨_, hv, rfl, rfl, rfl, rfl⟩, ⟨_, hwave⟩, honly⟩
  · rintro (h | h | h | h | h)
    · rw [hbegun] at h
      exact Bool.false_ne_true h.symm
    · exact h hop
    · obtain hl | ht := hphase
      · exact h.1 hl
      · exact h.2 ht
    · omega
    · exact hcapo h

/-! A SENT receiver (R225, R226). -/

namespace EngineOnly

theorem pulsesOk (h : EngineOnly e d u) (x : SentMsg) : u.pulsesOk e x = d.pulsesOk e x := by
  unfold Device.pulsesOk sentNib
  rw [fget_of_rd (h.setting (o := 0x18) (by decide))]

theorem crcRight (h : EngineOnly e d u) (ns : List Nat) : u.crcRight e ns = d.crcRight e ns := by
  unfold Device.crcRight
  rw [flag_eq_of_rd_eq (h.setting (o := 0x18) (by decide))]

end EngineOnly

/-- The slow channel shows its messages and notes what is still missing of one. -/
theorem slowTake_spec (d : Device) (e : Nat) (status : Option Nat) :
    EngineOnly e d (d.slowTake e status) ∧ (d.slowTake e status).headTx e = d.headTx e ∧ (d.slowTake e status).rd (aENG e 0x28) = d.rd (aENG e 0x28) := by
  unfold slowTake
  dsimp only
  split
  · exact ⟨(LineOnly.setEng ..).engine, setEng_headTx _ rfl, rfl⟩
  next s =>
    have hnoted : LineOnly e d (d.setEng e { d.eng e with slowRx := (s / 4 % 4 :: (d.eng e).slowRx).take 18 }) := .setEng ..
    have hhead : (d.setEng e { d.eng e with slowRx := (s / 4 % 4 :: (d.eng e).slowRx).take 18 }).headTx e = d.headTx e := setEng_headTx _ rfl
    have hrd : (d.setEng e { d.eng e with slowRx := (s / 4 % 4 :: (d.eng e).slowRx).take 18 }).rd (aENG e 0x28) = d.rd (aENG e 0x28) := rfl
    generalize d.setEng e { d.eng e with slowRx := (s / 4 % 4 :: (d.eng e).slowRx).take 18 } = f at hnoted hhead hrd ⊢
    split
    next v i _ =>
      refine ⟨(hnoted.engine.andThen (.wr (by decide) _ _)).andThen (.event (by decide) ..), ?_, ?_⟩
      · exact (headTx_of_eng ((event_eng ..).trans (wr_eng ..))).trans hhead
      · exact (event_rd _ _ _ _ (by unfold aENG; omega) (by unfold aENG; omega)).trans ((rd_wr_other _ _ (by unfold aENG; omega)).trans hrd)
    · exact ⟨hnoted.engine, hhead, hrd⟩

/-- The engine once a message is counted and the slow channel has its nibble. -/
def sentGot (d : Device) (e : Nat) (x : SentMsg) : Device :=
  let d := d.setEng e { d.eng e with lastCal := some x.cal.len }
  let d := (d.wr (aENG e 0x2C) (BitVec.ofNat 32 (roundDiv x.cal.len 56).toNat)).countRx e
  d.slowTake e (nibbles x).head?

theorem sentGot_spec (d : Device) (e : Nat) (x : SentMsg) : EngineOnly e d (d.sentGot e x) ∧ (d.sentGot e x).headTx e = d.headTx e ∧ Counted e d (d.sentGot e x) := by
  have hcal : LineOnly e d (d.setEng e { d.eng e with lastCal := some x.cal.len }) := .setEng ..
  have hhead : (d.setEng e { d.eng e with lastCal := some x.cal.len }).headTx e = d.headTx e := setEng_headTx _ rfl
  have hrd : (d.setEng e { d.eng e with lastCal := some x.cal.len }).rd (aENG e 0x28) = d.rd (aENG e 0x28) := rfl
  unfold sentGot
  dsimp only
  generalize d.setEng e { d.eng e with lastCal := some x.cal.len } = f at hcal hhead hrd ⊢
  have hwr : EngineOnly e f (f.wr (aENG e 0x2C) (BitVec.ofNat 32 (roundDiv x.cal.len 56).toNat)) := .wr (by decide) ..
  have hhead' : (f.wr (aENG e 0x2C) (BitVec.ofNat 32 (roundDiv x.cal.len 56).toNat)).headTx e = d.headTx e := (headTx_of_eng (wr_eng ..)).trans hhead
  have hrd' : (f.wr (aENG e 0x2C) (BitVec.ofNat 32 (roundDiv x.cal.len 56).toNat)).rd (aENG e 0x28) = d.rd (aENG e 0x28) :=
    (rd_wr_other _ _ (by unfold aENG; omega)).trans hrd
  generalize f.wr (aENG e 0x2C) (BitVec.ofNat 32 (roundDiv x.cal.len 56).toNat) = g at hwr hhead' hrd' ⊢
  obtain ⟨hslow, hslowHead, hslowRd⟩ := (g.countRx e).slowTake_spec e (nibbles x).head?
  refine ⟨(((hcal.engine.andThen hwr).andThen (g.countRx_only e)).andThen hslow), hslowHead.trans ((headTx_of_eng (countRx_eng ..)).trans hhead'), ?_⟩
  unfold Counted
  rw [fget_of_rd hslowRd, ← fget_of_rd hrd']
  exact g.countRx_counted e

/-- A good message reaches the transaction that waits for it. -/
def sentTaken (d : Device) (e : Nat) (x : SentMsg) (t : Tx) : Device :=
  let w := d.sentRxWave x
  let d := d.markAll e t (w.marks w.stop ++ w.endMark)
  let t := { t with first := some (w.start / tsU), rspStart := w.start / tsU, frameNo := t.frameNo + 1 }
  let t := { t with frames := t.frames + 1, got := (nibbles x).dropLast.map (BitVec.ofNat 8) }
  if t.frames < d.te t.entry 12 0 16 then d.setHead e t
  else d.decide_ e t (if d.te t.entry 8 0 16 < t.got.length then 9 else 0)

theorem sentTaken_spec (he : e < 120) (x : SentMsg) (t : Tx) :
    (∃ v, (d.sentTaken e x t).headTx e = some v ∧ v.frames = t.frames + 1 ∧ v.got = (nibbles x).dropLast.map (BitVec.ofNat 8) ∧
      (d.te t.entry 12 0 16 ≤ t.frames + 1 → v.phase = .decided ∧ v.outcome = if d.te t.entry 8 0 16 < (nibbles x).length - 1 then 9 else 0) ∧
      (t.frames + 1 < d.te t.entry 12 0 16 → v.phase = t.phase)) ∧ LineOnly e d (d.sentTaken e x t) := by
  have hmark : LineOnly e d (d.markAll e t ((d.sentRxWave x).marks (d.sentRxWave x).stop ++ (d.sentRxWave x).endMark)) := .markAll ..
  have hlen : ((nibbles x).dropLast.map (BitVec.ofNat 8)).length = (nibbles x).length - 1 := by rw [List.length_map, List.length_dropLast]
  unfold sentTaken
  dsimp only
  generalize d.markAll e t ((d.sentRxWave x).marks (d.sentRxWave x).stop ++ (d.sentRxWave x).endMark) = f at hmark ⊢
  rw [hmark.engine.te he, hmark.engine.te he, hlen]
  by_cases hmore : t.frames + 1 < d.te t.entry 12 0 16
  · rw [if_pos hmore]
    exact ⟨⟨_, setHead_headTx .., rfl, rfl, fun h => absurd hmore (by omega), fun _ => rfl⟩, hmark.andThen (.setHead ..)⟩
  · rw [if_neg hmore]
    exact ⟨⟨_, decide_headTx .., rfl, rfl, fun _ => ⟨rfl, rfl⟩, fun h => absurd h hmore⟩, hmark.andThen (.decide_ ..)⟩

theorem sentReceive_good {t : Tx} {x : SentMsg} (he : e < 120) (hhears : d.sentHears e = true) (hcal : d.calOk e x.cal.len = true)
    (hpulses : d.pulsesOk e x = true) (hcrc : d.crcRight e (nibbles x) = true) (hhead : d.headTx e = some t) (hbegun : t.begun.isSome = true)
    (hphase : t.phase = .listening) (hop : d.teOp t.entry = 6) : d.sentReceive e x = (d.sentGot e x).sentTaken e x t := by
  obtain ⟨honly, hhead', -⟩ := d.sentGot_spec e x
  have hop' := (honly.teOp he t.entry).trans hop
  have hset : LineOnly e d (d.setEng e { d.eng e with lastCal := some x.cal.len }) := .setEng ..
  have hwr (f : Device) : EngineOnly e f (f.wr (aENG e 0x2C) (BitVec.ofNat 32 (roundDiv x.cal.len 56).toNat)) := .wr (by decide) ..
  have hshown := (hset.engine.andThen (hwr _)).andThen (countRx_only _ e)
  rw [hhead] at hhead'
  unfold sentReceive
  rw [if_neg (by rw [hhears]; decide)]
  dsimp only
  rw [if_neg (by rw [hcal]; decide), hshown.pulsesOk, hshown.crcRight, hpulses, hcrc]
  change (match (d.sentGot e x).headTx e with | none => _ | some t => _) = _
  rw [hhead']
  dsimp only
  rw [if_neg, if_neg (by decide), if_neg (by decide)]
  · rfl
  · rintro (h | h | h)
    · rw [hbegun] at h
      exact Bool.false_ne_true h.symm
    · exact h hphase
    · exact h hop'

/-! A SENT transmitter (R227). -/

/-- The next message begins where the last one ended. -/
def sentNext (d : Device) (e stop : Nat) : Device :=
  let n := (d.eng e).slowTx + 1
  let d := d.setEng e { d.eng e with slowTx := if slowLen (d.sentSlow e) ≤ n then 0 else n }
  d.sentBegin e stop

theorem sentNext_spec (d : Device) (e stop : Nat) : LineOnly e d (d.sentNext e stop) ∧ (d.sentNext e stop).headTx e = d.headTx e ∧
    ∃ w, ((d.sentNext e stop).eng e).wave = some w ∧ w.start = stop := by
  have hslow : LineOnly e d (d.setEng e { d.eng e with slowTx := if slowLen (d.sentSlow e) ≤ (d.eng e).slowTx + 1 then 0 else (d.eng e).slowTx + 1 }) := .setEng ..
  have hhead : (d.setEng e { d.eng e with slowTx := if slowLen (d.sentSlow e) ≤ (d.eng e).slowTx + 1 then 0 else (d.eng e).slowTx + 1 }).headTx e = d.headTx e :=
    setEng_headTx _ rfl
  unfold sentNext
  dsimp only
  generalize d.setEng e { d.eng e with slowTx := if slowLen (d.sentSlow e) ≤ (d.eng e).slowTx + 1 then 0 else (d.eng e).slowTx + 1 } = f at hslow hhead ⊢
  refine ⟨hslow.andThen (.setEng ..), (setEng_headTx { f.eng e with wave := some (f.sentWave e stop) } rfl).trans hhead, f.sentWave e stop, ?_, rfl⟩
  rw [sentBegin, setEng_same]

/-- The transaction under way, if it sets the content, counts the message that ends; one that has just set it takes up with the next. -/
def sentServed (d : Device) (e : Nat) (w : Wave) : Device :=
  match d.headTx e with
  | none => d
  | some t =>
    if t.phase ≠ TxPhase.setting then d
    else if t.first.isSome then d.sentCount e t w
    else d.setHead e { t with first := some (w.stop / tsU) }

theorem sentServed_eq {t : Tx} (w : Wave) (hhead : d.headTx e = some t) (hphase : t.phase = .setting) :
    d.sentServed e w = if t.first.isSome then d.sentCount e t w else d.setHead e { t with first := some (w.stop / tsU) } := by
  unfold sentServed
  rw [hhead]
  exact if_neg fun h => h hphase

theorem sentSent_eq {w : Wave} (hsends : d.sentSends e = true) (hwave : (d.eng e).wave = some w) (hstop : w.stop ≤ d.nowU) :
    d.sentSent e = ((d.bump (aENG e 0x28) 0 16).sentServed e w).sentNext e w.stop := by
  unfold sentSent
  rw [hwave]
  refine if_neg ?_
  rintro (h | h)
  · rw [hsends] at h
    exact Bool.false_ne_true h.symm
  · omega

theorem sentCount_spec (he : e < 120) (t : Tx) (w : Wave) :
    (∃ v, (d.sentCount e t w).headTx e = some v ∧ (d.te t.entry 12 0 16 ≤ t.sent + 1 → v.phase = .decided ∧ v.outcome = 0) ∧
      (t.sent + 1 < d.te t.entry 12 0 16 → v.phase = t.phase ∧ v.sent = t.sent + 1)) ∧ LineOnly e d (d.sentCount e t w) := by
  have hmark : LineOnly e d (d.markAll e t (w.marks w.stop ++ w.endMark)) := .markAll ..
  unfold sentCount
  dsimp only
  generalize d.markAll e t (w.marks w.stop ++ w.endMark) = f at hmark ⊢
  rw [hmark.engine.te he]
  by_cases hmore : t.sent + 1 < d.te t.entry 12 0 16
  · rw [if_pos hmore]
    exact ⟨⟨_, setHead_headTx .., fun h => absurd hmore (by omega), fun _ => ⟨rfl, rfl⟩⟩, hmark.andThen (.setHead ..)⟩
  · rw [if_neg hmore]
    exact ⟨⟨_, decide_headTx .., fun _ => ⟨rfl, rfl⟩, fun h => absurd h hmore⟩, hmark.andThen (.decide_ ..)⟩

end

end Device

end Sys2Proof.Machine
end

section
/-!
SUPPORT. Errors on the wire of a CAN engine (R217 to R219).
-/

namespace Sys2Proof.Machine

-- One proof after another: the stacks of the threads that elaborate many at once exceed the memory of a check.
set_option Elab.async false

namespace Device

section
variable {e : Nat} {d u : Device}

/-! An error flag, and the counters (R217). -/

theorem markError_only (d : Device) (e : Nat) (t : Tx) : LineOnly e d (d.markError e t) ∧ (d.markError e t).eng e = d.eng e := by
  unfold markError
  split
  · exact ⟨.markAll .., markAll_eng ..⟩
  · exact ⟨.refl .., rfl⟩

/-- What an error flag makes of the engine. -/
def flagged (d : Device) (e : Nat) (sending : Bool) : Engine :=
  { d.eng e with wave := if d.engRole e = 0 then some ⟨d.nowU, errorSegs (d.canTiming e).nom (!d.passive e)⟩ else none,
                 idleAt := d.nowU + (if d.passive e && sending then 25 else 17) * (d.canTiming e).nom }

theorem errorFrame_eq (d : Device) (e : Nat) (sending : Bool) : d.errorFrame e sending = d.setEng e (d.flagged e sending) := rfl

/-- What an error counts at the engine that sent, or at one that received. -/
def counted (g : Engine) (sending : Bool) : Engine := if sending then { g with tec := g.tec + 8 } else { g with rec_ := min 255 (g.rec_ + 1) }

theorem countError_eq {ack sending : Bool} (hrole : d.engRole e = 0) (hack : (sending && ack && d.passive e) = false) :
    d.countError e ack sending = d.setEng e (counted (d.eng e) sending) := by
  unfold countError
  refine if_neg ?_
  rintro (h | ⟨hs, ha, hp⟩)
  · exact h hrole
  · rw [hs, ha, hp] at hack
    exact Bool.false_ne_true hack.symm

theorem passive_of_counters {f : Device} (ht : (f.eng e).tec = (d.eng e).tec) (hr : (f.eng e).rec_ = (d.eng e).rec_) : f.passive e = d.passive e := by
  unfold passive
  rw [ht, hr]

theorem flagged_congr {f : Device} (h : EngineOnly e d f) (heng : f.eng e = d.eng e) (sending : Bool) : f.flagged e sending = d.flagged e sending := by
  unfold flagged passive
  rw [h.engRole, h.nowU, h.canTiming, heng]

/-- The flag goes on the wire, and the error is counted. -/
theorem errorFrame_counted {ack sending : Bool} (hrole : d.engRole e = 0) (hack : (sending && ack && d.passive e) = false) :
    LineOnly e d ((d.errorFrame e sending).countError e ack sending) ∧
    ((d.errorFrame e sending).countError e ack sending).eng e = counted (d.flagged e sending) sending := by
  rw [errorFrame_eq]
  have hset : LineOnly e d (d.setEng e (d.flagged e sending)) := .setEng ..
  have heng : (d.setEng e (d.flagged e sending)).eng e = d.flagged e sending := setEng_same ..
  generalize d.setEng e (d.flagged e sending) = f at hset heng ⊢
  have hpassive : f.passive e = d.passive e := passive_of_counters (by rw [heng]; rfl) (by rw [heng]; rfl)
  rw [countError_eq (hset.engine.engRole.trans hrole) (by rw [hpassive]; exact hack), heng]
  exact ⟨hset.andThen (.setEng ..), setEng_same ..⟩

/-- The marks of the frame that ends with the error. -/
theorem markMine_only (d : Device) (e : Nat) (mine : Option Tx) : LineOnly e d (mine.elim d (d.markError e)) ∧ (mine.elim d (d.markError e)).eng e = d.eng e := by
  cases mine with
  | none => exact ⟨.refl .., rfl⟩
  | some t => exact d.markError_only e t

/-- The error is reported. -/
def errorSeen (d : Device) (e : Nat) : Device := (d.event (aENG e 0x24) 0).wireEvent e 0

theorem errorSeen_spec (d : Device) (e : Nat) : EngineOnly e d (d.errorSeen e) ∧ (d.errorSeen e).eng e = d.eng e ∧
    (d.errorSeen e).flag (aENG e 0x24) 0 = true := by
  have hevent : EngineOnly e d (d.event (aENG e 0x24) 0) := .event (by decide) ..
  have hflag : (d.event (aENG e 0x24) 0).flag (aENG e 0x24) 0 = true := event_flag _ _ _ (by decide) (by unfold aENG; omega)
  have heng : (d.event (aENG e 0x24) 0).eng e = d.eng e := event_eng ..
  unfold errorSeen
  generalize d.event (aENG e 0x24) 0 = f at hevent hflag heng ⊢
  have hwire : LineOnly e f (f.wireEvent e 0) := .wireEvent ..
  exact ⟨hevent.line hwire, (wireEvent_eng ..).trans heng, (flag_eq_of_rd_eq (hwire.rd (by unfold aENG; omega)) 0).trans hflag⟩

/-- The engine once the error is reported and the marks of its own frame are written. -/
def errorTold (d : Device) (e : Nat) (sending : Bool) : Device :=
  let d := d.errorSeen e
  (if sending then d.ownFrame e else none).elim d (d.markError e)

theorem errorTold_spec (d : Device) (e : Nat) (sending : Bool) : EngineOnly e d (d.errorTold e sending) ∧ (d.errorTold e sending).eng e = d.eng e ∧
    (d.errorTold e sending).flag (aENG e 0x24) 0 = true := by
  obtain ⟨honly, heng, hflag⟩ := d.errorSeen_spec e
  unfold errorTold
  generalize d.errorSeen e = f at honly heng hflag ⊢
  obtain ⟨hline, hmark⟩ := f.markMine_only e (if sending then f.ownFrame e else none)
  exact ⟨honly.line hline, hmark.trans heng, (flag_eq_of_rd_eq (hline.rd (by unfold aENG; omega)) 0).trans hflag⟩

/-- The engine once the error is told, the flag is on the wire and the error counted. -/
def errorMet (d : Device) (e : Nat) (ack sending : Bool) : Device := ((d.errorTold e sending).errorFrame e sending).countError e ack sending

theorem errorMet_spec {ack sending : Bool} (hrole : d.engRole e = 0) (hack : (sending && ack && d.passive e) = false) :
    EngineOnly e d (d.errorMet e ack sending) ∧ (d.errorMet e ack sending).eng e = counted (d.flagged e sending) sending ∧
    (d.errorMet e ack sending).flag (aENG e 0x24) 0 = true := by
  obtain ⟨honly, heng, hflag⟩ := d.errorTold_spec e sending
  have hmine := flagged_congr honly heng sending
  unfold errorMet
  generalize d.errorTold e sending = f at honly heng hflag hmine ⊢
  have hpassive : f.passive e = d.passive e := passive_of_counters (by rw [heng]) (by rw [heng])
  obtain ⟨hline, hcount⟩ := errorFrame_counted (d := f) (ack := ack) (sending := sending) (honly.engRole.trans hrole) (by rw [hpassive]; exact hack)
  exact ⟨honly.line hline, hcount.trans (by rw [hmine]), (flag_eq_of_rd_eq (hline.rd (by unfold aENG; omega)) 0).trans hflag⟩

/-! The frame that the engine sends ends with the error (R217, R236). -/

theorem canRetry_again {t : Tx} {out : Nat} {due : Option Nat} (h : t.fails < d.fget (aENG e 0x18) 0 4) :
    ∃ v, d.canRetry e t out due = d.setHead e v ∧ v.phase = .pausing ∧ v.due = due ∧ v.fails = t.fails + 1 := by
  refine ⟨{ t with fails := t.fails + 1, frameNo := t.frameNo + 1, bad := false, phase := .pausing, due := due }, ?_, rfl, rfl, rfl⟩
  unfold canRetry
  exact if_neg (show ¬ d.fget (aENG e 0x18) 0 4 < t.fails + 1 by omega)

theorem canRetry_given_up {t : Tx} {out : Nat} {due : Option Nat} (h : d.fget (aENG e 0x18) 0 4 ≤ t.fails) :
    ∃ v, d.canRetry e t out due = d.decide_ e v (if d.fget (aENG e 0x18) 0 4 = 0 then out else 6) := by
  refine ⟨{ t with fails := t.fails + 1, frameNo := t.frameNo + 1, bad := false }, ?_⟩
  unfold canRetry
  exact if_pos (show d.fget (aENG e 0x18) 0 4 < t.fails + 1 by omega)

theorem canRetry_only (d : Device) (e : Nat) (t : Tx) (out : Nat) (due : Option Nat) : LineOnly e d (d.canRetry e t out due) := by
  unfold canRetry
  dsimp only
  exact .ite (LineOnly.decide_ ..) (LineOnly.setHead ..)

theorem resume_only (d : Device) (e : Nat) : LineOnly e d (d.resume e) := by
  unfold resume
  split
  · exact .ite (LineOnly.setHead ..) (.refl ..)
  · exact .refl ..

theorem canRetry_eng (d : Device) (e : Nat) (t : Tx) (out : Nat) (due : Option Nat) :
    ∃ l, (d.canRetry e t out due).eng e = { d.eng e with txs := l } := by
  unfold canRetry
  dsimp only
  split
  · exact ⟨_, decide_eng ..⟩
  · exact ⟨_, setHead_eng ..⟩

theorem resume_eng (d : Device) (e : Nat) : ∃ l, (d.resume e).eng e = { d.eng e with txs := l } := by
  unfold resume
  split
  · split
    · exact ⟨_, setHead_eng ..⟩
    · exact ⟨_, rfl⟩
  · exact ⟨_, rfl⟩

/-! A protocol error (R217, R219). -/

theorem canFault_eq (d : Device) (e out : Nat) (ack sending : Bool) : d.canFault e out ack sending =
    if 255 < ((d.errorMet e ack sending).eng e).tec then (d.errorMet e ack sending).enterBusOff e
    else (if sending then (d.errorSeen e).ownFrame e else none).elim ((d.errorMet e ack sending).resume e) fun t =>
      (d.errorMet e ack sending).canRetry e t out (some ((d.errorMet e ack sending).eng e).idleAt) := rfl

theorem ownFrame_of_eng {f : Device} (h : f.eng e = d.eng e) : f.ownFrame e = d.ownFrame e := by
  unfold ownFrame
  rw [headTx_of_eng h]

theorem ownFrame_sending {t : Tx} (hhead : d.headTx e = some t) (hphase : t.phase = .sending) : d.ownFrame e = some t := by
  unfold ownFrame
  rw [hhead, Option.filter_some, if_pos (by rw [hphase]; decide)]

/-- The engine enters bus-off (R219). -/
theorem enterBusOff_spec (d : Device) (e : Nat) : EngineOnly e d (d.enterBusOff e) ∧ ((d.enterBusOff e).eng e).busOff = true ∧
    (d.enterBusOff e).flag (aENG e 0x24) 1 = true := by
  have hset : LineOnly e d (d.setEng e { d.eng e with busOff := true, offAt := d.edge, wave := none }) := .setEng ..
  have hoff : ((d.setEng e { d.eng e with busOff := true, offAt := d.edge, wave := none }).eng e).busOff = true := by rw [setEng_same]
  unfold enterBusOff
  dsimp only
  generalize d.setEng e { d.eng e with busOff := true, offAt := d.edge, wave := none } = f at hset hoff ⊢
  have hevent : EngineOnly e f (f.event (aENG e 0x24) 1) := .event (by decide) ..
  have hflag : (f.event (aENG e 0x24) 1).flag (aENG e 0x24) 1 = true := event_flag _ _ _ (by decide) (by unfold aENG; omega)
  have hoff' : ((f.event (aENG e 0x24) 1).eng e).busOff = true := by rw [event_eng, hoff]
  generalize f.event (aENG e 0x24) 1 = g at hevent hflag hoff' ⊢
  have honly := hset.engine.andThen hevent
  split
  next t _ =>
    have hdec : LineOnly e g (g.decide_ e t 7) := .decide_ ..
    split
    · exact ⟨honly.line hdec, by rw [decide_eng, hoff'], (flag_eq_of_rd_eq (hdec.rd (by unfold aENG; omega)) 1).trans hflag⟩
    · exact ⟨honly, hoff', hflag⟩
  · exact ⟨honly, hoff', hflag⟩

/-- An error of a transmitter whose counter passes 255 (R219). -/
theorem canFault_busOff {out : Nat} (hrole : d.engRole e = 0) (htec : 247 < (d.eng e).tec) :
    EngineOnly e d (d.canFault e out false true) ∧ ((d.canFault e out false true).eng e).busOff = true ∧
    (d.canFault e out false true).flag (aENG e 0x24) 1 = true := by
  obtain ⟨honly, heng, -⟩ := errorMet_spec (d := d) (e := e) (ack := false) (sending := true) hrole rfl
  have hover : 255 < ((d.errorMet e false true).eng e).tec := by
    rw [heng]
    exact Nat.lt_of_lt_of_le (by omega : 255 < (d.eng e).tec + 8) (Nat.le_refl _)
  rw [canFault_eq, if_pos hover]
  generalize d.errorMet e false true = f at honly ⊢
  obtain ⟨hoff, hbus, hflag⟩ := f.enterBusOff_spec e
  exact ⟨honly.andThen hoff, hbus, hflag⟩

/-- The frame that the engine sends ends with the error; else a transaction that lost arbitration goes on. -/
theorem errorEnds_spec (d : Device) (e out : Nat) (mine : Option Tx) (due : Option Nat) :
    LineOnly e d (mine.elim (d.resume e) fun t => d.canRetry e t out due) ∧
    ∃ l, (mine.elim (d.resume e) fun t => d.canRetry e t out due).eng e = { d.eng e with txs := l } := by
  cases mine with
  | none => exact ⟨d.resume_only e, d.resume_eng e⟩
  | some t => exact ⟨d.canRetry_only e t out due, d.canRetry_eng e t out due⟩

/-- An error of an engine that is error-active. -/
theorem canFault_active {out : Nat} {ack sending : Bool} (hrole : d.engRole e = 0) (htec : (d.eng e).tec < 128) (hrec : (d.eng e).rec_ < 128) :
    (∃ l, ((d.canFault e out ack sending).eng e) = { counted (d.flagged e sending) sending with txs := l }) ∧
    (d.canFault e out ack sending).flag (aENG e 0x24) 0 = true ∧ EngineOnly e d (d.canFault e out ack sending) ∧
    ∀ t, d.headTx e = some t → t.phase = .sending → sending = true → ∃ f, EngineOnly e d f ∧
      d.canFault e out ack sending = f.canRetry e t out (some (d.flagged e sending).idleAt) := by
  have hpassive : d.passive e = false := by
    unfold passive
    exact decide_eq_false (by omega)
  obtain ⟨honly, heng, hflag⟩ := errorMet_spec (d := d) (e := e) (ack := ack) (sending := sending) hrole (by rw [hpassive, Bool.and_false])
  obtain ⟨-, hseen, -⟩ := d.errorSeen_spec e
  have hidle : (counted (d.flagged e sending) sending).idleAt = (d.flagged e sending).idleAt := by cases sending <;> rfl
  have hunder : ¬ 255 < ((d.errorMet e ack sending).eng e).tec := by
    rw [heng]
    have htec' : (counted (d.flagged e sending) sending).tec ≤ (d.eng e).tec + 8 := by
      cases sending with
      | true => exact Nat.le_refl _
      | false => exact Nat.le_add_right _ _
    omega
  rw [canFault_eq, if_neg hunder, ownFrame_of_eng hseen]
  generalize d.errorMet e ack sending = f at honly heng hflag ⊢
  obtain ⟨hline, l, hl⟩ := f.errorEnds_spec e out (if sending then d.ownFrame e else none) (some (f.eng e).idleAt)
  refine ⟨⟨l, hl.trans (by rw [heng])⟩, (flag_eq_of_rd_eq (hline.rd (by unfold aENG; omega)) 0).trans hflag, honly.line hline, fun t hhead hphase hsending => ?_⟩
  refine ⟨f, honly, ?_⟩
  rw [if_pos hsending, ownFrame_sending hhead hphase, heng, hidle]
  rfl

/-- The errors of the four kinds (R217), by the outcome that they stand for. -/
theorem canError_fault {k : CanError} {sending : Bool} (hhears : d.canHears e = true) (hk : k = .stuffOrForm ∨ k = .crc ∨ k = .ack ∨ k = .bit) :
    ∃ out ack, d.canError e k sending = d.canFault e out ack sending ∧ out = if k = .bit then 5 else 4 := by
  have hrun : ¬ d.canHears e = false := by
    rw [hhears]
    decide
  rcases hk with rfl | rfl | rfl | rfl
  · exact ⟨4, false, if_neg hrun, rfl⟩
  · exact ⟨4, false, if_neg hrun, rfl⟩
  · exact ⟨4, true, if_neg hrun, rfl⟩
  · exact ⟨5, false, if_neg hrun, rfl⟩

/-- Lost arbitration lets the frame wait for the bus. -/
theorem canError_arbitration {t : Tx} {sending : Bool} (hhears : d.canHears e = true) (hhead : d.headTx e = some t) (hphase : t.phase = .sending) :
    d.canError e .arbitration sending = ((d.wireEvent e 0).cutWave e).canRetry e t 6 none := by
  unfold canError
  rw [if_neg (by rw [hhears]; decide)]
  dsimp only
  rw [ownFrame_sending hhead hphase, Option.elim_some]

/-- A loop delay that may be is shown. -/
theorem canError_delay {t : Tx} {sending : Bool} {v : BitVec 24} (hhears : d.canHears e = true) (hhead : d.headTx e = some t) (hphase : t.phase = .sending)
    (hmeas : d.measures e t.frame = true) (hbad : delayBad v.toNat = false) :
    d.canError e (.loopDelay v) sending = d.wr (aENG e 0x2C) (BitVec.ofNat 32 v.toNat) := by
  unfold canError
  rw [if_neg (by rw [hhears]; decide)]
  dsimp only
  rw [ownFrame_sending hhead hphase, if_pos (by rw [Option.any_some]; exact hmeas), if_neg (by rw [hbad]; decide)]

/-! Recovery, and the wake of a LIN bus (R219, R222). -/

theorem busoffOver_eq (hoff : (d.eng e).busOff = true) (hrec : d.flag (aENG e 0x18) 4 = true) (hkind : engKind e = 0)
    (hdue : (d.eng e).offAt * tsU + 1408 * (d.canTiming e).nom ≤ d.nowU) :
    d.busoffOver e = d.setEng e { d.eng e with busOff := false, tec := 0, rec_ := 0 } :=
  if_pos (by simp [hoff, hrec, hkind, hdue])

theorem linWake_eq (hhears : d.linHears e = true) (hidle : ∀ t, d.headTx e = some t → t.begun = none ∨ t.phase ≠ .sending) :
    d.linWake e = (d.event (aENG e 0x24) 2).wireEvent e 0 := by
  unfold linWake
  rw [hhears]
  cases hhead : d.headTx e with
  | none => exact if_pos rfl
  | some t =>
    refine if_pos ?_
    obtain h | h := hidle t hhead
    · simp [h]
    · simp [h]

end

end Device

end Sys2Proof.Machine
end

section
/-!
SUPPORT. The engines' own writes (R12, R219, R244, R251, R258).
-/

namespace Sys2Proof.Machine

-- One proof after another: the stacks of the threads that elaborate many at once exceed the memory of a check.
set_option Elab.async false

namespace Device

/-! Where engines report. -/

section
variable {e o : Nat} (he : e < 120) (ho : o < 0x40)
include he ho

theorem blockEvents_aENG : blockEvents (aENG e o) = some (aENG e 0x24, 6, 7) := by
  have hb : aENG e o / 0x10000 = 0x19 := by unfold aENG; omega
  have hi : (aENG e o - 0x191000) / 0x40 = e := by unfold aENG; omega
  have hr : 0x191000 ≤ aENG e o ∧ aENG e o < 0x191000 + 0x40 * 120 := by unfold aENG; omega
  unfold blockEvents
  simp only [hb, hi, hr, and_self, if_true, Nat.reduceEqDiff, Nat.reduceLeDiff, if_false]

theorem eventReg_aENG {b : Nat} : EventReg (aENG e o) b ↔ b = aENG e 0x24 :=
  eventReg_of_blockEvents (blockEvents_aENG he ho) (by unfold aENG; omega)

/-- A write of an engine's register that is refused. -/
theorem refuse_aENG (d : Device) : (d.refuse (aENG e o)).plant = d.plant ∧ (d.refuse (aENG e o)).flag (aENG e 0x24) 7 = true ∧
    keepsRegs (fun b => b = aENG e 0x24) d (d.refuse (aENG e o)) :=
  refuse_reports d (blockEvents_aENG he ho) (by unfold aENG; omega) (by decide) (reportReg_of_ge (by unfold aENG; omega))

variable (d : Device) (p : Party) (raw : Word)

theorem putCooked_aENG_keeps : keepsRegs (fun b => b = aENG e o ∨ b = aENG e 0x24) d (d.putCooked p (aENG e o) raw) :=
  (putCooked_keepsRegs d p _ raw).mono fun _ hb => hb.imp id (eventReg_aENG he ho).mp

theorem putCooked_aENG_rd (hne : o ≠ 0x24) : (d.putCooked p (aENG e o) raw).rd (aENG e o) = storeWord (aENG e o) (d.cook (aENG e o) raw).1 := by
  refine putCooked_rd_same _ _ _ _ (fun h => hne ?_) (reportReg_of_ge (by unfold aENG; omega))
  have := (eventReg_aENG he ho).mp h
  unfold aENG at this
  omega

end

/-! A setting of an engine, with the function switch of its transmit pin. -/

/-- What a function switch leaves alone beside the registers. -/
def besideChan (d : Device) : Tab Engine × List Exec × Tab Axis × Matrix × Nat := (d.engines, d.execs, d.axes, d.mx, d.edge)

theorem besideChan_parts {d f : Device} (h : besideChan f = besideChan d) : f.engines = d.engines ∧ f.execs = d.execs ∧ f.axes = d.axes ∧ f.mx = d.mx ∧
    f.edge = d.edge := by simpa only [besideChan, Prod.mk.injEq] using h

/-- A stored word of register `a` that changes of the plant at most channel `n`, as a function switch does. -/
structure EngStored (d : Device) (a e n : Nat) (v : Word) (t : Device) : Prop where
  stored : t.rd a = v
  others : ∀ m, m ≠ n → t.ch m = d.ch m
  own : t.ch n = { d.ch n with holdUntil := (t.ch n).holdUntil, pinOld := (t.ch n).pinOld, pinWait := (t.ch n).pinWait }
  rest : besideChan t = besideChan d
  regs : keepsRegs (fun b => b = a ∨ b = aENG e 0x24) d t

section
variable {d f : Device} {a e n : Nat} {v : Word}

theorem EngStored.of_plant (hp : f.plant = d.plant) (hv : f.rd a = v) (hr : keepsRegs (fun b => b = a ∨ b = aENG e 0x24) d f) : EngStored d a e n v f :=
  ⟨hv, fun m _ => ch_of_plant hp m, by rw [ch_of_plant hp n], eq_of_plant besideChan hp, hr⟩

theorem EngStored.pinSwitch (hp : f.plant = d.plant) (hv : f.rd a = v) (hr : keepsRegs (fun b => b = a ∨ b = aENG e 0x24) d f) :
    EngStored d a e n v (f.pinSwitch d n) := by
  have hplain : EngStored d a e n v f := .of_plant hp hv hr
  by_cases ho : f.pinOwner n = 2
  · rw [pinSwitch_of_digital hp ho]
    refine ⟨(setCh_rd ..).trans hv, fun m hm => (setCh_other f n _ m hm).trans (hplain.others m hm), ?_, ?_, hr.of_rd fun _ => setCh_rd ..⟩
    · rw [setCh_same]
      exact switching_eq
    · exact hplain.rest
  · rwa [pinSwitch_of_other ho]

end

/-! BUS_ECFG (R244). -/

/-- The word is stored; a change of EN is a function switch of the transmit pin. -/
def ecfgStored (d : Device) (e : Nat) (p : Party) (raw : Word) : Device :=
  let f := d.putCooked p (aENG e 0) raw
  if f.engLive e = d.engLive e then f else f.pinSwitch d (f.fget (aENG e 4) 0 10)

/-- What a written BUS_ECFG ends: HALTED, a bus-off that AUTOREC does not end, the transaction of a disabled engine. -/
def ecfgEnds (d : Device) (e : Nat) : Device :=
  let d := d.unhaltEng e
  let g := d.eng e
  let d := if g.busOff ∧ d.flag (aENG e 0x18) 4 = false then d.setEng e { g with busOff := false, tec := 0, rec_ := 0 } else d
  if d.engOn e then d
  else
    let d := d.cutWave e
    match d.headTx e with
    | some t => if t.begun.isSome ∧ t.phase ≠ .decided then d.decide_ e t 11 else d
    | none => d

section
variable {d : Device} {e : Nat} {p : Party} {raw : Word}

theorem ecfgWrite_eq (h : d.engOn e = true → d.reachesRws (aENG e 0) raw = false) : d.ecfgWrite e p raw = (d.ecfgStored e p raw).ecfgEnds e := by
  unfold ecfgWrite
  refine if_neg fun hx => ?_
  obtain ⟨hon, hreach⟩ := (Bool.and_eq_true ..).mp hx
  rw [h hon] at hreach
  exact Bool.false_ne_true hreach

theorem ecfgStored_spec (he : e < 120) : EngStored d (aENG e 0) e (d.fget (aENG e 4) 0 10) (storeWord (aENG e 0) (d.cook (aENG e 0) raw).1) (d.ecfgStored e p raw) ∧
    ((d.ecfgStored e p raw).engOn e = d.engOn e → (d.ecfgStored e p raw).chan = d.chan) := by
  have hplant : (d.putCooked p (aENG e 0) raw).plant = d.plant := putCooked_plant ..
  have hrd := putCooked_aENG_rd he (o := 0) (by decide) d p raw (by decide)
  have hkeeps := putCooked_aENG_keeps he (o := 0) (by decide) d p raw
  unfold ecfgStored
  dsimp only
  generalize d.putCooked p (aENG e 0) raw = f at hplant hrd hkeeps ⊢
  have hpin : f.fget (aENG e 4) 0 10 = d.fget (aENG e 4) 0 10 := fget_of_rd (hkeeps _ (by unfold aENG; omega) (reportReg_of_ge (by unfold aENG; omega))) ..
  have hboot : f.flag 0x20000 10 = d.flag 0x20000 10 := flag_eq_of_rd_eq (hkeeps _ (by unfold aENG; omega) (by decide)) 10
  rw [hpin]
  split
  · exact ⟨.of_plant hplant hrd hkeeps, fun _ => eq_of_plant Device.chan hplant⟩
  next hlive =>
    have hstored : EngStored d (aENG e 0) e (d.fget (aENG e 4) 0 10) _ (f.pinSwitch d (d.fget (aENG e 4) 0 10)) := .pinSwitch hplant hrd hkeeps
    refine ⟨hstored, fun hon => absurd ?_ hlive⟩
    have hsame : f.engOn e = d.engOn e := (flag_eq_of_rd_eq (hrd.trans hstored.stored.symm) 0).trans hon
    rw [engLive, engLive, hsame, hboot]

theorem unhaltEng_spec (d : Device) (e : Nat) : LineOnly e d (d.unhaltEng e) ∧ ((d.unhaltEng e).eng e).halted = false ∧
    ((d.unhaltEng e).eng e).txs = (d.eng e).txs ∧ ((d.unhaltEng e).eng e).busOff = (d.eng e).busOff ∧ ((d.unhaltEng e).eng e).wave = (d.eng e).wave ∧
    ∀ a, (d.unhaltEng e).rd a = d.rd a := by
  rw [unhaltEng, setEng_same]
  exact ⟨.setEng .., rfl, rfl, rfl, rfl, fun _ => rfl⟩

/-- A bus-off ends unless AUTOREC waits for its recovery. -/
def ecfgRecovers (d : Device) (e : Nat) : Device :=
  let g := d.eng e
  if g.busOff ∧ d.flag (aENG e 0x18) 4 = false then d.setEng e { g with busOff := false, tec := 0, rec_ := 0 } else d

theorem ecfgRecovers_spec (d : Device) (e : Nat) : LineOnly e d (d.ecfgRecovers e) ∧ ((d.ecfgRecovers e).eng e).halted = (d.eng e).halted ∧
    ((d.ecfgRecovers e).eng e).txs = (d.eng e).txs ∧ ((d.ecfgRecovers e).eng e).busOff = ((d.eng e).busOff && d.flag (aENG e 0x18) 4) ∧
    ((d.ecfgRecovers e).eng e).wave = (d.eng e).wave ∧ ∀ a, (d.ecfgRecovers e).rd a = d.rd a := by
  unfold ecfgRecovers
  dsimp only
  split
  next h =>
    obtain ⟨-, hrec⟩ := h
    rw [setEng_same, hrec, Bool.and_false]
    exact ⟨.setEng .., rfl, rfl, rfl, rfl, fun _ => rfl⟩
  next h =>
    refine ⟨.refl .., rfl, rfl, ?_, rfl, fun _ => rfl⟩
    cases hb : (d.eng e).busOff with
    | false => rfl
    | true => cases hr : d.flag (aENG e 0x18) 4 with
      | true => rfl
      | false => exact absurd ⟨hb, hr⟩ h

/-- A transaction under way on an engine that is disabled ends OFF. -/
def ecfgOff (d : Device) (e : Nat) : Device :=
  let d := d.cutWave e
  match d.headTx e with
  | some t => if t.begun.isSome ∧ t.phase ≠ .decided then d.decide_ e t 11 else d
  | none => d

theorem ecfgOff_spec (d : Device) (e : Nat) : LineOnly e d (d.ecfgOff e) ∧ ((d.ecfgOff e).eng e).halted = (d.eng e).halted ∧
    ((d.ecfgOff e).eng e).busOff = (d.eng e).busOff ∧ ((d.eng e).wave = none → ∀ a, (d.ecfgOff e).rd a = d.rd a) := by
  have hcut : LineOnly e d (d.cutWave e) := .cutWave ..
  have hhalt : ((d.cutWave e).eng e).halted = (d.eng e).halted := by rw [cutWave_eng]
  have hoff : ((d.cutWave e).eng e).busOff = (d.eng e).busOff := by rw [cutWave_eng]
  have hrd : (d.eng e).wave = none → ∀ a, (d.cutWave e).rd a = d.rd a := fun h a => by rw [cutWave_of_none h]
  unfold ecfgOff
  dsimp only
  generalize d.cutWave e = f at hcut hhalt hoff hrd ⊢
  split
  next t _ =>
    split
    · have hplain : f.decide_ e t 11 = f.setHead e { t with phase := .decided, outcome := 11, decidedAt := f.edge } := by
        unfold decide_
        exact if_neg (by decide)
      rw [hplain, setHead_eng]
      exact ⟨hcut.andThen (.setHead ..), hhalt, hoff, fun h a => hrd h a⟩
    · exact ⟨hcut, hhalt, hoff, hrd⟩
  · exact ⟨hcut, hhalt, hoff, hrd⟩

theorem ecfgEnds_eq (d : Device) (e : Nat) : d.ecfgEnds e =
    if ((d.unhaltEng e).ecfgRecovers e).engOn e then (d.unhaltEng e).ecfgRecovers e else ((d.unhaltEng e).ecfgRecovers e).ecfgOff e := rfl

theorem ecfgEnds_spec (d : Device) (e : Nat) : LineOnly e d (d.ecfgEnds e) ∧ ((d.ecfgEnds e).eng e).halted = false ∧
    ((d.ecfgEnds e).eng e).busOff = ((d.eng e).busOff && d.flag (aENG e 0x18) 4) ∧
    (d.engOn e = true → ((d.ecfgEnds e).eng e).txs = (d.eng e).txs) ∧
    (d.engOn e = true ∨ (d.eng e).wave = none → ∀ a, (d.ecfgEnds e).rd a = d.rd a) := by
  obtain ⟨hunhalt, hhalt, htxs, hbus, hwave, hrd⟩ := d.unhaltEng_spec e
  have hauto : (d.unhaltEng e).flag (aENG e 0x18) 4 = d.flag (aENG e 0x18) 4 := flag_eq_of_rd_eq (hrd _) 4
  rw [ecfgEnds_eq]
  generalize d.unhaltEng e = f at hunhalt hhalt htxs hbus hwave hrd hauto ⊢
  obtain ⟨hrec, hhalt', htxs', hbus', hwave', hrd'⟩ := f.ecfgRecovers_spec e
  generalize f.ecfgRecovers e = g at hrec hhalt' htxs' hbus' hwave' hrd' ⊢
  have hline := hunhalt.andThen hrec
  have hon : g.engOn e = d.engOn e := hline.engine.engOn
  have hoff : (g.eng e).busOff = ((d.eng e).busOff && d.flag (aENG e 0x18) 4) := by rw [hbus', hbus, hauto]
  cases hen : d.engOn e with
  | true =>
    rw [hon, hen, if_pos rfl]
    exact ⟨hline, hhalt'.trans hhalt, hoff, fun _ => htxs'.trans htxs, fun _ a => (hrd' a).trans (hrd a)⟩
  | false =>
    rw [hon, hen, if_neg Bool.false_ne_true]
    obtain ⟨hlast, hhalt3, hbus3, hrd3⟩ := g.ecfgOff_spec e
    refine ⟨hline.andThen hlast, hhalt3.trans (hhalt'.trans hhalt), hbus3.trans hoff, fun h => absurd h Bool.false_ne_true, fun h a => ?_⟩
    obtain h | h := h
    · exact absurd h Bool.false_ne_true
    · exact (hrd3 (hwave'.trans (hwave.trans h)) a).trans ((hrd' a).trans (hrd a))

/-! BUS_EPIN (R251, R258). -/

theorem pinSwitch_beside (f d : Device) (n : Nat) : besideChan (f.pinSwitch d n) = besideChan f ∧ ∀ a, (f.pinSwitch d n).rd a = f.rd a := by
  unfold pinSwitch
  dsimp only
  split
  · exact ⟨rfl, fun _ => setCh_rd ..⟩
  · exact ⟨rfl, fun _ => rfl⟩

/-- A write to another pin than an ANALOGUE one is stored, with the function switches of the pins. -/
theorem epinWrite_stored (he : e < 120) (hrws : d.engOn e = true → d.reachesRws (aENG e 4) raw = false) (hpin : d.pinOwner (bitsOf raw 0 10) ≠ 1) :
    (d.epinWrite e p raw).rd (aENG e 4) = storeWord (aENG e 4) (d.cook (aENG e 4) raw).1 ∧ besideChan (d.epinWrite e p raw) = besideChan d ∧
    keepsRegs (fun b => b = aENG e 4 ∨ b = aENG e 0x24) d (d.epinWrite e p raw) := by
  have hplant : (d.putCooked p (aENG e 4) raw).plant = d.plant := putCooked_plant ..
  have hrd := putCooked_aENG_rd he (o := 4) (by decide) d p raw (by decide)
  have hkeeps := putCooked_aENG_keeps he (o := 4) (by decide) d p raw
  unfold epinWrite
  dsimp only
  rw [if_neg, if_neg hpin]
  · generalize d.putCooked p (aENG e 4) raw = f at hplant hrd hkeeps ⊢
    have hbeside : besideChan f = besideChan d := eq_of_plant besideChan hplant
    split
    · exact ⟨hrd, hbeside, hkeeps⟩
    · obtain ⟨hold, holdRd⟩ := f.pinSwitch_beside d (d.fget (aENG e 4) 0 10)
      obtain ⟨hnew, hnewRd⟩ := (f.pinSwitch d (d.fget (aENG e 4) 0 10)).pinSwitch_beside d (bitsOf raw 0 10)
      exact ⟨(hnewRd _).trans ((holdRd _).trans hrd), hnew.trans (hold.trans hbeside), hkeeps.of_rd fun a => (hnewRd a).trans (holdRd a)⟩
  · intro h
    obtain ⟨hon, hreach⟩ := (Bool.and_eq_true ..).mp h
    rw [hrws hon] at hreach
    exact Bool.false_ne_true hreach

/-- A write that maps the transmit pin to an ANALOGUE one is refused. -/
theorem epinWrite_analogue (hrws : d.engOn e = true → d.reachesRws (aENG e 4) raw = false) (hpin : d.pinOwner (bitsOf raw 0 10) = 1) :
    d.epinWrite e p raw = (d.event 0x184300 1).noticeRefused (aENG e 4) := by
  unfold epinWrite
  dsimp only
  rw [if_neg, if_pos hpin]
  intro h
  obtain ⟨hon, hreach⟩ := (Bool.and_eq_true ..).mp h
  rw [hrws hon] at hreach
  exact Bool.false_ne_true hreach

end

end Device

end Sys2Proof.Machine
end

section
/-!
PROOF. O39: what engines receive, the errors on their wire, and their own writes (R12, R217 to R227, R244, R251, R258).
-/

namespace Sys2Proof.Machine

-- One proof after another: the stacks of the threads that elaborate many at once exceed the memory of a check.
set_option Elab.async false

namespace Device

section
variable {e : Nat} {d : Device}

/-- A frame that CANRX or CANREQ waits for (R231). -/
theorem takeFrame_wanted {t : Tx} {f : CanRx} (he : e < 120) (hop : d.teOp t.entry = 1 ∨ d.teOp t.entry = 2) :
    (∃ v, (d.takeFrame e t f).headTx e = some v ∧ v.got = f.frame.bytes ∧ v.frames = (if d.teOp t.entry = 1 then t.frames + 1 else 1) ∧
      (d.teOp t.entry = 2 ∨ d.te t.entry 12 0 16 ≤ t.frames + 1 →
        v.phase = .decided ∧ v.outcome = if d.te t.entry 8 0 16 < f.frame.bytes.length then 9 else 0)) ∧ LineOnly e d (d.takeFrame e t f) := by
  rcases hop with hop | hop
  · obtain ⟨⟨v, hv, hgot, hframes, hlast⟩, hline⟩ := takeFrame_canrx (f := f) he hop
    refine ⟨⟨v, hv, hgot, by rw [hop, if_pos rfl, hframes], fun h => hlast (h.resolve_left fun h2 => ?_)⟩, hline⟩
    rw [hop] at h2
    omega
  · obtain ⟨⟨v, hv, hgot, hframes, hphase, hout⟩, hline⟩ := takeFrame_canreq (f := f) he hop
    exact ⟨⟨v, hv, hgot, by rw [hop, if_neg (by decide), hframes], fun _ => ⟨hphase, hout⟩⟩, hline⟩

/-- The sender that flow control clears sends its next frame (R220). -/
theorem nextCf_clear {t : Tx} {size st u : Nat} {p : List Byte} (hp : (d.isoCfs t.entry t.req 1 t.sent t.sn).head? = some p) :
    ∃ v, (d.nextCf e (clearTx t size st) u).headTx e = some v ∧ (v.phase = .pausing ∨ v.phase = .sending) ∧ v.frame.bytes.take p.length = p ∧
      v.frame.ident = BitVec.ofNat 29 (d.te t.entry 1 0 29) ∧ v.sn = t.sn + 1 ∧ v.waits = 0 ∧ v.stmin = stTs st := by
  obtain ⟨⟨v, hv, hphase, hframe, hsn, hwaits, hst⟩, -⟩ := nextCf_spec (d := d) (e := e) (t := clearTx t size st) (u := u) hp
  exact ⟨v, hv, hphase, by rw [hframe, canFrame_bytes], by rw [hframe]; rfl, hsn, hwaits, hst⟩

/-- The message that ends at a SENT transmitter is counted, and what its transaction makes of it (R227). -/
theorem sentServed_spec {t : Tx} (he : e < 120) (w : Wave) (hhead : d.headTx e = some t) (hphase : t.phase = .setting) :
    (∃ v, (d.sentServed e w).headTx e = some v ∧ (t.first = none → v.first = some (w.stop / tsU) ∧ v.phase = .setting) ∧
      (t.first.isSome = true → d.te t.entry 12 0 16 ≤ t.sent + 1 → v.phase = .decided ∧ v.outcome = 0) ∧
      (t.first.isSome = true → t.sent + 1 < d.te t.entry 12 0 16 → v.phase = .setting ∧ v.sent = t.sent + 1)) ∧ LineOnly e d (d.sentServed e w) := by
  rw [sentServed_eq w hhead hphase]
  cases hfirst : t.first with
  | none =>
    rw [if_neg (by decide)]
    exact ⟨⟨_, setHead_headTx .., fun _ => ⟨rfl, hphase⟩, fun h => absurd h (by decide), fun h => absurd h (by decide)⟩, .setHead ..⟩
  | some u =>
    rw [if_pos Option.isSome_some]
    obtain ⟨⟨v, hv, hlast, hmore⟩, hline⟩ := sentCount_spec (d := d) he t w
    exact ⟨⟨v, hv, fun h => absurd h (by simp), fun _ => hlast, fun _ h => ⟨(hmore h).1.trans hphase, (hmore h).2⟩⟩, hline⟩

theorem canError_bit (hhears : d.canHears e = true) : d.canError e .bit true = d.canFault e 5 false true := by
  refine if_neg ?_
  rw [hhears]
  decide

theorem canHears_busOff (h : d.canHears e = true) : (d.eng e).busOff = false := by
  unfold canHears at h
  simp only [Bool.and_eq_true, Bool.not_eq_true'] at h
  obtain ⟨⟨⟨-, hoff⟩, -⟩, -⟩ := h
  exact hoff

/-- What an error of an error-active engine counts and sends (R217). -/
theorem counted_active {sending : Bool} (hrole : d.engRole e = 0) (htec : (d.eng e).tec < 128) (hrec : (d.eng e).rec_ < 128) :
    (counted (d.flagged e sending) sending).tec = (d.eng e).tec + (if sending then 8 else 0) ∧
    (counted (d.flagged e sending) sending).rec_ = (d.eng e).rec_ + (if sending then 0 else 1) ∧
    (counted (d.flagged e sending) sending).busOff = (d.eng e).busOff ∧
    (counted (d.flagged e sending) sending).idleAt = (d.flagged e sending).idleAt ∧
    (counted (d.flagged e sending) sending).wave = some ⟨d.nowU, errorSegs (d.canTiming e).nom true⟩ := by
  have hpassive : d.passive e = false := by
    unfold passive
    exact decide_eq_false (by omega)
  have hwave : (d.flagged e sending).wave = some ⟨d.nowU, errorSegs (d.canTiming e).nom true⟩ := by
    unfold flagged
    rw [hrole, hpassive]
    rfl
  cases sending with
  | true => exact ⟨rfl, rfl, rfl, rfl, hwave⟩
  | false => exact ⟨rfl, Nat.min_eq_right (show (d.eng e).rec_ + 1 ≤ 255 by omega), rfl, rfl, hwave⟩

/-- The transaction after an error of its own frame (R217, R236). -/
theorem canRetry_spec {t : Tx} {out : Nat} {due : Option Nat} :
    (t.fails < d.fget (aENG e 0x18) 0 4 → ∃ v, (d.canRetry e t out due).headTx e = some v ∧ v.phase = .pausing ∧ v.due = due ∧ v.fails = t.fails + 1) ∧
    (d.fget (aENG e 0x18) 0 4 ≤ t.fails → ∃ v, (d.canRetry e t out due).headTx e = some v ∧ v.phase = .decided ∧
      v.outcome = if d.fget (aENG e 0x18) 0 4 = 0 then out else 6) := by
  refine ⟨fun h => ?_, fun h => ?_⟩
  · obtain ⟨v, heq, hphase, hdue, hfails⟩ := canRetry_again (out := out) (due := due) h
    rw [heq]
    exact ⟨v, setHead_headTx .., hphase, hdue, hfails⟩
  · obtain ⟨v, heq⟩ := canRetry_given_up (out := out) (due := due) h
    rw [heq]
    exact ⟨_, decide_headTx .., rfl, rfl⟩

/-- Lost arbitration is reported and takes the frame off the wire (R217). -/
theorem arbitrationLost_spec (d : Device) (e : Nat) : LineOnly e d ((d.wireEvent e 0).cutWave e) ∧ (((d.wireEvent e 0).cutWave e).eng e).wave = none := by
  have hwire : LineOnly e d (d.wireEvent e 0) := .wireEvent ..
  generalize d.wireEvent e 0 = f at hwire ⊢
  exact ⟨hwire.andThen (.cutWave ..), by rw [cutWave_eng]⟩

/-- A frame that lost arbitration waits for the bus. -/
theorem canRetry_waits {f : Device} {t : Tx} (hline : LineOnly e d f) (hwave : (f.eng e).wave = none) (hagain : t.fails < d.fget (aENG e 0x18) 0 4) :
    (∃ v, (f.canRetry e t 6 none).headTx e = some v ∧ v.phase = .pausing ∧ v.due = none) ∧ ((f.canRetry e t 6 none).eng e).wave = none ∧
    d.onlyEngine e (f.canRetry e t 6 none) := by
  have hretx : f.fget (aENG e 0x18) 0 4 = d.fget (aENG e 0x18) 0 4 := fget_of_rd (hline.engine.setting (by decide)) ..
  obtain ⟨v, heq, hpausing, hdue, -⟩ := canRetry_again (e := e) (out := 6) (due := none) (by rw [hretx]; exact hagain)
  have hset : LineOnly e f (f.setHead e v) := .setHead ..
  have hstays : ((f.setHead e v).eng e).wave = (f.eng e).wave := by rw [setHead_eng]
  have hfirst : (f.setHead e v).headTx e = some v := setHead_headTx ..
  rw [heq]
  exact ⟨⟨v, hfirst, hpausing, hdue⟩, hstays.trans hwave, (hline.andThen hset).only⟩

theorem canError_arbitration_spec {t : Tx} {sending : Bool} (hhears : d.canHears e = true) (hhead : d.headTx e = some t) (hphase : t.phase = .sending)
    (hagain : t.fails < d.fget (aENG e 0x18) 0 4) :
    (∃ v, (d.canError e .arbitration sending).headTx e = some v ∧ v.phase = .pausing ∧ v.due = none) ∧
    ((d.canError e .arbitration sending).eng e).wave = none ∧ d.onlyEngine e (d.canError e .arbitration sending) := by
  rw [canError_arbitration hhears hhead hphase]
  obtain ⟨hline, hwave⟩ := d.arbitrationLost_spec e
  exact canRetry_waits hline hwave hagain
/-- The wake of a LIN bus is an event and a report (R222). -/
theorem linWoken_spec (d : Device) (e : Nat) : ((d.event (aENG e 0x24) 2).wireEvent e 0).flag (aENG e 0x24) 2 = true ∧
    ((d.event (aENG e 0x24) 2).wireEvent e 0).plant = d.plant ∧ keepsRegs (fun a => a = aENG e 0x24) d ((d.event (aENG e 0x24) 2).wireEvent e 0) := by
  have hflag : (d.event (aENG e 0x24) 2).flag (aENG e 0x24) 2 = true := event_flag _ _ _ (by decide) (by unfold aENG; omega)
  exact ⟨(flag_eq_of_rd_eq (report_rd _ _ _ _ (reportReg_of_ge (by unfold aENG; omega))) 2).trans hflag, (report_plant ..).trans (event_plant ..),
    (d.event_keepsRegs _ _).trans (report_keepsRegs _ _ _ _)⟩

theorem epinRefused_spec (d : Device) (a : Nat) : ((d.event 0x184300 1).noticeRefused a).plant = d.plant ∧
    ((d.event 0x184300 1).noticeRefused a).flag 0x184300 1 = true ∧ keepsRegs (fun b => b = 0x184300) d ((d.event 0x184300 1).noticeRefused a) :=
  ⟨(noticeRefused_plant ..).trans (event_plant ..),
    (flag_eq_of_rd_eq (noticeRefused_rd _ _ _ (by decide)) 1).trans (event_flag _ _ _ (by decide) (by decide)),
    (d.event_keepsRegs _ _).trans (report_keepsRegs _ _ _ _)⟩

end

end Device

/-- Settles O39: frames and messages received, errors on the wire, and the engines' own writes. -/
theorem enginesReceiveAndApply : Obligations.EnginesReceiveAndApply := by
  unfold Obligations.EnginesReceiveAndApply
  refine ⟨fun e t s hhead hclock => ⟨fun f hhears => ⟨fun hx hop => ?_, fun hx => ?_, fun b r hx hphase hop hbody hfc => ?_, fun hx hop hphase hmo hbody hreq hcode => ?_⟩,
      fun x hbegun hop hphase hdue hcapo => ?_, fun x hhears hcal hpulses hcrc hbegun hphase hop => ?_, fun w hsends hwave hstop hphase => ?_⟩,
    fun e s hclock => ⟨fun k sending hhears hrole hk htec hrec => ?_, fun hhears hrole htec => ?_,
      fun t hhears hhead hphase => ⟨fun b hagain => ?_, fun b v hmeas hbad => ?_⟩, fun hoff hrec hkind hdue => ?_, fun hhears hidle => ?_⟩,
    fun e w s => ⟨fun hadm hrws => ?_, fun hadm hon hrws => ?_, fun hadm hrws hpin => ?_, fun hadm hrws hpin => ?_⟩⟩
  · refine givesDdr_onDdr_as rfl ?_
    rintro _ rfl
    rw [Device.awake_of_clock _ hclock]
    obtain ⟨htake, honly, hcount⟩ := Device.canReceive_expected (f := ⟨f.frame, f.syncs⟩) e.isLt hhears hhead hx
    obtain ⟨-, -, hops⟩ := Device.expects_parts hx
    rw [htake]
    generalize s.dev.canHeard e = g at honly hcount ⊢
    obtain ⟨⟨v, hv, hgot, hframes, hlast⟩, hline⟩ := Device.takeFrame_wanted (d := g) (t := t) (f := ⟨f.frame, f.syncs⟩) e.isLt (by rw [honly.teOp e.isLt]; omega)
    rw [honly.teOp e.isLt] at hframes hlast
    rw [honly.te e.isLt, honly.te e.isLt] at hlast
    exact ⟨⟨v, hv, hgot, hframes, hlast⟩, hcount.line hline, (honly.line hline).only⟩
  · refine givesDdr_onDdr_as rfl ?_
    rintro _ rfl
    rw [Device.awake_of_clock _ hclock]
    obtain ⟨hsame, honly, hcount, htxs⟩ := Device.canReceive_unexpected (f := ⟨f.frame, f.syncs⟩) e.isLt hhears hhead hx
    rw [hsame]
    exact ⟨htxs, hcount, honly.only⟩
  · refine givesDdr_onDdr_as rfl ?_
    rintro _ rfl
    rw [Device.awake_of_clock _ hclock]
    obtain ⟨g, honly, hflow⟩ := Device.flowReceive_spec e.isLt hhears hhead hx hphase hop
    rw [hflow, hbody]
    refine ⟨fun hb hwaits => ?_, fun hb => ?_, fun p hb hp => ?_, (honly.line (g.isoFlow_only e _ _)).only⟩
    · rw [Device.isoFlow_wait hfc hb (by rw [honly.te e.isLt]; exact hwaits)]
      exact ⟨_, Device.setHead_headTx .., hphase, rfl, honly.edge⟩
    · rw [Device.isoFlow_over hfc hb]
      exact ⟨_, Device.decide_headTx .., rfl, rfl⟩
    · rw [Device.isoFlow_clear hfc hb, ← honly.te e.isLt]
      rw [← honly.isoCfs e.isLt] at hp
      exact Device.nextCf_clear hp
  · refine givesDdr_onDdr_as rfl ?_
    rintro _ rfl
    rw [Device.awake_of_clock _ hclock]
    obtain ⟨g, v, honly, hset, hlistening, hgot, hdeadline⟩ := Device.pendingReceive_spec e.isLt hhears hhead hx hop hphase hmo hbody hreq hcode
    rw [hset]
    exact ⟨⟨v, Device.setHead_headTx .., hlistening, hgot, hdeadline⟩, (honly.line (.setHead ..)).only⟩
  · refine givesDev_onDev_as rfl ?_
    rintro _ rfl
    rw [Device.awake_of_clock _ hclock]
    obtain ⟨hv, hwave, hline⟩ := Device.linPoll_spec x hhead hbegun hop hphase hdue hcapo
    exact ⟨hv, hwave, hline.only⟩
  · refine givesDdr_onDdr_as rfl ?_
    rintro _ rfl
    rw [Device.awake_of_clock _ hclock, Device.sentReceive_good e.isLt hhears hcal hpulses hcrc hhead hbegun hphase hop]
    obtain ⟨honly, -, hcount⟩ := s.dev.sentGot_spec e x
    generalize s.dev.sentGot e x = g at honly hcount ⊢
    obtain ⟨⟨v, hv, hframes, hgot, hlast, hmore⟩, hline⟩ := Device.sentTaken_spec (d := g) e.isLt x t
    rw [honly.te e.isLt, honly.te e.isLt] at hlast
    rw [honly.te e.isLt] at hmore
    exact ⟨⟨v, hv, hframes, hgot, hlast, fun h => (hmore h).trans hphase⟩, hcount.line hline, (honly.line hline).only⟩
  · refine givesDdr_onDdr_as rfl ?_
    rintro _ rfl
    rw [Device.awake_of_clock _ hclock, Device.sentSent_eq hsends hwave hstop]
    have hbump : Device.EngineOnly e s.dev (s.dev.bump (aENG e 0x28) 0 16) := .bump (by decide) ..
    have hcount : (s.dev.bump (aENG e 0x28) 0 16).fget (aENG e 0x28) 0 16 = (s.dev.fget (aENG e 0x28) 0 16 + 1) % 2 ^ 16 := Device.fget_fset_same _ _ _ (by decide)
    have hhead' : (s.dev.bump (aENG e 0x28) 0 16).headTx e = some t := (Device.headTx_of_eng (Device.bump_eng ..)).trans hhead
    generalize s.dev.bump (aENG e 0x28) 0 16 = f at hbump hcount hhead' ⊢
    obtain ⟨⟨v, hv, hnew, hlast, hmore⟩, hline⟩ := Device.sentServed_spec e.isLt w hhead' hphase
    rw [hbump.te e.isLt] at hlast hmore
    generalize f.sentServed e w = g at hv hline ⊢
    obtain ⟨hnext, hhead2, hwave2⟩ := g.sentNext_spec e w.stop
    have hv' := hhead2.trans hv
    exact ⟨fun h => ⟨v, hv', hnew h⟩, fun h h' => ⟨v, hv', hlast h h'⟩, fun h h' => ⟨v, hv', hmore h h'⟩, hwave2,
      (Device.fget_of_rd ((hline.andThen hnext).rd (by unfold aENG; omega)) 0 16).trans hcount, (hbump.line (hline.andThen hnext)).only⟩
  · refine givesDdr_onDdr_as rfl ?_
    rintro _ rfl
    rw [Device.awake_of_clock _ hclock]
    obtain ⟨out, ack, hfault, hout⟩ := Device.canError_fault (sending := sending) hhears hk
    rw [hfault]
    obtain ⟨⟨l, heng⟩, hflag, honly, hmine⟩ := Device.canFault_active (out := out) (ack := ack) (sending := sending) hrole htec hrec
    obtain ⟨htec', hrec', hbus, hidle, hwave⟩ := Device.counted_active (sending := sending) hrole htec hrec
    rw [heng]
    refine ⟨htec', hrec', hbus.trans (Device.canHears_busOff hhears), hflag, hwave, fun t hhead hphase hsending => ?_, honly.only⟩
    obtain ⟨f, hf, heq⟩ := hmine t hhead hphase hsending
    have hretx : f.fget (aENG e 0x18) 0 4 = s.dev.fget (aENG e 0x18) 0 4 := Device.fget_of_rd (hf.setting (by decide)) ..
    obtain ⟨hagain, hover⟩ := Device.canRetry_spec (d := f) (e := e) (t := t) (out := out) (due := some (s.dev.flagged e sending).idleAt)
    rw [heq, ← hretx, ← hout, hidle]
    exact ⟨hagain, hover⟩
  · refine givesDdr_onDdr_as rfl ?_
    rintro _ rfl
    rw [Device.awake_of_clock _ hclock]
    rw [Device.canError_bit hhears]
    obtain ⟨honly, hoff, hflag⟩ := Device.canFault_busOff (out := 5) hrole htec
    exact ⟨hoff, hflag, honly.only⟩
  · refine givesDdr_onDdr_as rfl ?_
    rintro _ rfl
    rw [Device.awake_of_clock _ hclock]
    exact Device.canError_arbitration_spec hhears hhead hphase hagain
  · refine givesDdr_onDdr_as rfl ?_
    rintro _ rfl
    rw [Device.awake_of_clock _ hclock, Device.canError_delay hhears hhead hphase hmeas hbad]
    exact ⟨Device.rd_wr_same .., Device.wr_plant .., fun a ha => Device.rd_wr_other _ _ ha⟩
  · refine givesDev_onDev_as rfl ?_
    rintro _ rfl
    rw [Device.awake_of_clock _ hclock, Device.busoffOver_eq hoff hrec hkind hdue]
    exact ⟨Device.setEng_same .., fun _ => rfl, (Device.LineOnly.setEng ..).only⟩
  · refine givesDev_onDev_as rfl ?_
    rintro _ rfl
    rw [Device.awake_of_clock _ hclock, Device.linWake_eq hhears hidle]
    exact s.dev.linWoken_spec e
  · refine givesDdr_write_as rfl hadm ?_
    rintro _ rfl
    rw [Device.ecfgWrite_eq hrws]
    obtain ⟨hstored, hchan⟩ := Device.ecfgStored_spec (d := s.dev) (p := w.by_) (raw := w.data) e.isLt
    generalize s.dev.ecfgStored e w.by_ w.data = f at hstored hchan ⊢
    obtain ⟨hline, hhalted, hbus, htxs, hrd⟩ := f.ecfgEnds_spec e
    have hon : (f.ecfgEnds e).engOn e = f.engOn e := hline.engine.engOn
    generalize f.ecfgEnds e = u at hline hhalted hbus htxs hrd hon ⊢
    obtain ⟨hengines, hexecs, haxes, hmx, -⟩ := Device.besideChan_parts hstored.rest
    obtain ⟨-, hchan', hexecs', haxes', hmx', heng'⟩ := Device.aside_parts hline.part
    have heng (g : Nat) : f.eng g = s.dev.eng g := Device.eng_eq_of_engines_eq hengines g
    have hch (m : Nat) : u.ch m = f.ch m := congrArg (fun c => tabGet _ c m) hchan'
    have hauto : f.flag (aENG e 0x18) 4 = s.dev.flag (aENG e 0x18) 4 :=
      Device.flag_eq_of_rd_eq (hstored.regs _ (by unfold aENG; omega) (Device.reportReg_of_ge (by unfold aENG; omega))) 4
    rw [hauto, heng] at hbus
    refine ⟨(hline.rd (by unfold aENG; omega)).trans hstored.stored, hhalted, hbus, fun h => ?_, ?_, ⟨fun h => ?_, fun m hm => ?_, ?_⟩, fun h => ?_⟩
    · exact (htxs (hon.symm.trans h)).trans (congrArg Engine.txs (heng e))
    · exact ⟨fun g hg => (heng' g hg).trans (heng g), rfl, hexecs'.trans hexecs, haxes'.trans haxes, hmx'.trans hmx⟩
    · exact hchan'.trans (hchan (hon.symm.trans h))
    · exact (hch m).trans (hstored.others m hm)
    · rw [hch]
      exact hstored.own
    · have hsame := hrd (h.imp (hon.symm.trans ·) fun hw => (congrArg Engine.wave (heng e)).trans hw)
      exact hstored.regs.of_rd hsame
  · refine givesDdr_write_as rfl hadm ?_
    rintro _ rfl
    have hrefuse : s.dev.ecfgWrite e w.by_ w.data = s.dev.refuse (aENG e 0) := if_pos (by rw [hon, hrws]; rfl)
    rw [hrefuse]
    exact Device.refuse_aENG e.isLt (by decide) s.dev
  · refine givesDev_write_as rfl hadm ?_
    rintro _ rfl
    obtain ⟨hstored, hbeside, hregs⟩ := Device.epinWrite_stored (p := w.by_) e.isLt hrws hpin
    obtain ⟨hengines, hexecs, -⟩ := Device.besideChan_parts hbeside
    exact ⟨hstored, hengines, hexecs, hregs⟩
  · refine givesDev_write_as rfl hadm ?_
    rintro _ rfl
    rw [Device.epinWrite_analogue hrws hpin]
    exact s.dev.epinRefused_spec _

end Sys2Proof.Machine
end
